-- ==== Sys2Proof/Word.lean ====
section
/-! DEFINITION. The words of the LN4710's registers and their plainest arithmetic. -/

namespace Sys2Proof

/-- A register of the host port: every register is 16 bits wide (R17). -/
abbrev Word := BitVec 16

/-- One byte of a frame or of memory. -/
abbrev Byte := BitVec 8

/-- A wide value: two registers, the high word at the lower offset (R14). -/
abbrev Wide := BitVec 32

/-- The two words of a wide value. -/
def Wide.hi (w : Wide) : Word := w.extractLsb' 16 16
def Wide.lo (w : Wide) : Word := w.extractLsb' 0 16

/-- A wide value from its high and low word (R14). -/
def Word.wide (h l : Word) : Wide := h ++ l

end Sys2Proof
end

