-- ==== Sys2Proof/Syntax.lean ====
section
/-! DEFINITION. The commands of the block: one constructor of `Instr` for each row of the operation table,
with the row's operands. An operand is what the command brings from outside the device: a register's address and
value, a pin's pulse width, a measured value, a stamp. -/

namespace Sys2Proof

/-- An axis, its ledger or its bridge, 0 to 9. -/
abbrev Ax := Fin 10
/-- A bridge die, B0 to B4; die k drives axes 2k and 2k+1. -/
abbrev Die := Fin 5
/-- A page of the host port (R57, bits 5:0 of byte 0). -/
abbrev PageNo := BitVec 6
/-- A register offset within a page (R57). -/
abbrev Offset := BitVec 8

/-- A phase of a two-phase stepper. -/
inductive Phase where
  | pa | pb
  deriving DecidableEq, Repr

/-- Wake sources that a row of their own does not count down (R91). -/
inductive WakeSrc where
  | cs | wakePin | wmon | tsync | jagor
  deriving DecidableEq, Repr

/-- What is lost in a clock loss (R101). -/
inductive ClockSrc where
  | xi | pll
  deriving DecidableEq, Repr

/-- The causes of SAFE, in the bit order of DEV.SAFE_CAUSE (R102, R109). -/
inductive SafeCause where
  | tripN | ovTrip | bridgeThermal | ctrlThermal | sram | software
  deriving DecidableEq, Repr

/-- The SUPPLY thresholds (R111). -/
inductive SupplyReg where
  | brakeOn | brakeOff | ovTrip
  deriving DecidableEq, Repr

/-- The jog limits of R183 and the stop limits of R194. -/
inductive JogReg where
  | vmax | amax | dmax | jmax | stopDecel | stopJerk
  deriving DecidableEq, Repr

/-- The queue settings of R204. -/
inductive QueueReg where
  | base | len
  deriving DecidableEq, Repr

/-- A gate supply under lockout (R277). -/
inductive UvSupply where
  | vcp (die : Die) | vgp | bst (phase : Fin 3)
  deriving DecidableEq, Repr

/-- A page that holds protection latches: a bridge page or the GATE page (R293, R294). -/
inductive ProtPage where
  | brg (n : Ax) | gate
  deriving DecidableEq, Repr

/-- The five fault classes, with their codes (R284). -/
inductive FaultClass where
  | sc | uv | ot | trip | ov
  deriving DecidableEq, Repr

/-- How a short of an integrated switch was sensed (R273): by its replica's slope (in mA/us), or by its drain-source voltage (in
mV), `onNs` after it turned on. Without a figure, the comparator of the threshold in force has crossed. -/
inductive ScSense where
  | didt (slope : Option Nat := none) | vds (onNs : Nat) (mv : Option Nat := none)
  deriving DecidableEq, Repr

/-- How a gate-port short was sensed (R274): by the slope on the shunt (in mV/us), or by a drain-source voltage as above. -/
inductive GateSense where
  | slope (mvUs : Option Nat := none) | vds (sw : Fin 6) (onNs : Nat) (mv : Option Nat := none)
  deriving DecidableEq, Repr

/-- The three converters. -/
inductive Conv where
  | cnva | cnvb | cnvc
  deriving DecidableEq, Repr

/-- A HELLO as received (R408). -/
structure Hello where
  serial : Wide
  part   : Word
  hash   : Wide
  seen   : Wide
  flags  : Byte
  deriving DecidableEq, Repr

/-- One axis block of a MIRROR frame (R408). -/
structure AxisBlock where
  pos      : Wide
  state    : Word
  head     : Word
  angle    : Word
  idxAxpos : Wide
  deriving DecidableEq, Repr

/-- A MIRROR frame as received with a good CRC (R408). -/
structure Mirror where
  flags  : Byte
  hash   : Wide
  refx   : Word
  blocks : List AxisBlock
  /-- CHUNK index and the sixteen words of an orphan chunk, when one is carried. -/
  chunk  : Option (Nat × List Word)
  deriving DecidableEq, Repr

/-- What one characterisation step has measured beyond the stamps of its chopper cycles and its EMF averages: for SHAPE the
amplitudes of the fundamental, the 3rd and the 5th harmonic of the back-EMF, signed, in one unit (R258). -/
inductive CharMeas where
  | selftest | r | l | ke
  | shape (h1 h3 h5 : Int)
  deriving DecidableEq, Repr

/-- What a window monitor's input stands at: a voltage in mV, or a temperature in thousandths of a degree for the
controller die; for WM5 the temperatures of the bridge dies (R368). -/
inductive WmonIn where
  | value (x : Int)
  | dies (t : Vector Int 5)
  deriving DecidableEq, Repr

/-- The commands, one constructor for each row of the operation table, in the table's order. An operand with a default says
more than the row's bare name does: the default is the row as its summary has it. -/
inductive Instr where
  -- host port
  | spiSingleRead (page : PageNo) (off : Offset) (cycles : Nat := 0)
  | spiSingleWrite (page : PageNo) (off : Offset) (data : Word) (cycles : Nat := 0)
  | spiBurstWrite (page : PageNo) (off : Offset) (words : List Word) (cycles : Nat := 0)
  | spiBurstRead (page : PageNo) (off : Offset) (n : Nat) (crcOk : Bool) (cycles : Nat := 0)
  | frameRejected (bytes : List Byte) (extraBits : Nat)
  | registerWrite (page : PageNo) (off : Offset) (v : Word) (cycles : Nat := 0)
  | keyWrite (page : PageNo) (v : Word)
  | unlockLapse (page : PageNo)
  | unitReset (page : PageNo)
  | unitResetComplete (page : PageNo)
  | groupPageWrite (page : PageNo) (off : Offset) (v : Word)
  | groupPageRead (page : PageNo) (off : Offset)
  | absentPageWrite (page : PageNo) (off : Offset) (v : Word)
  | hostWatchdogExpiry
  | wdogEscalationReset
  -- power states, clocks, bring-up
  | pstateReqRun
  | pstateReqDoze
  | pstateReqStandby
  | dozeEntryComplete (cycles : Nat := 0)
  | dozeExitRelock (locked : Bool) (cycles : Nat := 0)
  | standbyEntryComplete
  | wakeSourceQualify (src : WakeSrc)
  | wakeTimerExpiry (ticks : Nat)
  | vcoreReady
  | hsrcReady (sleepTicks : Nat)
  | xoQualified
  | pllLock
  | coreSwitchRun (cycles : Nat := 0)
  | bringupStepTimeout
  | step1Retry
  | xsQualified
  | xsStartTimeout
  | xsDisableWrite (v : Word)
  | clockLoss (src : ClockSrc) (cycles : Nat := 0)
  | clockRelock (cycles : Nat := 0)
  | clockRelockTimeout
  | safeCauseArises (c : SafeCause) (cycles : Nat := 0)
  | safeEnWrite (v : Word)
  | enterSafe
  | safeRelease (ctrlAbove150 : Bool)
  | ackWakeFail
  | clrAbsentWr
  | swReset (v : Word)
  | rstNReset (lowNs : Nat)
  | testEnRise (highNs : Nat)
  | testEnFall
  | powerOnReset
  | supplyThresholdWrite (reg : SupplyReg) (v : Word)
  | vmOkChange (ok : Bool)
  | vgpOkChange (ok : Bool)
  | vddLowChange (low : Bool)
  | powerFailTrigger (byPin : Bool) (cycles : Nat := 0) (sinceUs : Nat := 120)
  | snapshotComplete
  | brakeThresholdCrossing (rising : Bool)
  | ovTrip (reached : Bool := true)
  -- fabric and DMA
  | fabricLinePulse (line : Fin 16) (also : Word := 0#16) (delayed : Word := 0#16) (cycles : Nat := 0)
  | fabricDelayedPulse (line : Fin 16) (also : Word := 0#16) (cycles : Nat := 0)
  | swPulse (v : Word) (same : Bool := false)
  | dmaGo (ch : Fin 8)
  | dmaDescriptorLoaded (ch : Fin 8)
  | dmaRequestGrant (words : Nat := 65536) (cycles : Nat := 0)
  | dmaTransferDone
  | dmaStop (ch : Fin 8)
  | dmaClrErr (ch : Fin 8)
  -- memory and the nonvolatile store
  | sramInitDone
  | scrubVisit (upsets : List (Nat × BitVec 22))
  | scrubForced
  | eccWriteback
  | clrCounts
  | winAddrWrite (addr : Wide)
  | winDataRead
  | winDataWrite (v : Word)
  | winDataWriteResume
  | winBufferDrain
  | nvsWrite
  | nvsWriteStart
  | nvsWriteDone
  | nvsInvalidate
  | nvsInvalidateDone
  | nvsApplyImage
  | imageWaitEnd
  | imageApplyDone
  | nvsQuery
  | nvsUndefinedOp (op : BitVec 3)
  | orphanWriteStart
  | orphanWriteDone
  | nvLoadDone
  -- machine time
  | secHRead (phase : Nat)
  | mtUsHRead (inBurst : Bool) (phase : Nat)
  | timeApply (phase : Nat)
  | tsyncEdge (highNs phase interval : Nat) (apply : Bool := false)
  | tsyncMissing
  | nextSecHWrite (v : Word)
  | tsyncEnWrite (en : Bool)
  | forwardStep
  | backwardStep
  | slewEnd
  | holdEnd
  | timebaseFault
  -- axes and the ramp engine
  | rampTick (stopNHigh : Bool)
  | modeCmd (n : Ax) (v : Word)
  | axisStop (n : Ax)
  | applyRt (n : Ax)
  | setPos (n : Ax)
  | encAlign (n : Ax)
  | clrOvershoot (n : Ax)
  | vcmdWrite (n : Ax) (v : Wide)
  | jogLimitWrite (n : Ax) (reg : JogReg) (v : Wide)
  | posLimitWrite (n : Ax) (hi : Bool) (v : Wide)
  | axisCfgWrite (n : Ax) (v : Word)
  | axisEnableWrite (n : Ax) (en : Bool)
  | settleCheck (n : Ax)
  | stopNLatch (lowNs : Nat)
  | frzRise
  | frzFall
  -- ledgers
  | queueCfgWrite (n : Ax) (reg : QueueReg) (v : Wide)
  | tailWrite (n : Ax) (v : Word)
  | headWrite (n : Ax) (v : Word)
  | clrFault (n : Ax)
  | skip (n : Ax)
  | flush (n : Ax)
  | ledgerPrefetch (n : Ax)
  | waitTimeout (n : Ax)
  | dwellEnd (n : Ax)
  -- current regulation and tables
  | standstillDelayExpiry (n : Ax)
  | tableSelWrite (n : Ax) (v : Word)
  | tableDataWrite (v : Word)
  | tableDataRead
  | tableCommit
  | tableCommitDone
  | tableInvalidate
  | applyChop (n : Ax)
  | readbackWrite (n : Ax) (v : Word)
  | comparatorCrossing (n : Ax) (ph : Phase) (upper : Bool) (t : Nat) (cycles : Nat := 0)
  | chopMinTimeEnd (n : Ax) (ph : Phase) (t : Nat)
  | chopSlow (n : Ax) (ph : Phase) (t : Nat)
  | chopPwmPeriod (n : Ax) (ph : Phase) (ending : Bool) (t : Nat)
  -- characterisation
  | charStepDone (n : Ax) (m : CharMeas)
  | charStepTimeout (n : Ax)
  | selftestSwitchTimeout (n : Ax) (sw : Fin 8)
  | accept (n : Ax)
  | save (n : Ax)
  | discard (n : Ax)
  -- protection
  | scDetect (n : Ax) (sw : Fin 8) (sense : ScSense := .didt) (t : Nat := 0)
  | gateScDetect (sense : GateSense) (t : Nat := 0)
  | uvloTrip (u : UvSupply) (t : Nat := 0)
  | uvloRelease (u : UvSupply) (below : Bool := false)
  | vcpUvloArm (d : Die)
  | tripNLow (lowNs : Nat)
  | tripNHigh
  | drvEnFall (lowNs : Nat)
  | drvEnRise (lowNs : Nat)
  | gateEnFall (lowNs : Nat)
  | gateEnRise (lowNs : Nat)
  | thermWarn (d : Die) (above : Bool)
  | thermShutdown (d : Die)
  | thermCool (d : Die) (above : Bool := false)
  | autoRetryWaitEnd (p : ProtPage) (c : FaultClass) (m : BitVec 8 := 0xFF#8)
  | retryCntReset (p : ProtPage) (c : FaultClass)
  | scOutputCheckEnd (p : ProtPage) (shorted : BitVec 3)
  | firstHeartbeat (d : Die)
  | heartbeatLoss (d : Die)
  | heartbeatResume (d : Die)
  | gateStreamStop
  -- gate port
  | start
  | stop
  | applyTable
  | applyDrive
  | prechargeEnd
  | hallCodeChange (code : BitVec 3) (t : Nat)
  | gatePwmPeriod (t : Nat)
  | bootRefresh (ph : Fin 3) (t : Nat := 0)
  | ilim (t : Nat := 0)
  | slopeTimeout (ph : Fin 3) (edge : Option Bool := none)
  | shxMidpointCrossing (ph : Fin 3) (since : Nat := 0) (edge : Option Bool := none)
  | hallTimeout
  -- Tallyman and emulation
  | quadratureChange (ch : Fin 4) (a b : Bool) (held : Nat := 4096) (cycles : Nat := 0) (heldB : Nat := 4096) (heldI : Nat := 0)
  | stepEdge (ch : Fin 4) (dirAfter : Bool) (held : Nat := 4096) (cycles : Nat := 0) (heldI : Nat := 0)
  | encoderIndex (ch : Fin 4) (up : Bool := true) (held : Nat := 4096) (cycles : Nat := 0)
  | countLoad (ch : Fin 4) (v : Wide) (edge : Option (Bool × Bool) := none) (heldI : Nat := 0)
  | speedWindowEnd (ch : Fin 4)
  | indexMissing (ch : Fin 4)
  | arm (p : Fin 4)
  | disarm (p : Fin 4)
  | ptCfgWrite (p : Fin 4) (v : Word)
  | sync (x : Fin 2)
  | emuEdge (x : Fin 2)
  | tallyEnableWrite (en : Bool)
  -- timers
  | timerCountTick (n : Fin 8) (pin : Bool)
  | timerStart (n : Fin 8)
  | timerStop (n : Fin 8)
  | load (n : Fin 8)
  | timerLinkAction (n : Nat := 1)
  | captureLRead (n : Fin 8)
  | compareWrite (n : Fin 8) (v : Wide)
  -- converters, assayer, monitors
  | go (c : Conv)
  | halt (c : Conv)
  | inject (c : Conv)
  | calNow (c : Conv)
  | cnvStartupEnd (c : Conv)
  | cnvDelayEnd (c : Conv)
  | cnvConversionDone (c : Conv) (vin : Int) (err : Int := 0)
  | cnvStreamResult (c : Conv) (vin : Int) (err : Int := 0)
  | cnvCfgWrite (c : Conv) (v : Word)
  | calSlotStart (c : Conv)
  | bgForced (c : Conv)
  | run
  | assayPeriodicStart
  | wmonCompare (m : Fin 8) (x : WmonIn)
  | wmonThresholdWrite (m : Fin 8) (hi : Bool) (v : Word)
  -- Chandler and the lamp chain
  | flash (n : Fin 4) (lines : Word := 0#16) (delayed : Word := 0#16) (cycles : Nat := 0)
  | exposureTargetReached (g : Fin 3) (t10ns : Nat)
  | flashMaxExpiry
  | apply (n : Fin 4)
  | fadeStep (n : Fin 4)
  | lampPwmPeriod (n : Fin 4)
  | lampVoltageSample (n : Fin 4) (k : Fin 8) (v : Byte)
  | lampJudgeInterval (n : Fin 4)
  | headroom (n : Fin 4) (low : Bool)
  | feedbackWindowEnd (r g b : Word)
  | dieTempSample (celsius : Int) (cycles : Nat := 0)
  | tempStale (ntc : Fin 2 := 0) (cycles : Nat := 0)
  | tapTest (n : Fin 4)
  | tapTestEnd (n : Fin 4) (roseMv : Nat)
  | clrLamp (n : Fin 4)
  | chainFrameStart
  | chainLevelStep
  | lcThermFault (lowUs : Nat := 1000)
  | lcThermRelease (highMs : Nat := 1000)
  | resume
  -- twin
  | helloSend
  | helloReceive (h : Hello)
  | mirrorSend
  | mirrorReceive (m : Option Mirror)
  | leaveReceive (serial : Wide := 0#32) (flags : Byte := 0#8)
  | twinLost
  | orphanLoad
  | retry
  | clrOrphan
  | confirm (v : Word)
  | peerReset (v : Word)
  -- rows added at the end of the table
  | vioPresentChange (present : Bool)
  | pfailNRelease
  | vmBelowBrakeOn
  | bridgeLogicSupplyChange (d : Die) (ok : Bool)
  | linkUpChange (up : Bool)
  | twinEnableWrite (enable pairEn : Bool)
  deriving DecidableEq, Repr

end Sys2Proof
end

