-- ==== Sys2Proof/WellFormed.lean ====
section
/-! DEFINITION. Which commands are well formed: the operands are ones the outside world can bring. -/

namespace Sys2Proof

/-- CRC-8 of a frame: polynomial 0x2F, most significant bit first (R58). -/
def crc8Shift (c : Byte) : Byte := if c.getLsbD 7 then (c <<< 1) ^^^ 0x2F#8 else c <<< 1

def crc8Step (c b : Byte) : Byte :=
  crc8Shift (crc8Shift (crc8Shift (crc8Shift (crc8Shift (crc8Shift (crc8Shift (crc8Shift (c ^^^ b))))))))

/-- The CRC of a run of bytes from the initial value 0xFF (R58). -/
def crc8 (bytes : List Byte) : Byte := bytes.foldl crc8Step 0xFF#8

/-- Does a length in bytes match a frame form of R57? -/
def frameLengthOk (b0 : Byte) (len : Nat) : Bool :=
  let read := b0.getLsbD 7
  let inc := b0.getLsbD 6
  if inc then
    if read then decide (7 ≤ len ∧ len ≤ 133 ∧ len % 2 = 1) else decide (5 ≤ len ∧ len ≤ 131 ∧ len % 2 = 1)
  else decide (len = 5)

/-- Does the last byte carry the CRC of the bytes before it (R58)? -/
def frameCrcOk (bytes : List Byte) : Bool := bytes.getLast? == some (crc8 bytes.dropLast)

/-- Is a run of bytes rejected by R55 or R59? A burst read with a good length is no rejected frame: its words were
fetched (R62). DESIGN CHOICE (log entry 46): CS_N low with no bit clocked is no frame, and reports nothing. -/
def rejectedFrame (bytes : List Byte) (extraBits : Nat) : Bool :=
  match bytes with
  | [] => decide (extraBits % 8 ≠ 0)
  | b0 :: _ =>
    decide (extraBits % 8 ≠ 0) || !frameLengthOk b0 bytes.length
      || (!(b0.getLsbD 7 && b0.getLsbD 6) && !frameCrcOk bytes)

/-- A well-formed command. -/
def Instr.wf : Instr → Bool
  -- core clock cycles since the last ramp tick, which come to 2 us at most, at RATE -3 % (R173)
  | .spiSingleRead _ _ c | .spiSingleWrite _ _ _ c | .registerWrite _ _ _ c => decide (c ≤ 412)
  | .spiBurstWrite _ _ ws c => decide (1 ≤ ws.length ∧ ws.length ≤ 64 ∧ c ≤ 412)
  | .spiBurstRead _ _ n _ c => decide (1 ≤ n ∧ n ≤ 64 ∧ c ≤ 412)
  | .dmaRequestGrant _ c | .powerFailTrigger _ c _ | .dozeEntryComplete c | .dozeExitRelock _ c | .coreSwitchRun c | .clockLoss _ c
  | .clockRelock c | .safeCauseArises _ c | .fabricLinePulse _ _ _ c | .fabricDelayedPulse _ _ c | .flash _ _ _ c | .dieTempSample _ c | .tempStale _ c =>
    decide (c ≤ 412)
  -- FBUS cycles since the last ramp tick
  | .quadratureChange _ _ _ _ c _ _ | .stepEdge _ _ _ c _ | .encoderIndex _ _ _ c => decide (c ≤ 206)
  | .frameRejected bytes extra => rejectedFrame bytes extra
  | .scrubVisit ups => ups.all (fun u =>
    (decide (u.1 < 0x80000) || (decide (0x100000 ≤ u.1) && decide (u.1 < 0x120000))) && decide (u.1 % 2 = 0))
  | .nvsUndefinedOp op => decide (op = 0#3 ∨ 5 ≤ op.toNat)
  | .secHRead ph => decide (ph ≤ 412)
  | .mtUsHRead _ ph => decide (ph ≤ 412)
  | .timeApply ph => decide (ph ≤ 412)
  | .tsyncEdge _ ph _ _ => decide (ph ≤ 412)
  | .comparatorCrossing _ _ _ _ ph => decide (ph ≤ 412)
  | .mirrorReceive (some m) => decide (m.blocks.length = 10) && (match m.chunk with
    | some (k, ws) => decide (k < 5 ∧ ws.length = 16)
    | none => true)
  | _ => true

end Sys2Proof
end

