-- ==== Sys2Proof/Decode.lean ====
section
/-! DEFINITION. The commands spelled by bits. The operation table gives no row any bits, so no word of it spells a command: a
command comes from a pin, a clock, an analog event or the host port. The bytes of a host frame spell one (R55 to R62). -/

namespace Sys2Proof

/-- The command a word spells by the table's bits: none, for no row has bits. -/
def decodeTableWord (_nbits _w : Nat) : Option Instr := none

/-- The words of a byte string, most significant byte first. -/
def wordsOf : List Byte → List Word
  | a :: b :: l => (a ++ b) :: wordsOf l
  | _ => []

/-- The command that the bytes of one frame on MOSI spell, with `extraBits` bits after them: byte 0 holds READ, INC and the
page, byte 1 the offset (R57). A frame that fails R55 or R58 is a rejected one; none: CS_N was low without a bit. -/
def decodeFrame (bytes : List Byte) (extraBits : Nat) : Option Instr :=
  if rejectedFrame bytes extraBits then some (.frameRejected bytes extraBits)
  else match bytes with
    | b0 :: off :: rest =>
      let page : PageNo := b0.extractLsb' 0 6
      let data := wordsOf rest.dropLast
      match b0.getLsbD 7, b0.getLsbD 6 with
      | true, false => some (.spiSingleRead page off)
      | false, false => some (.spiSingleWrite page off (data.headD 0#16))
      | false, true => some (.spiBurstWrite page off data)
      | true, true => some (.spiBurstRead page off (data.length - 1) (frameCrcOk bytes))
    | _ => none

end Sys2Proof
end

