-- ==== Sys2Proof/Config.lean ====
section
/-! DEFINITION. What an implementation fixes: the four parts of the family (R1), and the free values of the spec. -/

namespace Sys2Proof

/-- The four parts of the family (R1). -/
inductive Part where
  | ln4710 | ln4706 | ln4610 | ln4606
  deriving DecidableEq, Repr

namespace Part

/-- Axes present: ten, or six on the six-axis parts (R1, R2). -/
def axes : Part → Nat
  | .ln4710 | .ln4610 => 10
  | .ln4706 | .ln4606 => 6

/-- Bridge dies present (R1). -/
def dies : Part → Nat
  | .ln4710 | .ln4610 => 5
  | .ln4706 | .ln4606 => 3

/-- Gate port and ramp channel 10 (R1). -/
def hasGate : Part → Bool
  | .ln4710 | .ln4610 => true
  | .ln4706 | .ln4606 => false

/-- Encoder channels (R1, R309). -/
def encoders : Part → Nat
  | .ln4710 | .ln4706 => 4
  | .ln4610 | .ln4606 => 2

/-- Emulation outputs (R1, R309). -/
def emus : Part → Nat
  | .ln4710 | .ln4706 => 2
  | .ln4610 | .ln4606 => 1

/-- Chandler and the lamp chain (R1). -/
def hasChandler : Part → Bool
  | .ln4710 | .ln4706 => true
  | .ln4610 | .ln4606 => false

/-- The twin link (R1, R5). -/
def hasTwin : Part → Bool
  | .ln4710 | .ln4706 => true
  | .ln4610 | .ln4606 => false

/-- CNVB (R1, R6). -/
def hasCnvB : Part → Bool
  | .ln4606 => false
  | _ => true

/-- DEV.PART (R109). -/
def number : Part → Word
  | .ln4710 => 0x4710#16
  | .ln4706 => 0x4706#16
  | .ln4610 => 0x4610#16
  | .ln4606 => 0x4606#16

/-- DEV.CAPS (R110). -/
def caps : Part → Word
  | .ln4710 => 0x0FFF#16
  | .ln4706 => 0x0FC7#16
  | .ln4610 => 0x083F#16
  | .ln4606 => 0x0007#16

end Part

namespace Config

/-- A FREE VALUE: the n-th value the spec leaves open. It has no body: a claim holds whatever it is.
DESIGN CHOICE (log entry 2): the step reads and advances the counter `State.free`. -/
opaque freeWord : Nat → BitVec 32

/-- The factory data of the store at 0x0011_0000 to 0x0011_FFFF, whose contents the spec does not describe (R145). -/
opaque factoryByte : Nat → BitVec 8

end Config

end Sys2Proof
end

