-- ==== Sys2Proof/Machine/State.lean ====
section
/-! DEFINITION. The state of the block, as plain data: the register file, the hidden state of every unit, the memories
and the queue of waiting commands. Every field's default is its value after a power-on reset. -/

namespace Sys2Proof.Machine

/-- Why a command stops. No command of this model faults. -/
inductive Fault where
  /-- Raised by no command of this model: every row of the table has an effect on every state. Safe. -/
  | neverRaised
  deriving DecidableEq, Repr

/-- Why a command has no meaning. -/
inductive Refusal where
  /-- Raised by `exec` alone, for a row of the table without a meaning yet. Safe. -/
  | notModelled (mnemonic : String)
  deriving DecidableEq, Repr

/-- A sparse store: addresses strictly rising, and no entry equal to what an unlisted address reads as. -/
abbrev Store := List (Nat × Word)

/-! ### Host port -/

/-- An access of a frame that waits behind a full window write buffer (R60, R142). -/
inductive PortAccess where
  | write (page off : Nat) (v : Word)
  /-- A word for the members of a group, as sampled when the frame's CRC passed (R73). -/
  | group (members : List Nat) (off : Nat) (v : Word)
  /-- A single read; `last`: no later frame has ended since, so that the next frame shows its word (R64). -/
  | read (page off : Nat) (last : Bool)
  deriving DecidableEq, Repr

/-- The host port between two frames (R63 to R65). -/
structure Spi where
  crcErr   : Bool := false
  notReady : Bool := false
  absent   : Bool := false
  bcast    : Bool := false
  echo     : Byte := 0#8
  data     : Word := 0#16
  /-- The bytes the last frame carried on MISO (R63). -/
  miso     : List Byte := []
  waiting  : List PortAccess := []
  deriving DecidableEq, Repr

/-- The input pins whose level the device uses, at the inactive level their pull gives (R35). -/
structure Pins where
  testEn : Bool := false
  pfailN : Bool := true
  stopN  : Bool := true
  frz    : Bool := false
  tripN  : Bool := true
  drvEn  : Bool := false
  gateEn : Bool := false
  lcTherm : Bool := true
  deriving DecidableEq, Repr

/-- What the supply comparators and sensors show (R42, R43, R111, R278 to R284). -/
structure Supply where
  vmOk    : Bool := false
  vgpOk   : Bool := false
  vddLow  : Bool := false
  vio     : Bool := true
  /-- VM at or above SUPPLY.OV_TRIP. -/
  ovNow   : Bool := false
  /-- VM at or above SUPPLY.BRAKE_ON: the OV cause is active (R284). -/
  ovCause : Bool := false
  brk     : Bool := false
  /-- VM of each bridge die above its logic threshold (R278). -/
  logic   : Vector Bool 5 := Vector.replicate 5 true
  /-- Controller die above 150 degrees (R102, R105). -/
  ctrlHot : Bool := false
  deriving DecidableEq, Repr

/-! ### Power states and clocks -/

/-- The power states, with the codes of DEV.PSTATE (R88, R109). -/
inductive PState where
  | standby | waking | run | doze | safe
  deriving DecidableEq, Repr

/-- The states a PSTATE_REQ may name (R89). -/
inductive PReq where
  | standby | run | doze
  deriving DecidableEq, Repr

/-- A change of power state in progress (R89). -/
inductive Change where
  | none | dozeEntry | dozeExit | standbyEntry
  deriving DecidableEq, Repr

/-- The slow crystal oscillator (R87, R438). -/
inductive XsState where
  | off | starting | good | failed
  deriving DecidableEq, Repr

structure Power where
  pstate    : PState := .standby
  /-- The return state of SAFE (R439). -/
  ret       : PState := .waking
  /-- Bring-up step in progress, 1 to 5; 0 when none (R94). -/
  bring     : Nat := 1
  attempts  : Nat := 1
  /-- The 10 ms before the next attempt of step 1 (R98). -/
  retryWait : Bool := false
  change    : Change := .none
  /-- A clock recovery of R101 in progress: was the XI reference the source lost? -/
  relock    : Option Bool := none
  held      : Option PReq := none
  /-- Wake sources that qualified while STANDBY is being entered (R92), in the bits of WAKE_EN. -/
  heldWake  : Word := 0#16
  /-- A reset, by its RESET_CAUSE bits, that waits for a snapshot (R48). -/
  rstWait   : Option Word := none
  /-- TEST_EN holds the device in reset (R39). -/
  testHold  : Bool := false
  /-- The bring-up in progress, or the last one, followed a reset (WAKE_CAUSE.RESET). -/
  fromReset : Bool := true
  hostExpired : Bool := false
  deriving DecidableEq, Repr

structure Clock where
  xoFail   : Bool := false
  pllFail  : Bool := false
  xsFail   : Bool := false
  pllLock  : Bool := false
  /-- CORE_SRC: the core runs on the PLL. -/
  onPll    : Bool := false
  /-- SLOW_SRC: the AO domain runs on the slow crystal. -/
  slowXtal : Bool := false
  xoRun    : Bool := false
  /-- The crystal amplifier between XI and XO is on (R96). -/
  xoAmp    : Bool := false
  /-- XI_MODE as the last step 3 used it (R96, R109). -/
  xiExt    : Bool := false
  xs       : XsState := .starting
  deriving DecidableEq, Repr

/-! ### Fabric and DMA -/

structure Fabric where
  /-- Lines whose direct output will pulse, oldest first: one word for the lines that pulse in one FBUS cycle (R117). -/
  due  : List Word := []
  /-- Delayed pulses pending, one bit a line (R120). -/
  pend : Word := 0#16
  deriving DecidableEq, Repr

inductive DmaState where
  | idle | armed | active | halted
  deriving DecidableEq, Repr

/-- A snapshot of machine time (R162). -/
structure TimeSnap where
  sec : Wide := 0#32
  ns  : Wide := 0#32
  us  : Wide := 0#32
  deriving DecidableEq, Repr

structure DmaCh where
  st      : DmaState := .idle
  err     : Nat := 0
  pend    : Nat := 0
  /-- A descriptor load is in progress (R126). -/
  loading : Bool := false
  stopReq : Bool := false
  d0      : Word := 0#16
  remain  : Nat := 0
  /-- Words of the granted burst still to move. -/
  left    : Nat := 0
  /-- The granted burst has read SEC_H (R162). -/
  secRead : Bool := false
  src     : Wide := 0#32
  dst     : Wide := 0#32
  next    : Wide := 0#32
  deriving DecidableEq, Repr

structure Dma where
  ch      : Vector DmaCh 8 := Vector.replicate 8 {}
  /-- The channel whose granted burst is on the engine (R128). -/
  granted : Option (Fin 8) := none
  snap    : TimeSnap := {}
  deriving DecidableEq, Repr

/-! ### Memory and the nonvolatile store -/

/-- The SRAM and the host window (R134 to R143). Unlisted bytes read 0x00. -/
structure Mem where
  sram    : List Host.Cell := []
  /-- Flipped bits, by even byte address: bits 15:0 data, 21:16 check bits. -/
  sramErr : List (Nat × BitVec 22) := []
  init    : Bool := true
  winBuf  : List (Nat × Word) := []
  /-- Corrected words queued for write-back, with their addresses (R139). -/
  ecq     : List (Nat × Word) := []
  scrub   : Nat := 0
  /-- The next uncorrectable error is the first to record (R140). -/
  ueArmed : Bool := true
  /-- The SRAM cause of SAFE is active (R105). -/
  safeUe  : Bool := false
  deriving DecidableEq, Repr

/-- What the NVS engine is doing (R148 to R151). -/
inductive NvsJob where
  | idle
  /-- A host WRITE; `words` is the record, empty while it waits for the SRAM initialisation. The engine has read at least `got`
  words of the source; those at `again`, changed since it began, are still to be read (R150). -/
  | write (slot : Nat) (head : List Word) (src len : Nat) (words : List Word) (owner : Option Ax) (got : Nat := 0)
    (again : List Nat := [])
  /-- INVALIDATE: the byte addresses of the COMMIT fields to clear, in order. -/
  | invalidate (commits : List Nat)
  | orphan (slot : Nat) (words : List Word)
  deriving DecidableEq, Repr

structure Nvs where
  mram      : List Host.Cell := []
  mramErr   : List (Nat × BitVec 22) := []
  job       : NvsJob := .idle
  orphanReq : Bool := false
  /-- The snapshot in progress: its slot and record. -/
  snap      : Option (Nat × List Word) := none
  /-- A power-fail trigger is accepted (R47). -/
  armed     : Bool := true
  /-- The words of the image still to apply. -/
  image     : Option (List Word) := none
  imgWait   : Bool := false
  /-- The values loaded at bring-up into fields whose Reset entry is "cal" (R21), by 256 * page + offset. -/
  cal       : Store := []
  loadDone  : Bool := false
  /-- The load of R153 has been made in this bring-up; UNIT_RESET returns LOAD_DONE alone to 0. -/
  loaded    : Bool := false
  /-- The AUTO image waits for the engine (R155). -/
  autoWait  : Bool := false
  deriving DecidableEq, Repr

/-! ### Machine time -/

/-- A correction in progress, with the remaining error in units of 2^-36 ns (R171). -/
inductive Corr where
  | none
  | slew (left : Nat)
  | hold (left : Nat)
  deriving DecidableEq, Repr

structure MTime where
  /-- Machine time, in units of 2^-36 ns (R160). -/
  cur     : Nat := 0
  /-- Time on the tick clock since the last ramp tick, in the same units. -/
  run     : Nat := 0
  /-- Where in this tick's interval the present length of the core clock's cycle came into force: `run` and the core clock
  cycles since the tick (R160, R161). -/
  base    : Nat := 0
  baseCyc : Nat := 0
  /-- The running time since reset, in the same units, that no step or correction moves. -/
  total   : Nat := 0
  /-- How long TSYNC stays high, in the same units. -/
  high    : Nat := 0
  /-- Frequency term F, in units of 2^-48 (R168). -/
  freq    : Int := 0
  /-- RATE, in units of 2^-32. -/
  rate    : Int := 0
  armed   : Option Nat := none
  snap    : TimeSnap := {}
  corr    : Corr := .none
  /-- A slew or hold decided, which begins at the next tick. -/
  due     : Corr := .none
  /-- A step decided and waiting for its tick boundary, in units of 2^-36 ns (R170, R172). -/
  step    : Option Int := none
  /-- That step is an APPLY's, and takes effect at the coming tick (R172). -/
  applied : Bool := false
  lock    : Nat := 0
  missed  : Nat := 0
  seen    : Bool := false
  undisc  : Bool := true
  clamped : Bool := false
  holdTicks : Nat := 0
  tbDone  : Bool := false
  /-- The next tick falls on the nearest whole microsecond (R173). -/
  realign : Bool := false
  /-- A step has already brought machine time to the coming tick (R170, R172). -/
  ticked  : Bool := false
  deriving DecidableEq, Repr

/-! ### Axes and ledgers -/

/-- The axis modes, with their codes (R176). -/
inductive Mode where
  | parked | hold | ledger | velocity | follow | characterise
  deriving DecidableEq, Repr

/-- A ramp channel: p with 32 fraction bits, v and a with 48 (R186). -/
structure Chan where
  p : Int := 0
  v : Int := 0
  a : Int := 0
  deriving DecidableEq, Repr

/-- What a ramp channel is driving toward. -/
inductive Goal where
  | none
  /-- A move to a position in microsteps (R187). -/
  | pos (target : Int)
  /-- A slew to a velocity in units of 2^-48 (R192, R210). -/
  | vel (v : Int)
  /-- A stop (R194). -/
  | stop
  deriving DecidableEq, Repr

/-- The limits of a profile, in the formats of R182. -/
structure Limits where
  vmax : Nat := 0
  amax : Nat := 0
  dmax : Nat := 0
  jmax : Nat := 0
  deriving DecidableEq, Repr

structure Follow where
  p0  : Int := 0
  c0  : Int := 0
  d   : Int := 0
  lag : Bool := false
  /-- D is held at a soft limit. -/
  clamped : Bool := false
  deriving DecidableEq, Repr

structure Stall where
  /-- A sample, or an excuse, of each phase since the previous estimate (R251). -/
  smpA : Bool := false
  smpB : Bool := false
  busyA : Bool := false
  busyB : Bool := false
  cnt  : Nat := 0
  stalled : Bool := false
  deriving DecidableEq, Repr

/-- A characterisation run (R257 to R259). -/
structure CharRun where
  /-- CHAR_STAT.STEP. -/
  step   : Nat := 0
  /-- Selected steps still to make, bit s - 1 for step s. -/
  todo   : BitVec 5 := 0#5
  from_  : Mode := .parked
  /-- The mode to enter once an interrupted travel step has stopped. -/
  ending : Option Mode := none
  /-- The RESULT that such an end gives: 2 interrupted, or 4 over budget. -/
  endCode : Nat := 2
  /-- The steps that the run selected. -/
  ops    : BitVec 5 := 0#5
  /-- POSITION at the start of a travel step, and its leg: 1 out, 2 back, 3 travel made. -/
  home   : Int := 0
  leg    : Nat := 0
  /-- CHAR_CURRENT of the run (R262). -/
  cur    : Word := 0#16
  /-- The switch under self-test, in the bits of SELFTEST; 8 once all have been tested. -/
  selfSw : Nat := 0
  /-- EMF amplitudes (mV) summed over the ticks of the cruise, and their number. -/
  ampSum : Nat := 0
  ampN   : Nat := 0
  valid  : Bool := false
  /-- A SAVE is being written. -/
  saving : Bool := false
  deriving DecidableEq, Repr

structure AxisReq where
  mode    : Option Nat := none
  setPos  : Bool := false
  rt      : Bool := false
  align   : Bool := false
  deriving DecidableEq, Repr

structure Axis where
  mode     : Mode := .parked
  chan     : Chan := {}
  goal     : Goal := .none
  lim      : Limits := {}
  target   : Int := 0
  /-- ANGLE_OFS (R184). -/
  ofs      : Nat := 0
  /-- A stop in progress, with the mode it ends in. -/
  stopping : Option Mode := none
  /-- The moving mode a freeze interrupted (R196). -/
  frozen   : Option Mode := none
  /-- STOP_N latched during the freeze. -/
  noResume : Bool := false
  req      : AxisReq := {}
  reversing : Bool := false
  /-- A TARGET has been reached (R187). -/
  atTarget : Bool := false
  limitActive : Bool := false
  /-- The stop at the present limit has been reported (R193). -/
  limitHeld : Bool := false
  /-- A change of DIR_INV that takes effect at the next tick (R184). -/
  invReq   : Option Bool := none
  ferr     : Bool := false
  settleOut : Bool := false
  settleLeft : Option Nat := none
  correcting : Bool := false
  uncertain : Bool := false
  /-- POSITION at the last index of the bound channel (R409). -/
  idxPos   : Option Int := none
  fol      : Follow := {}
  stall    : Stall := {}
  char     : CharRun := {}
  deriving DecidableEq, Repr

/-- Ledger states, with the codes of Qn_STAT.STATE (R228). -/
inductive LState where
  | stopped | waiting | running | starved | fault
  deriving DecidableEq, Repr

/-- A record taken by the engine (R208): its sixteen words, and whether one had an uncorrectable error. -/
structure LRec where
  words : List Word := []
  ue    : Bool := false
  deriving DecidableEq, Repr

/-- The current record's run. -/
structure LRun where
  target : Int := 0
  left   : Nat := 0
  /-- The pulse or condition watched for has come. -/
  seen   : Bool := false
  hit    : Bool := false
  deriving DecidableEq, Repr

structure Ledger where
  st      : LState := .stopped
  head    : Nat := 0
  tail    : Nat := 0
  loaded  : List LRec := []
  /-- The run of the record at HEAD, when it has started. -/
  run     : Option LRun := none
  /-- The run a pause interrupted (R223). -/
  paused  : Option LRun := none
  arrived : Bool := false
  released : Bool := false
  cause   : Nat := 0
  deriving DecidableEq, Repr

/-! ### Bridges and tables -/

/-- The chopper settings of R244. -/
structure ChopSet where
  mode  : Nat := 0
  decay : Nat := 0
  hyst  : Nat := 32
  fast  : Nat := 100
  fmin  : Nat := 15
  fmax  : Nat := 100
  pwm   : Nat := 25
  blank : Nat := 30
  deriving DecidableEq, Repr

/-- The chopper and the stamps of one phase (R241 to R246). Times are ns of the bridge die's clock. -/
structure ChopPh where
  on      : Bool := false
  /-- Start of the present phase and of the present cycle. -/
  t0      : Nat := 0
  cyc0    : Nat := 0
  /-- A crossing of the sought threshold has been passed within the minimum time; a phase without current stands below
  its lower threshold. -/
  passed  : Bool := true
  /-- The latest time told, by a command of this axis or by a ramp tick. -/
  now     : Nat := 0
  /-- The latest switching edge (R243). -/
  edge    : Option Nat := none
  /-- The last crossing: upper?, time, threshold code, and whether the pair still counts. -/
  last    : Option (Bool × Nat × Nat) := none
  clean   : Bool := false
  /-- The valid rising interval of this cycle: length and its two thresholds. -/
  rise    : Option (Nat × Nat × Nat) := none
  cut     : Bool := false
  sampled : Bool := false
  /-- The set in force in this phase. -/
  set     : ChopSet := {}
  pend    : Option ChopSet := none
  emf     : Int := 0
  ind     : Int := 0
  est     : Bool := false
  deriving DecidableEq, Repr

/-- The latches of one page and their clearing (R284 to R290). -/
structure Prot where
  sc     : BitVec 8 := 0#8
  uv     : BitVec 8 := 0#8
  ot     : Bool := false
  trip   : Bool := false
  ov     : Bool := false
  /-- Switches whose gate supply is below its release level. -/
  uvLow  : BitVec 8 := 0#8
  /-- Die above 140 degrees. -/
  hot    : Bool := false
  retry  : Vector Nat 5 := Vector.replicate 5 0
  /-- Latches of each class that are not retried (R288): a bit per switch for SC and UV, else bit 0. -/
  stuck  : Vector (BitVec 8) 5 := Vector.replicate 5 0#8
  warn   : Bool := false
  /-- The output checks that run (R287), oldest first: whether an enable toggle asked for it, and the SC latches under test. -/
  check  : List (Bool × BitVec 8) := []
  deriving DecidableEq, Repr

/-- What watches a switch for a short: SC_METHOD, SC_BLANK, SC_DIDT and SC_VDS (R273, R274). -/
structure ScSet where
  meth  : Nat
  blank : Nat
  didt  : Nat
  vds   : Nat
  deriving DecidableEq, Repr

/-- One switch, as the interlock and the short-circuit watch see it (R271 to R273, R291). Times are ns of the clock of its
die or of the gate-port driver block. -/
structure Sw where
  /-- Its standing on request reaches the interlock at this time. -/
  due  : Option Nat := none
  /-- The standing request is not followed until its source withdraws it and asks again. -/
  drop : Bool := false
  /-- A latch outlived the standing request, which is followed from the next on command (R291). -/
  held : Bool := false
  /-- Occupied until this time: the dead time after its off command. -/
  busy : Nat := 0
  /-- What watches it while a change of those settings waits for the next turn-on. -/
  was  : Option ScSet := none
  deriving DecidableEq, Repr

structure Bridge where
  /-- The setpoints computed on a tick, SET_A and SET_B of the next one (R27). -/
  next    : Option (Word × Word) := none
  sw      : Vector Sw 8 := Vector.replicate 8 {}
  level   : Nat := 0
  /-- The rest timer, in us (R230). -/
  rest    : Option Nat := none
  /-- The RUN, HOLD, standstill and CHAR_CURRENT levels whose present code has set CUR_CLAMPED (R231). -/
  clamped : BitVec 4 := 0#4
  iEff    : Nat := 0
  /-- I_EFF and the rest timer as they were before the last tick (R232). -/
  before  : Nat × Option Nat := (0, none)
  phA     : ChopPh := {}
  phB     : ChopPh := {}
  chopSlow : Bool := false
  /-- The die's time at the latest ramp tick, at the least. -/
  tick    : Nat := 0
  prot    : Prot := {}
  deriving DecidableEq, Repr

/-- A bridge die's link to the controller (R38, R277, R415). -/
structure DieSt where
  hbSeen  : Bool := false
  hbLost  : Bool := false
  uvArmed : Bool := false
  /-- The pump has fallen below its lockout and not yet risen above its release level (R277). -/
  vcpLow  : Bool := false
  deriving DecidableEq, Repr

structure Table where
  /-- Entries of banks 1 to 4 at 1024 * bank + k; unlisted entries read 0. -/
  bank  : Store := []
  valid : BitVec 5 := 1#5
  busy  : Bool := false
  /-- The coefficients from which a load built each bank, and whether one did (R263). -/
  shape : Vector (Option (Int × Int)) 5 := Vector.replicate 5 none
  deriving DecidableEq, Repr

/-! ### Gate port -/

/-- Port states, with their codes (R295). -/
inductive GState where
  | idle | precharge | run | stopping | braked | fault
  deriving DecidableEq, Repr

/-- DEAD (5 ns units) as the switching edges of the PWM period found it (R302): its start, the end of the on time, and the turn-on of
the low side. -/
structure DeadNow where
  start : Nat := 40
  fall  : Nat := 40
  low   : Nat := 40
  deriving DecidableEq, Repr

structure Gate where
  st       : GState := .idle
  chan     : Chan := {}
  /-- The live commutation table: word c as COMMc, c = 0 to 7. -/
  comm     : Vector Word 8 := Vector.replicate 8 0#16
  tableValid : Bool := false
  /-- PRE_TIME, SLOPE_ON, SLOPE_OFF, MAX_SLOPE_TIME as loaded, and as in force at each switch (R303). -/
  drive    : Nat × Nat × Nat × Nat := (8, 4, 4, 60)
  driveNow : Vector (Nat × Nat × Nat × Nat) 6 := Vector.replicate 6 (8, 4, 4, 60)
  /-- The demand v_d in effect: the velocity of the tick before (R27, R307). -/
  vd       : Int := 0
  /-- v_d has changed its sign since the last PWM period start. -/
  flipped  : Bool := false
  /-- The latest time told, and the start of each phase's refresh, in 5 ns units (R304). -/
  now      : Nat := 0
  /-- That time at the latest ramp tick, at the least. -/
  tick     : Nat := 0
  /-- The start of the PWM period, and when ILIM ended its on time (R302, R305). -/
  per0     : Nat := 0
  ilimAt   : Nat := 0
  refresh  : Vector (Option Nat) 3 := Vector.replicate 3 none
  /-- DEAD in force in the PWM period, and before and after the low side's turn of each phase's refresh (R302, R304). -/
  dead     : DeadNow := {}
  refDead  : Vector (Nat × Nat) 3 := Vector.replicate 3 (40, 40)
  /-- When the switches that the last commutation of a phase turns on may be on: DEAD after it (R300). -/
  newAt    : Vector Nat 3 := Vector.replicate 3 0
  /-- A commutation waits for a refresh to end. -/
  commWait : Bool := false
  hall     : BitVec 3 := 0#3
  /-- The step index of the last legal code since an illegal one. -/
  lastStep : Option Nat := none
  dir      : Bool := false
  /-- Stamp of the last edge that counts, in 5 ns units, whether an interval may start at it, and the last intervals, newest
  first. -/
  edge     : Option Nat := none
  span     : Bool := false
  ivals    : List Nat := []
  period   : Nat := 0
  still    : Bool := true
  illegal  : Bool := false
  /-- Commanded states of U, V, W: 0 off, 1 high side by PWM, 2 low side. -/
  phases   : Vector Nat 3 := Vector.replicate 3 0
  integ    : Int := 0
  duty     : Nat := 0
  lastSign : Int := 0
  ilim     : Bool := false
  /-- Part of the gate drive profile each phase's edge is in (R303); part 1 becomes part 2 after PRE_TIME. -/
  part     : Vector Nat 3 := Vector.replicate 3 3
  streamLost : Bool := false
  sw       : Vector Sw 6 := Vector.replicate 6 {}
  /-- VGP, and BSTx - SHx of U, V, W: fallen below its lockout and not yet above its release level (R277), or fallen below the
  release level alone (R284). -/
  vgpLow   : Bool := false
  bstLow   : BitVec 3 := 0#3
  vgpNear  : Bool := false
  bstNear  : BitVec 3 := 0#3
  /-- FAULT was entered from a running state: the demand is cleared on the next tick (R298). -/
  faultStop : Bool := false
  prot     : Prot := {}
  deriving DecidableEq, Repr

/-! ### Tallyman, emulation, timers -/

structure Enc where
  /-- The levels on the pins; one that nothing drives is pulled high (R35). -/
  pinA : Bool := true
  pinB : Bool := true
  pinI : Bool := true
  /-- The levels last accepted (En_STAT). -/
  a : Bool := false
  b : Bool := false
  i : Bool := false
  /-- The next accepted level of this input makes no count and no index (R311); and the FBUS cycles, from the last ramp tick,
  until its standing level is accepted. -/
  freshA  : Bool := true
  freshB  : Bool := true
  freshI  : Bool := true
  leftA   : Nat := 0
  leftB   : Nat := 0
  leftI   : Nat := 0
  count   : Wide := 0#32
  dir     : Bool := false
  dirKnown : Bool := false
  winLeft : Nat := 1000
  winBase : Wide := 0#32
  speed   : Wide := 0#32
  idxSeen : Bool := false
  /-- COUNT after the previous index, and whether every count since had the sense `true` = rising. -/
  lastIdx : Option Wide := none
  rose    : Bool := false
  fell    : Bool := false
  moved   : Bool := false
  msLeft  : Nat := 1000
  idxMs   : Nat := 0
  missing : Bool := false
  deriving DecidableEq, Repr

structure Trig where
  armed  : Bool := false
  remain : Nat := 0
  fires  : Nat := 0
  lagged : Bool := false
  /-- The source's value at the last evaluation. -/
  prev   : Wide := 0#32
  /-- A stepped compare was already passed, rising or falling, and fires at the next evaluation. -/
  late   : Option Bool := none
  deriving DecidableEq, Repr

structure Emu where
  acc     : Int := 0
  backlog : Int := 0
  out     : Wide := 0#32
  ref     : Wide := 0#32
  /-- OVERRUN: OUT_CNT no longer follows the source (R326). -/
  overrun   : Bool := false
  /-- Host software has enabled the unit since the last reset: the pins have left their reset state (R36). -/
  live      : Bool := false
  deriving DecidableEq, Repr

structure Timer where
  count   : Wide := 0#32
  active  : Wide := 0#32
  run     : Bool := false
  capFull : Bool := false
  deriving DecidableEq, Repr

structure Timers where
  t      : Vector Timer 8 := Vector.replicate 8 {}
  /-- Link actions due in the next FBUS cycle: target and start (true) or stop (R339). -/
  links  : List (Nat × Bool) := []
  /-- FBUS at the entry into STANDBY was that of the PLL (R343). -/
  entryPll : Bool := false
  /-- FRZ at STANDBY entry (R343). -/
  entryFrz : Bool := false
  deriving DecidableEq, Repr

/-! ### Converters -/

/-- The work a converter is on. -/
inductive CWork where
  | none | seq | inj | cal (forced : Bool) | assay
  deriving DecidableEq, Repr

/-- Where an entry stands (R355). -/
inductive CStage where
  | startup | delay | conv
  deriving DecidableEq, Repr

structure Cnv where
  powered : Bool := false
  /-- The VM last published since bring-up, in 10 mV (R246, R362). -/
  published : Option Word := none
  work    : CWork := .none
  stage   : CStage := .startup
  /-- The sequencer runs, and its entry. -/
  seq     : Bool := false
  cur     : Nat := 0
  /-- The words of the entry on the converter, as they were when it started (R354). -/
  entA    : Word := 0#16
  entB    : Word := 0#16
  stream  : Bool := false
  injWait : Bool := false
  calWait : Bool := false
  /-- The next calibration slot converts VREF, not the internal zero (R359). -/
  calVref : Bool := false
  bgOfs   : Word := 0#16
  bgGain  : Word := 0#16
  /-- Assay channels waiting on this converter: REFX (0x0C) and VM/20 (0x0D). -/
  assay   : List Nat := []
  /-- An assay conversion has been taken at the present entry boundary (R360, R366). -/
  assayTaken : Bool := false
  deriving DecidableEq, Repr

structure Assay where
  busy : Bool := false
  /-- Readings, as 24-bit codes, of: CNVA REFX, CNVB REFX, CNVA VM/20, CNVC VM/20. -/
  aRefx : Option Nat := none
  bRefx : Option Nat := none
  aVm   : Option Nat := none
  cVm   : Option Nat := none
  /-- Outcome codes of AB, CA, TWIN. -/
  ab    : Nat := 0
  ca    : Nat := 0
  twin  : Nat := 0
  /-- The latest REFX reading of the twin since mirroring began. -/
  twinSeen : Option Word := none
  /-- The latest one of a mirroring that ended while TWIN is pending. -/
  twinHeld : Option Word := none
  deriving DecidableEq, Repr

structure Wmon where
  out   : Bool := false
  above : Bool := false
  /-- The comparators of THR_LO and THR_HI: the input is outside, within their hysteresis (R433). -/
  lo    : Bool := false
  hi    : Bool := false
  agree : Nat := 0
  deriving DecidableEq, Repr

/-! ### Chandler and lamp chain -/

structure Lamp where
  /-- The fading level, and the levels the fade runs between. -/
  level  : Nat := 0
  from_  : Nat := 0
  to_    : Nat := 0
  duty   : Nat := 0
  sample : Option Nat := none
  vlamp  : Nat := 0
  opens  : Nat := 0
  shorts : Nat := 0
  lit    : Bool := false
  /-- The open window of the present PWM period, and the open time still to be taken from the later periods of this 100 ms
  interval, in tenths of a duty code (R390, R393). -/
  window : Nat := 0
  owed   : Nat := 0
  /-- The inserted 3 us opening (R390): it falls in the present period; it has been made in this interval. -/
  probe  : Bool := false
  probed : Bool := false
  /-- A headroom loss in a flash has counted this interval as the first of two (R391). -/
  counted : Bool := false
  deriving DecidableEq, Repr

structure Str where
  lamps   : Vector Lamp 8 := Vector.replicate 8 {}
  /-- 10 ms steps of the fade made and in all. -/
  fadeAt  : Nat := 0
  fadeLen : Nat := 0
  fading  : Bool := false
  /-- The string takes part in the flash in progress. -/
  inFlash : Bool := false
  /-- The derated FLASH_CURRENT and FLASH_MAX of the flash in progress, as they were at its start. -/
  flashCode : Nat := 0
  flashUs : Nat := 0
  /-- Until this running time (`MTime.total`) the hold-off of R379 refuses a flash. -/
  holdoff : Nat := 0
  headroom : Bool := false
  bypass  : BitVec 8 := 0#8
  suspect : BitVec 9 := 0#9
  broken  : BitVec 9 := 0#9
  tapBusy : Bool := false
  /-- The tap under test. -/
  tapAt   : Nat := 0
  /-- Suspect taps whose test follows the one in progress (R392). -/
  tapWait : BitVec 9 := 0#9
  deriving DecidableEq, Repr

structure Chand where
  str    : Vector Str 4 := Vector.replicate 4 {}
  /-- Groups R, G, B watched and ended in the flash in progress. -/
  watch  : BitVec 3 := 0#3
  ended  : BitVec 3 := 0#3
  /-- A flash overlapped the present photodiode window. -/
  dirty  : Bool := false
  /-- The running time at the start of the flash in progress, as told (R384). -/
  began  : Nat := 0
  /-- The latest temperature of each NTC. -/
  ntc0   : Option Int := none
  ntc1   : Option Int := none
  cutoff : Bool := false
  /-- NTC0 and NTC1 selected and without a result for 1 s (R388). -/
  stale  : BitVec 2 := 0#2
  deriving DecidableEq, Repr

structure LChain where
  /-- The last image sampled: BITS0 to BITS15 (R397). -/
  image  : List Word := List.replicate 16 0#16
  /-- The frame within the cycle of 15, and the frames of this cycle in which each group was sent (R398). -/
  frame  : Nat := 0
  shown  : Vector Nat 32 := Vector.replicate 32 0
  levels : Vector Nat 32 := Vector.replicate 32 15
  /-- The bits of the last frame, bit 0 first. -/
  sent   : List Bool := []
  /-- us into the 1 Hz and the 4 Hz blink period (R398). -/
  ph1    : Nat := 0
  ph4    : Nat := 0
  therm  : Bool := false
  deriving DecidableEq, Repr

/-! ### Twin -/

/-- Twin states, with their codes (R405). -/
inductive TState where
  | solo | seeking | handshake | mirroring | refused | lost
  deriving DecidableEq, Repr

/-- A frame the twin has sent (R408). -/
inductive TFrame where
  | hello (h : Hello)
  | mirror (m : Mirror)
  | leave (serial : Wide) (flags : Byte := 0#8)
  deriving DecidableEq, Repr

structure Twin where
  st        : TState := .solo
  elder     : Bool := false
  held      : Bool := false
  inherited : Bool := false
  linkUp    : Bool := false
  peerSafe  : Bool := false
  /-- No pairing since bring-up (R418). -/
  fresh     : Bool := true
  peerFresh : Bool := false
  seen      : Option Wide := none
  /-- A HELLO met both conditions of R406: MIRRORING begins at the next frame boundary. -/
  ready     : Bool := false
  last      : Option Mirror := none
  /-- MT_US at the latest valid frame of any type (R417). -/
  lastUs    : Wide := 0#32
  /-- The held orphan: 78 words (R417). -/
  orphan    : List Word := []
  offer     : Option Nat := none
  offering  : Bool := false
  /-- The orphan has gone out in this pairing, and no answer to it has come. -/
  asked     : Bool := false
  rx        : List (List Word) := []
  load      : Bool := false
  ack       : Bool := false
  decline   : Bool := false
  resetCmd  : Bool := false
  leaves    : Nat := 0
  seq       : Nat := 0
  sent      : Option TFrame := none
  inhLost   : BitVec 10 := 0#10
  inhIdx    : Vector (Option Wide) 10 := Vector.replicate 10 none
  deriving DecidableEq, Repr

/-! ### The whole block -/

structure State where
  part    : Part := .ln4710
  serial  : Wide := 0#32
  /-- The register file, by 256 * page + offset. -/
  regs    : Store := []
  /-- Low words written and waiting for their high word (R79). -/
  lows    : Store := []
  unlock  : BitVec 64 := 0#64
  unitRst : BitVec 64 := 0#64
  /-- The word the last register read returned. The MODEL's own. -/
  rdata   : Word := 0#16
  /-- The counter of free values. The MODEL's own. -/
  free    : Nat := 0
  spi     : Spi := {}
  pins    : Pins := {}
  sup     : Supply := {}
  pwr     : Power := {}
  clk     : Clock := {}
  fab     : Fabric := {}
  dma     : Dma := {}
  mem     : Mem := {}
  nvs     : Nvs := {}
  time    : MTime := {}
  /-- The STOP_N latch (R195). -/
  stopN   : Bool := false
  axes    : Vector Axis 10 := Vector.replicate 10 {}
  ledgers : Vector Ledger 10 := Vector.replicate 10 {}
  brgs    : Vector Bridge 10 := Vector.replicate 10 {}
  dies    : Vector DieSt 5 := Vector.replicate 5 {}
  /-- The axes that host software has enabled since the last device reset: their outputs have left the reset state (R36). -/
  live    : BitVec 10 := 0#10
  table   : Table := {}
  gate    : Gate := {}
  encs    : Vector Enc 4 := Vector.replicate 4 {}
  trigs   : Vector Trig 4 := Vector.replicate 4 {}
  emus    : Vector Emu 2 := Vector.replicate 2 {}
  tmr     : Timers := {}
  cnvs    : Vector Cnv 3 := Vector.replicate 3 {}
  assay   : Assay := {}
  wmons   : Vector Wmon 8 := Vector.replicate 8 {}
  chand   : Chand := {}
  lchain  : LChain := {}
  twin    : Twin := {}
  /-- The commands that are waiting, first in, first out. -/
  pending : List Instr := []
  deriving DecidableEq, Repr

/-- The block right after a power-on reset: every field at its default, bring-up step 1 in progress, the queue empty.
DEV.CTRL and the other registers read their Reset values because the register file lists nothing. -/
def State.reset : State := {}

end Sys2Proof.Machine
end

