-- ==== Sys2Proof/Machine/RegMap.lean ====
section
/-! DEFINITION. The register map: for every page, which bits of each register a write may set (RW and RWS), set when
unlocked (RWL) or clear (W1C), the ranges outside which a field's new value is ignored, and the Reset value
(R17, R18, R21 and the register tables of the chapters). A register that this map does not list has no bit a write can
change and reads 0 after reset. -/

namespace Sys2Proof.Machine

/-- A field whose new value is ignored outside `min` to `max`. -/
structure FieldRange where
  lsb : Nat
  width : Nat
  min : Nat
  max : Nat
  deriving DecidableEq, Repr

/-- One register of the map. -/
structure RegDef where
  off : Nat
  rw  : Word
  rwl : Word
  w1c : Word
  rst : Word
  rng : List FieldRange
  deriving DecidableEq, Repr

/-- DEV (R109). -/
def devRegs : List RegDef := [
  ⟨0x0D, 0x0000#16, 0x0003#16, 0x0000#16, 0x0000#16, []⟩,
  ⟨0x0E, 0x003F#16, 0x0000#16, 0x0000#16, 0x0003#16, []⟩,
  ⟨0x11, 0xFFFF#16, 0x0000#16, 0x0000#16, 0x0000#16, []⟩,
  ⟨0x12, 0xFFFF#16, 0x0000#16, 0x0000#16, 0x0000#16, []⟩,
  ⟨0x13, 0x0000#16, 0x0000#16, 0x0000#16, 0x0001#16, []⟩,
  ⟨0x14, 0x0000#16, 0x0003#16, 0x0000#16, 0x0000#16, []⟩,
  ⟨0x16, 0x03FF#16, 0x0000#16, 0x0000#16, 0x0000#16, [⟨0, 10, 0, 1000⟩]⟩,
  ⟨0x1A, 0x0000#16, 0x003F#16, 0x0000#16, 0x003F#16, []⟩,
  ⟨0x20, 0xFFFF#16, 0x0000#16, 0x0000#16, 0x0000#16, []⟩,
  ⟨0x21, 0xFFFF#16, 0x0000#16, 0x0000#16, 0x0000#16, []⟩,
  ⟨0x22, 0xFFFF#16, 0x0000#16, 0x0000#16, 0x0000#16, []⟩,
  ⟨0x23, 0xFFFF#16, 0x0000#16, 0x0000#16, 0x0000#16, []⟩]

/-- SUPPLY (R111). -/
def supplyRegs : List RegDef := [
  ⟨0x08, 0x0000#16, 0x03FF#16, 0x0000#16, 0x021C#16, []⟩,
  ⟨0x09, 0x0000#16, 0x03FF#16, 0x0000#16, 0x0208#16, []⟩,
  ⟨0x0A, 0x0000#16, 0x03FF#16, 0x0000#16, 0x0244#16, []⟩]

/-- EVT (R131). -/
def evtRegs : List RegDef := [
  ⟨0x10, 0x000F#16, 0x0000#16, 0x0000#16, 0x0000#16, []⟩]

/-- FABRIC (R132); SRC0 and DELAY0 stand for all lines. -/
def fabricRegs : List RegDef := [
  ⟨0x08, 0x007F#16, 0x0000#16, 0x0000#16, 0x0000#16, [⟨0, 7, 0, 48⟩]⟩,
  ⟨0x18, 0xFFFF#16, 0x0000#16, 0x0000#16, 0x0000#16, []⟩,
  ⟨0x29, 0x0000#16, 0x0000#16, 0xFFFF#16, 0x0000#16, []⟩]

/-- DMA (R133); channel 0 stands for all. -/
def dmaRegs : List RegDef := [
  ⟨0x10, 0x00FF#16, 0x0000#16, 0x0000#16, 0x0000#16, []⟩,
  ⟨0x12, 0xFFFF#16, 0x0000#16, 0x0000#16, 0x0000#16, []⟩,
  ⟨0x13, 0xFFFF#16, 0x0000#16, 0x0000#16, 0x0000#16, []⟩]

/-- MEM (R157). -/
def memRegs : List RegDef := [
  ⟨0x08, 0xFFFF#16, 0x0000#16, 0x0000#16, 0x0000#16, []⟩,
  ⟨0x09, 0xFFFF#16, 0x0000#16, 0x0000#16, 0x0000#16, []⟩,
  ⟨0x0A, 0xFFFF#16, 0x0000#16, 0x0000#16, 0x0000#16, []⟩,
  ⟨0x0B, 0x0001#16, 0x0000#16, 0x0000#16, 0x0001#16, []⟩,
  ⟨0x0C, 0x0001#16, 0x0000#16, 0x0000#16, 0x0001#16, []⟩,
  ⟨0x0D, 0xFFFF#16, 0x0000#16, 0x0000#16, 0x017D#16, [⟨0, 16, 16, 65535⟩]⟩]

/-- NVS (R158). -/
def nvsRegs : List RegDef := [
  ⟨0x08, 0x01FF#16, 0x0000#16, 0x0000#16, 0x0000#16, []⟩,
  ⟨0x09, 0xFFFF#16, 0x0000#16, 0x0000#16, 0x0000#16, []⟩,
  ⟨0x0A, 0xFFFF#16, 0x0000#16, 0x0000#16, 0x0000#16, []⟩,
  ⟨0x0B, 0xFFFF#16, 0x0000#16, 0x0000#16, 0x0000#16, []⟩]

/-- TIME (R175). -/
def timeRegs : List RegDef := [
  ⟨0x10, 0xFFFF#16, 0x0000#16, 0x0000#16, 0x0000#16, []⟩,
  ⟨0x11, 0xFFFF#16, 0x0000#16, 0x0000#16, 0x0000#16, []⟩,
  ⟨0x12, 0xFFFF#16, 0x0000#16, 0x0000#16, 0x0000#16, []⟩,
  ⟨0x13, 0xFFFF#16, 0x0000#16, 0x0000#16, 0x0000#16, []⟩,
  ⟨0x14, 0xFFFF#16, 0x0000#16, 0x0000#16, 0x0000#16, []⟩,
  ⟨0x15, 0xFFFF#16, 0x0000#16, 0x0000#16, 0x0000#16, []⟩,
  ⟨0x16, 0xFFFF#16, 0x0000#16, 0x0000#16, 0x0000#16, []⟩,
  ⟨0x17, 0xFFFF#16, 0x0000#16, 0x0000#16, 0x0000#16, []⟩,
  ⟨0x18, 0x0001#16, 0x0000#16, 0x0000#16, 0x0000#16, []⟩,
  ⟨0x19, 0x007F#16, 0x0000#16, 0x0000#16, 0x000A#16, [⟨0, 7, 1, 100⟩]⟩,
  ⟨0x1A, 0x03FF#16, 0x0000#16, 0x0000#16, 0x0064#16, [⟨0, 10, 5, 1000⟩]⟩,
  ⟨0x1B, 0x000F#16, 0x0000#16, 0x0000#16, 0x0003#16, []⟩]

/-- AXISn (R202, R266). -/
def axisRegs1 : List RegDef := [
  ⟨0x08, 0x0007#16, 0x0000#16, 0x0000#16, 0x0000#16, []⟩,
  ⟨0x0B, 0x01FF#16, 0x0000#16, 0x0000#16, 0x0005#16, []⟩,
  ⟨0x12, 0xFFFF#16, 0x0000#16, 0x0000#16, 0x0000#16, []⟩,
  ⟨0x13, 0xFFFF#16, 0x0000#16, 0x0000#16, 0x0000#16, []⟩,
  ⟨0x1A, 0xFFFF#16, 0x0000#16, 0x0000#16, 0x0000#16, []⟩,
  ⟨0x1B, 0xFFFF#16, 0x0000#16, 0x0000#16, 0x0000#16, []⟩,
  ⟨0x1C, 0xFFFF#16, 0x0000#16, 0x0000#16, 0x0001#16, []⟩,
  ⟨0x1D, 0xFFFF#16, 0x0000#16, 0x0000#16, 0x0000#16, []⟩,
  ⟨0x1E, 0xFFFF#16, 0x0000#16, 0x0000#16, 0x0020#16, []⟩,
  ⟨0x1F, 0xFFFF#16, 0x0000#16, 0x0000#16, 0xC49C#16, []⟩,
  ⟨0x20, 0xFFFF#16, 0x0000#16, 0x0000#16, 0x0020#16, []⟩,
  ⟨0x21, 0xFFFF#16, 0x0000#16, 0x0000#16, 0xC49C#16, []⟩,
  ⟨0x22, 0xFFFF#16, 0x0000#16, 0x0000#16, 0x0000#16, []⟩,
  ⟨0x23, 0xFFFF#16, 0x0000#16, 0x0000#16, 0x0000#16, []⟩,
  ⟨0x24, 0xFFFF#16, 0x0000#16, 0x0000#16, 0x0000#16, []⟩,
  ⟨0x25, 0xFFFF#16, 0x0000#16, 0x0000#16, 0x0000#16, []⟩]

/-- AXISn (R202, R266). -/
def axisRegs2 : List RegDef := [
  ⟨0x26, 0xFFFF#16, 0x0000#16, 0x0000#16, 0x0020#16, []⟩,
  ⟨0x27, 0xFFFF#16, 0x0000#16, 0x0000#16, 0xC49C#16, []⟩,
  ⟨0x28, 0xFFFF#16, 0x0000#16, 0x0000#16, 0x0000#16, []⟩,
  ⟨0x29, 0xFFFF#16, 0x0000#16, 0x0000#16, 0x0000#16, []⟩,
  ⟨0x2A, 0xFFFF#16, 0x0000#16, 0x0000#16, 0x8000#16, []⟩,
  ⟨0x2B, 0xFFFF#16, 0x0000#16, 0x0000#16, 0x0000#16, []⟩,
  ⟨0x2C, 0xFFFF#16, 0x0000#16, 0x0000#16, 0x7FFF#16, []⟩,
  ⟨0x2D, 0xFFFF#16, 0x0000#16, 0x0000#16, 0xFFFF#16, []⟩,
  ⟨0x31, 0x0007#16, 0x0000#16, 0x0000#16, 0x0000#16, []⟩,
  ⟨0x32, 0x07FF#16, 0x0000#16, 0x0000#16, 0x0001#16, [⟨0, 11, 1, 1024⟩]⟩,
  ⟨0x33, 0xFFFF#16, 0x0000#16, 0x0000#16, 0x0001#16, []⟩,
  ⟨0x34, 0xFFFF#16, 0x0000#16, 0x0000#16, 0x0001#16, [⟨0, 16, 1, 65535⟩]⟩,
  ⟨0x35, 0x0007#16, 0x0000#16, 0x0000#16, 0x0000#16, []⟩,
  ⟨0x36, 0xFFFF#16, 0x0000#16, 0x0000#16, 0x0001#16, []⟩,
  ⟨0x37, 0xFFFF#16, 0x0000#16, 0x0000#16, 0x0001#16, [⟨0, 16, 1, 65535⟩]⟩,
  ⟨0x38, 0xFFFF#16, 0x0000#16, 0x0000#16, 0x0000#16, []⟩]

/-- AXISn (R202, R266). -/
def axisRegs3 : List RegDef := [
  ⟨0x39, 0xFFFF#16, 0x0000#16, 0x0000#16, 0x0000#16, []⟩,
  ⟨0x3C, 0xFFFF#16, 0x0000#16, 0x0000#16, 0x0000#16, []⟩,
  ⟨0x3D, 0xFFFF#16, 0x0000#16, 0x0000#16, 0x0064#16, []⟩,
  ⟨0x3E, 0xFFFF#16, 0x0000#16, 0x0000#16, 0x0040#16, []⟩,
  ⟨0x3F, 0xFFFF#16, 0x0000#16, 0x0000#16, 0x1000#16, []⟩,
  ⟨0x40, 0x0F7F#16, 0x0000#16, 0x0000#16, 0x0826#16, [⟨1, 4, 1, 15⟩, ⟨8, 4, 1, 15⟩]⟩,
  ⟨0x41, 0xFFFF#16, 0x0000#16, 0x0000#16, 0x00C8#16, [⟨0, 16, 1, 20000⟩]⟩,
  ⟨0x42, 0x07FF#16, 0x0000#16, 0x0000#16, 0x0355#16, [⟨0, 11, 1, 2047⟩]⟩,
  ⟨0x48, 0xFFFF#16, 0x0000#16, 0x0000#16, 0x0000#16, []⟩,
  ⟨0x50, 0x077F#16, 0x0000#16, 0x0000#16, 0x0000#16, [⟨8, 3, 0, 4⟩]⟩,
  ⟨0x51, 0x03FF#16, 0x0000#16, 0x0000#16, 0x0200#16, [⟨0, 10, 64, 1023⟩]⟩,
  ⟨0x52, 0xFFFF#16, 0x0000#16, 0x0000#16, 0x03E8#16, [⟨0, 16, 500, 5000⟩]⟩]

/-- AXISn (R202, R266). -/
def axisRegs : List RegDef := axisRegs1 ++ axisRegs2 ++ axisRegs3

/-- LEDG (R228); BAR_MASK0 and axis 0 stand for all. -/
def ledgRegs : List RegDef := [
  ⟨0x10, 0x03FF#16, 0x0000#16, 0x0000#16, 0x03FF#16, []⟩,
  ⟨0x20, 0xFFFF#16, 0x0000#16, 0x0000#16, 0x0000#16, []⟩,
  ⟨0x21, 0xFFFF#16, 0x0000#16, 0x0000#16, 0x0000#16, []⟩,
  ⟨0x22, 0x1FFF#16, 0x0000#16, 0x0000#16, 0x0100#16, []⟩,
  ⟨0x23, 0x0FFF#16, 0x0000#16, 0x0000#16, 0x0000#16, []⟩,
  ⟨0x24, 0x0FFF#16, 0x0000#16, 0x0000#16, 0x0000#16, []⟩,
  ⟨0x27, 0x0001#16, 0x0000#16, 0x0000#16, 0x0001#16, []⟩,
  ⟨0x28, 0x0FFF#16, 0x0000#16, 0x0000#16, 0x0000#16, []⟩,
  ⟨0x2B, 0x0000#16, 0x0000#16, 0x1FFF#16, 0x0000#16, []⟩,
  ⟨0x2E, 0xFFFF#16, 0x0000#16, 0x0000#16, 0x0000#16, []⟩]

/-- BRGn, regulation (R249). -/
def brgRegs1 : List RegDef := [
  ⟨0x08, 0x03FF#16, 0x0000#16, 0x0000#16, 0x0100#16, []⟩,
  ⟨0x09, 0x03FF#16, 0x0000#16, 0x0000#16, 0x0100#16, []⟩,
  ⟨0x0A, 0x03FF#16, 0x0000#16, 0x0000#16, 0x0080#16, []⟩,
  ⟨0x0B, 0xFFFF#16, 0x0000#16, 0x0000#16, 0x00C8#16, []⟩,
  ⟨0x0C, 0x00FF#16, 0x0000#16, 0x0000#16, 0x0000#16, []⟩,
  ⟨0x0D, 0x03FF#16, 0x0000#16, 0x0000#16, 0x03FF#16, []⟩,
  ⟨0x0E, 0x0007#16, 0x0000#16, 0x0000#16, 0x0000#16, []⟩,
  ⟨0x10, 0x0007#16, 0x0000#16, 0x0000#16, 0x0000#16, []⟩,
  ⟨0x11, 0x00FF#16, 0x0000#16, 0x0000#16, 0x0020#16, []⟩,
  ⟨0x12, 0x03FF#16, 0x0000#16, 0x0000#16, 0x0064#16, []⟩,
  ⟨0x13, 0x007F#16, 0x0000#16, 0x0000#16, 0x000F#16, []⟩,
  ⟨0x14, 0x007F#16, 0x0000#16, 0x0000#16, 0x0064#16, []⟩,
  ⟨0x15, 0x003F#16, 0x0000#16, 0x0000#16, 0x0019#16, []⟩,
  ⟨0x16, 0x007F#16, 0x0000#16, 0x0000#16, 0x001E#16, []⟩,
  ⟨0x18, 0xFFFF#16, 0x0000#16, 0x0000#16, 0x07D0#16, []⟩,
  ⟨0x19, 0x03FF#16, 0x0000#16, 0x0000#16, 0x00F0#16, []⟩]

/-- BRGn, regulation (R249). -/
def brgRegs2 : List RegDef := [
  ⟨0x1A, 0x000F#16, 0x0000#16, 0x0000#16, 0x0004#16, []⟩,
  ⟨0x25, 0x0007#16, 0x0000#16, 0x0000#16, 0x0000#16, []⟩]

/-- BRGn, regulation (R249). -/
def brgRegs : List RegDef := brgRegs1 ++ brgRegs2

/-- BRGn, protection (R293, R284). -/
def brgProtRegs : List RegDef := [
  ⟨0x41, 0x0000#16, 0xFFFF#16, 0x0000#16, 0xAAAA#16, []⟩,
  ⟨0x42, 0x0000#16, 0x001F#16, 0x0000#16, 0x0005#16, [⟨0, 5, 1, 31⟩]⟩,
  ⟨0x43, 0x0000#16, 0x001F#16, 0x0000#16, 0x0008#16, [⟨0, 5, 2, 16⟩]⟩,
  ⟨0x44, 0x0000#16, 0x007F#16, 0x0000#16, 0x0014#16, [⟨0, 7, 5, 80⟩]⟩,
  ⟨0x45, 0x0000#16, 0x007F#16, 0x0000#16, 0x0014#16, [⟨0, 7, 4, 100⟩]⟩,
  ⟨0x46, 0x0001#16, 0x0000#16, 0x0000#16, 0x0001#16, []⟩,
  ⟨0x48, 0x0000#16, 0x001F#16, 0x0000#16, 0x0007#16, [⟨1, 4, 1, 15⟩]⟩,
  ⟨0x49, 0x0000#16, 0x03FF#16, 0x0000#16, 0x0064#16, [⟨0, 10, 1, 1000⟩]⟩,
  ⟨0x4A, 0x0000#16, 0x001F#16, 0x0000#16, 0x0006#16, [⟨1, 4, 1, 15⟩]⟩,
  ⟨0x4B, 0x0000#16, 0x03FF#16, 0x0000#16, 0x000A#16, [⟨0, 10, 1, 1000⟩]⟩,
  ⟨0x4C, 0x0000#16, 0x001F#16, 0x0000#16, 0x0006#16, [⟨1, 4, 1, 15⟩]⟩,
  ⟨0x4D, 0x0000#16, 0x03FF#16, 0x0000#16, 0x03E8#16, [⟨0, 10, 1, 1000⟩]⟩,
  ⟨0x4E, 0x0000#16, 0x001F#16, 0x0000#16, 0x0007#16, [⟨1, 4, 1, 15⟩]⟩,
  ⟨0x4F, 0x0000#16, 0x03FF#16, 0x0000#16, 0x0064#16, [⟨0, 10, 1, 1000⟩]⟩,
  ⟨0x50, 0x0000#16, 0x001F#16, 0x0000#16, 0x001E#16, [⟨1, 4, 1, 15⟩]⟩,
  ⟨0x51, 0x0000#16, 0x03FF#16, 0x0000#16, 0x000A#16, [⟨0, 10, 1, 1000⟩]⟩]

/-- TABLE (R250). -/
def tableRegs : List RegDef := [
  ⟨0x08, 0x0007#16, 0x0000#16, 0x0000#16, 0x0001#16, [⟨0, 3, 0, 4⟩]⟩,
  ⟨0x09, 0x03FF#16, 0x0000#16, 0x0000#16, 0x0000#16, []⟩,
  ⟨0x0A, 0xFFFF#16, 0x0000#16, 0x0000#16, 0x0000#16, []⟩]

/-- GATE (R308); COMM1 stands for COMM1 to COMM6. -/
def gateRegs1 : List RegDef := [
  ⟨0x0A, 0x001F#16, 0x0000#16, 0x0000#16, 0x0015#16, []⟩,
  ⟨0x0B, 0x003F#16, 0x0000#16, 0x0000#16, 0x0014#16, [⟨0, 6, 8, 50⟩]⟩,
  ⟨0x0C, 0x0000#16, 0x01FF#16, 0x0000#16, 0x0028#16, [⟨0, 9, 10, 400⟩]⟩,
  ⟨0x0D, 0x0FFF#16, 0x0000#16, 0x0000#16, 0x0000#16, []⟩,
  ⟨0x0E, 0x0FFF#16, 0x0000#16, 0x0000#16, 0x0E66#16, []⟩,
  ⟨0x11, 0x073F#16, 0x0000#16, 0x0000#16, 0x0000#16, []⟩,
  ⟨0x18, 0x00FF#16, 0x0000#16, 0x0000#16, 0x0064#16, [⟨0, 8, 1, 255⟩]⟩,
  ⟨0x1A, 0x03FF#16, 0x0000#16, 0x0000#16, 0x0064#16, [⟨0, 10, 1, 1000⟩]⟩,
  ⟨0x20, 0x003F#16, 0x0000#16, 0x0000#16, 0x0008#16, []⟩,
  ⟨0x21, 0x001F#16, 0x0000#16, 0x0000#16, 0x0004#16, []⟩,
  ⟨0x22, 0x001F#16, 0x0000#16, 0x0000#16, 0x0004#16, []⟩,
  ⟨0x23, 0x01FF#16, 0x0000#16, 0x0000#16, 0x003C#16, []⟩,
  ⟨0x24, 0x1FFF#16, 0x0000#16, 0x0000#16, 0x01F4#16, [⟨0, 13, 50, 5000⟩]⟩,
  ⟨0x25, 0x01FF#16, 0x0000#16, 0x0000#16, 0x0078#16, [⟨0, 9, 40, 400⟩]⟩,
  ⟨0x26, 0x03FF#16, 0x0000#16, 0x0000#16, 0x0014#16, [⟨0, 10, 1, 1000⟩]⟩,
  ⟨0x28, 0x0003#16, 0x0000#16, 0x0000#16, 0x0001#16, []⟩]

/-- GATE (R308); COMM1 stands for COMM1 to COMM6. -/
def gateRegs2 : List RegDef := [
  ⟨0x29, 0x03FF#16, 0x0000#16, 0x0000#16, 0x0000#16, []⟩,
  ⟨0x2B, 0xFFFF#16, 0x0000#16, 0x0000#16, 0x0000#16, []⟩,
  ⟨0x2C, 0xFFFF#16, 0x0000#16, 0x0000#16, 0x0000#16, []⟩,
  ⟨0x30, 0xFFFF#16, 0x0000#16, 0x0000#16, 0x0001#16, []⟩,
  ⟨0x31, 0xFFFF#16, 0x0000#16, 0x0000#16, 0x0000#16, []⟩,
  ⟨0x32, 0xFFFF#16, 0x0000#16, 0x0000#16, 0x0020#16, []⟩,
  ⟨0x33, 0xFFFF#16, 0x0000#16, 0x0000#16, 0xC49C#16, []⟩,
  ⟨0x34, 0xFFFF#16, 0x0000#16, 0x0000#16, 0x0000#16, []⟩,
  ⟨0x35, 0xFFFF#16, 0x0000#16, 0x0000#16, 0x0000#16, []⟩,
  ⟨0x36, 0xFFFF#16, 0x0000#16, 0x0000#16, 0x0000#16, []⟩,
  ⟨0x37, 0xFFFF#16, 0x0000#16, 0x0000#16, 0x0000#16, []⟩,
  ⟨0x38, 0xFFFF#16, 0x0000#16, 0x0000#16, 0x0020#16, []⟩,
  ⟨0x39, 0xFFFF#16, 0x0000#16, 0x0000#16, 0xC49C#16, []⟩,
  ⟨0x3A, 0xFFFF#16, 0x0000#16, 0x0000#16, 0x0000#16, []⟩,
  ⟨0x3B, 0xFFFF#16, 0x0000#16, 0x0000#16, 0x0000#16, []⟩]

/-- GATE (R308); COMM1 stands for COMM1 to COMM6. -/
def gateRegs : List RegDef := gateRegs1 ++ gateRegs2

/-- GATE, protection (R294). -/
def gateProtRegs : List RegDef := [
  ⟨0x41, 0x0000#16, 0x0FFF#16, 0x0000#16, 0x0AAA#16, []⟩,
  ⟨0x42, 0x0000#16, 0x001F#16, 0x0000#16, 0x000A#16, [⟨0, 5, 1, 31⟩]⟩,
  ⟨0x43, 0x0000#16, 0x001F#16, 0x0000#16, 0x0008#16, [⟨0, 5, 2, 16⟩]⟩,
  ⟨0x44, 0x0000#16, 0x007F#16, 0x0000#16, 0x0014#16, [⟨0, 7, 5, 80⟩]⟩,
  ⟨0x46, 0x0003#16, 0x0000#16, 0x0000#16, 0x0001#16, []⟩,
  ⟨0x48, 0x0000#16, 0x001F#16, 0x0000#16, 0x0007#16, [⟨1, 4, 1, 15⟩]⟩,
  ⟨0x49, 0x0000#16, 0x03FF#16, 0x0000#16, 0x0064#16, [⟨0, 10, 1, 1000⟩]⟩,
  ⟨0x4A, 0x0000#16, 0x001F#16, 0x0000#16, 0x0006#16, [⟨1, 4, 1, 15⟩]⟩,
  ⟨0x4B, 0x0000#16, 0x03FF#16, 0x0000#16, 0x000A#16, [⟨0, 10, 1, 1000⟩]⟩,
  ⟨0x4E, 0x0000#16, 0x001F#16, 0x0000#16, 0x0007#16, [⟨1, 4, 1, 15⟩]⟩,
  ⟨0x4F, 0x0000#16, 0x03FF#16, 0x0000#16, 0x0064#16, [⟨0, 10, 1, 1000⟩]⟩,
  ⟨0x50, 0x0000#16, 0x001F#16, 0x0000#16, 0x001E#16, [⟨1, 4, 1, 15⟩]⟩,
  ⟨0x51, 0x0000#16, 0x03FF#16, 0x0000#16, 0x000A#16, [⟨0, 10, 1, 1000⟩]⟩]

/-- TALLY (R328); channel 0 and trigger 0 stand for all. -/
def tallyRegs : List RegDef := [
  ⟨0x10, 0x1FFF#16, 0x0000#16, 0x0000#16, 0x00C0#16, [⟨6, 5, 1, 31⟩]⟩,
  ⟨0x12, 0xFFFF#16, 0x0000#16, 0x0000#16, 0x0000#16, []⟩,
  ⟨0x13, 0xFFFF#16, 0x0000#16, 0x0000#16, 0x0000#16, []⟩,
  ⟨0x16, 0xFFFF#16, 0x0000#16, 0x0000#16, 0x03E8#16, [⟨0, 16, 1, 65535⟩]⟩,
  ⟨0x19, 0xFFFF#16, 0x0000#16, 0x0000#16, 0x0000#16, []⟩,
  ⟨0x1A, 0x00FF#16, 0x0000#16, 0x0000#16, 0x0004#16, []⟩,
  ⟨0x1B, 0xFFFF#16, 0x0000#16, 0x0000#16, 0x0000#16, []⟩,
  ⟨0x1C, 0x0000#16, 0x0000#16, 0x001F#16, 0x0000#16, []⟩,
  ⟨0x50, 0x007F#16, 0x0000#16, 0x0000#16, 0x0000#16, []⟩,
  ⟨0x51, 0xFFFF#16, 0x0000#16, 0x0000#16, 0x0000#16, []⟩,
  ⟨0x52, 0xFFFF#16, 0x0000#16, 0x0000#16, 0x0000#16, []⟩,
  ⟨0x53, 0xFFFF#16, 0x0000#16, 0x0000#16, 0x0000#16, []⟩,
  ⟨0x54, 0xFFFF#16, 0x0000#16, 0x0000#16, 0x0000#16, []⟩,
  ⟨0x55, 0x000F#16, 0x0000#16, 0x0000#16, 0x0000#16, []⟩]

/-- EMU (R329); output 0 stands for all. -/
def emuRegs : List RegDef := [
  ⟨0x10, 0x00FF#16, 0x0000#16, 0x0000#16, 0x0000#16, []⟩,
  ⟨0x11, 0xFFFF#16, 0x0000#16, 0x0000#16, 0x0001#16, [⟨0, 16, 1, 65535⟩]⟩,
  ⟨0x12, 0xFFFF#16, 0x0000#16, 0x0000#16, 0x0001#16, [⟨0, 16, 1, 65535⟩]⟩,
  ⟨0x13, 0xFFFF#16, 0x0000#16, 0x0000#16, 0x0000#16, []⟩,
  ⟨0x14, 0xFFFF#16, 0x0000#16, 0x0000#16, 0x0000#16, []⟩,
  ⟨0x16, 0xFFFF#16, 0x0000#16, 0x0000#16, 0x0004#16, []⟩,
  ⟨0x17, 0xFFFF#16, 0x0000#16, 0x0000#16, 0x0005#16, [⟨0, 16, 5, 65535⟩]⟩]

/-- TMR (R345); timer 0 stands for all. -/
def tmrRegs : List RegDef := [
  ⟨0x10, 0x1FFF#16, 0x0000#16, 0x0000#16, 0x0020#16, []⟩,
  ⟨0x14, 0xFFFF#16, 0x0000#16, 0x0000#16, 0xFFFF#16, []⟩,
  ⟨0x15, 0xFFFF#16, 0x0000#16, 0x0000#16, 0xFFFF#16, []⟩,
  ⟨0x16, 0xFFFF#16, 0x0000#16, 0x0000#16, 0x0000#16, []⟩,
  ⟨0x17, 0xFFFF#16, 0x0000#16, 0x0000#16, 0x0000#16, []⟩,
  ⟨0x18, 0xFFFF#16, 0x0000#16, 0x0000#16, 0x0000#16, []⟩,
  ⟨0x19, 0xFFFF#16, 0x0000#16, 0x0000#16, 0x0000#16, []⟩,
  ⟨0x1C, 0x0FFF#16, 0x0000#16, 0x0000#16, 0x0000#16, []⟩,
  ⟨0x1D, 0x0FFF#16, 0x0000#16, 0x0000#16, 0x0000#16, []⟩,
  ⟨0x1E, 0x0000#16, 0x0000#16, 0x001F#16, 0x0000#16, []⟩,
  ⟨0x1F, 0x001F#16, 0x0000#16, 0x0000#16, 0x0000#16, []⟩]

/-- CNVA, CNVB, CNVC (R373); entry 0 and slot 0 stand for all. -/
def cnvRegs : List RegDef := [
  ⟨0x08, 0x00F7#16, 0x0000#16, 0x0000#16, 0x0002#16, []⟩,
  ⟨0x0A, 0x0FFF#16, 0x0000#16, 0x0000#16, 0x0000#16, []⟩,
  ⟨0x0B, 0x7FFF#16, 0x0000#16, 0x0000#16, 0x0000#16, []⟩,
  ⟨0x0C, 0x07FF#16, 0x0000#16, 0x0000#16, 0x0000#16, []⟩,
  ⟨0x0F, 0x0003#16, 0x0000#16, 0x0000#16, 0x0000#16, []⟩,
  ⟨0x11, 0x0000#16, 0x0000#16, 0xFFFF#16, 0x0000#16, []⟩,
  ⟨0x12, 0x007F#16, 0x0000#16, 0x0000#16, 0x0032#16, [⟨0, 7, 10, 100⟩]⟩,
  ⟨0x20, 0x7FFF#16, 0x0000#16, 0x0000#16, 0x0000#16, []⟩,
  ⟨0x21, 0x07FF#16, 0x0000#16, 0x0000#16, 0x0000#16, []⟩,
  ⟨0x60, 0xFFFF#16, 0x0000#16, 0x0000#16, 0x0000#16, []⟩,
  ⟨0x61, 0xFFFF#16, 0x0000#16, 0x0000#16, 0xFFFF#16, []⟩,
  ⟨0x80, 0xFFFF#16, 0x0000#16, 0x0000#16, 0x0000#16, []⟩,
  ⟨0x81, 0xFFFF#16, 0x0000#16, 0x0000#16, 0x0000#16, []⟩]

/-- ASSAY (R374). -/
def assayRegs : List RegDef := [
  ⟨0x08, 0x07FF#16, 0x0000#16, 0x0000#16, 0x0700#16, []⟩,
  ⟨0x0A, 0xFFFF#16, 0x0000#16, 0x0000#16, 0x01F4#16, []⟩,
  ⟨0x0B, 0xFFFF#16, 0x0000#16, 0x0000#16, 0x1388#16, []⟩,
  ⟨0x0C, 0xFFFF#16, 0x0000#16, 0x0000#16, 0x03E8#16, []⟩]

/-- WMON (R375); monitor 0 stands for all. -/
def wmonRegs : List RegDef := [
  ⟨0x08, 0x00FF#16, 0x0000#16, 0x0000#16, 0x0000#16, []⟩,
  ⟨0x09, 0x00FF#16, 0x0000#16, 0x0000#16, 0x0000#16, []⟩,
  ⟨0x0A, 0x03FF#16, 0x0000#16, 0x0000#16, 0x03E8#16, [⟨0, 10, 1, 1000⟩]⟩,
  ⟨0x0B, 0x00FF#16, 0x0000#16, 0x0000#16, 0x0000#16, []⟩,
  ⟨0x0C, 0x001F#16, 0x0000#16, 0x0000#16, 0x0000#16, []⟩,
  ⟨0x0D, 0xFFFF#16, 0x0000#16, 0x0000#16, 0x0000#16, []⟩,
  ⟨0x10, 0x03FF#16, 0x0000#16, 0x0000#16, 0x0000#16, []⟩,
  ⟨0x11, 0x03FF#16, 0x0000#16, 0x0000#16, 0x03FF#16, []⟩]

/-- CHAND (R401); string 0, lamp 0 stand for all. -/
def chandRegs1 : List RegDef := [
  ⟨0x0C, 0xFFFF#16, 0x0000#16, 0x0000#16, 0x03E8#16, [⟨0, 16, 1, 65535⟩]⟩,
  ⟨0x0D, 0xFFFF#16, 0x0000#16, 0x0000#16, 0x03E8#16, [⟨0, 16, 1, 65535⟩]⟩,
  ⟨0x0E, 0xFFFF#16, 0x0000#16, 0x0000#16, 0x03E8#16, [⟨0, 16, 1, 65535⟩]⟩,
  ⟨0x15, 0xFFFF#16, 0x0000#16, 0x0000#16, 0x0000#16, []⟩,
  ⟨0x16, 0xFFFF#16, 0x0000#16, 0x0000#16, 0x0000#16, []⟩,
  ⟨0x17, 0xFFFF#16, 0x0000#16, 0x0000#16, 0x0000#16, []⟩,
  ⟨0x1B, 0x0000#16, 0x0000#16, 0x0000#16, 0x8000#16, []⟩,
  ⟨0x1C, 0x0000#16, 0x0000#16, 0x0000#16, 0x8000#16, []⟩,
  ⟨0x1D, 0x0000#16, 0x0000#16, 0x0000#16, 0x8000#16, []⟩,
  ⟨0x1E, 0xFF07#16, 0x0000#16, 0x0000#16, 0x1000#16, [⟨8, 8, 1, 255⟩]⟩,
  ⟨0x20, 0x0007#16, 0x0000#16, 0x0000#16, 0x0001#16, [⟨0, 3, 0, 4⟩]⟩,
  ⟨0x21, 0x00FF#16, 0x0000#16, 0x0000#16, 0x0046#16, [⟨0, 8, 0, 150⟩]⟩,
  ⟨0x22, 0x03FF#16, 0x0000#16, 0x0000#16, 0x0014#16, [⟨0, 10, 1, 1000⟩]⟩,
  ⟨0x23, 0x00FF#16, 0x0000#16, 0x0000#16, 0x0064#16, [⟨0, 8, 1, 160⟩]⟩,
  ⟨0x24, 0x00FF#16, 0x0000#16, 0x0000#16, 0x0064#16, [⟨0, 8, 10, 250⟩]⟩,
  ⟨0x25, 0x1FFF#16, 0x0000#16, 0x0000#16, 0x0F6E#16, [⟨0, 13, 1000, 6000⟩]⟩]

/-- CHAND (R401); string 0, lamp 0 stand for all. -/
def chandRegs2 : List RegDef := [
  ⟨0x27, 0x0000#16, 0x0000#16, 0x0000#16, 0x0400#16, []⟩,
  ⟨0x40, 0x007F#16, 0x0000#16, 0x0000#16, 0x003E#16, []⟩,
  ⟨0x41, 0x003F#16, 0x0000#16, 0x0000#16, 0x0000#16, []⟩,
  ⟨0x42, 0x03FF#16, 0x0000#16, 0x0000#16, 0x0000#16, []⟩,
  ⟨0x43, 0x03FF#16, 0x0000#16, 0x0000#16, 0x0000#16, [⟨0, 10, 0, 273⟩]⟩,
  ⟨0x44, 0x00FF#16, 0x0000#16, 0x0000#16, 0x0032#16, [⟨0, 8, 2, 200⟩]⟩,
  ⟨0x45, 0x03FF#16, 0x0000#16, 0x0000#16, 0x0000#16, [⟨0, 10, 0, 1000⟩]⟩,
  ⟨0x46, 0x00FF#16, 0x0000#16, 0x0000#16, 0x003C#16, []⟩,
  ⟨0x47, 0x00FF#16, 0x0000#16, 0x0000#16, 0x00C8#16, []⟩,
  ⟨0x48, 0x00FF#16, 0x0000#16, 0x0000#16, 0x000A#16, []⟩,
  ⟨0x4F, 0x000F#16, 0x0000#16, 0x0000#16, 0x0000#16, [⟨0, 4, 0, 8⟩]⟩,
  ⟨0x50, 0x0007#16, 0x0000#16, 0x0000#16, 0x0000#16, []⟩,
  ⟨0x58, 0x0FFF#16, 0x0000#16, 0x0000#16, 0x0000#16, []⟩]

/-- CHAND (R401); string 0, lamp 0 stand for all. -/
def chandRegs : List RegDef := chandRegs1 ++ chandRegs2

/-- LCHAIN (R402); word 0 stands for all. -/
def lchainRegs : List RegDef := [
  ⟨0x08, 0x3FFF#16, 0x0000#16, 0x0000#16, 0x1500#16, [⟨0, 9, 1, 256⟩, ⟨9, 3, 0, 5⟩]⟩,
  ⟨0x0A, 0x03FF#16, 0x0000#16, 0x0000#16, 0x0000#16, [⟨0, 10, 0, 1000⟩]⟩,
  ⟨0x10, 0xFFFF#16, 0x0000#16, 0x0000#16, 0x0000#16, []⟩,
  ⟨0x20, 0xFFFF#16, 0x0000#16, 0x0000#16, 0xFFFF#16, []⟩,
  ⟨0x28, 0xFFFF#16, 0x0000#16, 0x0000#16, 0x0000#16, []⟩]

/-- TWIN (R424). -/
def twinRegs : List RegDef := [
  ⟨0x08, 0x003F#16, 0x0000#16, 0x0000#16, 0x0015#16, []⟩,
  ⟨0x0A, 0x03FF#16, 0x0000#16, 0x0000#16, 0x0032#16, [⟨0, 10, 20, 1000⟩]⟩,
  ⟨0x0B, 0xFFFF#16, 0x0000#16, 0x0000#16, 0x0000#16, []⟩]

/-- What a page of the page index is (R82). -/
inductive PageKind where
  | dev | evt | time | mem | nvs | dma | tmr | wmon
  | cnv (i : Fin 3) | assay | tally | emu | ledg | fabric
  | axis (n : Ax) | axisGroup (mask : Nat) | brg (n : Ax) | brgGroup (mask : Nat)
  | gate | supply | chand | lchain | twin | table | reserved
  deriving DecidableEq, Repr

/-- The page index (R82, R83). Group pages carry the bit of their group, broadcast pages bit 3. -/
def pageKind (p : Nat) : PageKind :=
  if h : 0x10 ≤ p ∧ p < 0x1A then .axis ⟨p - 0x10, by omega⟩
  else if h : 0x20 ≤ p ∧ p < 0x2A then .brg ⟨p - 0x20, by omega⟩
  else match p with
    | 0x00 => .dev | 0x01 => .evt | 0x02 => .time | 0x03 => .mem | 0x04 => .nvs | 0x05 => .dma
    | 0x06 => .tmr | 0x07 => .wmon | 0x08 => .cnv 0 | 0x09 => .cnv 1 | 0x0A => .cnv 2
    | 0x0B => .assay | 0x0C => .tally | 0x0D => .emu | 0x0E => .ledg | 0x0F => .fabric
    | 0x1C => .axisGroup 1 | 0x1D => .axisGroup 2 | 0x1E => .axisGroup 4 | 0x1F => .axisGroup 8
    | 0x2C => .brgGroup 1 | 0x2D => .brgGroup 2 | 0x2E => .brgGroup 4 | 0x2F => .brgGroup 8
    | 0x30 => .gate | 0x31 => .supply | 0x32 => .chand | 0x33 => .lchain | 0x34 => .twin | 0x35 => .table
    | _ => .reserved

/-- The ID register of a page (R82, R84): unit type, instance, version 1. -/
def pageId (k : PageKind) : Word :=
  match k with
  | .dev => 0x0101#16 | .evt => 0x0201#16 | .time => 0x0301#16 | .mem => 0x0401#16 | .nvs => 0x0501#16
  | .dma => 0x0601#16 | .tmr => 0x0701#16 | .wmon => 0x0801#16
  | .cnv i => if i = 2 then 0x0A01#16 else BitVec.ofNat 16 (0x0901 + 0x10 * i.val)
  | .assay => 0x0B01#16 | .tally => 0x0C01#16 | .emu => 0x0D01#16 | .ledg => 0x0E01#16 | .fabric => 0x0F01#16
  | .axis n => BitVec.ofNat 16 (0x1001 + 0x10 * n.val)
  | .brg n => BitVec.ofNat 16 (0x2001 + 0x10 * n.val)
  | .gate => 0x3001#16 | .supply => 0x3101#16 | .chand => 0x3201#16 | .lchain => 0x3301#16
  | .twin => 0x3401#16 | .table => 0x3501#16
  | .axisGroup _ | .brgGroup _ | .reserved => 0#16

/-- The events a page defines (R84 and the EVENT rows of the chapters). -/
def eventMask (k : PageKind) : Word :=
  match k with
  | .dev => 0x00FF#16 | .supply => 0x01FF#16 | .fabric => 0xFFFF#16 | .mem => 0x001F#16 | .nvs => 0x01FF#16
  | .time => 0x0FFF#16 | .axis _ => 0xFFFF#16 | .ledg => 0x07FF#16 | .brg _ => 0xFF1F#16 | .table => 0x0007#16
  | .gate => 0xEBFF#16 | .tally => 0x01FF#16 | .emu => 0x0003#16 | .tmr => 0x00FF#16 | .cnv _ => 0x01FF#16
  | .assay => 0x0007#16 | .wmon => 0x01FF#16 | .chand => 0x3FFF#16 | .lchain => 0x0007#16 | .twin => 0x07FF#16
  | .dma => 0xFFFF#16 | .evt | .axisGroup _ | .brgGroup _ | .reserved => 0#16

/-- The bits of EVENT_ROUTE_L (`hi = false`) or EVENT_ROUTE_H that a page's defined events use (R84). -/
def routeMask (ev : Word) (hi : Bool) : Word :=
  (List.range 8).foldl (fun m i =>
    if ev.getLsbD (if hi then i + 8 else i) then m ||| (3#16 <<< (2 * i)) else m) 0#16

/-- CTRL.ENABLE reads 1 and ignores writes on these pages (R109, R111, R131, R157, R158, R175, R249, R250). -/
def alwaysEnabled (k : PageKind) : Bool :=
  match k with
  | .dev | .supply | .evt | .mem | .nvs | .time | .brg _ | .table => true
  | _ => false

/-- Where a register of a repeated block stands in the map: the offset of the block's first instance. -/
def normOffset (k : PageKind) (off : Nat) : Nat :=
  match k with
  | .fabric =>
    if 0x08 ≤ off ∧ off < 0x18 then 0x08 else if 0x18 ≤ off ∧ off < 0x28 then 0x18 else off
  | .dma => if 0x10 ≤ off ∧ off < 0x50 then 0x10 + (off - 0x10) % 8 else off
  | .ledg =>
    if 0x10 ≤ off ∧ off < 0x20 then 0x10
    else if 0x20 ≤ off ∧ off < 0xC0 then 0x20 + off % 16 else off
  | .gate => if 0x11 ≤ off ∧ off < 0x17 then 0x11 else off
  | .tally =>
    if 0x10 ≤ off ∧ off < 0x50 then 0x10 + off % 16
    else if 0x50 ≤ off ∧ off < 0x70 then 0x50 + (off - 0x50) % 8 else off
  | .emu => if 0x10 ≤ off ∧ off < 0x30 then 0x10 + off % 16 else off
  | .tmr => if 0x10 ≤ off ∧ off < 0x90 then 0x10 + off % 16 else off
  | .cnv _ =>
    if 0x20 ≤ off ∧ off < 0x40 then 0x20 + off % 2
    else if 0x60 ≤ off ∧ off < 0x80 then 0x60 + off % 2
    else if 0x80 ≤ off ∧ off < 0xA0 then 0x80 + off % 2 else off
  | .wmon => if 0x10 ≤ off ∧ off < 0x20 then 0x10 + off % 2 else off
  | .chand =>
    if 0x40 ≤ off then
      let r := (off - 0x40) % 0x30
      if r < 0x10 then 0x40 + r else if r < 0x18 then 0x50 else if r < 0x20 then 0x58 else 0xFF
    else off
  | .lchain =>
    if 0x10 ≤ off ∧ off < 0x20 then 0x10
    else if 0x20 ≤ off ∧ off < 0x28 then 0x20
    else if 0x28 ≤ off ∧ off < 0x2C then 0x28 else off
  | _ => off

/-- The registers of a page. -/
def pageRegs (k : PageKind) : List RegDef :=
  match k with
  | .dev => devRegs | .supply => supplyRegs | .evt => evtRegs | .fabric => fabricRegs | .dma => dmaRegs
  | .mem => memRegs | .nvs => nvsRegs | .time => timeRegs | .axis _ => axisRegs | .ledg => ledgRegs
  | .brg _ => brgRegs ++ brgProtRegs | .table => tableRegs | .gate => gateRegs ++ gateProtRegs
  | .tally => tallyRegs | .emu => emuRegs | .tmr => tmrRegs | .cnv _ => cnvRegs | .assay => assayRegs
  | .wmon => wmonRegs | .chand => chandRegs | .lchain => lchainRegs | .twin => twinRegs
  | .axisGroup _ | .brgGroup _ | .reserved => []

/-- The map's row for a register of a page, if a write can change one of its bits or it resets to a value other than 0. -/
def regDef (k : PageKind) (off : Nat) : Option RegDef :=
  (pageRegs k).find? (fun d => d.off == normOffset k off)

/-- The Reset value of a register (R21). Qn_BASE resets to 0x2000 * n (R228). -/
def resetWord (a : Nat) : Word :=
  let k := pageKind (a / 256)
  let off := a % 256
  match k with
  | .ledg =>
    if 0x20 ≤ off ∧ off < 0xC0 ∧ off % 16 = 1 then BitVec.ofNat 16 (0x2000 * (off / 16 - 2) % 65536)
    else if 0x20 ≤ off ∧ off < 0xC0 ∧ off % 16 = 0 then BitVec.ofNat 16 (0x2000 * (off / 16 - 2) / 65536)
    else ((regDef k off).map RegDef.rst).getD 0#16
  | _ => ((regDef k off).map RegDef.rst).getD 0#16

/-- The two offsets of a wide value that takes effect on its high word (R79, R93, R141, R182, R204, R308, R314, R321,
R331, R336): is `off` the low word of one? DEDUCED: the wide values whose chapter gives them a write side effect or says
that they are written per R79. -/
def isHeldLow (k : PageKind) (off : Nat) : Bool :=
  match k with
  | .dev => off == 0x12
  | .mem => off == 0x09
  | .axis _ => (0x1C ≤ off && off ≤ 0x2D && off % 2 == 1) || off == 0x39
  | .ledg => 0x20 ≤ off && off < 0xC0 && off % 16 == 1
  | .gate => 0x30 ≤ off && off ≤ 0x3B && off % 2 == 1
  | .tally =>
    (0x10 ≤ off && off < 0x50 && off % 16 == 3)
      || (0x50 ≤ off && off < 0x70 && ((off - 0x50) % 8 == 2 || (off - 0x50) % 8 == 4))
  | .emu => 0x10 ≤ off && off < 0x30 && off % 16 == 4
  | .tmr => 0x10 ≤ off && off < 0x90 && (off % 16 == 5 || off % 16 == 7 || off % 16 == 9)
  | _ => false

/-- A port: a burst that starts at it keeps its offset (R61, R141, R236). -/
def isPort (page off : Nat) : Bool :=
  (page == 0x03 && off == 0x0A) || (page == 0x35 && off == 0x0A)

end Sys2Proof.Machine
end

