-- ==== Sys2Proof/Machine/Ops.lean ====
section
/-! DEFINITION. The named operations over registers, memories, events, fabric and free values. Every command's meaning
is written over these. -/

namespace Sys2Proof.Machine

/-! ### Bit fields -/

/-- The field of `width` bits at `lsb`, as a number. -/
def fld (w : Word) (lsb width : Nat) : Nat := (w.toNat >>> lsb) % 2 ^ width

/-- A word with one bit set. -/
def bitWord (n : Nat) : Word := 1#16 <<< n

/-- `b` in bit `n`. -/
def flag (b : Bool) (n : Nat) : Word := if b then bitWord n else 0#16

/-- A field value placed at `lsb`. -/
def place (v lsb : Nat) : Word := BitVec.ofNat 16 (v <<< lsb)

/-- A number saturated into a register. -/
def satWord (n : Nat) : Word := BitVec.ofNat 16 (min n 0xFFFF)

/-- A counter that saturates at 0xFFFF. -/
def satInc (w : Word) : Word := if w = 0xFFFF#16 then w else w + 1#16

/-- A signed number saturated into a signed register. -/
def satInt16 (i : Int) : Word := BitVec.ofInt 16 (max (-32768) (min 32767 i))

/-- A signed number saturated into a signed wide register. -/
def satInt32 (i : Int) : Wide := BitVec.ofInt 32 (max (-2147483648) (min 2147483647 i))

/-- Division rounded to the nearest integer, halves away from zero. -/
def roundDiv (n : Int) (d : Nat) : Int :=
  if d = 0 then 0
  else if 0 ≤ n then (2 * n + d) / (2 * d) else -((2 * (-n) + d) / (2 * d))

/-- Division truncated toward zero. -/
def truncDiv (n : Int) (d : Int) : Int := Int.tdiv n d

/-- The integer square root, rounded down, by `k` bisections. -/
def isqrtGo : Nat → Nat → Nat → Nat
  | 0, _, r => r
  | k + 1, n, r => let r' := r + 2 ^ k; isqrtGo k n (if r' * r' ≤ n then r' else r)

def isqrt (n : Nat) : Nat := isqrtGo (n.log2 / 2 + 1) n 0

/-! ### Sparse stores: sorted by address, no entry equal to what an unlisted address reads as -/

namespace Store

/-- What an address reads as. -/
def get (dflt : Nat → Word) (m : Store) (a : Nat) : Word :=
  match m.find? (fun e => e.1 == a) with
  | some e => e.2
  | none => dflt a

/-- An entry put before the first entry of a higher address. -/
def insert (e : Nat × Word) : Store → Store
  | [] => [e]
  | x :: m => if e.1 < x.1 then e :: x :: m else x :: insert e m

/-- A write; writing the value an unlisted address reads as removes the entry. -/
def set (dflt : Nat → Word) (m : Store) (a : Nat) (v : Word) : Store :=
  let m' := m.filter (fun e => e.1 != a)
  if v = dflt a then m' else insert (a, v) m'

/-- Addresses strictly rise and no entry is redundant. -/
def wf (dflt : Nat → Word) (m : Store) : Bool :=
  decide (m.Pairwise (fun x y => x.1 < y.1)) && m.all (fun e => e.2 != dflt e.1)

end Store

namespace Cells

/-- The byte at an address of a memory. -/
def get (dflt : Nat → Byte) (m : List Host.Cell) (a : Nat) : Byte :=
  match m.find? (fun e => e.1 == a) with
  | some e => e.2
  | none => dflt a

def insert (e : Host.Cell) : List Host.Cell → List Host.Cell
  | [] => [e]
  | x :: m => if e.1 < x.1 then e :: x :: m else x :: insert e m

/-- A byte write that keeps the canonical form. -/
def set (dflt : Nat → Byte) (m : List Host.Cell) (a : Nat) (v : Byte) : List Host.Cell :=
  let m' := m.filter (fun e => e.1 != a)
  if v = dflt a then m' else insert (a, v) m'

end Cells

/-- The canonical form of a memory: addresses strictly rise, no entry equals what an unlisted address reads as. -/
def Memory.wf (dflt : Nat → Byte) (m : List Host.Cell) : Bool :=
  decide (m.Pairwise (fun x y => x.1 < y.1)) && m.all (fun e => e.2 != dflt e.1)

/-- An unlisted byte of SRAM reads 0x00: what the clearing of bring-up writes (R135).
DESIGN CHOICE (log entry 4) before the clearing. -/
def sramDefault (_ : Nat) : Byte := 0#8

/-- An unlisted byte of MRAM reads 0x00, factory data excepted (R145). DESIGN CHOICE (log entry 4). -/
def mramDefault (a : Nat) : Byte := if 0x110000 ≤ a ∧ a < 0x120000 then Config.factoryByte a else 0#8

/-- The word at an even byte address: the high byte lies at the lower address (R146). -/
def readWord (dflt : Nat → Byte) (m : List Host.Cell) (a : Nat) : Word :=
  Cells.get dflt m a ++ Cells.get dflt m (a + 1)

/-- A word write. -/
def writeWord (dflt : Nat → Byte) (m : List Host.Cell) (a : Nat) (v : Word) : List Host.Cell :=
  Cells.set dflt (Cells.set dflt m a (v.extractLsb' 8 8)) (a + 1) (v.extractLsb' 0 8)

/-- Successive words at successive even addresses. -/
def writeWords (dflt : Nat → Byte) : List Host.Cell → Nat → List Word → List Host.Cell
  | m, _, [] => m
  | m, a, w :: ws => writeWords dflt (writeWord dflt m a w) (a + 2) ws

def readWords (dflt : Nat → Byte) (m : List Host.Cell) (a : Nat) : Nat → List Word
  | 0 => []
  | n + 1 => readWord dflt m a :: readWords dflt m (a + 2) n

/-! ### Pages and registers -/

def devPage : Nat := 0x00
def evtPage : Nat := 0x01
def timePage : Nat := 0x02
def memPage : Nat := 0x03
def nvsPage : Nat := 0x04
def dmaPage : Nat := 0x05
def tmrPage : Nat := 0x06
def wmonPage : Nat := 0x07
def assayPage : Nat := 0x0B
def tallyPage : Nat := 0x0C
def emuPage : Nat := 0x0D
def ledgPage : Nat := 0x0E
def fabricPage : Nat := 0x0F
def gatePage : Nat := 0x30
def supplyPage : Nat := 0x31
def chandPage : Nat := 0x32
def lchainPage : Nat := 0x33
def twinPage : Nat := 0x34
def tablePage : Nat := 0x35
def axPage (n : Ax) : Nat := 0x10 + n.val
def brPage (n : Ax) : Nat := 0x20 + n.val
def cnvPage (i : Fin 3) : Nat := 0x08 + i.val
def convIdx : Conv → Fin 3
  | .cnva => 0
  | .cnvb => 1
  | .cnvc => 2

/-- The word held at a register's place of the register file. -/
def State.reg (s : State) (page off : Nat) : Word := Store.get resetWord s.regs (page * 256 + off)

/-- Put a word at a register's place, with no side effect. -/
def State.setReg (s : State) (page off : Nat) (v : Word) : State :=
  { s with regs := Store.set resetWord s.regs (page * 256 + off) v }

def State.regBit (s : State) (page off n : Nat) : Bool := (s.reg page off).getLsbD n
def State.regFld (s : State) (page off lsb width : Nat) : Nat := fld (s.reg page off) lsb width

/-- Replace a field of a register. -/
def State.setFld (s : State) (page off lsb width v : Nat) : State :=
  let m : Word := BitVec.ofNat 16 ((2 ^ width - 1) <<< lsb)
  s.setReg page off ((s.reg page off &&& ~~~m) ||| (place v lsb &&& m))

/-- A wide value: the high word at the lower offset (R14). -/
def State.wide (s : State) (page offHi : Nat) : Wide := (s.reg page offHi).wide (s.reg page (offHi + 1))

def State.setWide (s : State) (page offHi : Nat) (v : Wide) : State :=
  (s.setReg page offHi v.hi).setReg page (offHi + 1) v.lo

/-- Count one more in a saturating counter register. -/
def State.count (s : State) (page off : Nat) : State := s.setReg page off (satInc (s.reg page off))

/-- Count one more in a wrapping counter register. -/
def State.countWrap (s : State) (page off : Nat) : State := s.setReg page off (s.reg page off + 1#16)

/-- Set event `n` of a page, whatever EVENT_EN holds (R68). A clear in its FBUS cycle comes before it (R19, log entry 103). -/
def State.event (s : State) (page n : Nat) : State := s.setReg page 0x03 (s.reg page 0x03 ||| bitWord n)

/-- Set event `n` when `c` holds. -/
def State.eventIf (s : State) (c : Bool) (page n : Nat) : State := if c then s.event page n else s

/-- CTRL.ENABLE of a page (R66, R84). -/
def State.enabled (s : State) (page : Nat) : Bool := alwaysEnabled (pageKind page) || s.regBit page 0x01 0

/-- Return the registers of a page at the offsets that `keep` does not name, 0x01 to 0xFF, to their Reset values,
and forget their pending low words (R67). -/
def State.resetPage (s : State) (page : Nat) (keep : Nat → Bool) : State :=
  let out := fun (e : Nat × Word) => e.1 / 256 != page || keep (e.1 % 256)
  { s with regs := s.regs.filter out, lows := s.lows.filter out }

/-! ### Writes by access code (R18) -/

/-- A word written to a register: RW and RWS bits take the value, RWL bits only when unlocked, W1C bits written 1 clear;
a field whose new value lies outside its range keeps its value. The Bool tells that a field did so. -/
def mergeWord (d : RegDef) (old v : Word) (unl : Bool) : Word × Bool :=
  let m := d.rw ||| (if unl then d.rwl else 0#16)
  let w := ((old &&& ~~~m) ||| (v &&& m)) &&& ~~~(v &&& d.w1c)
  d.rng.foldl (fun (acc : Word × Bool) f =>
    let fm : Word := BitVec.ofNat 16 ((2 ^ f.width - 1) <<< f.lsb)
    if m &&& fm = 0#16 then acc
    else
      let x := fld v f.lsb f.width
      if f.min ≤ x ∧ x ≤ f.max then acc else ((acc.1 &&& ~~~fm) ||| (old &&& fm), true)) (w, false)

/-- The plain write of a register by the map (R17, R18); the Bool tells that a field's value was ignored. A staging in the FBUS
cycle of its apply comes after it (R20, log entry 103). -/
def State.plainWrite (s : State) (page off : Nat) (v : Word) (unl : Bool) : State × Bool :=
  match regDef (pageKind page) off with
  | none => (s, false)
  | some d =>
    let (w, rej) := mergeWord d (s.reg page off) v unl
    (s.setReg page off w, rej)

/-! ### Units -/

def State.axis (s : State) (n : Ax) : Axis := s.axes[n]
def State.setAxis (s : State) (n : Ax) (a : Axis) : State := { s with axes := s.axes.set n a }
def State.modAxis (s : State) (n : Ax) (f : Axis → Axis) : State := s.setAxis n (f (s.axis n))
def State.ledger (s : State) (n : Ax) : Ledger := s.ledgers[n]
def State.setLedger (s : State) (n : Ax) (l : Ledger) : State := { s with ledgers := s.ledgers.set n l }
def State.modLedger (s : State) (n : Ax) (f : Ledger → Ledger) : State := s.setLedger n (f (s.ledger n))
def State.brg (s : State) (n : Ax) : Bridge := s.brgs[n]
def State.setBrg (s : State) (n : Ax) (b : Bridge) : State := { s with brgs := s.brgs.set n b }
def State.modBrg (s : State) (n : Ax) (f : Bridge → Bridge) : State := s.setBrg n (f (s.brg n))

/-- The axes of the family. -/
def allAxes : List Ax := [0, 1, 2, 3, 4, 5, 6, 7, 8, 9]

/-- Is an axis, with its bridge and ledger, present on the part (R1, R2)? -/
def State.hasAxis (s : State) (n : Ax) : Bool := decide (n.val < s.part.axes)

/-- The axes present on the part. -/
def State.present (s : State) : List Ax := allAxes.filter s.hasAxis

/-- Apply an operation to each axis of a list, in order. -/
def State.forAxes (s : State) (l : List Ax) (f : Ax → State → State) : State := l.foldl (fun s n => f n s) s

/-- The axes of a die. -/
def dieAxes (d : Die) : List Ax := [⟨2 * d.val, by omega⟩, ⟨2 * d.val + 1, by omega⟩]

/-- The die of an axis. -/
def axisDie (n : Ax) : Die := ⟨n.val / 2, by omega⟩

/-! ### Free values -/

/-- Draw a free value below `k`. The spec leaves the value open (log entry 2). -/
def State.draw (s : State) (k : Nat) : Nat × State :=
  ((Config.freeWord s.free).toNat % k, { s with free := s.free + 1 })

/-- Draw a free choice. -/
def State.drawBool (s : State) : Bool × State :=
  ((Config.freeWord s.free).getLsbD 0, { s with free := s.free + 1 })

/-! ### Unlock of RWL fields (R69, R70) -/

def State.unlocked (s : State) (page : Nat) : Bool := s.unlock.getLsbD page
def State.setUnlock (s : State) (page : Nat) (b : Bool) : State :=
  { s with unlock := if b then s.unlock ||| (1#64 <<< page) else s.unlock &&& ~~~(1#64 <<< page) }

def State.inUnitReset (s : State) (page : Nat) : Bool := s.unitRst.getLsbD page
def State.setUnitReset (s : State) (page : Nat) (b : Bool) : State :=
  { s with unitRst := if b then s.unitRst ||| (1#64 <<< page) else s.unitRst &&& ~~~(1#64 <<< page) }

/-! ### Low words that wait for their high word (R79) -/

/-- The low word written and waiting, if one is. -/
def State.heldLow (s : State) (page off : Nat) : Option Word :=
  (s.lows.find? (fun e => e.1 == page * 256 + off)).map Prod.snd

def State.holdLow (s : State) (page off : Nat) (v : Word) : State :=
  { s with lows := Store.insert (page * 256 + off, v) (s.lows.filter (fun e => e.1 != page * 256 + off)) }

def State.dropLow (s : State) (page off : Nat) : State :=
  { s with lows := s.lows.filter (fun e => e.1 != page * 256 + off) }

/-! ### Fabric producers (R117, R118) -/

/-- The lines that select a producer's code. -/
def State.linesOf (s : State) (code : Nat) : Word :=
  (List.range 16).foldl (fun w l => if s.regFld fabricPage (0x08 + l) 0 7 = code then w ||| bitWord l else w) 0#16

/-- These lines will pulse, in one FBUS cycle. -/
def State.duePulse (s : State) (w : Word) : State :=
  if w = 0#16 then s else { s with fab := { s.fab with due := s.fab.due ++ [w] } }

/-- A producer's event: the lines that select its code will pulse, when the fabric is enabled (R117, R122). -/
def State.produce (s : State) (code : Nat) : State :=
  if s.regBit fabricPage 0x01 0 && code != 0x30 && code != 0 then s.duePulse (s.linesOf code) else s

def State.produceIf (s : State) (c : Bool) (code : Nat) : State := if c then s.produce code else s

/-! ### SRAM with its ECC (R134, R137 to R140) and the window write buffer (R142) -/

/-- What the check bits show of a word with these flipped bits (R134). -/
inductive Ecc where
  | ok | ce | ue
  deriving DecidableEq, Repr

def popcount22 (m : BitVec 22) : Nat := (List.range 22).countP (fun i => m.getLsbD i)

def errMask (e : List (Nat × BitVec 22)) (a : Nat) : BitVec 22 :=
  match e.find? (fun x => x.1 == a) with
  | some x => x.2
  | none => 0#22

def clearErr (e : List (Nat × BitVec 22)) (a : Nat) : List (Nat × BitVec 22) := e.filter (fun x => x.1 != a)

/-- The outcome of the check of a disturbed word: three or more flipped bits are beyond its reach (R134), and the free
value decides: reported uncorrectable, miscorrected and reported correctable, or not reported. -/
def eccOutcome (mask : BitVec 22) (choice : Nat) : Ecc :=
  match popcount22 mask with
  | 0 => .ok
  | 1 => .ce
  | 2 => .ue
  | _ => if choice = 0 then .ue else if choice = 1 then .ce else .ok

/-- The masters of the SRAM, with the codes of MEM.UE_SRC (R157). -/
inductive Master where
  | ledger | nvs | window | dma | scrub
  deriving DecidableEq, Repr

def Master.code : Master → Nat
  | .ledger => 1
  | .nvs => 2
  | .window => 3
  | .dma => 4
  | .scrub => 5

/-- A correctable error is counted and recorded (R139, R137). -/
def State.recordCe (s : State) (a : Nat) : State :=
  ((s.count memPage 0x0E).setWide memPage 0x12 (BitVec.ofNat 32 a)).event memPage 0

/-- An uncorrectable error is counted; the first is recorded; the SRAM cause of SAFE becomes active (R140). -/
def State.recordUe (s : State) (a : Nat) (m : Master) : State :=
  let s := (s.count memPage 0x0F).event memPage 1
  let s := if s.mem.ueArmed then
      (s.setWide memPage 0x10 (BitVec.ofNat 32 a)).setReg memPage 0x14 (place m.code 0)
    else s
  { s with mem := { s.mem with ueArmed := false, safeUe := true } }

/-- One read access of a master to the SRAM: the word, whether it had an uncorrectable error, and the state with the
errors counted. A word in the window buffer is seen as written (R142). A corrected word is queued for write-back (R139).
With three or more flipped bits and an outcome that is not 'uncorrectable', the data is a free value. -/
def State.sramRead (s : State) (a : Nat) (m : Master) : Word × Bool × State :=
  match s.mem.winBuf.reverse.find? (fun e => e.1 == a) with
  | some e => (e.2, false, s)
  | none =>
    let w := readWord sramDefault s.mem.sram a
    let mask := errMask s.mem.sramErr a
    if mask = 0#22 then (w, false, s)
    else
      let wide3 := decide (3 ≤ popcount22 mask)
      let (c, s) := if wide3 then s.draw 3 else (0, s)
      let (d, s) := if wide3 then s.draw 65536 else (0, s)
      match eccOutcome mask c with
      | .ok => (if wide3 then BitVec.ofNat 16 d else w, false, s)
      | .ce =>
        let s := s.recordCe a
        let v := if wide3 then BitVec.ofNat 16 d else w
        (v, false, { s with mem := { s.mem with ecq := s.mem.ecq ++ [(a, v)] } })
      | .ue => (w ^^^ mask.extractLsb' 0 16, true, s.recordUe a m)

/-- A word put into the SRAM with fresh check bits, so that it is no longer disturbed (R134, R140). A corrected word queued for
it is older, and is not written back (DEDUCED from R139, log entry 80). -/
def State.sramPut (s : State) (a : Nat) (v : Word) : State :=
  { s with mem := { s.mem with
      sram := writeWord sramDefault s.mem.sram a v, sramErr := clearErr s.mem.sramErr a
      ecq := s.mem.ecq.filter (fun e => e.1 != a) } }

/-- One write access of a master: it comes after what the window has buffered for the word (R142). -/
def State.sramWrite (s : State) (a : Nat) (v : Word) : State :=
  let s := s.sramPut a v
  { s with mem := { s.mem with winBuf := s.mem.winBuf.filter (fun e => e.1 != a) } }

/-- Successive words of the SRAM, and whether one had an uncorrectable error. -/
def State.sramReads (s : State) (m : Master) : Nat → Nat → List Word × Bool × State
  | _, 0 => ([], false, s)
  | a, n + 1 =>
    let (w, ue, s1) := s.sramRead a m
    let (ws, ue', s2) := s1.sramReads m (a + 2) n
    (w :: ws, ue || ue', s2)

/-- A read of the store through its mapping: an uncorrectable word sets NV_UE (R144). -/
def State.mramRead (s : State) (a : Nat) : Word × Bool × State :=
  let w := readWord mramDefault s.nvs.mram a
  let mask := errMask s.nvs.mramErr a
  if mask = 0#22 then (w, false, s)
  else
    let wide3 := decide (3 ≤ popcount22 mask)
    let (c, s) := if wide3 then s.draw 3 else (0, s)
    let (d, s) := if wide3 then s.draw 65536 else (0, s)
    match eccOutcome mask c with
    | .ok | .ce => (if wide3 then BitVec.ofNat 16 d else w, false, s)
    | .ue => (w ^^^ mask.extractLsb' 0 16, true, s.event nvsPage 7)

/-- One word written to the store (R144). -/
def State.mramWrite (s : State) (a : Nat) (v : Word) : State :=
  { s with nvs := { s.nvs with
      mram := writeWord mramDefault s.nvs.mram a v, mramErr := clearErr s.nvs.mramErr a } }

def State.mramWrites (s : State) : Nat → List Word → State
  | _, [] => s
  | a, w :: ws => (s.mramWrite a w).mramWrites (a + 2) ws

/-! ### Machine time (R159, R163) -/

/-- MT_US of a machine time in ns: whole microseconds modulo 2^32. A whole number of seconds is a whole number of
microseconds, so SEC * 1 000 000 + floor (NS / 1000) is the count of whole microseconds (R163). -/
def usOf (ns : Nat) : Wide := BitVec.ofNat 32 (ns / 1000)

/-- SEC, NS (truncated to a multiple of 5) and MT_US of a machine time (R159, R162). -/
def snapOf (ns : Nat) : TimeSnap :=
  { sec := BitVec.ofNat 32 (ns / 1000000000)
    ns := BitVec.ofNat 32 ((ns % 1000000000) / 5 * 5)
    us := usOf ns }

/-- 1 ns in the units of the time counters: a core clock cycle times (1 + RATE) is a whole number of them (R160). -/
def nsUnit : Nat := 68719476736

/-- The ramp tick's 1 us. -/
def usUnit : Nat := 1000 * nsUnit

/-- Machine time now, in whole ns. -/
def MTime.now (t : MTime) : Nat := t.cur / nsUnit

/-- MT_US now. -/
def State.mtUs (s : State) : Wide := usOf s.time.now

end Sys2Proof.Machine
end

