-- ==== Sys2Proof/Machine/Fixed.lean ====
section
/-! DEFINITION. Sines, arctangents and tables in exact integer arithmetic, for the microstep table (R235, R263), the
load angle (R252) and the temperature of a thermistor (R388). -/

namespace Sys2Proof.Machine.Fixed

/-- The unit of this file's fixed-point values: 2^64. -/
def one : Int := 18446744073709551616

/-- pi in that unit, rounded to the nearest. -/
def piFix : Int := 57952155664616982739

def mulFix (x y : Int) : Int := x * y / one

/-- The alternating series x - x^3/3! + x^5/5! ..., summed from its `k`-th term inward (Horner's scheme). -/
def sinSeries (x2 : Int) : Nat → Int → Int
  | 0, acc => acc
  | k + 1, acc => sinSeries x2 k (one - mulFix x2 acc / ((2 * (k + 1)) * (2 * (k + 1) + 1) : Nat))

/-- sin (pi * m / n) for 0 ≤ m ≤ n / 2. -/
def sinPi (m n : Nat) : Int :=
  let x := piFix * m / n
  mulFix x (sinSeries (mulFix x x) 16 one)

/-- sin of an angle of `u` units of 1/4096 of a period, any integer. -/
def sin4096 (u : Int) : Int :=
  let r := (u % 4096).toNat
  let q := r / 1024
  let k := r % 1024
  if q = 0 then sinPi k 2048
  else if q = 1 then sinPi (1024 - k) 2048
  else if q = 2 then -sinPi k 2048
  else -sinPi (1024 - k) 2048

def cos4096 (u : Int) : Int := sin4096 (u + 1024)

/-- sin (pi * m / 4096), any integer m. -/
def sin8192 (m : Int) : Int :=
  let r := (m % 8192).toNat
  let q := r / 2048
  let k := r % 2048
  if q = 0 then sinPi k 4096
  else if q = 1 then sinPi (2048 - k) 4096
  else if q = 2 then -sinPi k 4096
  else -sinPi (2048 - k) 4096

def cos8192 (m : Int) : Int := sin8192 (m + 2048)

/-- T[k] of bank 0: round (65535 sin (pi k / 2048)), and 65535 for k = 1024 (R235, R233). -/
def sineEntry (k : Nat) : Nat := if 1024 ≤ k then 65535 else (roundDiv (65535 * sinPi k 2048) one.toNat).toNat

/-- The number of unit boundaries, at odd multiples of pi / 4096, at or below the angle of (x, y) in the first
quadrant, x and y not both 0: the angle in units of 1/4096 of a period, rounded to the nearest. -/
def atanGo (y x : Int) : Nat → Nat → Nat
  | 0, u => u
  | k + 1, u =>
    let u' := u + 2 ^ k
    atanGo y x k (if u' ≤ 1024 ∧ 0 ≤ y * cos8192 (2 * u' - 1) - x * sin8192 (2 * u' - 1) then u' else u)

/-- atan2 (y, x) in units of 1/4096 of a period, -2048 to 2047; 0 when both are 0 (R252). -/
def atan2Units (y x : Int) : Int :=
  if y = 0 ∧ x = 0 then 0
  else
    let q := (atanGo (y.natAbs : Int) (x.natAbs : Int) 11 0 : Int)
    let a := if x < 0 then 2048 - q else q
    let a := if y < 0 then -a else a
    if a = 2048 then -2048 else a

/-- f (x_k) of R263 for the coefficients a3 and a5 (signed Q1.15), in units of 2^-79. -/
def shapeValue (a3 a5 : Int) (k : Nat) : Int :=
  32768 * sin4096 k + a3 * sin4096 (3 * k) + a5 * sin4096 (5 * k)

/-- The largest of f (x_k), k = 0 to 1024. -/
def shapeMax (a3 a5 : Int) : Int := ((List.range 1025).map (shapeValue a3 a5)).foldl max 0

/-- The bank of R263: T[k] = round (65535 f (x_k) / f_max), k = 0 to 1023, as signed numbers. -/
def shapeBank (a3 a5 : Int) : List Int :=
  let m := (shapeMax a3 a5).toNat
  (List.range 1024).map (fun k => roundDiv (65535 * shapeValue a3 a5 k) m)

/-- The check of R236: every entry at least its predecessor, and T[1023] at least 0x8000. -/
def bankOk (l : List Int) : Bool :=
  (l.zip (l.drop 1)).all (fun p => decide (p.1 ≤ p.2)) && l.all (fun x => decide (0 ≤ x))
    && (match l.getLast? with | some x => decide (0x8000 ≤ x) | none => false)

/-- The natural logarithm of a value of 1 or more, in units of 2^-64: halving brings it below 2, then
ln z = 2 artanh ((z - 1) / (z + 1)). -/
def artanhSeries (t2 : Int) : Nat → Int → Int
  | 0, acc => acc
  | k + 1, acc => artanhSeries t2 k (one / (2 * k + 1 : Nat) + mulFix t2 acc)

def ln2 : Int := 12786308645202655660

def lnOne (z : Int) : Int :=
  let t := (z - one) * one / (z + one)
  2 * mulFix t (artanhSeries (mulFix t t) 24 0)

/-- ln (n / d), n and d positive. -/
def lnRatio (n d : Nat) : Int :=
  let z := one * n / d
  let k := (z.toNat.log2 : Int) - 64
  let z' := if 0 ≤ k then z / 2 ^ k.toNat else z * 2 ^ (-k).toNat
  k * ln2 + lnOne z'

end Sys2Proof.Machine.Fixed
end

