-- ==== Sys2Proof/Machine/Ramp.lean ====
section
/-! DEFINITION. The arithmetic of the ramp engine (R186 to R194, R210), one channel and one tick at a time.

The engine looks, at every tick, for the largest new acceleration that still lets the channel come to rest in time:
the same law serves moves, slews, stops and soft limits. v and a carry 48 fraction bits, p 32. Velocity is truncated
toward minus infinity when it is added to p (DEDUCED from R186, log entry 12). Where the spec leaves the rounding of a
profile to whole ticks open, this law is the model's (DESIGN CHOICE, log entry 91). -/

namespace Sys2Proof.Machine.Ramp

/-- One microstep, in units of p. -/
def microstep : Int := 4294967296

/-- VMAX or VCMD (Q16.16) in units of v. -/
def velUnits (q : Int) : Int := q * 4294967296

/-- AMAX, DMAX, STOP_DECEL (2^-32) in units of a. -/
def accUnits (q : Nat) : Int := (q : Int) * 65536

/-- The bits of the search: no limit of R182 needs more. -/
def searchBits : Nat := 56

/-- The largest value from `x` up to `hi` with the property, by bisection; `x` itself if no larger one has it. -/
def largest (p : Int → Bool) (hi : Int) : Nat → Int → Int
  | 0, x => x
  | k + 1, x => let y := x + 2 ^ k; largest p hi k (if decide (y ≤ hi) && p y then y else x)

/-- The velocity gained while a positive acceleration `x` acts for a tick and is then driven to 0 at jerk `j`. -/
def tail (x j : Int) : Int :=
  if x ≤ 0 then x else if j = 0 then x
  else let n := (x - 1) / j; (n + 1) * x - j * (n * (n + 1) / 2)

/-- The velocity gained while an acceleration `x` is driven down to `lim` at jerk `j`. -/
def tailTo (x lim j : Int) : Int :=
  if x ≤ lim then 0 else if j = 0 then x
  else let n := (x - lim - 1) / j + 1; n * x - j * (n * (n - 1) / 2)

/-- One tick of velocity control. -/
structure VStep where
  v : Int
  a : Int
  /-- v and a have reached the velocity and 0. -/
  done : Bool
  deriving DecidableEq, Repr

/-- One tick of a slew from (v, a) to `vt ≥ v`: `rise` limits |a| while |v| rises, `fall` while it falls (R210).
With a jerk limit the larger limit gives way to the smaller on the tick v passes 0; without one |a| steps to the limit of the
new side on that tick. -/
def slewUp (v a vt rise fall j : Int) : VStep :=
  let e := vt - v
  let crossing := decide (v < 0) && decide (0 < vt)
  let lim := if v < 0 then fall else rise
  let snapLim := if crossing then min rise fall else lim
  let fits := fun (y : Int) =>
    decide (tail y j ≤ e) && (!crossing || decide (y ≤ rise) || decide (v + tailTo y rise j ≤ 0))
  if j = 0 then
    let passing := crossing && decide (0 < v + fall)
    if e ≤ (if passing then rise else snapLim) then ⟨vt, 0, true⟩
    else let x := largest fits (if passing then max rise fall else lim) searchBits 0; ⟨v + x, x, false⟩
  else if decide ((e - a).natAbs ≤ j.natAbs) && decide (e ≤ snapLim) && decide (e ≤ j) then ⟨vt, 0, true⟩
  else
    let x := largest fits (min lim (a + j)) searchBits 0
    let x := max (a - j) (min (a + j) x)
    ⟨v + x, x, false⟩

/-- One tick of a slew to `vt` in either sense. -/
def slew (v a vt rise fall j : Int) : VStep :=
  if vt < v ∨ (vt = v ∧ a < 0) then
    let r := slewUp (-v) (-a) (-vt) rise fall j
    ⟨-r.v, -r.a, r.done⟩
  else slewUp v a vt rise fall j

/-- The distance, in units of v, that the shortest stop covers from velocity `v ≥ 0` and acceleration `a` (R190). -/
def stopDist (v a d j : Int) : Int :=
  if v < 0 then 0
  else if j = 0 then
    let n := v / d
    n * v - d * (n * (n + 1) / 2)
  else
    let half := fun (v0 : Int) =>
      if v0 * j ≤ d * d then v0 * (isqrt (v0 * j).toNat : Int) / j else v0 * v0 / (2 * d) + v0 * d / (2 * j)
    if 0 < a then
      let v0 := v + max 0 (a * a / (2 * j) - a / 2)
      max 0 (half v0 - v0 / 2 + (v * a / j + max 0 (a * a * a / (3 * j * j) - a / 3)))
    else
      let b := -a
      if v + b / 2 < b * b / (2 * j) then 0
      else
        let v0 := v + b * b / (2 * j) + b / 2
        max 0 (half v0 - v0 / 2 - (b * v0 / j - b * b * b / (6 * j * j) - b * b / (2 * j) - b / 3))

/-- The farthest point ahead, in units of v, that the shortest stop from any (v, a) comes to: a velocity backward with an
acceleration forward may pass through 0 before the acceleration can be driven to 0. -/
def reach (v a d j : Int) : Int :=
  if 0 ≤ v then stopDist v a d j
  else if j = 0 ∨ a ≤ 0 then 0
  else
    let top := v + a * a / (2 * j) - a / 2
    if top ≤ 0 then 0
    else
      let half := if top * j ≤ d * d then top * (isqrt (top * j).toNat : Int) / j else top * top / (2 * d) + top * d / (2 * j)
      max 0 (half - top / 2 + (v * a / j + (a * a * a / (3 * j * j) - a / 3)))

/-- The acceleration as the engine judges it: with no jerk limit it counts for nothing (R190). -/
def liveAcc (a j : Int) : Int := if j = 0 then 0 else a

/-- The sense of motion toward or away from `t`: that of v, else that of a, else toward the target (R190). -/
def sense (c : Chan) (t j : Int) : Int :=
  let a := liveAcc c.a j
  if 0 < c.v then 1 else if c.v < 0 then -1
  else if 0 < a then 1 else if a < 0 then -1
  else if c.p ≤ t then 1 else -1

/-- What a tick of a move brought. -/
inductive Mark where
  | going
  /-- p is the target and v = a = 0 (R187). -/
  | reached
  /-- The stop of a reversal has come to rest (R190). -/
  | rested
  deriving DecidableEq, Repr

def limitsOf (l : Limits) : Int × Int × Int × Int :=
  (velUnits l.vmax, accUnits l.amax, accUnits l.dmax, (l.jmax : Int))

/-- The next (v, a) in the sense of motion, `dist` from the bound at which the channel must be able to come to rest:
the new acceleration is the largest, up to that of `toward`, from which the stop ends at the bound or before. -/
def bounded (v a dist d j : Int) (toward : VStep) : VStep :=
  let rest := slew v a 0 d d j
  let ok := fun (x : Int) => decide (reach (v + x) x d j ≤ dist * 65536 - (v + x))
  let xs := rest.v - v
  let xv := toward.v - v
  if ok xv then toward
  else
    let x := largest ok xv searchBits xs
    if x = xs then rest else ⟨v + x, x, false⟩

/-- The same step seen in the other sense. -/
def VStep.flip (r : VStep) : VStep := { r with v := -r.v, a := -r.a }

/-- The next (v, a) at a soft limit `dist` ahead: the step `toward` as far as the channel can come to rest at the limit; at the
limit or beyond it none that drives it farther out than its hardest stop does (R193). -/
def kept (v a dist d j : Int) (toward : VStep) : VStep :=
  if dist < microstep then
    let rest := slew v a 0 d d j
    if toward.v < rest.v then toward else rest
  else bounded v a dist d j toward

/-- Put a step back into the channel, in the sense `g`. -/
def advance (c : Chan) (g : Int) (r : VStep) : Chan :=
  { p := c.p + (g * r.v) / 65536, v := g * r.v, a := g * r.a }

/-- One tick of a move to `t` microsteps under the limits; `fall` limits the slowing down to VMAX (R187, R188, R190). -/
def moveTickAt (c : Chan) (t : Int) (l : Limits) (fall : Nat) (reversing : Bool) : Chan × Mark :=
  let (vm, am, dm, j) := limitsOf l
  let tp := t * microstep
  let near := fun (p : Int) => decide ((tp - p).natAbs < microstep.natAbs)
  if c.v = 0 ∧ liveAcc c.a j = 0 ∧ near c.p then ({ p := tp, v := 0, a := 0 }, .reached)
  else if reversing then
    let r := slew c.v (liveAcc c.a j) 0 dm dm j
    (advance c 1 r, if r.done then .rested else .going)
  else
    let g := sense c tp j
    let dist := g * (tp - c.p)
    let v := g * c.v
    let a := g * liveAcc c.a j
    let r := if near c.p then slew v a 0 dm dm j else bounded v a dist dm j (slew v a vm am (accUnits fall) j)
    let c' := advance c g r
    if c'.v = 0 ∧ c'.a = 0 ∧ near c'.p then ({ p := tp, v := 0, a := 0 }, .reached) else (c', .going)

/-- One tick of a move whose every slowing down is under DMAX (R187, R190). -/
def moveTick (c : Chan) (t : Int) (l : Limits) (reversing : Bool) : Chan × Mark := moveTickAt c t l l.dmax reversing

/-- Must a plan to `t` reverse the channel (R190)? -/
def mustReverse (c : Chan) (t : Int) (l : Limits) : Bool :=
  let (_, _, dm, j) := limitsOf l
  let tp := t * microstep
  if c.v = 0 ∧ liveAcc c.a j = 0 then false
  else
    let g := sense c tp j
    decide ((g * (tp - c.p) + microstep) * 65536 < stopDist (g * c.v) (g * liveAcc c.a j) dm j)

/-- One tick of a slew to velocity `vt` (units of v) under the limits (R192, R210). -/
def slewTick (c : Chan) (vt : Int) (rise fall : Nat) (jmax : Nat) : Chan × Bool :=
  let r := slew c.v (liveAcc c.a jmax) vt (accUnits rise) (accUnits fall) jmax
  (advance c 1 r, r.done)

/-- One tick of a stop under a deceleration and a jerk (R194). -/
def stopTick (c : Chan) (dec jerk : Nat) : Chan × Bool := slewTick c 0 dec dec jerk

/-- POSITION: the integer part of p, rounded toward minus infinity (R186), modulo 2^32 (R185). -/
def position (c : Chan) : Int := (BitVec.ofInt 32 (c.p / microstep)).toInt

/-- VACT and AACT, truncated toward minus infinity (R186). -/
def vact (c : Chan) : Wide := BitVec.ofInt 32 (c.v / 4294967296)
def aact (c : Chan) : Wide := BitVec.ofInt 32 (c.a / 65536)

end Sys2Proof.Machine.Ramp
end

