-- ==== Sys2Proof/Machine/Service.lean ====
section
/-! DEFINITION. What the power state, the supplies, the table banks and the latches allow: the conditions that commands of
every family ask about. -/

namespace Sys2Proof.Machine

/-- The state whose service is in force: in SAFE, the return state (R88, R439). -/
def State.effState (s : State) : PState := if s.pwr.pstate = .safe then s.pwr.ret else s.pwr.pstate

/-- Reduced service (R97). -/
def State.reduced (s : State) : Bool :=
  match s.effState with
  | .waking => true
  | .run => s.clk.pllFail
  | _ => false

/-- A VMAX under reduced service: one tenth, truncated, never less than 1 (R97). -/
def State.redVmax (s : State) (v : Nat) : Nat := if s.reduced then max 1 (v / 10) else v

/-- A signed velocity under reduced service: its magnitude clamped to one tenth of `vmax` (R97). -/
def State.redVel (s : State) (v : Int) (vmax : Nat) : Int :=
  if s.reduced then
    let lim : Int := max 1 (vmax / 10)
    max (-lim) (min lim v)
  else v

/-- The largest velocity of R182. -/
def maxVel : Nat := 0x147AE1

/-- VMAX and VCMD: above the largest velocity they are stored as it, with their sign (R183). -/
def clampVel (v : Int) : Int := max (-(maxVel : Int)) (min maxVel v)

/-- The device is out of reset and its ramp tick runs: every state but STANDBY (R88). -/
def State.awake (s : State) : Bool := decide (s.pwr.pstate ≠ .standby) && !s.pwr.testHold

/-- VALID of a bank; bank 0 always is (R239). -/
def State.bankValid (s : State) (k : Nat) : Bool := k == 0 || (decide (k < 5) && s.table.valid.getLsbD k)

/-- TABLE_SEL of an axis (R235). -/
def State.tableSel (s : State) (n : Ax) : Nat := s.regFld (brPage n) 0x0E 0 3

/-- IN_USE of a bank (R237). -/
def State.bankInUse (s : State) (k : Nat) : Bool :=
  s.present.any (fun n => decide ((s.axis n).mode ≠ .parked) && s.tableSel n == k)

/-- Is a latch of any class set (R269)? -/
def Prot.latched (p : Prot) : Bool := p.sc != 0#8 || p.uv != 0#8 || p.ot || p.trip || p.ov

/-- FAULT_POLICY.PARK of a bridge (R285). -/
def State.parkPolicy (s : State) (n : Ax) : Bool := s.regBit (brPage n) 0x46 0

/-- GATE.FAULT_POLICY; 3 acts as 1 (R294). -/
def State.gatePolicy (s : State) : Nat :=
  let p := s.regFld gatePage 0x46 0 2
  if p = 3 then 1 else p

/-- FRZ is high and the axis heeds it (R196). -/
def State.axisFrozen (s : State) (n : Ax) : Bool := s.pins.frz && s.regBit (axPage n) 0x0B 2

/-- Is an encoder channel present on the part (R3)? -/
def State.hasEnc (s : State) (c : Nat) : Bool := decide (c < s.part.encoders)

def State.enc (s : State) (c : Nat) : Enc := if h : c < 4 then s.encs[c] else {}

/-- What a reset, a wake or UNIT_RESET leaves of a channel: the levels on its pins. -/
def Enc.levels (e : Enc) : Enc := { pinA := e.pinA, pinB := e.pinB, pinI := e.pinI }

/-- En_CFG.MODE of a channel; 3 acts as 0 (R328). -/
def State.encMode (s : State) (c : Nat) : Nat :=
  let m := s.regFld tallyPage (0x10 + 0x10 * c) 0 2
  if m = 3 then 0 else m

/-- The channel is present and counts in quadrature, as a gear FOLLOW or a binding needs (R179 code 7, R197). -/
def State.encQuadOk (s : State) (c : Nat) : Bool := s.hasEnc c && s.encMode c == 1

/-- The channel is present and in step and direction mode, as a step FOLLOW needs (R179 code 7, R197). -/
def State.encStepOk (s : State) (c : Nat) : Bool := s.hasEnc c && s.encMode c == 2

/-! ### The speed of the gate port (R306) -/

/-- SPEED = sign * 2^26 * 200 / N, truncated toward zero (R306). -/
def hallSpeed (n : Nat) (reverse : Bool) : Int :=
  if n = 0 then 0
  else
    let m : Int := (67108864 * 200 / n : Nat)
    if reverse then -m else m

/-- SPEED at a time `t` (5 ns units): N is HALL_PERIOD, or the time since the last edge when that is longer. -/
def Gate.speedAt (g : Gate) (t : Nat) : Int :=
  if g.still then 0
  else
    let since := match g.edge with
      | some e => t - e
      | none => 0
    hallSpeed (max g.period since) g.dir

/-- SPEED as of the latest time told. -/
def State.hallSpeedNow (s : State) : Wide := BitVec.ofInt 32 (s.gate.speedAt s.gate.now)

end Sys2Proof.Machine
end

