-- ==== Sys2Proof/Machine/Switch.lean ====
section
/-! DEFINITION. The requests for the switches: what the chopper and the commutation ask for, and the interlock of each
half-bridge (R240, R268, R270 to R272, R291). -/

namespace Sys2Proof

def ProtPage.page : ProtPage → Nat
  | .brg n => Machine.brPage n
  | .gate => Machine.gatePage

end Sys2Proof

namespace Sys2Proof.Machine

def State.modGate (s : State) (f : Gate → Gate) : State := { s with gate := f s.gate }

/-! ### What the chopper asks for (R240, R242, R243, R259) -/

def Bridge.ph (b : Bridge) : Phase → ChopPh
  | .pa => b.phA
  | .pb => b.phB

def State.modPh (s : State) (n : Ax) (p : Phase) (f : ChopPh → ChopPh) : State :=
  s.modBrg n (fun b => match p with
    | .pa => { b with phA := f b.phA }
    | .pb => { b with phB := f b.phB })

/-- SET of a phase. -/
def State.setOf (s : State) (n : Ax) : Phase → Int
  | .pa => (s.reg (brPage n) 0x23).toInt
  | .pb => (s.reg (brPage n) 0x24).toInt

/-- The set that acts in a phase: in CHARACTERISE hysteretic, with the decay of the step (R258, R259); in DOZE at most
20 kHz (R243). -/
def State.chopSet (s : State) (n : Ax) (p : Phase) : ChopSet :=
  let c := ((s.brg n).ph p).set
  let a := s.axis n
  let c := if a.mode = .characterise then
      { c with mode := 0, decay := if a.char.step = 2 then 0 else if a.char.step = 3 then 1 else c.decay }
    else c
  if s.effState = .doze then
    let fmax := min c.fmax 20
    { c with fmax := fmax, pwm := min c.pwm 20, fmin := if fmax < c.fmin then 15 else c.fmin }
  else c

/-- The thresholds U and D of a setpoint (R240). -/
def threshold (set : Int) (hyst : Nat) (upper : Bool) : Nat :=
  if upper then min 1023 (set.natAbs + (hyst + 1) / 2) else min 1023 (set.natAbs - hyst / 2)

/-- The phase of switch k (0 A-P high, 1 A-P low, 2 A-N high, 3 A-N low, then the same for B). -/
def swPhase (k : Fin 8) : Phase := if k.val < 4 then .pa else .pb

/-- The switch under self-test, with its diagonal partner (R258). -/
def State.selfPair (s : State) (n : Ax) : Option (Fin 8 × Fin 8) :=
  let a := s.axis n
  if a.mode = .characterise ∧ a.char.step = 1 then
    match a.char.selfSw with
    | 0 | 1 | 2 | 3 => some (⟨a.char.selfSw % 8, by omega⟩, ⟨(3 - a.char.selfSw) % 8, by omega⟩)
    | 4 | 5 | 6 | 7 => some (⟨a.char.selfSw % 8, by omega⟩, ⟨(11 - a.char.selfSw) % 8, by omega⟩)
    | _ => none
  else none

/-- Is the axis in the self-test step? -/
def State.selfTesting (s : State) (n : Ax) : Bool :=
  decide ((s.axis n).mode = .characterise) && (s.axis n).char.step == 1

/-- What the chopper asks of switch k: in a self-test the pair under test (R258); in the on phase the diagonal that puts the
supply across the coil in the direction of SET; in the off phase both low sides (slow), the other diagonal (fast), or the one
after the other (mixed), as of the latest time told (R240). -/
def State.chopAsk (s : State) (n : Ax) (k : Fin 8) : Bool :=
  let p := swPhase k
  let h := (s.brg n).ph p
  let c := s.chopSet n p
  let pos := decide (0 ≤ s.setOf n p)
  let diag := if pos then decide (k.val % 4 = 0 ∨ k.val % 4 = 3) else decide (k.val % 4 = 1 ∨ k.val % 4 = 2)
  let low := decide (k.val % 2 = 1)
  if s.selfTesting n then
    match s.selfPair n with
    | some (i, j) => k == i || k == j
    | none => false
  else if h.on then diag
  else match c.decay with
    | 0 => low
    | 1 => !diag
    | _ => if h.now < h.t0 + 10 * c.fast then !diag else low

/-- The chopper is the source of an axis's commands: no brake replaces it (R176, R268, R280, R415). -/
def State.chops (s : State) (n : Ax) : Bool :=
  !(s.brg n).prot.ov && !s.dies[axisDie n].hbLost && decide ((s.axis n).mode ≠ .parked)

/-- The command of switch k of an axis, before any latch: OV brake, heartbeat-loss brake, PARKED brake or the chopper (R268,
R176, R240, R415). The PARKED brake acts once host software has enabled the axis (R36). -/
def State.brgCommand (s : State) (n : Ax) (k : Fin 8) : Bool :=
  let low := decide (k.val % 2 = 1)
  if (s.brg n).prot.ov then low
  else if s.dies[axisDie n].hbLost then low
  else if (s.axis n).mode = .parked then low && s.regBit (axPage n) 0x0B 0 && s.live.getLsbD n.val
  else s.chopAsk n k

/-! ### What the gate port asks for (R280, R299, R302, R304, R305) -/

/-- The dead time and the PWM period of the gate port, in 5 ns units (R302). -/
def State.gateDead (s : State) : Nat := s.regFld gatePage 0x0C 0 9
def State.pwmLen (s : State) : Nat := 200000 / max 1 (s.regFld gatePage 0x0B 0 6)

/-- How far the PWM period has run at the latest time told. The counter runs on from the last period start told. -/
def State.pwmAt (s : State) : Nat := (s.gate.now - s.gate.per0) % s.pwmLen

/-- How long the high side of a state-1 phase is on in the period: DUTY_ACT/4096 of it. An on time, or an off time, below
2 x DEAD is not produced (R302), and a current limit ends the on time (R305). -/
def State.pwmOnFor (s : State) (dead : Nat) : Nat :=
  let per := s.pwmLen
  let on := per * s.gate.duty / 4096
  let on := if on < 2 * dead then 0 else if per - on < 2 * dead then per else on
  if s.gate.ilim then min on (s.gate.ilimAt - s.gate.per0) else on

/-- The on time with the DEAD that the period's start found. -/
def State.pwmOn (s : State) : Nat := s.pwmOnFor s.gate.dead.start

/-- Is the high side of a state-1 phase on in the present part of its period, and with SYNC its low side, which is on for the off
time less 2 x DEAD (R302)? -/
def State.pwmHigh (s : State) : Bool := decide (s.pwmAt < s.pwmOn)
def State.pwmLow (s : State) : Bool :=
  s.regBit gatePage 0x0A 0 && decide (s.pwmOn + s.gate.dead.fall ≤ s.pwmAt) && decide (s.pwmAt + s.gate.dead.low < s.pwmLen)

/-- A written DEAD takes effect at the next switching edge (R302): the edges of the PWM that stand at the latest time told find it, and
so does a port that drives no PWM; a refresh finds it until its low side turns off. -/
def State.deadFollow (s : State) : State :=
  let d := s.gateDead
  let g := s.gate
  let a := s.pwmAt
  let dead : DeadNow :=
    if g.phases.all (fun p => p != 1) || a == 0 then ⟨d, d, d⟩
    else if a = s.pwmOn then ⟨g.dead.start, d, d⟩
    else if a = s.pwmOn + g.dead.fall then ⟨g.dead.start, g.dead.fall, d⟩
    else g.dead
  let w := s.regFld gatePage 0x25 0 9
  s.modGate (fun g => { g with
    dead := dead
    refDead := Vector.ofFn (fun i => match g.refresh[i] with
      | some b => if g.now ≤ b + g.refDead[i].1 + w then (g.refDead[i].1, d) else g.refDead[i]
      | none => (d, d)) })

/-- Where a refresh of a phase stands (R304): the time since its start, in units of 5 ns. -/
def Gate.inRefresh (g : Gate) (i : Fin 3) : Option Nat := (g.refresh[i]).map (fun t => g.now - t)

/-- The command of gate-port switch k (UH, UL, VH, VL, WH, WL) as of the latest time told: the OV brake, a bootstrap refresh, or
the commutation with PWM and, with SYNC, the low side in the off time (R268, R280, R299, R302, R304). -/
def State.gateCommand (s : State) (k : Fin 6) : Bool :=
  let low := decide (k.val % 2 = 1)
  let i : Fin 3 := ⟨k.val / 2, by omega⟩
  if s.gate.prot.ov then low
  else match s.gate.inRefresh i with
    | some e => low && decide (s.gate.refDead[i].1 ≤ e) && decide (e < s.gate.refDead[i].1 + s.regFld gatePage 0x25 0 9)
    | none =>
      match s.gate.phases[i] with
      | 1 => if low then s.pwmLow else s.pwmHigh
      | 2 => low
      | _ => false

/-- The standing requests of whatever commands the switches of a page: an axis's, or the gate port's (UH, UL, VH, VL, WH, WL). -/
def State.asks (s : State) : ProtPage → BitVec 8
  | .brg n => (List.finRange 8).foldl (fun m k => if s.brgCommand n k then m ||| (1#8 <<< k.val) else m) 0#8
  | .gate => (List.finRange 6).foldl (fun m k => if s.gateCommand k then m ||| (1#8 <<< k.val) else m) 0#8

/-! ### The interlock (R270 to R272) -/

/-- A change of the switches of a page in a mask. -/
def State.modSw (s : State) (p : ProtPage) (m : BitVec 8) (f : Sw → Sw) : State :=
  match p with
  | .brg n => s.modBrg n (fun b => { b with sw := b.sw.mapIdx (fun i w => if m.getLsbD i then f w else w) })
  | .gate => s.modGate (fun g => { g with sw := g.sw.mapIdx (fun i w => if m.getLsbD i then f w else w) })

/-- Cycles of the protection clock, of 5 ns (R267). -/
def protCycle (t : Nat) : Nat := t / 5

/-- The standing request has reached the interlock before the cycle of `t`, or reaches it in that cycle, and is followed. -/
def Sw.onBefore (w : Sw) (t : Nat) : Bool :=
  !w.drop && !w.held && (match w.due with | some d => decide (protCycle d < protCycle t) | none => false)
def Sw.arrives (w : Sw) (t : Nat) : Bool :=
  !w.drop && !w.held && (match w.due with | some d => decide (protCycle d = protCycle t) | none => false)

/-- The request is withdrawn at `t`: a switch that was asked for stays occupied for the dead time, one that was not followed since a
latch cleared too (R270 counts from the off command). -/
def Sw.withdraw (w : Sw) (t dead : Nat) : Sw := { busy := if ({ w with held := false } : Sw).onBefore t then t + dead else w.busy }

/-- The request has come through the dead time by `t` (R270). -/
def Sw.ready (w : Sw) (t : Nat) : Bool :=
  match w.due with
  | some d => decide (d ≤ t)
  | none => true

/-- The switch follows a standing request at `t`. -/
def Sw.follows (w : Sw) (t : Nat) : Bool := w.due.isSome && w.ready t && !w.drop && !w.held

/-- Do the requests of a half-bridge change: is that a switching edge of its phase (R243, R245)? -/
def halfChanges (h l : Sw) (ah al : Bool) : Bool := (ah != h.due.isSome) || (al != l.due.isSome)

/-- The on requests `ah`, `al` of a half-bridge at `t`, and whether one is dropped. A new request comes `wait` later, which is
the dead time in a commutation (R300), and respects the dead time of its partner's off command (R270). It is dropped where its partner is on, or where the partner's request reaches the interlock
in the same cycle, which drops both (R271, R272). That an edge meets the end of a dead time in one cycle, and so two
requests of the chopper itself, is DEDUCED (log entry 52). -/
def halfEdge (h l : Sw) (ah al : Bool) (t dead : Nat) (wait : Nat := 0) : Sw × Sw × Bool :=
  let h1 := if ah then h else h.withdraw t dead
  let l1 := if al then l else l.withdraw t dead
  let newH := ah && h.due.isNone
  let newL := al && l.due.isNone
  let th := max (t + wait) l1.busy
  let tl := max (t + wait) h1.busy
  let meet := newH && newL && decide (protCycle th = protCycle tl)
  let dropH := newH && (meet || l.arrives th || l1.onBefore th)
  let dropL := newL && (meet || h.arrives tl || h1.onBefore tl)
  ({ h1 with due := if newH then some th else h1.due, drop := h1.drop || dropH || (newL && ah && h.arrives tl) },
   { l1 with due := if newL then some tl else l1.due, drop := l1.drop || dropL || (newH && al && l.arrives th) },
   dropH || dropL)

/-- A dropped request is counted (R271). -/
def State.interlocked (s : State) (p : ProtPage) (b : Bool) : State := if b then (s.count p.page 0x54).event p.page 13 else s

/-- The dead time, in ns (R270, R272). -/
def State.deadNs (s : State) : ProtPage → Nat
  | .brg n => 5 * s.regFld (brPage n) 0x45 0 7
  | .gate => 5 * s.regFld gatePage 0x0C 0 9

/-- A switching edge of a phase at `t`. One that no crossing caused spoils the interval it falls in (R245). -/
def State.phEdge (s : State) (n : Ax) (p : Phase) (t : Nat) (own : Bool) : State :=
  s.modPh n p (fun h => { h with edge := some t, clean := h.clean && own })

/-- The two switches of half-bridge `j` (2j and 2j + 1) after an edge at `t`. -/
def State.brgHalf (s : State) (n : Ax) (j : Fin 4) (ask : BitVec 8) (t : Nat) : State :=
  let h : Fin 8 := ⟨2 * j.val, by omega⟩
  let l : Fin 8 := ⟨2 * j.val + 1, by omega⟩
  let b := s.brg n
  let (h', l', bad) := halfEdge b.sw[h] b.sw[l] (ask.getLsbD h.val) (ask.getLsbD l.val) t (s.deadNs (.brg n))
  let s := if halfChanges b.sw[h] b.sw[l] (ask.getLsbD h.val) (ask.getLsbD l.val) then s.phEdge n (swPhase h) t true else s
  -- an edge of the chopper commands the switches it asks for anew (R291)
  (s.modBrg n (fun b => { b with sw := (b.sw.set h { h' with held := false }).set l { l' with held := false } })).interlocked
    (.brg n) bad

def State.gateHalf (s : State) (j : Fin 3) (ask : BitVec 8) (t : Nat) : State :=
  let h : Fin 6 := ⟨2 * j.val, by omega⟩
  let l : Fin 6 := ⟨2 * j.val + 1, by omega⟩
  let (h', l', bad) := halfEdge s.gate.sw[h] s.gate.sw[l] (ask.getLsbD h.val) (ask.getLsbD l.val) t (s.deadNs .gate)
    (5 * s.gate.newAt[j] - t)
  (s.modGate (fun g => { g with sw := (g.sw.set h h').set l l' })).interlocked .gate bad

/-- An edge of a phase's chopper at `t`: the requests of its two half-bridges go through the interlock. -/
def State.swEdge (s : State) (n : Ax) (p : Phase) (t : Nat) (f : ChopPh → ChopPh) : State :=
  let s := s.modPh n p (fun h => { f h with now := t })
  match p with
  | .pa => (s.brgHalf n 0 (s.asks (.brg n)) t).brgHalf n 1 (s.asks (.brg n)) t
  | .pb => (s.brgHalf n 2 (s.asks (.brg n)) t).brgHalf n 3 (s.asks (.brg n)) t

/-- The requests of the gate port's three half-bridges at `t` (ns) go through the interlock. -/
def State.gateEdge (s : State) (t : Nat) : State :=
  let ask := s.asks .gate
  ((s.gateHalf 0 ask t).gateHalf 1 ask t).gateHalf 2 ask t

/-- Is the source of a page's commands the chopper or the commutation, and not a brake, which asks all the time (log entry 52)? -/
def State.sourceRuns (s : State) : ProtPage → Bool
  | .brg n => s.chops n
  | .gate => !s.gate.prot.ov && (s.gate.st == .run || s.gate.st == .stopping)

/-- A clear under standing requests of the chopper or the commutation: those switches follow at the next on command (R291): of an
axis that is the next edge of the chopper in that phase, of the gate port the next PWM period or commutation (DESIGN CHOICE, log
entry 112). -/
def State.swHold (s : State) (p : ProtPage) (m : BitVec 8) : State :=
  if s.sourceRuns p then s.modSw p (m &&& s.asks p) (fun w => { w with held := true }) else s

/-- Switches turn off: settings that waited for their next turn-on are in force (R273). -/
def State.swForget (s : State) (p : ProtPage) (m : BitVec 8) : State := s.modSw p m (fun w => { w with was := none })

/-- A request is withdrawn with no time told, as of `t`, the latest told. -/
def Sw.quit (w : Sw) (t dead : Nat) : Sw :=
  { busy := match w.due with
      | some d => if d ≤ t then t + dead else w.busy
      | none => w.busy }

/-- The requests of a half-bridge change with no time told. A new one respects the dead time of its partner's off command
(R270). -/
def halfFollow (h l : Sw) (ah al : Bool) (t dead : Nat) : Sw × Sw :=
  let h1 := if ah then h else h.quit t dead
  let l1 := if al then l else l.quit t dead
  ({ h1 with due := if ah && h.due.isNone then some (max t l1.busy) else h1.due },
   { l1 with due := if al && l.due.isNone then some (max t h1.busy) else l1.due })

/-- A brake commands its switches anew: what the chopper's request had met is over (R272, R291). -/
def Sw.anew (w : Sw) : Sw := { w with drop := false, held := false }

def State.brgHalfFollow (s : State) (n : Ax) (ask : BitVec 8) (j : Fin 4) : State :=
  let h : Fin 8 := ⟨2 * j.val, by omega⟩
  let l : Fin 8 := ⟨2 * j.val + 1, by omega⟩
  let b := s.brg n
  let t := (b.ph (swPhase h)).now
  let (h', l') := halfFollow b.sw[h] b.sw[l] (ask.getLsbD h.val) (ask.getLsbD l.val) t (s.deadNs (.brg n))
  let s := if halfChanges b.sw[h] b.sw[l] (ask.getLsbD h.val) (ask.getLsbD l.val) then s.phEdge n (swPhase h) t false else s
  let f := if s.chops n then id else Sw.anew
  s.modBrg n (fun b => { b with sw := (b.sw.set h (f h')).set l (f l') })

def State.gateHalfFollow (s : State) (ask : BitVec 8) (j : Fin 3) : State :=
  let h : Fin 6 := ⟨2 * j.val, by omega⟩
  let l : Fin 6 := ⟨2 * j.val + 1, by omega⟩
  let (h', l') := halfFollow s.gate.sw[h] s.gate.sw[l] (ask.getLsbD h.val) (ask.getLsbD l.val) (5 * s.gate.now) (s.deadNs .gate)
  let f := if s.sourceRuns .gate then id else Sw.anew
  s.modGate (fun g => { g with sw := (g.sw.set h (f h')).set l (f l') })

/-- The gate port's requests have changed with no time told: a state of the port, or the OV brake. -/
def State.gateFollow (s : State) : State := (List.finRange 3).foldl (fun t j => t.gateHalfFollow (s.asks .gate) j) s

/-- An axis's requests have changed with no time told: its mode, a brake, the sign of SET, the pair under self-test. -/
def State.brgFollow (s : State) (n : Ax) : State := (List.finRange 4).foldl (fun t j => t.brgHalfFollow n (s.asks (.brg n)) j) s

/-- The start of the slow part of a mixed off phase (R240). -/
def ChopPh.slowAt (h : ChopPh) (c : ChopSet) : Option Nat := if !h.on && decide (2 ≤ c.decay) then some (h.t0 + 10 * c.fast) else none

/-- A time moved back with the clock it was taken from, which stood at `now` and is told to be `t`. -/
def pullBack (now t x : Nat) : Nat := if x ≤ t then x else x - (now - t)
def Sw.back (now t : Nat) (w : Sw) : Sw := { w with due := w.due.map (pullBack now t), busy := pullBack now t w.busy }

/-- The die's time `t` reaches a phase: where the fast part of a mixed off phase has ended by then, that was an edge. A time
before the one a ramp tick has told corrects that one. -/
def State.phaseTime (s : State) (n : Ax) (p : Phase) (t : Nat) : State :=
  let h := (s.brg n).ph p
  if t < h.now then
    (s.modBrg n (fun b => { b with sw := b.sw.mapIdx (fun i w => if swPhase ⟨i % 8, by omega⟩ = p then w.back h.now t else w) })).modPh n p
      (fun h => { h with now := t, edge := h.edge.map (pullBack h.now t) })
  else
    let s := match h.slowAt (s.chopSet n p) with
      | some u => if h.now < u ∧ u ≤ t then s.swEdge n p u id else s
      | none => s
    s.modPh n p (fun h => { h with now := t })

/-- A time told by a command of an axis, in ns of its die's clock. -/
def State.dieTime (s : State) (n : Ax) (t : Nat) : State :=
  ((s.phaseTime n .pa t).phaseTime n .pb t).modBrg n (fun b => { b with tick := min b.tick t })

/-- The die's time reaches what a time told before, or the ramp ticks since, come to at the least. -/
def State.dieReach (s : State) (n : Ax) (t : Nat) : State := s.dieTime n (max t (max (s.brg n).phA.now (s.brg n).phB.now))

/-- A ramp tick, `ns` after the one before. DESIGN CHOICE (log entry 111): between the times that commands tell, a bridge die's clock
runs with machine time, as nominal. -/
def State.dieTick (s : State) (ns : Nat) (n : Ax) : State :=
  let s := s.dieReach n ((s.brg n).tick + ns)
  s.modBrg n (fun b => { b with tick := max b.phA.now b.phB.now })

/-- An event between two ramp ticks, at the latest machine time told. -/
def State.dieSync (s : State) (n : Ax) : State := s.dieReach n ((s.brg n).tick + s.time.run / nsUnit)

/-! ### The switches (R268, R270 to R272, R278, R280 to R282, R415) -/

/-- DRV_EN, as the bridges see it: ignored in STANDBY and in reset (R35, R282). -/
def State.drvLow (s : State) : Bool := !s.pins.drvEn && s.awake

def State.gateLow (s : State) : Bool := !s.pins.gateEn && s.awake

/-- The switches that an output check holds off for its time (R287): those of a phase, or of a half-bridge, with an SC latch under
test. -/
def Prot.checked (q : Prot) (size k : Nat) : Bool := q.check.any (fun c => (c.2.toNat >>> (k / size * size)) % 2 ^ size != 0)

/-- Is the switch held off (R268, R278, R282, R287), by a reset (R37, R48), or in STANDBY with VM below 10 V (R35)? -/
def State.brgHeldOff (s : State) (n : Ax) (k : Fin 8) : Bool :=
  let q := (s.brg n).prot
  let d := s.dies[axisDie n]
  q.trip || q.ot || q.sc.getLsbD k.val || q.uv.getLsbD k.val || s.drvLow || !s.sup.logic[axisDie n] || !d.hbSeen
    || q.checked 4 k.val || s.pwr.testHold || s.pwr.rstWait.isSome || (s.pwr.pstate == .standby && !s.sup.vmOk)

/-- A switch of a bridge is on only when its command asks for it, the dead time is over and nothing holds it off (R268, R270), as
of the latest time told. A request of the chopper that is dropped, or that a latch outlived, is not followed (R272, R291); a brake
asks all the time (DEDUCED from R285, log entry 52). -/
def State.brgSwitchOn (s : State) (n : Ax) (k : Fin 8) : Bool :=
  s.brgCommand n k && !s.brgHeldOff n k && (s.brg n).sw[k].ready ((s.brg n).ph (swPhase k)).now
    && !(s.chops n && ((s.brg n).sw[k].drop || (s.brg n).sw[k].held))

/-- What turns switches of an axis on or off outside the chopper is a switching edge of their phase (R243, R245): a latch, an enable
pin, a heartbeat, an output check. -/
def State.edgesSince (s s0 : State) (n : Ax) : State :=
  let moved := fun (p : Phase) => (List.finRange 8).any (fun k => decide (swPhase k = p) && (s0.brgSwitchOn n k != s.brgSwitchOn n k))
  let s1 := if moved .pa then s.phEdge n .pa (s.brg n).phA.now false else s
  if moved .pb then s1.phEdge n .pb (s.brg n).phB.now false else s1

/-- What keeps a gate-port switch off, whatever commands it. DESIGN CHOICE (log entry 101): STANDBY is not among it, so that the
brake of an OV latch (R280) holds the low sides on there too, where R35 has GLx at PGND and R88 the port off. -/
def State.gateHeldOff (s : State) (k : Fin 6) : Bool :=
  let q := s.gate.prot
  q.trip || q.sc.getLsbD k.val || q.uv.getLsbD k.val || s.gateLow || s.gate.streamLost || q.checked 2 k.val || s.pwr.testHold || s.pwr.rstWait.isSome

/-- A gate-port switch is on only when its command asks for it and nothing holds it off, as of the latest time told; a request that
was dropped, or that a latch outlived, is not followed (R268, R272, R291). -/
def State.gateSwitchOn (s : State) (k : Fin 6) : Bool :=
  s.gateCommand k && !s.gateHeldOff k && s.gate.sw[k].ready (5 * s.gate.now)
    && !(!s.gate.prot.ov && (s.gate.sw[k].drop || s.gate.sw[k].held))

/-- The gate-port switches that are on. -/
def State.gateOnNow (s : State) : BitVec 8 :=
  (List.finRange 6).foldl (fun m k => if s.gateSwitchOn k then m ||| (1#8 <<< k.val) else m) 0#8

end Sys2Proof.Machine
end

