-- ==== Sys2Proof/Machine/Axis.lean ====
section
/-! DEFINITION. The operations on an axis that many commands share: refusals, entering a mode, STOP, parking, the pause of
its ledger and the end of a characterisation run (R176 to R196, R222, R223, R264). -/

namespace Sys2Proof.Machine

/-! ### Codes -/

def Mode.code : Mode → Nat
  | .parked => 0
  | .hold => 1
  | .ledger => 2
  | .velocity => 3
  | .follow => 4
  | .characterise => 5

def Mode.ofCode : Nat → Option Mode
  | 0 => some .parked
  | 1 => some .hold
  | 2 => some .ledger
  | 3 => some .velocity
  | 4 => some .follow
  | 5 => some .characterise
  | _ => none

/-- LEDGER, VELOCITY and FOLLOW are the moving modes (R176). -/
def Mode.moving : Mode → Bool
  | .ledger | .velocity | .follow => true
  | _ => false

def LState.code : LState → Nat
  | .stopped => 0
  | .waiting => 1
  | .running => 2
  | .starved => 3
  | .fault => 4

/-- A refusal: REFUSE holds the code and MODE_REFUSED is set (R178, R179). -/
def State.axisRefuse (s : State) (n : Ax) (code : Nat) : State :=
  (s.setReg (axPage n) 0x0C (place code 0)).event (axPage n) 0

/-! ### Position and angle (R184, R186) -/

/-- POSITION as a signed number. -/
def State.position (s : State) (n : Ax) : Int := Ramp.position (s.axis n).chan

/-- The electrical angle of a position: with DIR_INV it runs in the opposite sense (R184; DEDUCED, log entry 13). -/
def angleOf (inv : Bool) (ofs : Nat) (pos : Int) : Nat :=
  ((if inv then (ofs : Int) - pos else pos + ofs) % 4096).toNat

def State.dirInv (s : State) (n : Ax) : Bool := s.regBit (axPage n) 0x0B 8

def State.angle (s : State) (n : Ax) : Nat := angleOf (s.dirInv n) (s.axis n).ofs (s.position n)

/-- The ANGLE_OFS that gives `angle` at a position. -/
def ofsFor (inv : Bool) (angle : Nat) (pos : Int) : Nat :=
  ((if inv then (angle : Int) + pos else (angle : Int) - pos) % 4096).toNat

/-- Load POSITION so that the electrical angle, and with it the rotor, does not move (R184). -/
def State.loadPosition (s : State) (n : Ax) (pos : Int) : State :=
  let ang := s.angle n
  s.modAxis n (fun a => { a with chan := { a.chan with p := pos * Ramp.microstep }, ofs := ofsFor (s.dirInv n) ang pos })

/-! ### The ledger's part (R205, R222, R223, R226) -/

/-- Offset of a register of the per-axis block of the LEDG page (R228). -/
def lOff (n : Ax) (k : Nat) : Nat := 0x20 + 0x10 * n.val + k

def State.ledgLen (s : State) (n : Ax) : Nat := s.regFld ledgPage (lOff n 2) 0 13
def State.ledgBase (s : State) (n : Ax) : Nat := (s.wide ledgPage (lOff n 0)).toNat

/-- FILL = (TAIL - HEAD) modulo LEN (R205). -/
def State.fill (s : State) (n : Ax) : Nat :=
  let l := s.ledger n
  let len := s.ledgLen n
  (l.tail + len - l.head) % len

/-- A bit of Qn_FLAGS sets, and ATTN with it (R226). -/
def State.ledgFlag (s : State) (n : Ax) (k : Nat) : State :=
  (s.setReg ledgPage (lOff n 0xB) (s.reg ledgPage (lOff n 0xB) ||| bitWord k)).event ledgPage n.val

/-- The pause: the queue stays, and an interrupted record stays at HEAD (R223). -/
def Ledger.pause (l : Ledger) : Ledger :=
  { l with
    paused := match l.run with
      | some r => some r
      | none => l.paused
    run := none, st := if l.st = .fault then .fault else .stopped }

/-- The axis leaves LEDGER mode: the pause, and an arrival at a barrier is withdrawn (R219, R222). -/
def Ledger.leave (l : Ledger) : Ledger := { l.pause with arrived := false, released := false }

def State.ledgerPause (s : State) (n : Ax) : State := s.modLedger n Ledger.pause
def State.ledgerLeave (s : State) (n : Ax) : State := s.modLedger n Ledger.leave

/-- The ledger on the tick its axis enters LEDGER mode (R222). -/
def State.ledgerEnter (s : State) (n : Ax) : State :=
  if s.fill n = 0 then (s.modLedger n (fun l => { l with st := .starved })).ledgFlag n 1
  else s.modLedger n (fun l => { l with st := .waiting })

/-! ### Modes -/

/-- The chopper of a phase that stands still: nothing conducts and no interval is open. A set that waits still takes effect
with the next on phase (R244). -/
def ChopPh.stopped (c : ChopPh) : ChopPh := { set := c.set, pend := c.pend, now := c.now }

/-- The bridges of an axis that enters PARKED: no current, no level, and the averages return to 0 (R230, R231, R247).
CHOP_SLOW stays until a cycle ends without a cut (R241). -/
def State.bridgeOff (s : State) (n : Ax) : State :=
  let s := s.modBrg n (fun b =>
    { b with
      level := 0, rest := none, iEff := 0, next := none
      phA := b.phA.stopped, phB := b.phB.stopped })
  let pg := brPage n
  (((((s.setReg pg 0x1B 0#16).setReg pg 0x1C 0#16).setReg pg 0x1D 0#16).setReg pg 0x1E 0#16).setReg pg 0x23 0#16).setReg
    pg 0x24 0#16

/-- The demand of FOLLOW on entry (R197). -/
def State.followEnter (s : State) (n : Ax) : State :=
  let pos := s.position n
  let src := s.regFld (axPage n) 0x31 0 2
  (s.modAxis n (fun a => { a with fol := { p0 := pos, c0 := (s.enc src).count.toInt, d := pos, lag := false, clamped := false } })).setReg
    (axPage n) 0x60 0#16

/-- The axis enters a mode: MODE shows it and MODE_CHANGED is set (R177). A mode already in force changes nothing.
Leaving LEDGER pauses the ledger (R178) and withdraws its arrival (R219). -/
def State.enterMode (s : State) (n : Ax) (m : Mode) : State :=
  let a := s.axis n
  if a.mode = m then s.modAxis n (fun a => { a with stopping := none })
  else
    let s := if a.mode = .ledger then s.ledgerLeave n else s
    let s := s.modAxis n (fun a => { a with
      mode := m, goal := .none, stopping := none, reversing := false, correcting := false
      settleLeft := if m = .velocity ∨ m = .follow ∨ m = .characterise then none else a.settleLeft
      chan := if m.moving then a.chan else { a.chan with v := 0, a := 0 } })
    let s := if a.mode = .parked then s.setReg (brPage n) 0x26 0#16 else s
    let s := match m with
      | .parked => s.bridgeOff n
      | .hold => s.modBrg n (fun b => { b with rest := none })
      | .ledger => s.ledgerEnter n
      | .follow => s.followEnter n
      | .velocity | .characterise => s
    let s := if m = .parked ∨ m = .characterise then
        s.modAxis n (fun a => { a with stall := { a.stall with cnt := 0 } })
      else s
    (s.brgFollow n).event (axPage n) 1

/-! ### Characterisation's end (R259, R264) -/

/-- CHAR_STAT.RESULT. -/
def State.setCharResult (s : State) (n : Ax) (r : Nat) : State := s.setFld (axPage n) 0x53 3 4 r

/-- The run ends with a result other than 1, and the axis enters a mode. -/
def State.charFail (s : State) (n : Ax) (r : Nat) (m : Mode) : State :=
  let s := (s.setCharResult n r).event (axPage n) 13
  let s := s.modAxis n (fun a => { a with char := { a.char with step := 0, todo := 0#5, ending := none, leg := 0, valid := false } })
  s.enterMode n m

/-- The run ends as interrupted, in `m`: at the next tick, or once a travel step has decelerated (R264). -/
def State.charEndIn (s : State) (n : Ax) (m : Mode) : State :=
  if (s.axis n).mode = .characterise then
    s.modAxis n (fun a => { a with char := { a.char with ending := some m, endCode := 2 } })
  else s

/-- What interrupts a run, other than a granted request: a run that is to end PARKED by then still does (DEDUCED from R194 and R285,
log entry 49). -/
def State.charInterrupt (s : State) (n : Ax) (m : Mode) : State :=
  s.charEndIn n (if (s.axis n).char.ending = some .parked then .parked else m)

/-! ### STOP and parking (R194, R278, R285) -/

/-- STOP_DECEL and STOP_JERK as limits. -/
def State.stopLimits (s : State) (n : Ax) : Limits :=
  { dmax := (s.wide (axPage n) 0x26).toNat, jmax := (s.wide (axPage n) 0x28).toNat }

/-- v has reached 0 in a STOP: STOPPED, and the mode that the STOP ends in (R194). -/
def State.stopDone (s : State) (n : Ax) (m : Mode) : State :=
  ((s.modAxis n (fun a => { a with chan := { a.chan with v := 0, a := 0 }, stopping := none })).event (axPage n) 6).enterMode n m

/-- A STOP of an axis in a moving mode, to end in `m`. The ledger pauses. An axis that stops already keeps on; at v = 0
the STOP is over at once (R194). DESIGN CHOICE (log entry 116): STOP_DECEL and STOP_JERK are those at its start. -/
def State.startStop (s : State) (n : Ax) (m : Mode) : State :=
  let a := s.axis n
  if a.mode.moving then
    let s := if a.mode = .ledger then s.ledgerPause n else s
    match a.stopping with
    | some _ => s
    | none =>
      if a.chan.v = 0 then s.stopDone n m
      else s.modAxis n (fun a => { a with
        goal := .stop, lim := s.stopLimits n, stopping := some m, reversing := false, correcting := false, settleLeft := none })
  else s

/-- PARKED at once, without a STOP (R278, R285): VM is gone, or FERR_POLICY or a stall asks for it. -/
def State.parkNow (s : State) (n : Ax) : State :=
  match (s.axis n).mode with
  | .parked => s
  | .characterise => s.charFail n 2 .parked
  | _ => s.enterMode n .parked

/-- PARKED by the fault policy, in SAFE or at a latch: at once, but a run is interrupted (R103, R264, R285). -/
def State.parkFault (s : State) (n : Ax) : State :=
  if (s.axis n).mode = .characterise then s.charInterrupt n .parked else s.parkNow n

/-- HOLD: the fault-policy state of SAFE under CONTINUE (R103, R264, R285). DESIGN CHOICE (log entry 49): an axis that is PARKED already
stays so. -/
def State.holdNow (s : State) (n : Ax) : State :=
  match (s.axis n).mode with
  | .parked => s
  | .characterise => s.charInterrupt n .hold
  | _ => s.enterMode n .hold

/-- What the watchdog, the STOP_N latch and FRZ do to a moving or characterising axis: STOP, or the run's end, then HOLD
(R81, R195, R196). -/
def State.haltAxis (s : State) (n : Ax) : State :=
  (s.startStop n .hold).charInterrupt n .hold

/-- FRZ and one axis with FRZ_EN: STOP, or the run's end; the ledger pauses. -/
def State.freezeAxis (s : State) (n : Ax) : State :=
  if s.regBit (axPage n) 0x0B 2 then
    let m := (s.axis n).mode
    let s := if m.moving then s.modAxis n (fun a => { a with frozen := some m, noResume := s.stopN }) else s
    (s.haltAxis n).ledgerPause n
  else s

/-! ### Profiles -/

/-- A profile starts: STALLED ends (R255), a settle check is abandoned (R201), the rest timer restarts (R230). -/
def State.profileStart (s : State) (n : Ax) : State :=
  (s.modAxis n (fun a => { a with stall := { a.stall with stalled := false }, settleLeft := none })).modBrg n
    (fun b => { b with rest := none })

/-- The soft limits in force (R193). -/
def State.softLimits (s : State) (n : Ax) : Option (Int × Int) :=
  if s.regBit (axPage n) 0x0B 1 then
    some ((s.wide (axPage n) 0x2A).toInt, (s.wide (axPage n) 0x2C).toInt)
  else none

/-- A target clamped to the soft limits, and whether it was (R193). -/
def State.clampTarget (s : State) (n : Ax) (t : Int) : Int × Bool :=
  match s.softLimits n with
  | none => (t, false)
  | some (lo, hi) => (max lo (min hi t), decide (t < lo) || decide (hi < t))

/-- The axis's own limits, with the clamp of reduced service (R97). -/
def State.runLimits (s : State) (l : Limits) : Limits := { l with vmax := s.redVmax l.vmax }

/-- Plan a move to a target from the present state: forward, or by a reversal (R187, R190). -/
def State.planMove (s : State) (n : Ax) (t : Int) (l : Limits) : State :=
  let (t', hit) := s.clampTarget n t
  let s := (s.eventIf hit (axPage n) 3).profileStart n
  s.modAxis n (fun a => { a with
    goal := .pos t', target := t', lim := l, reversing := Ramp.mustReverse a.chan t' (s.runLimits l) })

/-- TARGET_REACHED: the settle check is armed, SETTLE_OUT ends (R187, R201, R202). -/
def State.targetReached (s : State) (n : Ax) : State :=
  let mode := s.regFld (axPage n) 0x0B 6 2
  let s := (s.modAxis n (fun a => { a with
    goal := .none, atTarget := true, settleOut := false
    settleLeft := if (mode = 1 ∨ mode = 2) ∧ ¬a.correcting
      then some (10 * (s.reg (axPage n) 0x3D).toNat) else none
    correcting := false }))
  s.event (axPage n) 2

/-- The jog limits (R183, R188). -/
def State.jogLimits (s : State) (n : Ax) : Limits :=
  { vmax := (s.wide (axPage n) 0x1C).toNat, amax := (s.wide (axPage n) 0x1E).toNat
    dmax := (s.wide (axPage n) 0x20).toNat, jmax := (s.wide (axPage n) 0x22).toNat }

/-! ### DEVIATION (R199) -/

/-- Q of the bound channel without ENC_OFFSET: count * ENC_NUM / ENC_DEN, the product taken to 48 bits and rounded
toward zero. -/
def State.boundRaw (s : State) (n : Ax) : Int :=
  let pg := axPage n
  let cnt := (s.enc (s.regFld pg 0x35 0 2)).count.toInt
  let prod := (BitVec.ofInt 48 (cnt * (s.reg pg 0x36).toInt)).toInt
  truncDiv prod (s.reg pg 0x37).toNat

/-- DEVIATION = POSITION - Q (R199), as a signed 32-bit value. -/
def State.deviation (s : State) (n : Ax) : Int :=
  (BitVec.ofInt 32 (s.position n - (s.boundRaw n + (s.wide (axPage n) 0x38).toInt))).toInt

def State.bound (s : State) (n : Ax) : Bool := s.regBit (axPage n) 0x35 2

end Sys2Proof.Machine
end

