-- ==== Sys2Proof/Machine/Modes.lean ====
section
/-! DEFINITION. How requests to an axis are judged at a ramp tick: modes (R177 to R181, R257), SET_POS, ENC_ALIGN and
APPLY_RT. -/

namespace Sys2Proof.Machine

/-- The codes of R179, lowest first, that refuse a request for a mode (`none`: an undefined code), a STOP excepted. -/
def State.refusalTable (s : State) (n : Ax) (m : Option Mode) : List (Nat × Bool) :=
  let a := s.axis n
  let pg := axPage n
  let isChar := decide (m = some .characterise)
  let moving := match m with
    | some m => m.moving
    | none => false
  let energised := match m with
    | some .parked => false
    | some _ => true
    | none => false
  let run := moving || isChar
  let jog := s.jogLimits n
  let ramped := decide (m = some .velocity) || decide (m = some .follow)
  let src := s.regFld pg 0x31 0 2
  let srcOk := if s.regBit pg 0x31 2 then s.encQuadOk src else s.encStepOk src
  let latched := (s.brg n).prot.latched
  [(1, (isChar && (a.mode.moving || a.char.saving)) || (a.mode == .characterise && moving)),
   (2, a.mode.moving && decide (a.chan.v ≠ 0) && moving),
   (3, decide (s.pwr.pstate = .safe) || (decide (s.effState = .doze) && run) || (s.reduced && isChar)),
   (4, run && (s.stopN || s.axisFrozen n)),
   (5, energised && !s.sup.vmOk),
   (6, m.isNone || (ramped && (jog.vmax == 0 || jog.amax == 0 || jog.dmax == 0))),
   (7, decide (m = some .follow) && !srcOk),
   (8, energised && latched && (isChar || s.parkPolicy n)),
   (11, energised && !s.regBit pg 0x01 0),
   (12, decide (m = some .ledger) && decide ((s.ledger n).st = .fault)),
   (13, energised && !s.bankValid (s.tableSel n))]

/-- The lowest code that refuses a request (R179). -/
def State.modeRefusal (s : State) (n : Ax) (m : Option Mode) : Option Nat :=
  ((s.refusalTable n m).find? (fun e => e.2)).map Prod.fst

/-- The steps that a run makes: OPS = 0 selects all five (R258). -/
def charOps (ops : Nat) : BitVec 5 := if ops = 0 then 0x1F#5 else BitVec.ofNat 5 ops

/-- The lowest selected step, 1 to 5; 0 when none is left. -/
def nextStep (todo : BitVec 5) : Nat :=
  match (List.range 5).find? (fun i => todo.getLsbD i) with
  | some i => i + 1
  | none => 0

/-- CHAR_VEL (full steps/s) as a velocity limit: 1.024 microstep/us per 1000 full steps/s (R256), truncated. -/
def charVelQ (fsps : Nat) : Nat := fsps * 1024 * 65536 / 1000000

/-- A travel leg of a run to `t`, under the jog limits at CHAR_VEL. -/
def State.planTravel (s : State) (n : Ax) (t : Int) (leg : Nat) : State :=
  let l := { s.jogLimits n with vmax := charVelQ (s.reg (axPage n) 0x52).toNat }
  (s.profileStart n).modAxis n (fun a => { a with
    goal := .pos t, target := t, lim := l, reversing := Ramp.mustReverse a.chan t (s.runLimits l)
    char := { a.char with leg := leg } })

/-- A step of a run begins, with the decay, or the pair, that it asks the switches for. A travel step starts out in the positive direction, or with LIMIT_EN in the negative one where
POSITION + 65536 exceeds POS_LIMIT_HI; where neither fits the run ends with RESULT 7 (R258). -/
def State.charBegin (s : State) (n : Ax) (step : Nat) : State :=
  let s := (s.modAxis n (fun a => { a with char := { a.char with step := step, leg := 0, selfSw := 0, ampSum := 0, ampN := 0 } })).brgFollow n
  if step = 4 ∨ step = 5 then
    let pos := s.position n
    let s := s.modAxis n (fun a => { a with char := { a.char with home := pos } })
    match s.softLimits n with
    | none => s.planTravel n (pos + 65536) 1
    | some (lo, hi) =>
      if pos + 65536 ≤ hi then s.planTravel n (pos + 65536) 1
      else if lo ≤ pos - 65536 then s.planTravel n (pos - 65536) 1
      else s.charFail n 7 (s.axis n).char.from_
  else s

/-- A run starts (R257, R258): results and RESULT read 0, the first selected step begins. -/
def State.charStart (s : State) (n : Ax) : State :=
  let from_ := (s.axis n).mode
  let pg := axPage n
  let s := s.enterMode n .characterise
  let s := [0x53, 0x54, 0x55, 0x56, 0x57, 0x58, 0x59].foldl (fun s o => s.setReg pg o 0#16) s
  let todo := charOps (s.regFld pg 0x50 0 5)
  let step := nextStep todo
  let s := s.modAxis n (fun a => { a with char :=
    { a.char with
      step := step, todo := todo &&& ~~~(1#5 <<< (step - 1)), from_ := from_, ending := none, leg := 0, valid := false
      ops := todo, cur := s.reg pg 0x51 } })
  s.charBegin n step

/-- A granted request. The latest one granted to a run says how it ends (R178, R264). -/
def State.grantMode (s : State) (n : Ax) (m : Mode) : State :=
  let s := s.modAxis n (fun a => { a with frozen := none, stall := { a.stall with stalled := false } })
  let a := s.axis n
  match a.mode with
  | .parked | .hold => if m = .characterise then s.charStart n else s.enterMode n m
  | .characterise => s.charEndIn n m
  | .ledger | .velocity | .follow =>
    if a.chan.v = 0 then s.enterMode n m else s.startStop n m

/-- A request for PARKED or HOLD during a STOP is granted: it is carried out when v reaches 0 (R194, R255). -/
def State.recordStop (s : State) (n : Ax) (m : Mode) : State :=
  s.modAxis n (fun a => { a with stopping := some m, frozen := none, stall := { a.stall with stalled := false } })

/-- The request pending in MODE_CMD is judged (R177, R178). During a STOP, PARKED and HOLD are recorded and any other
request is refused with code 2 (R194). -/
def State.judgeMode (s : State) (n : Ax) (code : Nat) : State :=
  let a := s.axis n
  let m := Mode.ofCode code
  match a.stopping with
  | some _ =>
    match m with
    | some .parked => s.recordStop n .parked
    | some .hold => s.recordStop n .hold
    | _ => s.axisRefuse n 2
  | none =>
    if m = some a.mode then s
    else match s.modeRefusal n m with
      | some c =>
        let s := if c = 13 then s.event (brPage n) 1 else s
        s.axisRefuse n c
      | none => match m with
        | some m => s.grantMode n m
        | none => s

/-- SET_POS is judged (R184, R179 code 9). An accepted one confirms the position and clears INH_LOST (R421). -/
def State.judgeSetPos (s : State) (n : Ax) : State :=
  let a := s.axis n
  if (a.mode = .parked ∨ a.mode = .hold) ∧ a.stopping = none then
    let s := (s.loadPosition n (s.wide (axPage n) 0x12).toInt).modAxis n (fun a => { a with uncertain := false })
    { s with twin := { s.twin with inhLost := s.twin.inhLost &&& ~~~(1#10 <<< n.val), inhIdx := s.twin.inhIdx.set n none } }
  else s.axisRefuse n 9

/-- ENC_OFFSET is set so that DEVIATION reads 0; without a binding there is nothing to align (R199). -/
def State.encAlignNow (s : State) (n : Ax) : State :=
  if s.bound n then s.setWide (axPage n) 0x38 (BitVec.ofInt 32 (s.position n - s.boundRaw n)) else s

/-- The type of the record at HEAD that runs, if one does. -/
def LRec.word (r : LRec) (k : Nat) : Word := (r.words[k]?).getD 0#16
def LRec.type (r : LRec) : Nat := fld (r.word 0) 0 4

def State.runningType (s : State) (n : Ax) : Option Nat :=
  let l := s.ledger n
  match l.run, l.loaded with
  | some _, r :: _ => some r.type
  | _, _ => none

/-- APPLY_RT is judged: a running MOVE replans from the present state (R189); without one code 10, in a STOP code 2. DESIGN CHOICE
(log entry 110): a pause keeps the target resolved at the record's first start (R223), not the retargeted one. -/
def State.judgeRt (s : State) (n : Ax) : State :=
  let a := s.axis n
  if a.stopping.isSome then s.axisRefuse n 2
  else if a.mode = .ledger ∧ s.runningType n = some 1 ∧ a.correcting = false then
    s.planMove n (s.wide (axPage n) 0x1A).toInt a.lim
  else (s.axisRefuse n 10).event (axPage n) 5

/-- A change of DIR_INV takes effect: ANGLE_OFS keeps the electrical angle (R184). -/
def State.dirInvNow (s : State) (n : Ax) : State :=
  match (s.axis n).invReq with
  | none => s
  | some inv =>
    let ang := s.angle n
    (s.setFld (axPage n) 0x0B 8 1 (if inv then 1 else 0)).modAxis n (fun a =>
      { a with ofs := ofsFor inv ang (s.position n), invReq := none })

/-- The requests of an axis, judged in one tick: DIR_INV, SET_POS, the mode, then the retarget. ENC_ALIGN waits for the tick's
motion (R199). -/
def State.judgeRequests (s : State) (n : Ax) : State :=
  let s := s.dirInvNow n
  let r := (s.axis n).req
  let s := s.modAxis n (fun a => { a with req := { align := r.align } })
  let s := if r.setPos then s.judgeSetPos n else s
  let s := match r.mode with
    | some c => s.judgeMode n c
    | none => s
  if r.rt then s.judgeRt n else s

end Sys2Proof.Machine
end

