-- ==== Sys2Proof/Machine/Motion.lean ====
section
/-! DEFINITION. What one ramp tick does to an axis: its motion by mode and goal (R186 to R198), its currents (R230 to
R234), its load angle and stall (R251 to R256), its deviation and following error (R199, R200). -/

namespace Sys2Proof.Machine

/-- What a tick's motion tells the ledger. -/
inductive MEv where
  | none | reached | slewed | stopped
  deriving DecidableEq, Repr

def State.setChan (s : State) (n : Ax) (c : Chan) : State := s.modAxis n (fun a => { a with chan := c })

/-- The stop of a reversal has come to rest: REVERSED, and OVERSHOOT holds its distance from the target (R190). -/
def State.reversalDone (s : State) (n : Ax) (t : Int) : State :=
  let d := (s.position n - t).natAbs
  ((s.modAxis n (fun a => { a with reversing := false })).setWide (axPage n) 0x2E (BitVec.ofNat 32 d)).event (axPage n) 4

/-- Position p within the 32 bits of POSITION (R185). A velocity kept by a VEL record of the ledger wraps like that of VELOCITY,
since POSITION holds no more (DEDUCED, log entry 102). -/
def wrapP (p : Int) : Int := (BitVec.ofInt 64 p).toInt

/-- The channel with its position so wrapped. -/
def Chan.wrapped (c : Chan) : Chan := { c with p := wrapP c.p }

/-- One tick of a kept velocity (R210). Above the clamp of reduced service it falls to it within DMAX and JMAX (R97, R101). -/
def State.cruiseTick (s : State) (n : Ax) : State :=
  let a := s.axis n
  let top := Ramp.velUnits (s.redVmax a.lim.vmax)
  let c := if s.reduced ∧ top < (a.chan.v.natAbs : Int) then
      (Ramp.slewTick a.chan (if a.chan.v < 0 then -top else top) a.lim.dmax a.lim.dmax a.lim.jmax).1
    else Ramp.advance a.chan 1 ⟨a.chan.v, 0, true⟩
  s.setChan n c.wrapped

/-- One tick of a LEDGER axis, by its goal. With no goal the velocity is kept. DESIGN CHOICE (log entry 109): the soft limits of R193 do
not act on the velocity of a VEL record, nor on a kept one. -/
def State.goalTick (s : State) (n : Ax) : MEv × State :=
  let a := s.axis n
  match a.goal with
  | .none => (.none, s.cruiseTick n)
  | .pos t =>
    match Ramp.moveTick a.chan t (s.runLimits a.lim) a.reversing with
    | (c, .reached) => (.reached, (s.setChan n c).targetReached n)
    | (c, .rested) => (.none, (s.setChan n c).reversalDone n t)
    | (c, .going) => (.none, s.setChan n c)
  | .vel v =>
    let v' := s.redVel v v.natAbs
    let (c, d) := Ramp.slewTick a.chan (Ramp.velUnits v') a.lim.amax a.lim.dmax a.lim.jmax
    let s := s.setChan n c.wrapped
    if d then (.slewed, s.modAxis n (fun a => { a with goal := .none })) else (.none, s)
  | .stop =>
    let (c, d) := Ramp.stopTick a.chan a.lim.dmax a.lim.jmax
    let s := s.setChan n c
    if d then (.stopped, s.modAxis n (fun a => { a with goal := .none })) else (.none, s)

/-- LIMIT and LIMIT_ACTIVE, when the axis has come to rest at or beyond a limit: once for each stop there (R193). -/
def State.limitStop (s : State) (n : Ax) : State :=
  if (s.axis n).limitHeld then s
  else (s.modAxis n (fun a => { a with limitActive := true, limitHeld := true })).event (axPage n) 3

/-- The limit that slowing down to a lowered VMAX keeps: AMAX, or DMAX for the clamp of reduced service (R101, R188, R192). -/
def State.jogFall (s : State) (n : Ax) : Nat :=
  let jog := s.jogLimits n
  if s.reduced ∧ Ramp.velUnits (s.redVmax jog.vmax) < ((s.axis n).chan.v.natAbs : Int) then jog.dmax else jog.amax

/-- One tick of a VELOCITY axis (R192, R193): it slews to VCMD under the jog limits, and comes to rest at a soft limit ahead of it,
or behind it when it turns about, or beyond it where DMAX and JMAX allow no less. Above the clamp of reduced service it slows within DMAX (R101). -/
def State.velocityTick (s : State) (n : Ax) : State :=
  let a := s.axis n
  let jog := s.jogLimits n
  let vm : Int := s.redVmax jog.vmax
  let vt := Ramp.velUnits (max (-vm) (min vm (s.wide (axPage n) 0x24).toInt))
  let j : Int := jog.jmax
  let am := Ramp.accUnits jog.amax
  let dm := Ramp.accUnits jog.dmax
  let fall := Ramp.accUnits (s.jogFall n)
  let c := a.chan
  let acc := Ramp.liveAcc c.a j
  match s.softLimits n with
  | none =>
    let c' := Ramp.advance c 1 (Ramp.slew c.v acc vt am fall j)
    s.setChan n c'.wrapped
  | some (lo, hi) =>
    let g : Int := if 0 < c.v then 1 else if c.v < 0 then -1
      else if 0 < acc then 1 else if acc < 0 then -1 else if 0 ≤ vt then 1 else -1
    let bp := (if 0 < g then hi else lo) * Ramp.microstep
    let bq := (if 0 < g then lo else hi) * Ramp.microstep
    let dist := g * (bp - c.p)
    let ahead := Ramp.kept (g * c.v) (g * acc) dist dm j (Ramp.slew (g * c.v) (g * acc) (g * vt) am fall j)
    let r := (Ramp.kept (-(g * c.v)) (-(g * acc)) (g * (c.p - bq)) dm j ahead.flip).flip
    let near := decide (dist.natAbs < Ramp.microstep.natAbs)
    let c' := Ramp.advance c g r
    let past := decide (c.v ≠ 0) && decide (g * (bp - c'.p) < 0)
    let halted := decide (dist < Ramp.microstep ∧ c'.v = 0 ∧ c'.a = 0) && (decide (0 < g * vt) || past)
    let s := s.setChan n (if halted && near then { c' with p := bp } else c')
    if halted then s.limitStop n else s

/-- D of a gear FOLLOW: P0 + (count - C0) * GEAR_NUM / GEAR_DEN (R197), before it is clamped or wraps. -/
def State.gearDemand (s : State) (n : Ax) : Int :=
  let pg := axPage n
  let f := (s.axis n).fol
  let cnt := (s.enc (s.regFld pg 0x31 0 2)).count.toInt
  let diff := (BitVec.ofInt 32 (cnt - f.c0)).toInt
  let prod := (BitVec.ofInt 48 (diff * (s.reg pg 0x33).toInt)).toInt
  f.p0 + truncDiv prod (s.reg pg 0x34).toNat

/-- D as POSITION can hold it: clamped to the soft limits, and counted where that discards something, or wrapped (R185, R198). -/
def State.demandIn (s : State) (n : Ax) (d : Int) : Int × Bool :=
  let (d', hit) := s.clampTarget n d
  ((BitVec.ofInt 32 d').toInt, hit)

/-- A STOP's tick; it ends in mode `m`. Outside the soft limits' care POSITION wraps where the mode lets it (R185, R194). -/
def State.stopAdvance (s : State) (n : Ax) (m : Mode) : State :=
  let a := s.axis n
  let (c, d) := Ramp.stopTick a.chan a.lim.dmax a.lim.jmax
  let kept := (decide (a.mode = .velocity) || decide (a.mode = .follow)) && (s.softLimits n).isSome
  let s := s.setChan n (if kept then c else c.wrapped)
  if d then s.stopDone n m else s

/-- D - POSITION: modulo 2^32, but along the range where soft limits are on (R193, R198). -/
def State.followOff (s : State) (n : Ax) (d : Int) : Int :=
  let off := d - s.position n
  if (s.softLimits n).isSome then off else (BitVec.ofInt 32 off).toInt

/-- FOLLOW_LAG, once for each excursion (R198). -/
def State.followLag (s : State) (n : Ax) (d : Int) : State :=
  let off := (s.followOff n d).natAbs
  let lag := decide ((s.reg (axPage n) 0x3F).toNat < off)
  let s := s.eventIf (lag && !(s.axis n).fol.lag) (axPage n) 10
  s.modAxis n (fun a => { a with fol := { a.fol with lag := lag } })

/-- One tick of a FOLLOW axis whose source is in order: it tracks D as a retarget with no jerk limit (R198). Beyond the limit
that clamps D it stops as hard as DMAX allows and is not driven back (R193). DESIGN CHOICE (log entry 14): tracking sets
neither TARGET_REACHED nor REVERSED. -/
def State.followTrack (s : State) (n : Ax) : State :=
  let pg := axPage n
  let gear := s.regBit pg 0x31 2
  let raw := if gear then s.gearDemand n else (s.axis n).fol.d
  let (d, hit) := s.demandIn n raw
  let s := s.modAxis n (fun a => { a with
    target := d, fol := { a.fol with d := d, clamped := hit || (!gear && a.fol.clamped && d == a.fol.d) } })
  let a := s.axis n
  let pos := s.position n
  let past := a.fol.clamped && (match s.softLimits n with
    | some (lo, hi) => (d == hi && decide (hi < pos)) || (d == lo && decide (pos < lo))
    | none => false)
  let jog := s.jogLimits n
  if past then
    let s := s.setChan n (Ramp.slewTick a.chan 0 jog.dmax jog.dmax 0).1
    (if (s.axis n).chan.v = 0 then s.limitStop n else s).followLag n d
  else
    let t := a.chan.p / Ramp.microstep + s.followOff n d
    let l : Limits := { jog with vmax := s.redVmax jog.vmax, jmax := 0 }
    let (c, _) := Ramp.moveTickAt a.chan t l (s.jogFall n) (Ramp.mustReverse a.chan t l)
    let s := (s.setChan n (if (s.softLimits n).isNone then c.wrapped else c)).followLag n d
    if (s.axis n).fol.clamped && decide (c.v = 0) && decide (s.position n = d) then s.limitStop n else s

/-- One tick of a FOLLOW axis. A source that is lost or changes its mode makes it perform STOP, with REFUSE = 7 (R198). DESIGN CHOICE (log
entry 115): EVENT.MODE_REFUSED is set with it, as with every other code of REFUSE. -/
def State.followTick (s : State) (n : Ax) : State :=
  let src := s.regFld (axPage n) 0x31 0 2
  if (if s.regBit (axPage n) 0x31 2 then s.encQuadOk src else s.encStepOk src) then s.followTrack n
  else
    let s := (s.axisRefuse n 7).startStop n .hold
    match (s.axis n).stopping with
    | some m => s.stopAdvance n m
    | none => s

/-- One accepted step for an axis that follows the channel (R197): D moves by STEP_MULT; at a soft limit the step is
discarded and counted (R198). -/
def State.followStep (s : State) (ch : Nat) (up : Bool) (n : Ax) : State :=
  let pg := axPage n
  if (s.axis n).mode = .follow ∧ (s.axis n).stopping = none ∧ s.regBit pg 0x31 2 = false ∧ s.regFld pg 0x31 0 2 = ch then
    let m : Int := (s.reg pg 0x32).toNat
    let d := (s.axis n).fol.d + (if up then m else -m)
    let (d', hit) := s.demandIn n d
    let s := s.modAxis n (fun a => { a with fol := { a.fol with d := d', clamped := hit } })
    if hit then s.count pg 0x60 else s
  else s

/-- The back-EMF amplitude of a tick of the cruise counts for KE (R258): at CHAR_VEL, with no acceleration. -/
def State.cruiseSample (s : State) (n : Ax) : State :=
  let a := s.axis n
  let ea := (s.reg (brPage n) 0x1B).toInt
  let eb := (s.reg (brPage n) 0x1C).toInt
  if a.chan.a = 0 ∧ (a.chan.v.natAbs : Int) = Ramp.velUnits a.lim.vmax then
    s.modAxis n (fun a => { a with char := { a.char with
      ampSum := a.char.ampSum + isqrt (ea * ea + eb * eb).toNat, ampN := a.char.ampN + 1 } })
  else s

/-- One tick of the legs of a travel step (R258). -/
def State.travelTick (s : State) (n : Ax) (t : Int) : State :=
  let a := s.axis n
  match Ramp.moveTick a.chan t (s.runLimits a.lim) a.reversing with
  | (c, .reached) =>
    let s := s.setChan n c
    if a.char.leg = 1 then s.planTravel n a.char.home 2
    else s.modAxis n (fun a => { a with goal := .none, char := { a.char with leg := 3 } })
  | (c, .rested) => (s.setChan n c).modAxis n (fun a => { a with reversing := false })
  | (c, .going) => (s.setChan n c).cruiseSample n

/-- One tick of a CHARACTERISE axis: a travel step, or the end of an interrupted run (R258, R264). -/
def State.charTick (s : State) (n : Ax) : State :=
  let a := s.axis n
  match a.char.ending with
  | some m =>
    if a.chan.v = 0 then s.charFail n a.char.endCode m
    else
      let l := s.stopLimits n
      let (c, d) := Ramp.stopTick a.chan l.dmax l.jmax
      let s := s.setChan n c.wrapped
      if d then s.charFail n a.char.endCode m else s
  | none =>
    match a.goal with
    | .pos t => s.travelTick n t
    | _ => s

/-- A freeze that has ended while the axis still stopped: the mode is requested when the STOP ends (DEDUCED from R196,
log entry 15). -/
def State.resumeFrozen (s : State) (n : Ax) : State :=
  let a := s.axis n
  match a.frozen with
  | some m =>
    if s.pins.frz = false ∧ a.stopping = none ∧ a.noResume = false then
      s.modAxis n (fun a => { a with frozen := none, req := { a.req with mode := some m.code } })
    else s
  | none => s

/-- The motion of one axis in one tick. A disabled axis gets no clock (R181). -/
def State.axisMotion (s : State) (n : Ax) : MEv × State :=
  if s.regBit (axPage n) 0x01 0 = false then (.none, s)
  else
    let a := s.axis n
    match a.stopping with
    | some m => (.none, (s.stopAdvance n m).resumeFrozen n)
    | none =>
      match a.mode with
      | .parked | .hold => (.none, s)
      | .ledger => s.goalTick n
      | .velocity => (.none, s.velocityTick n)
      | .follow => (.none, s.followTick n)
      | .characterise => (.none, s.charTick n)

/-! ### Currents (R229 to R234) -/

/-- T[k] of a bank: the fixed sine, or the loaded entry; T[1024] is 65535 (R233, R235). -/
def State.tableEntry (s : State) (bank k : Nat) : Nat :=
  if 1024 ≤ k then 65535
  else if bank = 0 then Fixed.sineEntry k
  else (Store.get (fun _ => 0#16) s.table.bank (1024 * bank + k)).toNat

/-- S(theta) of a bank (R233). -/
def State.tableSin (s : State) (bank θ : Nat) : Int :=
  let r := θ % 1024
  match θ / 1024 % 4 with
  | 0 => s.tableEntry bank r
  | 1 => s.tableEntry bank (1024 - r)
  | 2 => -(s.tableEntry bank r : Int)
  | _ => -(s.tableEntry bank (1024 - r) : Int)

/-- Does a profile run, or the axis move (R230)? In FOLLOW a profile runs until POSITION is D, or the axis is held at a
limit. -/
def Axis.running (a : Axis) : Bool :=
  decide (a.goal ≠ .none) || a.stopping.isSome || decide (a.chan.v ≠ 0) || decide (a.chan.a ≠ 0)
    || (decide (a.mode = .follow) && !a.limitHeld && decide (a.chan.p ≠ a.target * Ramp.microstep))

/-- The rest timer after this tick: it starts on the tick the last profile ends (R230). -/
def State.restNow (s : State) (n : Ax) : Option Nat :=
  if (s.axis n).running then none
  else match (s.brg n).rest with
    | none => some 0
    | some k => some (k + 1)

/-- The code of the level in force and STATUS.LEVEL, with the rest timer at `rest` (R230, R259). -/
def State.currentLevel (s : State) (n : Ax) (rest : Option Nat) : Nat × Nat :=
  let a := s.axis n
  let pg := brPage n
  let delay := (s.reg pg 0x0B).toNat
  match a.mode with
  | .parked => (0, 0)
  | .characterise => ((s.reg (axPage n) 0x51).toNat, 1)
  | _ =>
    match rest with
    | none => ((s.reg pg 0x08).toNat, 1)
    | some k => if delay ≠ 0 ∧ 1000 * delay ≤ k then ((s.reg pg 0x0A).toNat, 3) else ((s.reg pg 0x09).toNat, 2)

/-- SS_DELAY has passed at rest (R230). -/
def State.standstill (s : State) (n : Ax) : State :=
  let delay := (s.reg (brPage n) 0x0B).toNat
  if s.hasAxis n ∧ (s.axis n).running = false ∧ delay ≠ 0 then
    s.modBrg n (fun b => { b with rest := b.rest.map (fun k => max k (1000 * delay)) })
  else s

/-- The bit of a level in `Bridge.clamped`. -/
def State.levelBit (s : State) (n : Ax) (code : Nat) : Nat := if (s.axis n).mode = .characterise then 3 else code - 1

def setBit4 (m : BitVec 4) (k : Nat) (b : Bool) : BitVec 4 := if b then m ||| (1#4 <<< k) else m &&& ~~~(1#4 <<< k)

/-- A level used as CUR_LIMIT sets CUR_CLAMPED, once for each write or record that carries it (R231). -/
def State.clampNote (s : State) (n : Ax) (bit lvl : Nat) : State :=
  if (s.reg (brPage n) 0x0D).toNat < lvl ∧ (s.brg n).clamped.getLsbD bit = false then
    (s.modBrg n (fun b => { b with clamped := setBit4 b.clamped bit true })).event (brPage n) 2
  else s

/-- A code is written to a level: it is judged afresh. -/
def State.clampFresh (s : State) (n : Ax) (bit lvl : Nat) : State :=
  (s.modBrg n (fun b => { b with clamped := setBit4 b.clamped bit false })).clampNote n bit lvl

/-- I_EFF one tick on: toward the level, at most CUR_SLEW codes, never above CUR_LIMIT (R231). -/
def slewCode (i lvl slew lim : Nat) : Nat :=
  let t := min lvl lim
  let i' := if slew = 0 then t else if i < t then min t (i + slew) else max t (i - slew)
  min i' lim

/-- One phase setpoint: round (I_EFF * S / 65535), halves away from zero (R234). -/
def setpoint (i : Nat) (sv : Int) : Int := roundDiv ((i : Int) * sv) 65535

/-- The setpoints of the tick before are in force from this tick on (R27): thresholds and polarity follow them. -/
def State.setpointsIn (s : State) (n : Ax) : State :=
  match (s.brg n).next with
  | none => s
  | some (a, b) =>
    let pg := brPage n
    let sa := a.toInt
    let sb := b.toInt
    let turned := decide ((0 ≤ sa) ≠ (0 ≤ s.setOf n .pa)) || decide ((0 ≤ sb) ≠ (0 ≤ s.setOf n .pb))
    let s := ((s.modBrg n (fun b => { b with next := none })).setReg pg 0x23 a).setReg pg 0x24 b
    let br := s.brg n
    let s := s.modAxis n (fun a => { a with stall := { a.stall with
      busyA := a.stall.busyA || decide (br.phA.set.hyst ≤ sa.natAbs)
      busyB := a.stall.busyB || decide (br.phB.set.hyst ≤ sb.natAbs) } })
    if turned then s.brgFollow n else s

/-- The currents of one axis in one tick, and the setpoints that act on the next one (R27, R230 to R234). -/
def State.currentTick (s : State) (n : Ax) : State :=
  let pg := brPage n
  let rest := s.restNow n
  let (lvl, code) := s.currentLevel n rest
  if code = 0 then s
  else
    let s := s.clampNote n (s.levelBit n code) lvl
    let i := slewCode (s.brg n).iEff lvl (s.reg pg 0x0C).toNat (s.reg pg 0x0D).toNat
    let θ := s.angle n
    let bank := s.tableSel n
    let sa := setpoint i (s.tableSin bank θ)
    let sb := setpoint i (s.tableSin bank (θ + 1024))
    s.modBrg n (fun b => { b with
      level := code, iEff := i, rest := rest, next := some (BitVec.ofInt 16 sa, BitVec.ofInt 16 sb), before := (b.iEff, b.rest) })

/-- The currents of the tick just made, with a record that has started on it, or the HOLD that followed the last one (R230, R232). A
profile that started has restarted the rest timer. -/
def State.currentAgain (s : State) (n : Ax) : State :=
  if s.regBit (axPage n) 0x01 0 ∧ (s.axis n).mode ≠ .parked then
    (s.modBrg n (fun b => { b with iEff := b.before.1, rest := if b.rest.isNone then none else b.before.2 })).currentTick n
  else s

/-! ### Load angle and stall (R251 to R256) -/

/-- Is |v| below a speed in full steps/s? One full step is 1024 microsteps (R253, R256). -/
def slowerThan (v : Int) (fsps : Nat) : Bool := decide (v.natAbs * 1000000 < fsps * 1024 * 281474976710656)

/-- STALL_BLIND (R253). -/
def State.stallBlind (s : State) (n : Ax) : Bool :=
  let a := s.axis n
  match a.mode with
  | .parked | .characterise => true
  | _ => slowerThan a.chan.v (s.reg (axPage n) 0x41).toNat

/-- Has the electrical angle, counted without wrap, reached a multiple of 1024 (R251)? POSITION may wrap on the way. -/
def fullStep (inv : Bool) (ofs : Nat) (old new : Int) : Bool :=
  let d := (BitVec.ofInt 32 (new - old)).toInt
  let u := if inv then (ofs : Int) - old else old + ofs
  let w := if inv then u - d else u + d
  if u < w then decide (u / 1024 < w / 1024) else if w < u then decide (-u / 1024 < -w / 1024) else false

/-- The load angle, the amplitude and its expectation (R252). DESIGN CHOICE (log entry 16): the amplitude and the
expectation are truncated, the angle is rounded to the nearest unit. -/
def State.loadAngle (s : State) (n : Ax) : Int × Nat × Nat :=
  let a := s.axis n
  let pg := brPage n
  let ea := (s.reg pg 0x1B).toInt
  let eb := (s.reg pg 0x1C).toInt
  let θ : Int := s.angle n
  let sn := Fixed.sin4096 θ
  let cs := Fixed.cos4096 θ
  let sgn : Int := (if a.chan.v < 0 then -1 else 1) * (if s.dirInv n then -1 else 1)
  let par := ea * sn + eb * cs
  let quad := sgn * (ea * cs - eb * sn)
  let amp := isqrt (ea * ea + eb * eb).toNat
  let exp := (s.reg (axPage n) 0x48).toNat * a.chan.v.natAbs * 1000 / (1024 * 281474976710656)
  (Fixed.atan2Units par quad, amp, exp)

/-- Does a SEEK run that watches for stalls? It does until it completes (R215, R256). -/
def State.seeksStall (s : State) (n : Ax) : Bool :=
  let l := s.ledger n
  match l.run, l.loaded with
  | some _, rec :: _ => rec.type == 4 && fld (rec.word 14) 0 2 == 0
  | _, _ => false

/-- A SEEK that runs and watches for a condition, with its PARAM. -/
def State.seekParam (s : State) (n : Ax) : Option Word :=
  let l := s.ledger n
  match l.run, l.loaded with
  | some r, rec :: _ => if rec.type = 4 ∧ r.hit = false then some (rec.word 14) else none
  | _, _ => none

/-- The condition a SEEK or a WAIT watches for has come (R215, R216). -/
def State.markSeen (s : State) (n : Ax) : State :=
  s.modLedger n (fun l => { l with run := l.run.map (fun r => { r with seen := true }) })

/-- A stall is declared (R255, R256). -/
def State.declareStall (s : State) (n : Ax) : State :=
  let pg := axPage n
  let s := (s.modAxis n (fun a => { a with stall := { a.stall with stalled := true, cnt := 0 } })).event pg 11
  let s := s.count pg 0x47
  if s.seeksStall n then s.markSeen n
  else match s.regFld pg 0x40 5 2 with
    | 1 => s.startStop n .hold
    | 2 => s.parkNow n
    | _ => s

/-- An estimate that counts: the registers and the stall count (R251, R254). -/
def State.estimateNow (s : State) (n : Ax) : State :=
  let pg := axPage n
  let (la, amp, exp) := s.loadAngle n
  let s := ((s.setReg pg 0x43 (BitVec.ofInt 16 la)).setReg pg 0x44 (satWord amp)).setReg pg 0x45 (satWord exp)
  let ke := s.reg pg 0x48
  let met := s.regBit pg 0x40 0 && (decide (((s.reg pg 0x42).toNat : Int) < la)
    || (decide (ke ≠ 0#16) && decide (amp * 16 < exp * s.regFld pg 0x40 8 4)))
  let c := if met then (s.axis n).stall.cnt + 1 else 0
  if met ∧ s.regFld pg 0x40 1 4 ≤ c then s.declareStall n
  else s.modAxis n (fun a => { a with stall := { a.stall with cnt := c } })

/-- Load angle and stall of one axis in one tick, from the position before the tick's motion (R251, R253). -/
def State.stallTick (s : State) (n : Ax) (old : Int) : State :=
  let a := s.axis n
  if s.stallBlind n then s.modAxis n (fun a => { a with stall := { a.stall with cnt := 0 } })
  else if fullStep (s.dirInv n) a.ofs old (s.position n) then
    let st := a.stall
    let counts := (st.smpA || !st.busyA) && (st.smpB || !st.busyB)
    let s := s.modAxis n (fun a => { a with stall :=
      { a.stall with smpA := false, smpB := false, busyA := false, busyB := false } })
    if counts then s.estimateNow n else s
  else s

/-! ### Deviation, following error, soft limits (R193, R199, R200) -/

/-- ENC_ALIGN, DEVIATION and FERR, with the tick's motion made (R199, R200; DEDUCED: FERR once for each excursion, log entry
17). DESIGN CHOICE (log entry 108): DEVIATION returns to 0 on the first tick without a binding. DESIGN CHOICE (log entry 121): FERR_POLICY
= STOP acts on an axis in a moving mode; a characterisation goes on. -/
def State.deviationTick (s : State) (n : Ax) : State :=
  let pg := axPage n
  let s := if (s.axis n).req.align then (s.modAxis n (fun a => { a with req := { a.req with align := false } })).encAlignNow n else s
  let s := s.setWide pg 0x3A (if s.bound n then BitVec.ofInt 32 (s.deviation n) else 0#32)
  let lim := (s.reg pg 0x3C).toNat
  let beyond := decide (lim ≠ 0) && decide (lim < (s.wide pg 0x3A).toInt.natAbs)
  let was := (s.axis n).ferr
  let s := s.modAxis n (fun a => { a with ferr := beyond })
  if beyond && !was then
    let s := s.event pg 7
    match s.regFld pg 0x0B 4 2 with
    | 1 => s.startStop n .hold
    | 2 => s.parkNow n
    | _ => s
  else s

/-- LIMIT_ACTIVE ends once the axis stands within its limits, or they are off (DEDUCED from R193, log entry 18). A stop at a
limit is over once the axis moves again. -/
def State.limitTick (s : State) (n : Ax) : State :=
  let s := if (s.axis n).chan.v ≠ 0 then s.modAxis n (fun a => { a with limitHeld := false }) else s
  match s.softLimits n with
  | none => s.modAxis n (fun a => { a with limitActive := false, limitHeld := false })
  | some (lo, hi) =>
    if lo < s.position n ∧ s.position n < hi then
      s.modAxis n (fun a => { a with limitActive := false, limitHeld := false })
    else s

/-- The ticks left before a settle check (R201). -/
def State.settleTick (s : State) (n : Ax) : State :=
  s.modAxis n (fun a => { a with settleLeft := a.settleLeft.map (fun k => k - 1) })

end Sys2Proof.Machine
end

