-- ==== Sys2Proof/Machine/Gate.lean ====
section
/-! DEFINITION. The gate port: its states, commutation, demand, duty and speed (R295 to R308). -/

namespace Sys2Proof.Machine

def GState.code : GState → Nat
  | .idle => 0
  | .precharge => 1
  | .run => 2
  | .stopping => 3
  | .braked => 4
  | .fault => 5

def State.gateEvent (s : State) (k : Nat) : State := s.event gatePage k

/-- EVENT.REFUSED and the code (R296). -/
def State.gateRefuse (s : State) (code : Nat) : State := (s.setReg gatePage 0x09 (place code 0)).gateEvent 0

def GState.driving : GState → Bool
  | .run | .stopping => true
  | _ => false

/-- Phase states of a commutation entry: U, V, W (R299). -/
def commPhases (w : Word) : Vector Nat 3 := #v[fld w 0 2, fld w 2 2, fld w 4 2]

/-- States 1 and 2 exchanged, while the demand is negative (R300). -/
def exchange (p : Nat) : Nat := if p = 1 then 2 else if p = 2 then 1 else p

/-- The commanded phase states for a hall code (R300, R301). -/
def Gate.commutated (g : Gate) : Vector Nat 3 :=
  if g.illegal ∨ g.hall = 0#3 ∨ g.hall = 7#3 then Vector.replicate 3 0
  else
    let p := commPhases g.comm[g.hall.toNat]!
    if g.vd < 0 then p.map exchange else p

def allOff : Vector Nat 3 := Vector.replicate 3 0
def allLow : Vector Nat 3 := Vector.replicate 3 2

/-- The commanded phase states of a port state (R295, R285). -/
def State.gatePhases (s : State) (st : GState) : Vector Nat 3 :=
  match st with
  | .idle => allOff
  | .precharge | .braked => allLow
  | .run | .stopping => s.gate.commutated
  | .fault => if s.gatePolicy = 2 then allLow else allOff

/-- An edge of each phase whose commanded state changes begins its profile anew (R303). -/
def edgeParts (old new part : Vector Nat 3) : Vector Nat 3 :=
  Vector.ofFn (fun i => if old[i] = new[i] then part[i] else 1)

/-- The loaded drive values take effect at the edges of the switches of a mask (R303). -/
def Gate.driveAt (g : Gate) (m : BitVec 8) : Gate :=
  { g with driveNow := g.driveNow.mapIdx (fun i d => if m.getLsbD i then g.drive else d) }

/-- The commanded phase states change, with the edges that this makes. -/
def Gate.setPhases (g : Gate) (new : Vector Nat 3) : Gate :=
  let m := (List.finRange 3).foldl (fun m i => if g.phases[i] = new[i] then m else m ||| (3#8 <<< (2 * i.val))) 0#8
  ({ g with phases := new, part := edgeParts g.phases new g.part }).driveAt m

/-- Normal edges of the switches of a mask begin: the profile of their phases starts anew, with the drive values as loaded (R303). -/
def Gate.edgeBegin (g : Gate) (m : BitVec 8) : Gate :=
  { g.driveAt m with part := g.part.mapIdx (fun i p => if m.getLsbD (2 * i) || m.getLsbD (2 * i + 1) then 1 else p) }

/-- The port enters a state, with its switches. What it commutates to waits for a refresh in progress (R304). -/
def State.gateEnter (s : State) (st : GState) : State :=
  if st.driving ∧ s.gate.refresh.any Option.isSome then s.modGate (fun g => { g with st := st, commWait := true })
  else
    let s := s.modGate (fun g => { g with st := st, commWait := false, refresh := Vector.replicate 3 none })
    (s.modGate (fun g => g.setPhases (s.gatePhases st))).gateFollow

/-- The phases whose commanded state changes at `t` turn their new switches on after DEAD (R300). -/
def Gate.newPhases (g : Gate) (new : Vector Nat 3) (on : Nat) : Gate :=
  { g.setPhases new with newAt := Vector.ofFn (fun i => if g.phases[i] = new[i] then g.newAt[i] else on) }

/-- The table state of the present code is applied, at a time in 5 ns units: at once, or after the refresh in progress (R300,
R304). -/
def State.commutate (s : State) (t : Nat) : State :=
  if s.gate.st.driving = false then s
  else if s.gate.refresh.any Option.isSome then s.modGate (fun g => { g with commWait := true })
  else (s.modGate (fun g => { g with commWait := false }.newPhases g.commutated (t + s.gateDead))).gateEdge (5 * t)

/-- The switches that have turned on or off since `g` begin their profile anew (R303). One that is held off has no edge. -/
def State.gateEdges (s : State) (g : Gate) : State :=
  let m := (List.finRange 6).foldl (fun (m : BitVec 8) k =>
    if g.sw[k].follows (5 * g.now) != s.gate.sw[k].follows (5 * s.gate.now) && !s.gateHeldOff k then m ||| (1#8 <<< k.val) else m) 0#8
  s.modGate (fun g => g.edgeBegin m)

/-- The port reaches the time `t` (5 ns units): a refresh that is over by then ends, the switches follow the PWM, the refreshes and
the ends of the dead times, and a commutation that waited is applied (R302, R304; DEDUCED, log entry 55). -/
def State.gateAt (s : State) (t : Nat) : State :=
  let w := s.regFld gatePage 0x25 0 9
  let s1 := s.modGate (fun g => { g with now := t })
  let s1 := if s.gate.now < t then s1.deadFollow else s1
  let s1 := s1.modGate (fun g => { g with
    refresh := Vector.ofFn (fun i =>
      if g.refresh[i].any (fun b => decide (b + g.refDead[i].1 + w + g.refDead[i].2 ≤ t)) then none else g.refresh[i]) })
  let due := s1.gate.commWait && s1.gate.st.driving && !s1.gate.refresh.any Option.isSome
  (if due then s1.commutate t else s1.gateEdge (5 * t)).gateEdges s.gate

/-- Insertion into a strictly rising list. -/
def insertRising (x : Nat) : List Nat → List Nat
  | [] => [x]
  | y :: l => if x < y then x :: y :: l else if x = y then y :: l else y :: insertRising x l

/-- The edges of the PWM and of the refreshes in progress after the latest time told and before `t`, in order: of the PWM those of
the last two periods (R302, R304), with the DEAD in force and with the one written, whichever each edge finds. -/
def State.gateInstants (s : State) (t : Nat) : List Nat :=
  let g := s.gate
  let d := s.gateDead
  let w := s.regFld gatePage 0x25 0 9
  let start := t - (t - g.per0) % s.pwmLen
  let pwm := if g.phases.any (fun p => p == 1) then
      [start - s.pwmLen, start].flatMap (fun b =>
        b :: ([s.pwmOn, s.pwmOnFor d].flatMap (fun o => [b + o, b + o + g.dead.fall, b + o + d]))
          ++ [b + s.pwmLen - g.dead.low, b + s.pwmLen - d])
    else []
  let ref := (List.finRange 3).flatMap (fun i => match g.refresh[i] with
    | some b => let e := b + g.refDead[i].1 + w; [b + g.refDead[i].1, e, e + g.refDead[i].2, e + d]
    | none => [])
  ((pwm ++ ref).filter (fun u => decide (g.now < u ∧ u < t))).foldr insertRising []

/-- A time before the one that the ramp ticks came to corrects that one. -/
def Gate.back (g : Gate) (t : Nat) : Gate :=
  { g with
    now := t, tick := min g.tick t, per0 := pullBack g.now t g.per0, ilimAt := pullBack g.now t g.ilimAt
    refresh := g.refresh.map (fun r => r.map (pullBack g.now t)), newAt := g.newAt.map (pullBack g.now t), sw := g.sw.map (fun w => w.back (5 * g.now) (5 * t)) }

/-- What the port does before the time `t`. -/
def State.gateUpTo (s : State) (t : Nat) : State :=
  if t < s.gate.now then s.modGate (fun g => g.back t) else (s.gateInstants t).foldl State.gateAt s

/-- The time told by a command (5 ns units). -/
def State.gateTime (s : State) (t : Nat) : State := (s.gateUpTo t).gateAt t

/-- A ramp tick, `ns` after the one before: FCORE is the clock of the PWM (R302), so the port's time runs on with it. -/
def State.gateClock (s : State) (ns : Nat) : State :=
  let s := s.gateTime (max s.gate.now (s.gate.tick + ns / 5))
  s.modGate (fun g => { g with tick := g.now })

/-- An event between two ramp ticks, at the latest machine time told. -/
def State.gateSync (s : State) : State := s.gateTime (max s.gate.now (s.gate.tick + s.time.run / (5 * nsUnit)))

/-- What a reset or a wake leaves: the latches, what the supplies show, and the time. -/
def Gate.kept (g : Gate) : Gate :=
  { prot := g.prot, vgpLow := g.vgpLow, bstLow := g.bstLow, vgpNear := g.vgpNear, bstNear := g.bstNear, now := g.now, tick := g.tick }

/-- Channel 10 stands still and the speed loop's integrator is 0. -/
def State.gateQuiet (s : State) : State :=
  (s.modGate (fun g => { g with chan := { g.chan with v := 0, a := 0 }, integ := 0, duty := 0, lastSign := 0, vd := 0, flipped := false }))

/-- A stop is over: IDLE or BRAKED, and STOPPED (R297). -/
def State.gateStopDone (s : State) : State :=
  ((s.gateQuiet).gateEnter (if s.regBit gatePage 0x0A 1 then .braked else .idle)).gateEvent 2

/-- A stop (R297): PRECHARGE ends at once; RUN becomes STOPPING, which is over where the demand is 0 already. -/
def State.gateStop (s : State) : State :=
  match s.gate.st with
  | .precharge => s.gateStopDone
  | .run => if s.gate.chan.v = 0 then s.gateStopDone else s.gateEnter .stopping
  | _ => s

/-- FAULT is entered at once (R298); the demand follows on the next tick. -/
def State.gateFaultNow (s : State) : State :=
  let running := match s.gate.st with
    | .precharge | .run | .stopping => true
    | _ => false
  (s.modGate (fun g => { g with faultStop := g.faultStop || running })).gateEnter .fault

/-- IDLE, with every switch commanded off and STOPPED: what reduced service does to the port, in FAULT too (R97, R298). One in IDLE
has nothing to stop (DEDUCED, log entry 78). -/
def State.gateCoast (s : State) : State :=
  if s.gate.st = .idle then s
  else ((s.gateQuiet.gateEnter .idle).modGate (fun g => { g with faultStop := false })).gateEvent 2

/-! ### Demand (R307) -/

def State.gateStopLimits (s : State) : Nat × Nat := ((s.wide gatePage 0x38).toNat, (s.wide gatePage 0x3A).toNat)

/-- Channel 10 for one tick: it slews to VCMD in RUN, stops in STOPPING, and is cleared after an entry into FAULT. The demand
in effect is the velocity of the tick before (R27). -/
def State.gateTick (s : State) : State :=
  let s := s.modGate (fun g => { g with vd := g.chan.v })
  let g := s.gate
  let s := if g.faultStop then ((s.gateQuiet).modGate (fun g => { g with faultStop := false })).gateEvent 2 else s
  let s := match g.st with
    | .run =>
      let vm : Int := (s.wide gatePage 0x30).toNat
      let vc := (s.wide gatePage 0x36).toInt
      let vt := Ramp.velUnits (max (-vm) (min vm vc))
      let am := (s.wide gatePage 0x32).toNat
      let (c, _) := Ramp.slewTick g.chan vt am am (s.wide gatePage 0x34).toNat
      s.modGate (fun g => { g with chan := { c with p := wrapP c.p } })
    | .stopping =>
      let (d, j) := s.gateStopLimits
      let (c, done) := Ramp.stopTick g.chan d j
      let s := s.modGate (fun g => { g with chan := { c with p := wrapP c.p } })
      if done then s.gateStopDone else s
    | _ => s
  -- the sense of the demand may have changed (R300, R307)
  let v := s.gate.vd
  let sg : Int := if 0 < v then 1 else if v < 0 then -1 else 0
  if sg = s.gate.lastSign then s
  else
    let s := s.modGate (fun g => { g with lastSign := sg, flipped := true, integ := 0 })
    let s := if s.regBit gatePage 0x0A 3 then s.modGate (fun g => { g with duty := 0 }) else s
    if s.gate.st.driving then s.gateEnter s.gate.st else s

/-! ### Halls and speed (R299 to R301, R306) -/

/-- One accepted code at time `t`, in 5 ns units. An illegal one ends a refresh in progress too (R301). No interval spans an illegal code; the time since the last edge and the
earlier intervals stay (R306). -/
def State.hallCode (s : State) (code : BitVec 3) (t : Nat) : State :=
  let s := (s.gateTime t).modGate (fun g => { g with hall := code })
  if code = 0#3 ∨ code = 7#3 then
    let s := s.modGate (fun g => { g with illegal := true, lastStep := none, span := false, refresh := Vector.replicate 3 none })
    let s := ((s.gateEvent 3).count gatePage 0x1F)
    if s.gate.st.driving then s.gateEnter s.gate.st else s
  else
    let idx := fld s.gate.comm[code.toNat]! 8 3
    let g := s.gate
    let s := s.modGate (fun g => { g with illegal := false, lastStep := some idx })
    let s := match g.lastStep with
      | none => s
      | some old =>
        let d := (idx + 6 - old) % 6
        if d = 1 ∨ d = 5 then
          let s := s.modGate (fun g => { g with dir := decide (d = 5), still := false })
          match (if g.span then g.edge else none) with
          | some e =>
            let iv := t - e
            let ivs := (iv :: g.ivals).take 6
            let avg := s.regBit gatePage 0x0A 4
            let per := if avg then ivs.sum / ivs.length else iv
            let s := s.modGate (fun g => { g with edge := some t, ivals := ivs, period := per })
            s.setWide gatePage 0x1B (BitVec.ofNat 32 per)
          | none => s.modGate (fun g => { g with edge := some t, span := true })
        else (s.gateEvent 4).count gatePage 0x1F
    (s.produce 0x1D).commutate t

/-! ### PWM (R302, R307) -/

/-- The switches of the phases in state 1 that PWM switches: the high sides, and with SYNC the low sides. -/
def State.pwmSwitches (s : State) : BitVec 8 :=
  let sync := s.regBit gatePage 0x0A 0
  (List.finRange 3).foldl (fun (m : BitVec 8) i =>
    if s.gate.phases[i] = 1 then m ||| ((if sync then 3#8 else 1#8) <<< (2 * i.val)) else m) 0#8

/-- A PWM period starts at `t`: its on time begins, and a request that outlived a latch is asked for again (R291, R302, R303). -/
def State.pwmEdge (s : State) (t : Nat) : State :=
  let s1 := (s.modGate (fun g => { g with ilim := false, per0 := t, now := t })).deadFollow.modSw .gate s.pwmSwitches
    (fun w => { w with held := false, was := none })
  (s1.gateAt t).gateEdges s.gate

/-- DUTY_ACT of the PWM period that starts at time `t` (5 ns units). -/
def State.dutyAct (s : State) (t : Nat) : State :=
  let g := s.gate
  let v := g.vd / 4294967296
  let maxd : Int := (s.reg gatePage 0x0E).toNat
  let speed := g.speedAt t
  let s := s.modGate (fun g => { g with flipped := false })
  if g.st.driving = false then s.modGate (fun g => { g with duty := 0 })
  else if s.regBit gatePage 0x0A 3 = false then
    let vm := (s.wide gatePage 0x30).toNat
    let d := if vm = 0 then 0 else (s.reg gatePage 0x0D).toNat * v.natAbs / vm
    s.modGate (fun g => { g with duty := min d 4095 })
  else if v = 0 ∨ g.flipped then s.modGate (fun g => { g with integ := 0, duty := 0 })
  else
    let sg : Int := if v < 0 then -1 else 1
    let e := sg * (v - speed)
    let clamp := fun (x : Int) => max 0 (min maxd x)
    let i := clamp (g.integ + e * (s.reg gatePage 0x2C).toNat / 65536)
    let d := clamp (i + e * (s.reg gatePage 0x2B).toNat / 4096)
    s.modGate (fun g => { g with integ := i, duty := d.toNat })

/-- A PWM period start at time `t` (5 ns units). -/
def State.gateDuty (s : State) (t : Nat) : State := ((s.gateUpTo t).dutyAct t).pwmEdge t

/-! ### Events of the power stage (R302 to R306) -/

/-- The port's unit works: present, clocked, the device awake. -/
def State.gateLive (s : State) : Bool := s.part.hasGate && s.awake && s.regBit gatePage 0x01 0

/-- The time that a command tells, where it does (not 0). -/
def State.gateTold (s : State) (t : Nat) : State := if s.gateLive ∧ t ≠ 0 then s.gateTime t else s

/-- A refresh of one phase begins at time `t` (5 ns units): its high side turns off, after DEAD its low side is on for
REFRESH_WIDTH, and after a further DEAD its high side follows its command again (R304). -/
def State.refreshAt (s : State) (ph : Fin 3) (t : Nat) : State :=
  let s := s.gateTold t
  if s.gateLive ∧ s.gate.st.driving ∧ s.gate.phases[ph] = 1 ∧ s.gate.refresh[ph].isNone then
    ((s.modGate (fun g => { g with
      refresh := g.refresh.set ph (some g.now), refDead := g.refDead.set ph (s.gateDead, s.gateDead) })).gateAt s.gate.now).countWrap
      gatePage 0x27
  else s

/-- The current limit at time `t` (5 ns units): once in a period, with the edges of the on time's end (R303, R305). -/
def State.ilimHit (s : State) (t : Nat) : State :=
  let s := s.gateTold t
  if s.gateLive ∧ s.gate.st.driving ∧ s.reg gatePage 0x29 ≠ 0#16 ∧ s.gate.ilim = false then
    (((s.modGate (fun g => { g with ilim := true, ilimAt := g.now })).deadFollow.gateAt s.gate.now).gateEvent 5).count gatePage 0x2A
  else s

/-- Part 2 of an edge ends: the held drive of part 3 follows (R303). -/
def State.slopeEnd (s : State) (ph : Fin 3) : State := s.modGate (fun g => { g with part := g.part.set ph 3 })

/-- The switch of a phase whose edge a command speaks of: its high side, or the one whose edge has begun since (`true`: low). -/
def edgeSw (ph : Fin 3) (low : Option Bool) : Fin 6 := ⟨2 * ph.val + (if low = some true then 1 else 0), by have := ph.isLt; split <;> omega⟩

/-- A further edge of a phase has begun, that comes with no command of its own: the end of the on time, one of the low side, one within
a refresh, or the turn-on after the dead time of a commutation (R300, R302 to R304). A switch that is held off has none. -/
def State.edgeNow (s : State) (ph : Fin 3) (low : Option Bool) : State :=
  if s.gateLive ∧ low.isSome ∧ s.gateHeldOff (edgeSw ph low) = false then s.modGate (fun g => g.edgeBegin (1#8 <<< (edgeSw ph low).val)) else s

/-- MAX_SLOPE_TIME expires in part 2. -/
def State.slopeLate (s : State) (ph : Fin 3) (low : Option Bool) : State :=
  let s := s.edgeNow ph low
  if s.gateLive ∧ s.gate.part[ph] ≠ 3 then (s.slopeEnd ph).gateEvent 6 else s

/-- SHx crosses VM/2, `since` (5 ns units) after the edge began: part 1 lasts PRE_TIME, and the crossing ends part 2. -/
def State.slopeCross (s : State) (ph : Fin 3) (since : Nat) (low : Option Bool) : State :=
  let s := s.edgeNow ph low
  if s.gateLive ∧ s.gate.part[ph] ≠ 3 ∧ s.gate.driveNow[edgeSw ph low].1 ≤ since then s.slopeEnd ph else s

/-- No hall edge for HALL_TIMEOUT (R306). -/
def State.hallQuiet (s : State) : State :=
  if s.gateLive then
    let s := s.modGate (fun g => { g with still := true })
    if s.gate.st = .run ∧ s.gate.vd ≠ 0 then s.gateEvent 7 else s
  else s

/-- The command stream of the driver block has stopped (R416). -/
def State.streamStop (s : State) : State :=
  if s.part.hasGate then s.modGate (fun g => { g with streamLost := true }) else s

/-! ### START and the apply commands (R296, R299, R303) -/

def Prot.any (p : Prot) : Bool := p.latched

def State.startRefusal (s : State) : Option Nat :=
  let g := s.gate
  let full := decide (s.pwr.pstate = .run) && !s.reduced
  let l : List (Nat × Bool) :=
    [(1, !full), (2, !s.sup.vgpOk), (3, g.prot.latched && decide (s.gatePolicy ≠ 0)),
     (4, s.stopN || (s.pins.frz && s.regBit gatePage 0x0A 2)), (5, !g.tableValid),
     (6, decide (s.wide gatePage 0x30 = 0#32) || decide (s.wide gatePage 0x32 = 0#32)),
     (8, match g.st with | .precharge | .run | .stopping => true | _ => false)]
  (l.find? (fun e => e.2)).map Prod.fst

/-- CMD.START (R296). A port whose unit gets no clock does not start (DESIGN CHOICE, log entry 20). -/
def State.gateStart (s : State) : State :=
  match s.startRefusal with
  | some c => s.gateRefuse c
  | none => match s.gate.st with
    | .idle | .braked => if s.enabled gatePage then s.gateEnter .precharge else s
    | _ => s

/-- PRECHARGE has elapsed: RUN, STARTED, the integrator 0 (R296, R304). -/
def State.gateRun (s : State) : State :=
  ((s.modGate (fun g => { g with integ := 0, refresh := Vector.replicate 3 none })).gateEnter .run).gateEvent 1

def State.stagedComm (s : State) (c : Nat) : Word := s.reg gatePage (0x10 + c)

/-- CMD.APPLY_TABLE (R299): IDLE, no phase field 3, six distinct step indices of 0 to 5. -/
def State.applyTable (s : State) : State :=
  let ws := [1, 2, 3, 4, 5, 6].map s.stagedComm
  let idx := ws.map (fun w => fld w 8 3)
  let ok := decide (s.gate.st = .idle)
    && ws.all (fun w => fld w 0 2 != 3 && fld w 2 2 != 3 && fld w 4 2 != 3)
    && decide idx.Nodup && idx.all (fun i => decide (i ≤ 5))
  if ok then
    s.modGate (fun g => { g with
      comm := Vector.ofFn (fun i : Fin 8 => if i.val = 0 ∨ i.val = 7 then 0#16 else s.stagedComm i.val), tableValid := true })
  else s.gateRefuse 7

/-- CMD.APPLY_DRIVE (R303). -/
def State.applyDrive (s : State) : State :=
  let p := (s.reg gatePage 0x20).toNat
  let a := (s.reg gatePage 0x21).toNat
  let b := (s.reg gatePage 0x22).toNat
  let m := (s.reg gatePage 0x23).toNat
  if 2 ≤ p ∧ p ≤ 40 ∧ 1 ≤ a ∧ a ≤ 16 ∧ 1 ≤ b ∧ b ≤ 16 ∧ 10 ≤ m ∧ m ≤ 400 then
    s.modGate (fun g => { g with drive := (p, a, b, m) })
  else s.gateRefuse 7

/-- GATE.CMD, its actions in the order of their bits. -/
def State.gateCmd (s : State) (v : Word) : State :=
  let s := if v.getLsbD 0 then s.gateStart else s
  let s := if v.getLsbD 1 then s.gateStop else s
  let s := if v.getLsbD 2 then s.applyTable else s
  if v.getLsbD 3 then s.applyDrive else s

/-- A wide register of GATE, with the clamp of R183 (R307); a STOP_DECEL of 0 is ignored (DEDUCED, log entry 29). -/
def State.gateWideWrite (s : State) (offHi : Nat) (v : Wide) : State :=
  match offHi with
  | 0x30 => s.setWide gatePage offHi (BitVec.ofNat 32 (min maxVel v.toNat))
  | 0x36 => s.setWide gatePage offHi (BitVec.ofInt 32 (clampVel v.toInt))
  | 0x38 => if v = 0#32 then s else s.setWide gatePage offHi v
  | _ => s.setWide gatePage offHi v

end Sys2Proof.Machine
end

