-- ==== Sys2Proof/Machine/Ledger.lean ====
section
/-! DEFINITION. The ledger engine (R203 to R228): prefetch, the start of a record, its progress and completion, barriers,
faults, and the writes of the LEDG page. -/

namespace Sys2Proof.Machine

/-! ### Records (R209) -/

def LRec.timed (r : LRec) : Bool := (r.word 0).getLsbD 4
def LRec.barrier (r : LRec) : Bool := (r.word 0).getLsbD 5
def LRec.relative (r : LRec) : Bool := (r.word 0).getLsbD 6
def LRec.last (r : LRec) : Bool := (r.word 0).getLsbD 7
def LRec.action (r : LRec) : Nat := fld (r.word 0) 8 4
def LRec.barrierId (r : LRec) : Nat := fld (r.word 0) 12 4
def LRec.start (r : LRec) : Wide := (r.word 1).wide (r.word 2)
def LRec.target (r : LRec) : Wide := (r.word 3).wide (r.word 4)
def LRec.vmax (r : LRec) : Wide := (r.word 5).wide (r.word 6)
def LRec.amax (r : LRec) : Nat := ((r.word 7).wide (r.word 8)).toNat
def LRec.dmax (r : LRec) : Nat := ((r.word 9).wide (r.word 10)).toNat
def LRec.jmax (r : LRec) : Nat := ((r.word 11).wide (r.word 12)).toNat
def LRec.runCurrent (r : LRec) : Nat := fld (r.word 13) 0 10
def LRec.param (r : LRec) : Word := r.word 14
def LRec.tag (r : LRec) : Word := r.word 15

/-- The signed velocity of a VEL, clamped in magnitude to the largest velocity (R211). -/
def LRec.velocity (r : LRec) : Int := max (-(maxVel : Int)) (min maxVel r.vmax.toInt)

/-- Does the record carry a velocity above the largest (R211)? -/
def LRec.overVel (r : LRec) : Bool :=
  if r.type = 2 then decide (maxVel < r.vmax.toInt.natAbs) else decide (maxVel < r.vmax.toNat)

def LRec.isMotion (r : LRec) : Bool := decide (r.type = 1 ∨ r.type = 2 ∨ r.type = 4)

/-- The limits a record runs under. -/
def LRec.limits (r : LRec) : Limits :=
  { vmax := min maxVel r.vmax.toNat, amax := r.amax, dmax := r.dmax, jmax := r.jmax }

/-- (MT_US - START) as a signed value (R212). -/
def State.lateness (s : State) (r : LRec) : Int := (s.mtUs - r.start).toInt

/-- POSITION + TARGET, or TARGET (R211). -/
def State.recTarget (s : State) (n : Ax) (r : LRec) : Int :=
  if r.relative then s.position n + r.target.toInt else r.target.toInt

/-- The cause that keeps a record from starting, in the order in which R211 and its neighbours test (R211, R214, R215,
R224, R256). DEDUCED: an uncorrectable word comes first (log entry 19). -/
def State.recordFault (s : State) (n : Ax) (r : LRec) (resumed : Bool) : Option Nat :=
  let pg := axPage n
  let p := r.param
  let sum := s.recTarget n r
  let lim := (s.reg ledgPage (lOff n 0xE)).toNat
  if r.ue then some 5
  else if r.type = 0 ∨ 8 ≤ r.type then some 1
  else if 4 ≤ r.action then some 2
  else if r.isMotion ∧ (r.vmax = 0#32 ∨ r.amax = 0 ∨ r.dmax = 0) then some 3
  else if r.relative ∧ (r.type = 1 ∨ r.type = 4) ∧ ¬(resumed ∧ r.type = 1)
      ∧ (sum < -2147483648 ∨ 2147483647 < sum) then some 4
  else if r.type = 4 ∧ fld p 0 2 = 3 then some 6
  else if r.type = 4 ∧ fld p 0 2 = 1 ∧ s.hasEnc (fld p 2 2) = false then some 6
  else if r.type = 4 ∧ fld p 0 2 = 0 ∧ (s.regBit pg 0x40 0 = false
      ∨ min maxVel r.vmax.toNat * 1000000 < (s.reg pg 0x41).toNat * 1024 * 65536) then some 6
  else if r.timed ∧ resumed = false ∧ lim ≠ 0 ∧ (lim : Int) < s.lateness r then some 7
  else none

/-- A LEDGER_FAULT: the record never starts, the ledger keeps it at HEAD, the axis performs STOP and enters HOLD (R224). -/
def State.ledgerFault (s : State) (n : Ax) (cause : Nat) : State :=
  let s := s.modLedger n (fun l => { l with
    st := .fault, cause := cause, run := none, paused := none, arrived := false, released := false })
  (s.ledgFlag n 4).startStop n .hold

/-! ### Completion (R210, R217, R218, R221, R226) -/

/-- LOW_WATER, when FILL falls from above it (R226). -/
def State.lowWater (s : State) (n : Ax) (before : Nat) : State :=
  let w := (s.reg ledgPage (lOff n 8)).toNat
  if w ≠ 0 ∧ w < before ∧ s.fill n ≤ w then s.ledgFlag n 0 else s

/-- The record at HEAD completes. DESIGN CHOICE (log entry 123): a LAST record that completes at v ≠ 0 without being a motion record
has the axis perform a STOP under STOP_DECEL and STOP_JERK into HOLD, and one that empties the queue sets LAST_DONE and not STARVED. -/
def State.completeRecord (s : State) (n : Ax) (r : LRec) : State :=
  let before := s.fill n
  let s := if r.action = 2 ∧ r.type ≠ 6 then s.produce (0x1E + n.val) else s
  let s := if r.action = 3 then (s.setReg ledgPage (lOff n 0xF) r.tag).ledgFlag n 8 else s
  let s := s.setReg ledgPage (lOff n 0xA) r.tag
  let len := s.ledgLen n
  let s := s.modLedger n (fun l => { l with
    head := (l.head + 1) % len, loaded := l.loaded.tail, run := none, paused := none
    arrived := false, released := false, st := .waiting })
  let s := s.lowWater n before
  if r.last then
    let s := s.ledgFlag n 2
    if (s.axis n).chan.v = 0 then s.enterMode n .hold else s.startStop n .hold
  else if s.fill n = 0 then (s.modLedger n (fun l => { l with st := .starved })).ledgFlag n 1
  else s

/-! ### Starting (R210 to R217, R223) -/

/-- Is the axis a participant of a barrier (R219)? -/
def State.participates (s : State) (n : Ax) (b : Nat) : Bool :=
  s.hasAxis n && s.regBit ledgPage (0x10 + b) n.val

/-- A code written to a current field by a record: CUR_CLAMPED where it lies above CUR_LIMIT (R231, R232). -/
def State.recordCurrent (s : State) (n : Ax) (off code : Nat) : State :=
  if code = 0 then s
  else (s.setReg (brPage n) off (place code 0)).clampFresh n (off - 8) code

/-- What a record does on its start tick, beyond its flags. The Bool tells that it completes on that very tick. DESIGN CHOICE (log entry
123): a SEEK whose bound is POSITION reaches it on the tick after its start, and a VEL with LAST that is at its velocity already
begins to decelerate one tick after its start. -/
def State.startEffect (s : State) (n : Ax) (r : LRec) (resume : Option LRun) : Bool × State :=
  let run := fun (l : LRun) (s : State) => s.modLedger n (fun g => { g with run := some l, paused := none, st := .running })
  match r.type with
  | 1 =>
    let t := match resume with
      | some p => p.target
      | none => s.recTarget n r
    let s := s.planMove n t r.limits
    let a := s.axis n
    let s := run { target := a.target } s
    if a.chan.v = 0 ∧ Ramp.liveAcc a.chan.a r.jmax = 0 ∧ s.position n = a.target then
      (true, (s.setChan n { p := a.target * Ramp.microstep, v := 0, a := 0 }).targetReached n)
    else (false, s)
  | 2 =>
    let s := (s.profileStart n).modAxis n (fun a => { a with
      goal := .vel r.velocity, lim := { r.limits with vmax := r.velocity.natAbs }, reversing := false })
    let s := run {} s
    let a := s.axis n
    if a.chan.v = Ramp.velUnits (s.redVel r.velocity r.velocity.natAbs) ∧ Ramp.liveAcc a.chan.a r.jmax = 0 ∧ r.last = false then
      (true, s.modAxis n (fun a => { a with goal := .none }))
    else (false, s)
  | 3 =>
    let left := match resume with
      | some p => p.left
      | none => max 1 r.target.toNat
    (false, run { left := left } s)
  | 4 => (false, run {} (s.planMove n (s.recTarget n r) r.limits))
  | 5 => (false, run {} (s.recordCurrent n 0x09 (fld r.param 0 10)))
  | 6 => (false, run {} ((s.produce (0x1E + n.val)).ledgFlag n 11))
  | _ => (false, run { left := r.target.toNat } s)

/-- The record at HEAD starts, or gives its fault (R211 to R217). -/
def State.startRecord (s : State) (n : Ax) (r : LRec) : Bool × State :=
  let resume := (s.ledger n).paused
  match s.recordFault n r resume.isSome with
  | some c => (false, s.ledgerFault n c)
  | none =>
    -- an axis that is no participant waits at no barrier, whatever it did before (R219)
    let s := if r.barrier && s.participates n r.barrierId then s else s.modLedger n (fun l => { l with arrived := false })
    let s := s.eventIf (r.isMotion && r.overVel) (axPage n) 9
    let s := if resume.isSome then s.ledgFlag n 12 else s
    let s := if r.timed ∧ resume.isNone ∧ 0 < s.lateness r then s.ledgFlag n 3 else s
    let s := s.recordCurrent n 0x08 r.runCurrent
    let s := if r.action = 1 ∧ r.type ≠ 6 then s.produce (0x1E + n.val) else s
    s.startEffect n r resume

/-- Is the record at HEAD held (R212)? A resumed record waits neither for its START nor at its barrier (R223). -/
def State.recordHeld (s : State) (n : Ax) (r : LRec) : Bool :=
  let l := s.ledger n
  !s.regBit ledgPage 0x01 0
    || (l.paused.isNone && ((r.timed && decide (s.lateness r < 0))
      || (r.barrier && s.participates n r.barrierId && !l.released)))

/-- Start records from HEAD on until one runs or is held; at most three are loaded. DESIGN CHOICE (log entry 123): a queue that a TAIL
write has emptied is STARVED, without the flag that a completion sets. -/
def State.runRecords (n : Ax) : Nat → State → State
  | 0, s => s
  | k + 1, s =>
    let a := s.axis n
    let l := s.ledger n
    if a.mode ≠ .ledger ∨ a.stopping.isSome ∨ a.correcting ∨ l.st = .fault ∨ l.run.isSome then s
    else if s.fill n = 0 then s.modLedger n (fun l => { l with st := .starved })
    else match l.loaded with
      | [] => s.modLedger n (fun l => { l with st := .waiting })
      | r :: _ =>
        let s := if r.barrier ∧ s.participates n r.barrierId ∧ l.paused = none then
            s.modLedger n (fun l => { l with arrived := true })
          else s
        if s.recordHeld n r then s.modLedger n (fun l => { l with
          st := .waiting, arrived := l.arrived && r.barrier && s.participates n r.barrierId })
        else match s.startRecord n r with
          | (true, s') => State.runRecords n k (s'.completeRecord n r)
          | (false, s') => s'

/-! ### Progress -/

/-- A SEEK's condition has been seen: POSITION is latched and the axis brakes under the record's DMAX and JMAX (R215). -/
def State.seekHit (s : State) (n : Ax) (r : LRec) : State :=
  let s := (s.setWide ledgPage (lOff n 0xC) (BitVec.ofInt 32 (s.position n))).ledgFlag n 5
  if (s.axis n).chan.v = 0 then (s.modAxis n (fun a => { a with goal := .none, reversing := false })).completeRecord n r
  else
    let s := s.modAxis n (fun a => { a with goal := .stop, lim := r.limits, reversing := false })
    s.modLedger n (fun l => { l with run := l.run.map (fun x => { x with hit := true }) })

/-- The running record after one tick's motion. DWELL and WAIT timeouts end by their own commands. -/
def State.recordProgress (s : State) (n : Ax) (ev : MEv) : State :=
  let l := s.ledger n
  match l.run, l.loaded with
  | some u, r :: _ =>
    let count := s.modLedger n (fun l => { l with run := some { u with left := u.left - 1 } })
    match r.type with
    | 1 => if ev = .reached then s.completeRecord n r else s
    | 2 =>
      if u.hit then (if ev = .stopped then s.completeRecord n r else s)
      else if ev = .slewed then
        if r.last ∧ (s.axis n).chan.v ≠ 0 then
          (s.modAxis n (fun a => { a with goal := .stop, lim := r.limits })).modLedger n
            (fun l => { l with run := some { u with hit := true } })
        else s.completeRecord n r
      else s
    | 3 => count
    | 4 =>
      if u.hit then (if ev = .stopped then s.completeRecord n r else s)
      else if u.seen then s.seekHit n r
      else if ev = .reached then
        let s := s.ledgFlag n 6
        if r.param.getLsbD 9 then s.ledgerFault n 6 else s.completeRecord n r
      else s
    | 5 | 6 => s.completeRecord n r
    | _ => if u.seen then s.completeRecord n r else count
  | _, _ => s

/-- The ledger of one axis in one tick: starvation's STOP, progress, then starts (R212, R221). A settle correction (R201) is no motion
that starvation ends. DESIGN CHOICE (log entry 117): the STOP of STARVE_POLICY 1 begins on the tick after the one that found the
queue empty. -/
def State.ledgerTick (s : State) (n : Ax) (ev : MEv) : State :=
  let a := s.axis n
  if a.mode ≠ .ledger ∨ a.stopping.isSome ∨ s.regBit (axPage n) 0x01 0 = false then s
  else if (s.ledger n).st = .starved ∧ s.fill n = 0 ∧ a.chan.v ≠ 0 ∧ a.correcting = false ∧ s.regBit ledgPage (lOff n 7) 0 then
    s.startStop n .hold
  else (s.recordProgress n ev) |> State.runRecords n 4

/-- The record at HEAD waits at barrier `b`. -/
def State.atBarrier (s : State) (n : Ax) (b : Nat) : Bool :=
  let l := s.ledger n
  match l.loaded with
  | r :: _ => l.arrived && !l.released && r.barrier && r.barrierId == b
  | [] => false

/-- Barriers whose participants have all arrived release together (R219). -/
def State.releaseBarriers (s : State) : State :=
  (List.range 16).foldl (fun s b =>
    let parts := s.present.filter (fun n => s.participates n b)
    if parts ≠ [] ∧ parts.all (fun n => s.atBarrier n b) then
      (s.forAxes parts (fun n s => s.modLedger n (fun l => { l with released := true }))).event ledgPage 10
    else s) s

/-! ### Prefetch (R207, R208) -/

/-- One record is fetched, if the engine has room for it and one is committed. -/
def State.prefetch (s : State) (n : Ax) : State :=
  let l := s.ledger n
  let k := l.loaded.length
  if s.hasAxis n ∧ s.awake ∧ s.regBit (axPage n) 0x01 0 ∧ s.mem.init = false ∧ l.st ≠ .fault ∧ k < 3 ∧ k < s.fill n then
    let slot := (l.head + k) % s.ledgLen n
    let (ws, ue, s) := s.sramReads .ledger (s.ledgBase n + 32 * slot) 16
    s.modLedger n (fun l => { l with loaded := l.loaded ++ [{ words := ws, ue := ue }] })
  else s

/-! ### Writes of the LEDG page (R204 to R206, R225) -/

def State.ledgReject (s : State) (n : Ax) : State := s.ledgFlag n 10

/-- BASE or LEN: outside LEDGER mode, within the rules of R204; HEAD and TAIL return to 0. -/
def State.setQueue (s : State) (n : Ax) (base : Wide) (len : Nat) : State :=
  if (s.axis n).mode ≠ .ledger ∧ base.toNat % 32 = 0 ∧ 2 ≤ len ∧ len ≤ 4096 ∧ base.toNat + 32 * len ≤ 0x80000 then
    let before := s.fill n
    let s := (s.setWide ledgPage (lOff n 0) base).setReg ledgPage (lOff n 2) (place len 0)
    (s.modLedger n (fun l => { l with head := 0, tail := 0, loaded := [], run := none, paused := none })).lowWater n before
  else s.ledgReject n

/-- TAIL commits or withdraws records (R206). -/
def State.setTail (s : State) (n : Ax) (v : Nat) : State :=
  let l := s.ledger n
  let len := s.ledgLen n
  let fill' := (v + len - l.head) % len
  if v < len ∧ l.loaded.length ≤ fill' then
    let before := s.fill n
    let s := s.modLedger n (fun l => { l with tail := v, st := if l.st = .starved ∧ 0 < fill' then .waiting else l.st })
    s.lowWater n before
  else s.ledgFlag n 9

/-- HEAD, in STOPPED or FAULT and below LEN; the loaded records are discarded (R225). -/
def State.setHead (s : State) (n : Ax) (v : Nat) : State :=
  let l := s.ledger n
  if (l.st = .stopped ∨ l.st = .fault) ∧ v < s.ledgLen n then
    (s.modLedger n (fun l => { l with head := v, loaded := [], paused := none, arrived := false, released := false })).lowWater n
      (s.fill n)
  else s.ledgReject n

/-- CLR_FAULT, and SKIP, which first advances HEAD (R225). -/
def State.clearFault (s : State) (n : Ax) (skip : Bool) : State :=
  if (s.ledger n).st = .fault then
    let len := s.ledgLen n
    (s.modLedger n (fun l => { l with
      st := .stopped, loaded := [], paused := none, head := if skip then (l.head + 1) % len else l.head })).lowWater n (s.fill n)
  else s.ledgReject n

/-- FLUSH, outside LEDGER mode: TAIL takes HEAD (R225). -/
def State.flushQueue (s : State) (n : Ax) : State :=
  if (s.axis n).mode ≠ .ledger then
    (s.modLedger n (fun l => { l with tail := l.head, loaded := [], paused := none })).lowWater n (s.fill n)
  else s.ledgReject n

/-- Qn_CMD. CLR_FAULT and SKIP written together act as SKIP (DEDUCED, log entry 19). -/
def State.queueCmd (s : State) (n : Ax) (v : Word) : State :=
  let s := if v.getLsbD 1 then s.clearFault n true else if v.getLsbD 0 then s.clearFault n false else s
  if v.getLsbD 2 then s.flushQueue n else s

/-- The axis whose block holds an offset of the LEDG page. -/
def ledgAxis (off : Nat) : Option Ax :=
  if h : 0x20 ≤ off ∧ off < 0xC0 then some ⟨off / 16 - 2, by omega⟩ else none

/-- The bits of the axes present. -/
def State.axisMask (s : State) : Word := BitVec.ofNat 16 (2 ^ s.part.axes - 1)

/-- A word written to a unit offset of the LEDG page. -/
def State.ledgWrite (s : State) (off : Nat) (v : Word) (unl : Bool) : State :=
  match ledgAxis off with
  | none => (s.plainWrite ledgPage off (v &&& s.axisMask) unl).1
  | some n =>
    if s.hasAxis n = false then s
    else match off % 16 with
      | 2 => s.setQueue n (s.wide ledgPage (lOff n 0)) (fld v 0 13)
      | 3 => s.setHead n (fld v 0 12)
      | 4 => s.setTail n (fld v 0 12)
      | 9 => s.queueCmd n v
      | _ => (s.plainWrite ledgPage off v unl).1

/-- Qn_BASE, on its high word (R204). -/
def State.ledgWideWrite (s : State) (offHi : Nat) (v : Wide) : State :=
  match ledgAxis offHi with
  | some n => if s.hasAxis n ∧ offHi % 16 = 0 then s.setQueue n v (s.ledgLen n) else s
  | none => s

/-- UNIT_RESET of LEDG is refused while any axis is in LEDGER mode (R228). -/
def State.ledgReset (s : State) : State :=
  let s := s.resetPage ledgPage (fun o => o == 0)
  { s with ledgers := Vector.replicate 10 {} }

def State.ledgResetOk (s : State) : Bool := s.present.all (fun n => decide ((s.axis n).mode ≠ .ledger))

end Sys2Proof.Machine
end

