-- ==== Sys2Proof/Machine/Protect.lean ====
section
/-! DEFINITION. Power-stage protection: latches, their causes, policy and clearing (R267 to R294), and what each switch
does when every condition is taken together (R268). -/

namespace Sys2Proof

def FaultClass.code : FaultClass → Nat
  | .sc => 0
  | .uv => 1
  | .ot => 2
  | .trip => 3
  | .ov => 4

def FaultClass.idx : FaultClass → Fin 5
  | .sc => 0
  | .uv => 1
  | .ot => 2
  | .trip => 3
  | .ov => 4

/-- EVENT bit of a class (R293); OV has none. -/
def FaultClass.eventBit : FaultClass → Option Nat
  | .sc => some 8
  | .uv => some 9
  | .ot => some 10
  | .trip => some 11
  | .ov => none

end Sys2Proof

namespace Sys2Proof.Machine

/-! ### Pages with latches -/

def allClasses : List FaultClass := [.sc, .uv, .ot, .trip, .ov]

def State.prot (s : State) : ProtPage → Prot
  | .brg n => (s.brg n).prot
  | .gate => s.gate.prot

def State.modProt (s : State) (p : ProtPage) (f : Prot → Prot) : State :=
  match p with
  | .brg n => s.modBrg n (fun b => { b with prot := f b.prot })
  | .gate => s.modGate (fun g => { g with prot := f g.prot })

/-- The pages that hold latches on the part. -/
def State.protPages (s : State) : List ProtPage :=
  s.present.map ProtPage.brg ++ (if s.part.hasGate then [.gate] else [])

/-- Is the page, with the class, present (R294: GATE has no OT class)? -/
def State.hasProt (s : State) (p : ProtPage) (c : FaultClass) : Bool :=
  match p with
  | .brg n => s.hasAxis n
  | .gate => s.part.hasGate && decide (c ≠ .ot)

/-- Is a latch of a class set? -/
def Prot.has (p : Prot) : FaultClass → Bool
  | .sc => p.sc != 0#8
  | .uv => p.uv != 0#8
  | .ot => p.ot
  | .trip => p.trip
  | .ov => p.ov

/-- CLRCFG.MODE = AUTO (R293). -/
def State.autoClear (s : State) (p : ProtPage) (c : FaultClass) : Bool := !s.regBit p.page (0x48 + 2 * c.code) 0

def State.retryMax (s : State) (p : ProtPage) (c : FaultClass) : Nat := s.regFld p.page (0x48 + 2 * c.code) 1 4

/-- Is the cause of a page's OT, TRIP or OV latch active (R284)? The cause of each UV latch is in `uvLow`, and the output
check judges that of an SC latch. -/
def State.causeActive (s : State) (p : ProtPage) (c : FaultClass) : Bool :=
  match c with
  | .sc | .uv => false
  | .ot => (s.prot p).hot
  | .trip => !s.pins.tripN
  | .ov => s.sup.ovCause

/-- The latches of a class that are set: a bit per switch for SC and UV, else bit 0. -/
def Prot.bits (q : Prot) : FaultClass → BitVec 8
  | .sc => q.sc
  | .uv => q.uv
  | .ot => if q.ot then 1#8 else 0#8
  | .trip => if q.trip then 1#8 else 0#8
  | .ov => if q.ov then 1#8 else 0#8

/-- The latches whose cause is active, in the same bits (R284). -/
def State.activeBits (s : State) (p : ProtPage) (c : FaultClass) : BitVec 8 :=
  match c with
  | .uv => (s.prot p).uvLow
  | c => if s.causeActive p c then 1#8 else 0#8

/-! ### Setting latches (R276, R277, R280 to R285, R288) -/

def lowestBit (m : BitVec 8) : Nat := ((List.range 8).find? (fun i => m.getLsbD i)).getD 0

def Prot.set (p : Prot) (c : FaultClass) (m : BitVec 8) : Prot :=
  match c with
  | .sc => { p with sc := p.sc ||| m }
  | .uv => { p with uv := p.uv ||| m }
  | .ot => { p with ot := true }
  | .trip => { p with trip := true }
  | .ov => { p with ov := true }

/-- What FAULT_POLICY does to an axis (R285); a run is interrupted by every latch (R259, R264), and under CONTINUE and an SC or UV latch
ends where it came from, or where it was to end already. -/
def State.axisPolicy (s : State) (n : Ax) (c : FaultClass) : State :=
  if s.parkPolicy n then s.parkFault n
  else
    let a := s.axis n
    match c with
    | .sc | .uv => if a.mode = .characterise then s.charInterrupt n (a.char.ending.getD a.char.from_) else s
    | .ot | .trip | .ov => (s.startStop n .hold).charInterrupt n .hold

/-- What FAULT_POLICY does to the gate port (R285, R298). -/
def State.gatePolicyNow (s : State) : State := if s.gatePolicy = 0 then s else s.gateFaultNow

/-- The switches of a mask are turned off by protection: the 1.0 A pull-down at once, with no part 1 or 2 (R303). -/
def State.gatePull (s : State) (m : BitVec 8) : State :=
  s.modGate (fun g => { g with part := g.part.mapIdx (fun i p => if m.getLsbD (2 * i) || m.getLsbD (2 * i + 1) then 3 else p) })

/-- The OV brake begins or ends on a page: its switches' requests change (R280). -/
def State.ovFollow (s : State) (p : ProtPage) (c : FaultClass) : State :=
  if c = .ov then (match p with | .brg n => s.brgFollow n | .gate => s.gateFollow) else s

/-- The switches of an axis that have turned on or off since `s0`, outside its chopper (R243, R245). -/
def State.pageEdges (s s0 : State) : ProtPage → State
  | .brg n => s.edgesSince s0 n
  | .gate => s

/-- A latch is set: its event, LAST_FAULT with the time, exhaustion of retries, and the policy (R276, R284, R285, R288). -/
def State.setLatch (s : State) (p : ProtPage) (c : FaultClass) (m : BitVec 8) : State :=
  let pg := p.page
  let fresh := (match c with | .sc | .uv => m | _ => 1#8) &&& ~~~(s.prot p).bits c
  let exhausted := fresh != 0#8 && s.autoClear p c && decide (s.retryMax p c ≤ (s.prot p).retry[c.idx])
  let s := (((s.modProt p (fun q => (q.set c m))).ovFollow p c).pageEdges s p).swForget p (match c with | .sc | .uv => m | _ => 0xFF#8)
  let s := match c.eventBit with
    | some k => s.event pg k
    | none => s
  let sw := if c = .sc ∨ c = .uv then lowestBit m else 0
  let s := s.setReg pg 0x57 (place c.code 0 ||| place sw 4)
  let s := s.setWide pg 0x58 s.mtUs
  let s := if exhausted then
      (s.modProt p (fun q => { q with stuck := q.stuck.set c.idx (q.stuck[c.idx] ||| fresh) })).event pg 15
    else s
  match p with
  | .brg n => s.axisPolicy n c
  | .gate => s.gatePolicyNow.gatePull (match c with | .sc | .uv => m | _ => 0xFF#8)

/-- A latch on every page. -/
def State.setLatchAll (s : State) (c : FaultClass) : State :=
  s.protPages.foldl (fun s p => if s.hasProt p c then s.setLatch p c 0#8 else s) s

/-! ### Clearing (R286 to R291) -/

/-- When the last latch of the gate port clears, the port leaves FAULT, unless SAFE holds it there (R298, R103). -/
def State.gateAfterClear (s : State) : State :=
  if s.gate.st = .fault ∧ s.gate.prot.latched = false ∧ s.pwr.pstate ≠ .safe then s.gateEnter .idle else s

/-- Latches of a class clear: those of `m`. Their switches follow the chopper or the commutation again at the next on command
(R291). -/
def State.clearLatch (s : State) (p : ProtPage) (c : FaultClass) (m : BitVec 8) : State :=
  let s0 := s
  let s := s.modProt p (fun q => match c with
    | .sc => { q with sc := q.sc &&& ~~~m }
    | .uv => { q with uv := q.uv &&& ~~~m }
    | .ot => { q with ot := false }
    | .trip => { q with trip := false }
    | .ov => { q with ov := false })
  let s := ((s.ovFollow p c).swHold p (match c with | .sc | .uv => m | _ => 0xFF#8)).pageEdges s0 p
  match p with
  | .brg _ => s
  | .gate => s.gateAfterClear

def State.clearRejected (s : State) (p : ProtPage) : State := s.event p.page 14

/-- How many latches a clear ends (R288): one for each switch of SC, and one for each supply of UV, which are the pump of the
die, VGP with all six switches, or the bootstrap of one high side (DEDUCED, log entry 21). -/
def latchCount (p : ProtPage) (c : FaultClass) (m : BitVec 8) : Nat :=
  let bits := (List.range 8).countP (fun i => m.getLsbD i)
  match c, p with
  | .sc, _ => bits
  | .uv, .gate => if m &&& 0x2A#8 = 0#8 then bits else 1
  | _, _ => 1

/-- Retries made: RETRY_CNT of the class counts (R288). -/
def State.countRetry (s : State) (p : ProtPage) (c : FaultClass) (k : Nat) : State :=
  s.modProt p (fun q => { q with retry := q.retry.set c.idx (min 15 (q.retry[c.idx] + k)) })

/-- Latches of OT, TRIP, OV or UV are tested: those whose cause is inactive clear, and those whose cause is active reject the
clear (R288 to R290). The latches that cleared. -/
def State.testLatches (s : State) (p : ProtPage) (c : FaultClass) (m : BitVec 8) : BitVec 8 × State :=
  let bad := m &&& s.activeBits p c
  let good := m &&& ~~~s.activeBits p c
  let s := if bad ≠ 0#8 then s.clearRejected p else s
  (good, if good ≠ 0#8 then s.clearLatch p c good else s)

/-- The test at the end of the AUTO wait of the latches `m` of a class. For SC it is the output check (R287, R288; DEDUCED,
log entry 21). -/
def State.autoTest (s : State) (p : ProtPage) (c : FaultClass) (m : BitVec 8) : State :=
  let q := s.prot p
  let m := (match c with | .sc | .uv => m | _ => 1#8) &&& q.bits c &&& ~~~q.stuck[c.idx]
  if s.hasProt p c ∧ s.autoClear p c ∧ m ≠ 0#8 then
    match c with
    | .sc => s.modProt p (fun q => { q with check := q.check ++ [(false, m)] })
    | _ =>
      let (good, s) := s.testLatches p c m
      if good = 0#8 then s else s.countRetry p c (latchCount p c good)
  else s

/-- One class of one page at the rising edge of a toggle (R289). -/
def State.toggleTest (s : State) (p : ProtPage) (c : FaultClass) : State :=
  let m := (s.prot p).bits c
  let s := if m = 0#8 then s
    else match c with
      | .sc => s.modProt p (fun q => { q with check := q.check ++ [(true, m)] })
      | _ => (s.testLatches p c m).2
  s.modProt p (fun q => { q with stuck := q.stuck.set c.idx 0#8, retry := q.retry.set c.idx 0 })

/-- A toggle on a page: every latch of every class is tested, STUCK clears, RETRY_CNT returns to 0 (R289). -/
def State.toggle (s : State) (p : ProtPage) : State :=
  (allClasses.filter (fun c => s.hasProt p c)).foldl (fun s c => s.toggleTest p c) s

/-- The switches of one unit of an output check: a phase of an axis, or a half-bridge of the gate port (R287). -/
def checkUnit (p : ProtPage) (u : Nat) : BitVec 8 :=
  match p with
  | .brg _ => if u = 0 then 0x0F#8 else if u = 1 then 0xF0#8 else 0#8
  | .gate => 3#8 <<< (2 * u)

/-- The output check of SC latches that began first ends: the units where no short is found clear (R287, R290). -/
def State.checkEnd (s : State) (p : ProtPage) (shorted : BitVec 3) : State :=
  match (s.prot p).check with
  | [] => s
  | (toggled, m) :: later =>
    let s := s.modProt p (fun q => { q with check := later })
    let short := [0, 1, 2].foldl (fun w u => if shorted.getLsbD u then w ||| checkUnit p u else w) 0#8
    let m := m &&& (s.prot p).sc
    let good := m &&& ~~~short
    let s := if m &&& short ≠ 0#8 then s.clearRejected p else s
    if good = 0#8 then s
    else
      let s := s.clearLatch p .sc good
      if toggled then s else s.countRetry p .sc (latchCount p .sc good)

/-- After a device reset, each latch whose cause is then active is set and every other is clear (R286). -/
def State.relatch (s : State) : State :=
  s.protPages.foldl (fun s p =>
    let q := s.prot p
    let uv := match p with
      | .brg n => if s.dies[axisDie n].uvArmed then q.uvLow else 0#8
      | .gate => if s.gate.vgpLow || s.gate.vgpNear then q.uvLow else 0#8
    let s := s.modProt p (fun q => { ({} : Prot) with uvLow := q.uvLow, hot := q.hot, warn := q.warn })
    let s := if uv ≠ 0#8 then s.setLatch p .uv uv else s
    let s := if s.hasProt p .ot ∧ s.causeActive p .ot then s.setLatch p .ot 0#8 else s
    let s := if s.causeActive p .trip then s.setLatch p .trip 0#8 else s
    if s.causeActive p .ov then s.setLatch p .ov 0#8 else s) s

/-! ### Short circuits (R274, R276) -/

/-- A short: SC_CNT counts, and the switches latch. -/
def State.shortOf (s : State) (p : ProtPage) (m : BitVec 8) : State :=
  if m = 0#8 ∨ s.hasProt p .sc = false then s else (s.count p.page 0x55).setLatch p .sc m

/-! ### Gate supplies (R277) -/

/-- The high sides of a die's bridges. -/
def highSides : BitVec 8 := 0x55#8

def State.modDie (s : State) (d : Die) (f : DieSt → DieSt) : State := { s with dies := s.dies.set d (f s.dies[d]) }

/-- A die of the part. -/
def State.hasDie (s : State) (d : Die) : Bool := decide (d.val < s.part.dies)

/-- The UV latches of a die's high sides, once its pump is watched. -/
def State.vcpLatch (s : State) (d : Die) : State :=
  (dieAxes d).foldl (fun s n =>
    if s.dies[d].uvArmed ∧ s.dies[d].vcpLow then s.setLatch (.brg n) .uv highSides else s) s

/-- The pump of a die stands below its lockout (`low`), and below its release level (`near`). -/
def State.vcpSet (s : State) (d : Die) (low near : Bool) : State :=
  s.forAxes (dieAxes d) (fun n s => s.modProt (.brg n) (fun q => { q with uvLow := if near then highSides else 0#8 }))
    |>.modDie d (fun x => { x with vcpLow := low })

/-- The switches whose supply is below its release level: all six with VGP, and each high side with its bootstrap (R277, R284). -/
def Gate.lowSupplies (g : Gate) : BitVec 8 :=
  let bst := g.bstLow ||| g.bstNear
  if g.vgpLow || g.vgpNear then 0x3F#8
  else (if bst.getLsbD 0 then 0x01#8 else 0#8) ||| (if bst.getLsbD 1 then 0x04#8 else 0#8)
    ||| (if bst.getLsbD 2 then 0x10#8 else 0#8)

/-- A change of what the supplies of the gate port show. -/
def State.gateSupplies (s : State) (f : Gate → Gate) : State :=
  s.modGate (fun g =>
    let g := f g
    { g with prot := { g.prot with uvLow := g.lowSupplies } })

def setBit3 (m : BitVec 3) (k : Nat) (b : Bool) : BitVec 3 := if b then m ||| (1#3 <<< k) else m &&& ~~~(1#3 <<< k)

/-- A bootstrap that is low while its high side is commanded on latches it (R277). -/
def State.bstWatch (s : State) : State :=
  [0, 1, 2].foldl (fun s (k : Fin 3) =>
    let m : BitVec 8 := 1#8 <<< (2 * k.val)
    if s.gate.bstLow.getLsbD k.val ∧ s.gateCommand ⟨2 * k.val, by omega⟩ ∧ (s.gate.prot.uv &&& m) = 0#8 then s.setLatch .gate .uv m
    else s) s

/-- A gate supply falls below its lockout, at the gate port's time `t` where one is told. -/
def State.uvDown (s : State) (u : UvSupply) (t : Nat) : State :=
  match u with
  | .vcp d => if s.hasDie d then (s.vcpSet d true true).vcpLatch d else s
  | .vgp => if s.part.hasGate then (s.gateSupplies (fun g => { g with vgpLow := true })).setLatch .gate .uv 0x3F#8 else s
  | .bst k =>
    if s.part.hasGate then
      ((s.gateTold t).gateSupplies (fun g => { g with bstLow := setBit3 g.bstLow k.val true })).bstWatch
    else s

/-- A gate supply rises above its release level, or falls below that alone (`below`). -/
def State.uvUp (s : State) (u : UvSupply) (below : Bool) : State :=
  match u with
  | .vcp d => if s.hasDie d then s.vcpSet d (s.dies[d].vcpLow && below) below else s
  | .vgp =>
    if s.part.hasGate then s.gateSupplies (fun g => { g with vgpLow := g.vgpLow && below, vgpNear := below }) else s
  | .bst k =>
    if s.part.hasGate then
      s.gateSupplies (fun g => { g with
        bstLow := setBit3 g.bstLow k.val (g.bstLow.getLsbD k.val && below), bstNear := setBit3 g.bstNear k.val below })
    else s

/-- A die's charge pump has run for 200 us: its lockout is watched from now on. -/
def State.vcpArm (s : State) (d : Die) : State :=
  if s.hasDie d then
    ({ s with dies := s.dies.set d { s.dies[d] with uvArmed := true } } : State).vcpLatch d
  else s

/-! ### Thermal (R283, R284) -/

def State.dieProt (s : State) (d : Die) (f : Prot → Prot) : State :=
  s.forAxes (dieAxes d) (fun n s => s.modProt (.brg n) f)

def State.thermWarn (s : State) (d : Die) (above : Bool) : State :=
  if s.hasDie d then
    let s := s.dieProt d (fun q => { q with warn := above })
    if above then s.forAxes (dieAxes d) (fun n s => s.event (brPage n) 12) else s
  else s

def State.thermTrip (s : State) (d : Die) : State :=
  if s.hasDie d then
    (s.dieProt d (fun q => { q with hot := true })).forAxes (dieAxes d) (fun n s => s.setLatch (.brg n) .ot 0#8)
  else s

/-- The die cools below 140 degrees, or warms above that (`above`): the OT cause (R284). -/
def State.thermCool (s : State) (d : Die) (above : Bool) : State :=
  if s.hasDie d then s.dieProt d (fun q => { q with hot := above }) else s

/-! ### Retry counts (R288) -/

def State.retryReset (s : State) (p : ProtPage) (c : FaultClass) : State :=
  if s.hasProt p c ∧ (s.prot p).has c = false then s.modProt p (fun q => { q with retry := q.retry.set c.idx 0 }) else s

/-! ### What watches the switches (R273, R274) -/

/-- What the registers have to watch a switch with, and what is in force: a change takes effect at the next turn-on (R273). -/
def State.scRegs (s : State) (p : ProtPage) (k : Nat) : ScSet :=
  ⟨s.regFld p.page 0x41 (2 * k) 2, s.regFld p.page 0x44 0 7, s.regFld p.page 0x42 0 5, s.regFld p.page 0x43 0 5⟩
def State.scForce (s : State) (p : ProtPage) (k : Nat) (w : Sw) : ScSet := w.was.getD (s.scRegs p k)

/-- Before a change of those registers, at the latest machine time told: the switches that are on keep what is in force. -/
def State.scChange (s : State) (n : Ax) : State :=
  let s := s.dieSync n
  (List.finRange 8).foldl (fun s k =>
    if s.brgSwitchOn n k then
      s.modSw (.brg n) (1#8 <<< k.val) (fun w => { w with was := some (s.scForce (.brg n) k.val w) })
    else s) s

def State.gateScChange (s : State) : State :=
  let s := s.gateSync
  (List.finRange 6).foldl (fun s k =>
    if s.gateSwitchOn k then
      s.modSw .gate (1#8 <<< k.val) (fun w => { w with was := some (s.scForce .gate k.val w) })
    else s) s

/-- The switches of an axis that are off now are watched by the registers from their next turn-on (R273). -/
def State.brgForget (s : State) (n : Ax) : State :=
  (List.finRange 8).foldl (fun s k => if s.brgSwitchOn n k then s else s.swForget (.brg n) (1#8 <<< k.val)) s

def State.gateForget (s : State) : State :=
  (List.finRange 6).foldl (fun s k =>
    if s.gateSwitchOn k then s else s.swForget .gate (1#8 <<< k.val)) s

def State.pageForget (s : State) : ProtPage → State
  | .brg n => s.brgForget n
  | .gate => s.gateForget

/-! ### Heartbeats (R38, R415) -/

/-- The switches of a die's bridges follow a change of their command or of what holds them off. -/
def State.dieFollow (s s0 : State) (d : Die) : State :=
  s.forAxes (dieAxes d) (fun n s => ((s.brgFollow n).edgesSince s0 n).brgForget n)

/-- A die with its logic supply receives its first heartbeat. The controller sends them outside STANDBY. -/
def State.heartFirst (s : State) (d : Die) : State :=
  if s.hasDie d ∧ s.sup.logic[d] then (s.modDie d (fun x => { x with hbSeen := true, hbLost := false })).dieFollow s d else s

/-- No heartbeat for 20 us. In STANDBY the slow keep-alive has the die hold the PARKED setting (R90). -/
def State.heartLoss (s : State) (d : Die) : State :=
  if s.hasDie d ∧ s.dies[d].hbSeen ∧ s.pwr.pstate ≠ .standby then (s.modDie d (fun x => { x with hbLost := true })).dieFollow s d
  else s

def State.heartBack (s : State) (d : Die) : State :=
  if s.hasDie d ∧ s.dies[d].hbSeen then (s.modDie d (fun x => { x with hbLost := false })).dieFollow s d else s

/-! ### Output checks: the switches of the phase turn off (R287) -/

/-- The test at the end of the AUTO wait, and the rising edge of a toggle, with the switches that an output check turns off. -/
def State.autoTestNow (s : State) (p : ProtPage) (c : FaultClass) (m : BitVec 8) : State :=
  ((s.autoTest p c m).pageEdges s p).pageForget p
def State.toggleNow (s : State) (p : ProtPage) : State := ((s.toggle p).pageEdges s p).pageForget p

/-- A figure exceeds its threshold; without one the comparator has crossed. -/
def exceeds (x : Option Nat) (thr : Nat) : Bool := x.all (fun x => decide (thr < x))

/-- Does the method select, and the figure exceed its threshold: SC_DIDT in units of `unit`, SC_VDS in units of 125 mV past
SC_BLANK (R273, R274, R293, R294)? -/
def ScSet.slopeFires (c : ScSet) (unit : Nat) (x : Option Nat) : Bool := c.meth != 1 && exceeds x (unit * c.didt)
def ScSet.vdsFires (c : ScSet) (on : Nat) (x : Option Nat) : Bool :=
  c.meth != 0 && decide (50 * c.blank ≤ on) && exceeds x (125 * c.vds)

/-- The die's time that a command tells of an axis, where it does (not 0). -/
def State.dieTold (s : State) (n : Ax) (t : Nat) : State := if s.hasAxis n ∧ t ≠ 0 then s.dieTime n t else s

/-- A short sensed on an integrated switch at the die's time `t` (R273, R275, R276): the method must be selected and the switch
on. -/
def State.brgShort (s : State) (n : Ax) (k : Fin 8) (sense : ScSense) (t : Nat) : State :=
  let s := s.dieTold n t
  let c := s.scForce (.brg n) k.val (s.brg n).sw[k]
  let fires := match sense with
    | .didt x => c.slopeFires 1000 x
    | .vds on x => c.vdsFires on x
  if s.brgSwitchOn n k && fires then s.shortOf (.brg n) (1#8 <<< k.val) else s

/-- A short sensed at the gate port at the time `t` (5 ns units; R274): the shunt latches every switch that is on and has its method
selected; VDS one switch that is on and has that method selected, past SC_BLANK. -/
def State.gateShort (s : State) (g : GateSense) (t : Nat) : State :=
  let s := s.gateTold t
  let force := fun (k : Fin 6) => s.scForce .gate k.val s.gate.sw[k]
  match g with
  | .vds k on x => if s.gateSwitchOn k && (force k).vdsFires on x then s.shortOf .gate (1#8 <<< k.val) else s
  | .slope x =>
    s.shortOf .gate ((List.finRange 6).foldl (fun m k =>
      if s.gateSwitchOn k && (force k).slopeFires 10 x then m ||| (1#8 <<< k.val) else m) 0#8)

/-- A word written to a unit offset of GATE. A new FAULT_POLICY acts on a port in FAULT. -/
def State.gateWrite (s : State) (off : Nat) (v : Word) (unl : Bool) : State :=
  match off with
  | 0x08 => s.gateCmd v
  | 0x10 | 0x17 => s
  | 0x41 | 0x42 | 0x43 | 0x44 => (s.gateScChange.plainWrite gatePage off v unl).1
  | 0x0C => if s.gate.phases.any (fun p => p == 1) then (s.plainWrite gatePage off v unl).1 else (s.plainWrite gatePage off v unl).1.deadFollow
  | _ =>
    let s := (s.plainWrite gatePage off v unl).1
    if off = 0x46 ∧ s.gate.st = .fault then s.gateEnter .fault else s

/-- Is a fault of any latch on a bridge page or on GATE present (R269, R116)? -/
def State.bridgeFault (s : State) : Bool := s.present.any (fun n => (s.brg n).prot.latched)
def State.gateFault (s : State) : Bool := s.part.hasGate && s.gate.prot.latched

/-- Is any latch of a class set anywhere (R284, R105)? -/
def State.anyLatch (s : State) (c : FaultClass) : Bool := s.protPages.any (fun p => (s.prot p).has c)

end Sys2Proof.Machine
end

