-- ==== Sys2Proof/Machine/Flags.lean ====
section
/-! DEFINITION. The flags the host sees: the STATUS word of every motion and power page, the live registers of these
pages, the four interrupt lines with their pending summaries (R112 to R115) and FAULT_N with its sources (R116). -/

namespace Sys2Proof.Machine

/-- A word from its flags, bit 0 first. -/
def flagWord : List Bool → Nat → Word
  | [], _ => 0#16
  | b :: l, n => flag b n ||| flagWord l (n + 1)

/-! ### Presence (R1 to R4, R76, R83) -/

/-- Is the page one of a present unit? Group, broadcast and reserved pages are not. -/
def State.pagePresent (s : State) (p : Nat) : Bool :=
  match pageKind p with
  | .axis n | .brg n => s.hasAxis n
  | .gate => s.part.hasGate
  | .chand | .lchain => s.part.hasChandler
  | .cnv i => i ≠ 1 || s.part.hasCnvB
  | .axisGroup _ | .brgGroup _ | .reserved => false
  | _ => true

/-! ### DEV and SUPPLY (R109, R111) -/

def PState.code : PState → Nat
  | .standby => 0
  | .waking => 1
  | .run => 2
  | .doze => 3
  | .safe => 4

/-- Bring-up steps 1 and 2, the waits between their attempts included (R95). -/
def State.inSteps12 (s : State) : Bool := decide (s.pwr.pstate = .standby) && decide (s.pwr.bring ≠ 0)

/-- WAKE_STAT.WAKE_FAIL. -/
def State.wakeFail (s : State) : Nat := s.regFld devPage 0x10 0 2

/-- The sources of FAULT_N, in the order of EVT.FAULT_SRC (R116, R131). -/
def State.faultSrc (s : State) : Word :=
  flagWord [s.bridgeFault, s.gateFault, decide (s.pwr.pstate = .safe), decide (s.wakeFail ≠ 0)] 0

/-- A SAFE cause latched in STANDBY (R104, R116). -/
def State.latchedSafe (s : State) : Bool :=
  decide (s.pwr.pstate = .standby) && (s.reg devPage 0x19 &&& s.reg devPage 0x1A) != 0#16

/-- FAULT_N is asserted: in reset, until reduced service begins after one (R35, R36, R39), and while a source is active
(R116). -/
def State.faultN (s : State) : Bool :=
  s.pwr.testHold || (s.inSteps12 && s.pwr.fromReset) || s.faultSrc != 0#16 || s.latchedSafe

def State.devStatus (s : State) : Word :=
  flagWord [s.reduced, s.clk.xoFail || s.clk.pllFail, decide (s.pwr.pstate = .safe), s.faultN, decide (s.wakeFail ≠ 0),
    s.inSteps12, s.pwr.hostExpired] 0

def State.clkStat (s : State) : Word :=
  let c := s.clk
  flagWord [c.xoFail, c.pllFail, c.xsFail, c.pllLock, c.onPll, c.slowXtal, c.xoRun] 0

/-- The registers of DEV that show live state. -/
def State.devRead (s : State) (off : Nat) : Option Word :=
  match off with
  | 0x02 => some s.devStatus
  | 0x08 => some s.part.caps
  | 0x09 => some s.part.number
  | 0x0A => some (place s.pwr.pstate.code 0 ||| flag s.reduced 3)
  | 0x0C => some s.clkStat
  | 0x0F => some (s.reg devPage 0x0F ||| flag s.pwr.fromReset 7)
  | 0x1C => some s.serial.hi
  | 0x1D => some s.serial.lo
  | _ => none

def State.supplyStatus (s : State) : Word :=
  let u := s.sup
  flagWord [u.vmOk, u.vgpOk, u.vddLow, !s.pins.pfailN, u.brk, u.ovNow] 0

/-! ### AXIS (R202, R266) -/

/-- AXISn.STATUS. DESIGN CHOICE (log entry 122): AT_TARGET reads 0 until a target has been reached, as its Reset column has it. -/
def State.axisStatus (s : State) (n : Ax) : Word :=
  let a := s.axis n
  place a.mode.code 0 ||| flagWord [decide (a.chan.v ≠ 0),
    a.atTarget && decide (a.chan.v = 0) && decide (a.chan.p = a.target * Ramp.microstep), a.stopping.isSome, a.frozen.isSome && s.pins.frz,
    a.limitActive, a.ferr, a.settleOut, a.uncertain] 3
    ||| flagWord [s.stallBlind n, a.stall.stalled, decide (a.mode = .characterise) || a.char.saving, a.char.valid] 12

/-- CHAR_STAT (R266): the step in progress, or 6 while a SAVE is being written. -/
def State.charStat (s : State) (n : Ax) : Word :=
  let c := (s.axis n).char
  (s.reg (axPage n) 0x53 &&& 0x0078#16) ||| place (if c.saving then 6 else c.step) 0

/-- The half of a wide value at an even or an odd offset. -/
def half (off : Nat) (w : Wide) : Word := if off % 2 = 0 then w.hi else w.lo

/-- The half of a wide value whose high word lies at an odd offset. -/
def halfOdd (off : Nat) (w : Wide) : Word := if off % 2 = 1 then w.hi else w.lo

def State.axisRead (s : State) (n : Ax) (off : Nat) : Option Word :=
  let a := s.axis n
  match off with
  | 0x02 => some (s.axisStatus n)
  | 0x10 | 0x11 => some (half off (BitVec.ofInt 32 (s.position n)))
  | 0x14 | 0x15 => some (half off (Ramp.vact a.chan))
  | 0x16 | 0x17 => some (half off (Ramp.aact a.chan))
  | 0x18 | 0x19 => some (half off (BitVec.ofInt 32 a.target))
  | 0x30 => some (place (s.angle n) 0)
  | 0x46 => some (place a.stall.cnt 0)
  | 0x53 => some (s.charStat n)
  | _ => none

/-! ### LEDG (R228) -/

def LState.active : LState → Bool
  | .waiting | .running => true
  | _ => false

/-- The current record waits at a barrier (R219). -/
def State.barrierWait (s : State) (n : Ax) : Bool :=
  let l := s.ledger n
  l.arrived && !l.released

def State.ledgStatus (s : State) : Word := flagWord (s.present.map (fun n => (s.ledger n).st.active)) 0

def State.queueStat (s : State) (n : Ax) : Word :=
  let l := s.ledger n
  let bar := match l.loaded with
    | r :: _ => if r.barrier then r.barrierId else 0
    | [] => 0
  place l.st.code 0 ||| flag (s.barrierWait n) 3 ||| place bar 4 ||| place l.cause 8 ||| place l.loaded.length 12

/-- Qn_TAG: the current record's, or the last completed one's. -/
def State.queueTag (s : State) (n : Ax) : Word :=
  match (s.ledger n).loaded with
  | r :: _ => r.tag
  | [] => s.reg ledgPage (lOff n 0xA)

def State.ledgRead (s : State) (off : Nat) : Option Word :=
  match off with
  | 0x02 => some s.ledgStatus
  | 0x08 => some (flagWord (s.present.map s.barrierWait) 0)
  | _ =>
    match ledgAxis off with
    | none => if 0x10 ≤ off ∧ off < 0x20 then some (s.reg ledgPage off &&& s.axisMask) else none
    | some n =>
      if s.hasAxis n = false then some 0#16
      else match off % 16 with
        | 3 => some (place (s.ledger n).head 0)
        | 4 => some (place (s.ledger n).tail 0)
        | 5 => some (place (s.fill n) 0)
        | 6 => some (s.queueStat n)
        | 10 => some (s.queueTag n)
        | _ => none

/-! ### BRG, TABLE and GATE (R249, R250, R293, R294, R308) -/

def Prot.anyStuck (p : Prot) : Bool := p.stuck.toList.any (fun m => m != 0#8)

/-- STATUS bits 8 to 15 of a page with latches. -/
def State.protStatus (s : State) (p : ProtPage) : Word :=
  let q := s.prot p
  match p with
  | .brg _ => flagWord [q.sc != 0#8, q.uv != 0#8, q.ot, q.trip, q.ov, q.warn, q.anyStuck, s.drvLow] 8
  | .gate => flagWord [q.sc != 0#8, q.uv != 0#8, false, q.trip, false, false, q.anyStuck, s.gateLow] 8

def ChopPh.pending (c : ChopPh) : Bool := c.pend.isSome

def State.brgStatus (s : State) (n : Ax) : Word :=
  let b := s.brg n
  place b.level 0 ||| flagWord [b.phA.est, b.phB.est, b.chopSlow, b.phA.pending || b.phB.pending] 2
    ||| s.protStatus (.brg n)

/-- The live protection registers, RETRY_CNT and SC_LATCH. -/
def State.protRead (s : State) (p : ProtPage) (off : Nat) : Option Word :=
  let q := s.prot p
  let r := q.retry
  match off with
  | 0x40 => some (q.sc.setWidth 16)
  | 0x52 => some (place r[0] 0 ||| place r[1] 4 ||| place r[2] 8 ||| place r[3] 12)
  | 0x53 => some (place r[4] 0)
  | _ => none

def State.brgRead (s : State) (n : Ax) (off : Nat) : Option Word :=
  if off = 0x02 then some (s.brgStatus n) else s.protRead (.brg n) off

def State.inUseWord (s : State) : Word := flagWord ((List.range 5).map s.bankInUse) 0

def State.tableRead (s : State) (off : Nat) : Option Word :=
  match off with
  | 0x02 => some (flag s.table.busy 0 ||| flagWord ((List.range 4).map (fun k => s.bankValid (k + 1))) 1)
  | 0x0A => some (BitVec.ofNat 16 (s.tableEntry (s.regFld tablePage 0x08 0 3) (s.regFld tablePage 0x09 0 10)))
  | 0x0C => some s.inUseWord
  | _ => none

def State.gateStatus (s : State) : Word :=
  let g := s.gate
  place g.st.code 0 ||| flagWord [g.illegal, g.dir, g.ilim, g.still, g.tableValid] 3 ||| s.protStatus .gate

def State.gateRead (s : State) (off : Nat) : Option Word :=
  let g := s.gate
  match off with
  | 0x02 => some s.gateStatus
  | 0x0F => some (place g.duty 0)
  | 0x19 => some (place g.hall.toNat 0 ||| place (fld g.comm[g.hall.toNat]! 8 3) 4)
  | 0x1D => some s.hallSpeedNow.hi
  | 0x1E => some s.hallSpeedNow.lo
  | 0x3C | 0x3D => some (half off (Ramp.vact g.chan))
  | 0x60 | 0x61 => some (half off (BitVec.ofInt 32 (Ramp.position g.chan)))
  | _ => s.protRead .gate off

/-! ### Interrupt lines (R112 to R115) -/

/-- The line that an event of a page is routed to. -/
def State.eventLine (s : State) (p k : Nat) : Nat :=
  if k < 8 then s.regFld p 0x05 (2 * k) 2 else s.regFld p 0x06 (2 * (k - 8)) 2

/-- Does a page contribute to a line (R112, LINE_MASK disregarded)? -/
def State.contributes (s : State) (line p : Nat) : Bool :=
  let ev := s.reg p 0x03 &&& s.reg p 0x04
  ev != 0#16 && s.pagePresent p && (List.range 16).any (fun k => ev.getLsbD k && s.eventLine p k == line)

/-- The pages that hold events: 0x00 to 0x0F, the axes, the bridges and 0x30 to 0x35. -/
def eventPages : List Nat :=
  List.range 16 ++ allAxes.map axPage ++ allAxes.map brPage ++ [0x30, 0x31, 0x32, 0x33, 0x34, 0x35]

def State.pendA (s : State) (line : Nat) : Word := flagWord ((List.range 16).map (s.contributes line)) 0

def State.pendB (s : State) (line : Nat) : Word :=
  flagWord (allAxes.map (fun n => s.contributes line (axPage n) || s.contributes line (brPage n))) 0
    ||| flagWord ((List.range 6).map (fun i => s.contributes line (0x30 + i))) 10

/-- IRQn_N is asserted (R112 to R114). -/
def State.irqLine (s : State) (line : Nat) : Bool :=
  s.awake && !s.regBit evtPage 0x10 line && eventPages.any (s.contributes line)

/-- The four lines, IRQ0 in bit 0. -/
def State.irqLines (s : State) : Word := flagWord ((List.range 4).map s.irqLine) 0

def State.evtRead (s : State) (off : Nat) : Option Word :=
  match off with
  | 0x02 => some (s.irqLines ||| flag s.faultN 4)
  | 0x11 => some s.faultSrc
  | _ =>
    if 0x08 ≤ off ∧ off < 0x10 then some (if off % 2 = 0 then s.pendA ((off - 8) / 2) else s.pendB ((off - 8) / 2)) else none

end Sys2Proof.Machine
end

