-- ==== Sys2Proof/Machine/Mem.lean ====
section
/-! DEFINITION. The SRAM's scrub and host window (R134 to R143), and the nonvolatile store: slots, records, the engine's
jobs, the snapshot and the orphan record (R144 to R152, R156). -/

namespace Sys2Proof.Machine

def State.modMem (s : State) (f : Mem → Mem) : State := { s with mem := f s.mem }
def State.modNvs (s : State) (f : Nvs → Nvs) : State := { s with nvs := f s.nvs }
def State.memEvent (s : State) (k : Nat) : State := s.event memPage k
def State.nvsEvent (s : State) (k : Nat) : State := s.event nvsPage k

/-! ### Scrub (R137 to R140) -/

/-- Put new upsets into the stored words: a word's flipped bits toggle (R134). -/
def disturb (e : List (Nat × BitVec 22)) : List (Nat × BitVec 22) → List (Nat × BitVec 22)
  | [] => e
  | (a, m) :: l =>
    let a' := a / 2 * 2
    let m' := errMask e a' ^^^ m
    disturb (if m' = 0#22 then clearErr e a' else (a', m') :: clearErr e a') l

/-- One scrub access at the next address, and the write-back of a corrected word (R137). -/
def State.scrubAccess (s : State) : State :=
  let a := s.mem.scrub
  let s := match s.sramRead a .scrub with
    | (w, ue, s') =>
      let ce := decide (s.mem.ecq.length < s'.mem.ecq.length)
      let s' := s'.modMem (fun m => { m with ecq := s.mem.ecq })
      if ce && !ue then s'.sramPut a w else s'
  let next := a + 2
  if 0x80000 ≤ next then (s.modMem (fun m => { m with scrub := 0 })).memEvent 4
  else s.modMem (fun m => { m with scrub := next })

/-- The scrub runs while it is enabled and the SRAM holds data (R135, R137). -/
def State.scrubOn (s : State) : Bool := s.awake && !s.mem.init && s.regBit memPage 0x0C 0

/-- The oldest corrected word of a foreground read is written back (R139); a word written since has left the queue. -/
def State.writeBack (s : State) : State :=
  match s.mem.ecq with
  | [] => s
  | (a, w) :: q =>
    (s.modMem (fun m => { m with ecq := q })).sramPut a w

/-- CLR_COUNTS (R157). -/
def State.clearCounts (s : State) : State :=
  let s := [0x0E, 0x0F, 0x10, 0x11, 0x12, 0x13, 0x14].foldl (fun s o => s.setReg memPage o 0#16) s
  s.modMem (fun m => { m with ueArmed := true, safeUe := false })

/-! ### The host window (R141 to R143) -/

def inSram (a : Nat) : Bool := decide (a < 0x80000)
def inStore (a : Nat) : Bool := decide (0x100000 ≤ a) && decide (a < 0x120000)

/-- WIN_ADDR with bit 0 ignored. -/
def State.winAddr (s : State) : Nat := (s.wide memPage 0x08).toNat / 2 * 2

/-- The advance of WIN_ADDR. -/
def winNext (a : Nat) : Nat :=
  if a = 0x7FFFE then 0 else if a = 0x11FFFE then 0x100000 else (a + 2) % 4294967296

/-- The window moves on with WIN_CTRL.INC (R141). DESIGN CHOICE (log entry 107): bit 0 of WIN_ADDR_L reads as it was written, and the first
advance clears it. -/
def State.winAdvance (s : State) : State :=
  if s.regBit memPage 0x0B 0 then s.setWide memPage 0x08 (BitVec.ofNat 32 (winNext s.winAddr)) else s

/-- A read of WIN_DATA: the word, and the state after it. -/
def State.winRead (s : State) : Word × State :=
  let a := s.winAddr
  if inSram a then
    let (w, _, s) := s.sramRead a .window
    (w, s.winAdvance)
  else if inStore a then
    let (w, _, s) := s.mramRead a
    (w, s.winAdvance)
  else (0#16, (s.memEvent 2).winAdvance)

/-- Does a WIN_DATA write have to wait (R142)? DESIGN CHOICE (log entry 98): one to an address outside the SRAM takes no room in the
buffer, so that it never waits and is discarded at once (R143). -/
def State.winFull (s : State) : Bool := inSram s.winAddr && decide (64 ≤ s.mem.winBuf.length)

/-- The oldest buffered word goes to the SRAM. -/
def State.winDrain (s : State) : State :=
  match s.mem.winBuf with
  | [] => s
  | (a, v) :: l => (s.modMem (fun m => { m with winBuf := l })).sramPut a v

/-- The SRAM clearing ends (R135). -/
def State.initDone (s : State) : State := s.modMem (fun m => { m with init := false, scrub := 0 })

/-- The window, the buffer and the contents are lost in STANDBY and at every reset (R135). -/
def memBlank : Mem := {}

/-! ### Records of the store (R145 to R147) -/

/-- The two slots of a type and instance. -/
structure SlotMap where
  a : Nat
  b : Nat
  max : Nat
  deriving DecidableEq, Repr

def slotMap (ty inst : Nat) : Option SlotMap :=
  match ty with
  | 1 => if inst = 0 then some ⟨0x100000, 0x102000, 8168⟩ else none
  | 2 => if inst < 10 then some ⟨0x104000 + 0x400 * inst, 0x104200 + 0x400 * inst, 488⟩ else none
  | 3 => if inst < 3 then some ⟨0x106800 + 0x400 * inst, 0x106A00 + 0x400 * inst, 488⟩ else none
  | 4 => if inst = 0 then some ⟨0x107400, 0x107600, 232⟩ else none
  | 5 => if inst = 0 then some ⟨0x107800, 0x107C00, 1000⟩ else none
  | 6 => if inst < 16 then some ⟨0x108000 + 0x800 * inst, 0x108400 + 0x800 * inst, 1000⟩ else none
  | _ => none

def crc32Bit (c : BitVec 32) : BitVec 32 :=
  if c.getLsbD 0 then (c >>> 1) ^^^ 0xEDB88320#32 else c >>> 1

def crc32Byte (c : BitVec 32) (b : Byte) : BitVec 32 :=
  (List.range 8).foldl (fun c _ => crc32Bit c) (c ^^^ b.setWidth 32)

def crc32Go : BitVec 32 → List Word → BitVec 32
  | c, [] => c
  | c, w :: ws => crc32Go (crc32Byte (crc32Byte c (w.extractLsb' 8 8)) (w.extractLsb' 0 8)) ws

/-- The CRC-32 of R146 over words, the high byte of each first (polynomial 0x04C1_1DB7 reflected). -/
def crc32 (ws : List Word) : Wide := crc32Go 0xFFFFFFFF#32 ws ^^^ 0xFFFFFFFF#32

/-- COMMIT of a SEQ. -/
def commitOf (seq : Wide) : Wide := seq ^^^ 0xA5C35A3C#32

/-- A whole record in the order of R146. -/
def recordWords (ty inst : Nat) (seq : Wide) (flags : Word) (stamp : Wide) (payload : List Word) : List Word :=
  let head := [0xC5A7#16, place ty 0 ||| place inst 4, seq.hi, seq.lo, BitVec.ofNat 16 (2 * payload.length), flags,
    stamp.hi, stamp.lo]
  let body := head ++ payload
  let crc := crc32 body
  let cm := commitOf seq
  body ++ [crc.hi, crc.lo, cm.hi, cm.lo]

/-- Successive words of the store, and whether one was uncorrectable. -/
def State.mramReads (s : State) : Nat → Nat → List Word × Bool × State
  | _, 0 => ([], false, s)
  | a, n + 1 =>
    let (w, ue, s1) := s.mramRead a
    let (ws, ue', s2) := s1.mramReads (a + 2) n
    (w :: ws, ue || ue', s2)

/-- A valid slot's record. -/
structure SlotRec where
  addr    : Nat
  seq     : Wide
  len     : Nat
  flags   : Word
  payload : List Word
  deriving DecidableEq, Repr

def wordAt (ws : List Word) (k : Nat) : Word := (ws[k]?).getD 0#16

/-- The check of one slot (R147). DESIGN CHOICE (log entry 81): it ends at a header that fails, so that an uncorrectable word
beyond it sets no NV_UE. -/
def State.slotCheck (s : State) (ty inst addr max : Nat) : Option SlotRec × State :=
  let (h, ue, s) := s.mramReads addr 8
  let len := (wordAt h 4).toNat
  if ue ∨ wordAt h 0 ≠ 0xC5A7#16 ∨ wordAt h 1 ≠ (place ty 0 ||| place inst 4) ∨ len % 2 = 1 ∨ max < len then (none, s)
  else
    let n := len / 2
    let (r, ue, s) := s.mramReads (addr + 16) (n + 4)
    let payload := r.take n
    let seq := (wordAt h 2).wide (wordAt h 3)
    let crc := (wordAt r n).wide (wordAt r (n + 1))
    let cm := (wordAt r (n + 2)).wide (wordAt r (n + 3))
    if !ue && decide (crc = crc32 (h ++ payload)) && decide (cm = commitOf seq) then
      (some ⟨addr, seq, len, wordAt h 5, payload⟩, s)
    else (none, s)

/-- The current record of a type, and the slot a write takes, which is the one that is not current (R147, R148). -/
def State.currentRec (s : State) (ty inst : Nat) : Option SlotRec × Nat × State :=
  match slotMap ty inst with
  | none => (none, 0, s)
  | some m =>
    let (ra, s) := s.slotCheck ty inst m.a m.max
    let (rb, s) := s.slotCheck ty inst m.b m.max
    match ra, rb with
    | some a, some b => if 0 < (b.seq - a.seq).toInt then (some b, m.a, s) else (some a, m.b, s)
    | some a, none => (some a, m.b, s)
    | none, some b => (some b, m.a, s)
    | none, none => (none, m.a, s)

/-- SEQ of the next record (R148). -/
def nextSeq : Option SlotRec → Wide
  | some r => r.seq + 1#32
  | none => 1#32

/-! ### Commands of the engine (R148 to R151, R158) -/

/-- The engine serves nothing. -/
def State.nvsFree (s : State) : Bool := decide (s.nvs.job = .idle) && s.nvs.snap.isNone && s.nvs.image.isNone

/-- A host command finds the engine idle: an orphan that is requested comes before it (R151; DEDUCED, log entry 31). -/
def State.nvsIdle (s : State) : Bool := s.nvsFree && !s.nvs.orphanReq

/-- STATUS.BUSY: a host command in progress. -/
def State.nvsBusy (s : State) : Bool :=
  match s.nvs.job with
  | .write .. | .invalidate _ => true
  | _ => false

def State.nvsRefuse (s : State) (code : Nat) : State := (s.setReg nvsPage 0x0D (place code 0)).nvsEvent 1

def State.nvsType (s : State) : Nat := s.regFld nvsPage 0x08 0 4
def State.nvsInst (s : State) : Nat := s.regFld nvsPage 0x08 4 4

/-- The lowest reason that refuses a command (R150). -/
def State.nvsRefusal (s : State) (op : Nat) : Option Nat :=
  let m := slotMap s.nvsType s.nvsInst
  let len := (s.reg nvsPage 0x09).toNat
  let src := (s.wide nvsPage 0x0A).toNat
  let l : List (Nat × Bool) :=
    [(1, !s.nvsIdle),
     (2, decide (op = 1 ∨ op = 2 ∨ op = 4) && m.isNone),
     (3, decide (op = 1) && (len == 0 || len % 2 == 1 || (match m with | some m => decide (m.max < len) | none => false))),
     (4, decide (op = 1) && (decide (0x80000 < src + len) || src % 2 == 1)),
     (5, decide (op = 1) && (s.nvsType == 4 || s.nvsType == 5)),
     (6, decide (op = 1 ∨ op = 2) && s.sup.vddLow),
     (7, decide (op = 0 ∨ 5 ≤ op))]
  (l.find? (fun e => e.2)).map Prod.fst

/-- A record write starts: the slot and SEQ are chosen and the record is formed from its payload. -/
def State.writeJob (s : State) (ty inst : Nat) (flags : Word) (payload : List Word) : Nat × List Word × State :=
  let (cur, slot, s) := s.currentRec ty inst
  (slot, recordWords ty inst (nextSeq cur) flags s.mtUs payload, s)

/-- FLAGS of a host WRITE. -/
def State.nvsFlags (s : State) : Word := if s.nvsType = 1 then flag (s.regBit nvsPage 0x08 8) 0 else 0#16

/-- The payload of a host WRITE is read from the SRAM and its record formed (R150). -/
def State.nvsReadSource (s : State) : State :=
  match s.nvs.job with
  | .write _ head src len [] o _ _ =>
    let (ws, _, s) := s.sramReads .nvs src (len / 2)
    let (slot, rec, s) := s.writeJob (fld (wordAt head 0) 0 4) (fld (wordAt head 0) 4 4) (wordAt head 1) ws
    s.modNvs (fun n => { n with job := .write slot head src len rec o })
  | _ => s

/-- The payload of a record with one word replaced, and its CRC with it. -/
def recordSet (ws : List Word) (k : Nat) (v : Word) : List Word :=
  let at_ := wordAt ws
  recordWords (fld (at_ 1) 0 4) (fld (at_ 1) 4 4) ((at_ 2).wide (at_ 3)) (at_ 5) ((at_ 6).wide (at_ 7))
    (((ws.drop 8).take (ws.length - 12)).set k v)

/-- The words of the source at these indices are read again, into the record. -/
def State.rereadAt (s : State) (src : Nat) : List Nat → List Word → List Word × State
  | [], ws => (ws, s)
  | k :: l, ws =>
    let (w, _, s1) := s.sramRead (src + 2 * k) .nvs
    s1.rereadAt src l (recordSet ws k w)

/-- The engine has read its source as far as word `k`: words changed since the WRITE began are taken as they are now. -/
def State.nvsReadTo (s : State) (k : Nat) : State :=
  match s.nvs.job with
  | .write slot head src len ws none got again =>
    let (ws', s) := s.rereadAt src (again.filter (fun i => decide (i < k))) ws
    s.modNvs (fun n => { n with
      job := .write slot head src len ws' none (max got k) (again.filter (fun i => decide (k ≤ i))) })
  | _ => s

/-- A word of the SRAM changes. Where it belongs to the source of a host WRITE, how far the engine has read is open (R150), and a
free value says it: a word that it has not reached is read again, as it is then. DESIGN CHOICE (log entry 97): the
errors of the first reading are reported where the WRITE starts. -/
def State.nvsCatch (s : State) (a : Nat) : State :=
  match s.nvs.job with
  | .write _ _ src len (_ :: _) none got _ =>
    if src ≤ a ∧ a < src + len ∧ got ≤ (a - src) / 2 then
      let (j, s) := s.draw (len / 2 - got + 1)
      let k := (a - src) / 2
      let s := s.nvsReadTo (got + j)
      if k < got + j then s
      else s.modNvs (fun n => { n with job := match n.job with
        | .write slot head src len ws o got again => .write slot head src len ws o got (again.filter (fun i => i != k) ++ [k])
        | job => job })
    else s
  | _ => s

/-- The rest of the source is read, for the record as the engine has written it. -/
def State.nvsReread (s : State) : State :=
  match s.nvs.job with
  | .write _ _ _ len (_ :: _) none _ (_ :: _) => s.nvsReadTo (len / 2)
  | _ => s

/-- A write of a master to the SRAM. -/
def State.sramStore (s : State) (a : Nat) (v : Word) : State := (s.nvsCatch a).sramWrite a v

/-- A write of WIN_DATA that finds room. -/
def State.winWrite (s : State) (v : Word) : State :=
  let a := s.winAddr
  if inSram a then ((s.nvsCatch a).modMem (fun m => { m with winBuf := m.winBuf ++ [(a, v)] })).winAdvance
  else (s.memEvent 2).winAdvance

/-- New upsets in the SRAM and in the store (R134, R144). -/
def State.upset (s : State) (ups : List (Nat × BitVec 22)) : State :=
  let ram := ups.filter (fun u => decide (u.1 < 0x80000))
  let s := ram.foldl (fun s u => s.nvsCatch (u.1 / 2 * 2)) s
  (s.modMem (fun m => { m with sramErr := disturb m.sramErr ram })).modNvs
    (fun n => { n with mramErr := disturb n.mramErr (ups.filter (fun u => decide (0x100000 ≤ u.1))) })

/-- WRITE, accepted. While the SRAM initialisation runs it waits (R150). -/
def State.nvsWriteNow (s : State) : State :=
  let head := [s.reg nvsPage 0x08, s.nvsFlags]
  let s := s.modNvs (fun n => { n with
    job := .write 0 head (s.wide nvsPage 0x0A).toNat (s.reg nvsPage 0x09).toNat [] none })
  if s.mem.init then s else s.nvsReadSource

/-- A WRITE that the device makes for an axis (R261). -/
def State.nvsWriteAxis (s : State) (n : Ax) (payload : List Word) : State :=
  let (slot, rec, s) := s.writeJob 2 n.val 0#16 payload
  s.modNvs (fun g => { g with job := .write slot [] 0 (2 * payload.length) rec (some n) })

/-- The COMMIT address of a slot, from the LENGTH stored in it (R149). -/
def State.commitAddr (s : State) (addr max : Nat) : List Nat × State :=
  let (w, _, s) := s.mramRead (addr + 8)
  let len := w.toNat
  (if len % 2 = 1 ∨ max < len then [] else [addr + 20 + len], s)

/-- INVALIDATE, accepted: the slot that is not current first (R149). -/
def State.nvsInvalidateNow (s : State) : State :=
  match slotMap s.nvsType s.nvsInst with
  | none => s
  | some m =>
    let (_, other, s) := s.currentRec s.nvsType s.nvsInst
    let (c1, s) := s.commitAddr other m.max
    let (c2, s) := s.commitAddr (if other = m.a then m.b else m.a) m.max
    s.modNvs (fun n => { n with job := .invalidate (c1 ++ c2) })

/-- QUERY (R147, R158): answered, it is a host command completed (DEDUCED, log entry 31). -/
def State.nvsQueryNow (s : State) : State :=
  let (cur, _, s) := s.currentRec s.nvsType s.nvsInst
  let (slot, seq, addr, len) := match cur, slotMap s.nvsType s.nvsInst with
    | some r, some m => (if r.addr = m.a then 1 else 2, r.seq, BitVec.ofNat 32 r.addr, r.len)
    | _, _ => (0, 0#32, 0#32, 0)
  ((((s.setReg nvsPage 0x0E (place slot 0)).setWide nvsPage 0x0F seq).setWide nvsPage 0x11 addr).setReg nvsPage 0x13
    (BitVec.ofNat 16 len)).nvsEvent 0

/-- NVS.CMD: refused with the lowest reason, or accepted with RESULT 0 (R150). -/
def State.nvsAccept (s : State) (op : Nat) (act : State → State) : State :=
  match s.nvsRefusal op with
  | some c => s.nvsRefuse c
  | none => act (s.setReg nvsPage 0x0D 0#16)

/-- COMMIT's last word is written: the record is current (R148). DESIGN CHOICE (log entry 106): until then a read of the slot shows its
old words. -/
def State.nvsWriteEnd (s : State) : State :=
  let s := s.nvsReread
  match s.nvs.job with
  | .write slot _ _ _ (w :: ws) o _ _ =>
    let s := (s.mramWrites slot (w :: ws)).modNvs (fun n => { n with job := .idle })
    let s := s.nvsEvent 0
    match o with
    | some n => (s.modAxis n (fun a => { a with char := { a.char with saving := false } })).event (axPage n) 15
    | none => s
  | _ => s

/-- Both words of COMMIT of each slot are cleared. -/
def State.clearCommits (s : State) : List Nat → State
  | [] => s
  | a :: l => ((s.mramWrite a 0#16).mramWrite (a + 2) 0#16).clearCommits l

/-- INVALIDATE ends. DESIGN CHOICE (log entry 106): until then a read shows the COMMIT fields as they were. -/
def State.nvsInvalidateEnd (s : State) : State :=
  match s.nvs.job with
  | .invalidate l => ((s.clearCommits l).modNvs (fun n => { n with job := .idle })).nvsEvent 0
  | _ => s

/-- How far an engine that is stopped within its work had come is open (R151, R156): a free number of words. DESIGN CHOICE (log entry
97): source words that have changed are read once more, and their errors counted, before it stops. -/
def State.nvsAbandon (s : State) : State :=
  let s := s.nvsReread
  match s.nvs.job with
  | .idle => s
  | .write slot _ _ _ ws o _ _ =>
    let (k, s) := if ws = [] then (0, s) else s.draw ws.length
    let s := (s.mramWrites slot (ws.take k)).modNvs (fun n => { n with job := .idle })
    match o with
    | some n => s.modAxis n (fun a => { a with char := { a.char with saving := false } })
    | none => s
  | .invalidate l =>
    let (k, s) := if l = [] then (0, s) else s.draw (2 * l.length)
    let s := s.clearCommits (l.take (k / 2))
    let s := if k % 2 = 1 then
        match l[k / 2]? with
        | some a => s.mramWrite a 0#16
        | none => s
      else s
    s.modNvs (fun n => { n with job := .idle })
  | .orphan slot ws =>
    let (k, s) := if ws = [] then (0, s) else s.draw ws.length
    (s.mramWrites slot (ws.take k)).modNvs (fun n => { n with job := .idle, orphanReq := decide (s.twin.orphan ≠ []) })

/-! ### Power-fail snapshot (R46, R47, R151, R152) -/

/-- The payload of type 4 (R152). DESIGN CHOICE (log entry 96): in STANDBY, where machine time is not kept and no axis moves, it
holds the machine time and the axis fields of the entry. -/
def State.snapPayload (s : State) : List Word :=
  let t := snapOf s.time.now
  let ax := fun (n : Ax) =>
    if s.hasAxis n then
      let p : Wide := BitVec.ofInt 32 (s.position n)
      [p.hi, p.lo, s.axisStatus n, place (s.ledger n).head 0, s.queueTag n]
    else [0#16, 0#16, 0#16, 0#16, 0#16]
  let enc := fun (e : Nat) =>
    let c : Wide := if s.hasEnc e then (s.enc e).count else 0#32
    [c.hi, c.lo]
  let v : Wide := if s.part.hasGate then Ramp.vact s.gate.chan else 0#32
  [t.sec.hi, t.sec.lo, t.ns.hi, t.ns.lo] ++ allAxes.flatMap ax ++ [0, 1, 2, 3].flatMap enc
    ++ [v.hi, v.lo, s.reg devPage 0x19, s.supplyStatus] ++ List.replicate 50 0#16

/-- The trigger: the engine drops what it writes, and the record is formed (R151, R152). One snapshot only, until it is
armed again (R47). DESIGN CHOICE (log entry 82): while TEST_EN holds the device in reset neither trigger of R46 is taken. -/
def State.snapTrigger (s : State) : State :=
  if s.nvs.armed ∧ s.nvs.snap = none ∧ s.pwr.testHold = false then
    let s := s.event supplyPage 5
    let busy := decide (s.nvs.job ≠ .idle)
    let s := if busy then s.nvsAbandon.nvsEvent 2 else s
    let (slot, rec, s) := s.writeJob 4 0 0#16 s.snapPayload
    s.modNvs (fun n => { n with armed := false, snap := some (slot, rec) })
  else s

/-- The snapshot's COMMIT is written. -/
def State.snapEnd (s : State) : State :=
  match s.nvs.snap with
  | some (slot, ws) => ((s.mramWrites slot ws).modNvs (fun n => { n with snap := none })).nvsEvent 3
  | none => s

/-! ### The orphan record (R151, R417) -/

/-- A waiting request starts once the engine is free. Without an orphan image there is nothing to write, and the request
ends. -/
def State.orphanStart (s : State) : State :=
  if s.nvs.orphanReq ∧ s.nvsFree then
    if s.twin.orphan = [] then s.modNvs (fun n => { n with orphanReq := false })
    else
      let (slot, rec, s) := s.writeJob 5 0 0#16 s.twin.orphan
      s.modNvs (fun n => { n with job := .orphan slot rec, orphanReq := false })
  else s

def State.orphanEnd (s : State) : State :=
  match s.nvs.job with
  | .orphan slot ws => ((s.mramWrites slot ws).modNvs (fun n => { n with job := .idle })).nvsEvent 4
  | _ => s

/-! ### Registers -/

/-- A word written to a unit offset of MEM; the bus has found room for a WIN_DATA write (R142). -/
def State.memWrite (s : State) (off : Nat) (v : Word) (unl : Bool) : State :=
  match off with
  | 0x0A => s.winWrite v
  | 0x15 => if v.getLsbD 0 then s.clearCounts else s
  | _ => (s.plainWrite memPage off v unl).1

def State.memRead (s : State) (off : Nat) : Option Word :=
  if off = 0x02 then some (flagWord [s.mem.init, decide (s.mem.winBuf ≠ [])] 0) else none

def State.nvsRead (s : State) (off : Nat) : Option Word :=
  if off = 0x02 then some (flagWord [s.nvsBusy, s.nvs.snap.isSome, s.nvs.image.isSome, s.nvs.loadDone] 0) else none

end Sys2Proof.Machine
end

