-- ==== Sys2Proof/Machine/Bridge.lean ====
section
/-! DEFINITION. Current regulation: the microstep tables (R235 to R239), the chopper (R240 to R244), the crossing stamps and
the dual-slope estimator (R245 to R247), and the writes of the BRG and TABLE pages. -/

namespace Sys2Proof.Machine

/-! ### TABLE (R235 to R239, R250) -/

def State.modTable (s : State) (f : Table → Table) : State := { s with table := f s.table }
def State.tblBank (s : State) : Nat := s.regFld tablePage 0x08 0 3
def State.tblIndex (s : State) : Nat := s.regFld tablePage 0x09 0 10

/-- INDEX advances by 1 and wraps from 1023 to 0. -/
def State.tblAdvance (s : State) : State := s.setReg tablePage 0x09 (place ((s.tblIndex + 1) % 1024) 0)

def State.tblRefuse (s : State) : State := s.event tablePage 2

/-- The bank takes no DATA write, COMMIT or INVALIDATE (R237). Bank 0 is fixed (DEDUCED for the two commands). -/
def State.bankLocked (s : State) (k : Nat) : Bool := k == 0 || s.bankInUse k

def Table.setValid (t : Table) (k : Nat) (b : Bool) : Table :=
  { t with valid := if b then t.valid ||| (1#5 <<< k) else t.valid &&& ~~~(1#5 <<< k) }

/-- A DATA write stores an entry and clears VALID. -/
def State.tblData (s : State) (v : Word) : State :=
  let k := s.tblBank
  if s.bankLocked k then s.tblRefuse
  else (s.modTable (fun t => { t.setValid k false with
    bank := Store.set (fun _ => 0#16) t.bank (1024 * k + s.tblIndex) v })).tblAdvance

def State.tblInvalidate (s : State) : State :=
  let k := s.tblBank
  if s.bankLocked k then s.tblRefuse else s.modTable (fun t => t.setValid k false)

def State.tblCommit (s : State) : State :=
  if s.bankLocked s.tblBank then s.tblRefuse else s.modTable (fun t => { t with busy := true })

/-- The entries of a bank. -/
def State.bankEntries (s : State) (k : Nat) : List Int := (List.range 1024).map (fun i => (s.tableEntry k i : Int))

/-- The check ends (R236). -/
def State.tblCommitDone (s : State) : State :=
  if s.table.busy then
    let k := s.tblBank
    let ok := Fixed.bankOk (s.bankEntries k)
    (s.modTable (fun t => { t.setValid k ok with busy := false })).event tablePage (if ok then 0 else 1)
  else s

/-- CMD, with INVALIDATE before COMMIT where both are written (DEDUCED, log entry 22). -/
def State.tblCmd (s : State) (v : Word) : State :=
  let s := if v.getLsbD 1 then s.tblInvalidate else s
  if v.getLsbD 0 then s.tblCommit else s

/-- A bank filled from shape coefficients becomes VALID (R238, R261, R263). -/
def State.putBank (s : State) (k : Nat) (l : List Int) : State :=
  s.modTable (fun t =>
    { t.setValid k true with
      bank := (l.zip (List.range 1024)).foldl
        (fun b e => Store.set (fun _ => 0#16) b (1024 * k + e.2) (BitVec.ofInt 16 e.1)) t.bank })

/-- A write to a unit offset of the TABLE page; while BUSY every write is refused (R237), which the bus has judged. -/
def State.tableWrite (s : State) (off : Nat) (v : Word) (unl : Bool) : State :=
  match off with
  | 0x0A => s.tblData v
  | 0x0B => s.tblCmd v
  | _ => (s.plainWrite tablePage off v unl).1

/-! ### Chopper sets (R241 to R244, R259) -/

/-- The staged set of R244, if it is accepted. -/
def State.stagedChop (s : State) (n : Ax) : Option ChopSet :=
  let r := fun o => (s.reg (brPage n) o).toNat
  let m := r 0x10
  let c : ChopSet := ⟨m % 2, m / 2 % 4, r 0x11, r 0x12, r 0x13, r 0x14, r 0x15, r 0x16⟩
  if c.decay ≠ 3 ∧ c.fmin ≤ c.fmax ∧ 4 ≤ c.hyst ∧ 10 ≤ c.fast ∧ c.fast ≤ 1000 ∧ 15 ≤ c.fmin ∧ 15 ≤ c.fmax ∧ c.fmin ≤ 100
      ∧ c.fmax ≤ 100 ∧ 20 ≤ c.pwm ∧ c.pwm ≤ 50 ∧ 10 ≤ c.blank ∧ c.blank ≤ 100 then some c
  else none

/-- CFG_APPLIED, once no phase waits for the applied set any more. -/
def State.chopApplied (s : State) (n : Ax) : State :=
  if (s.brg n).phA.pending ∨ (s.brg n).phB.pending then s else s.event (brPage n) 3

/-- CMD.APPLY_CHOP: an accepted set waits for each phase's next on phase, which an axis without current has not yet (R244). -/
def State.applyChop (s : State) (n : Ax) : State :=
  match s.stagedChop n with
  | none => s.event (brPage n) 4
  | some c => s.modBrg n (fun b => { b with phA := { b.phA with pend := some c }, phB := { b.phB with pend := some c } })

/-! ### The estimator (R245 to R247) -/

/-- Machine time at the core clock's resolution, in ns: 5 ns on the PLL, on HSRC the core cycle (R245). -/
def State.stamp (s : State) : Nat := if s.clk.onPll then s.time.now / 5 * 5 else s.time.now

/-- The VM of R246, in mV. -/
def State.estVm (s : State) (n : Ax) : Int :=
  match s.cnvs[2].published with
  | some v => (v.toNat : Int) * 10
  | none => ((s.reg (brPage n) 0x19).toNat : Int) * 100

/-- t_f of R246: the fast-decay time within the falling interval. -/
def fastTime (c : ChopSet) (toff : Nat) : Nat :=
  match c.decay with
  | 0 => 0
  | 1 => toff
  | _ => min (10 * c.fast) toff

/-- One average in units of 2^-16: x + (new - x) / 2^k (R247). DESIGN CHOICE (log entry 16): 16 fraction bits, truncated. -/
def average (x new : Int) (k : Nat) : Int := x + (new * 65536 - x) / 2 ^ k

/-- The pair of R246 as codes and ns: rising interval with thresholds r0 and r1, falling one with f0 and f1. -/
def State.estimate (s : State) (n : Ax) (p : Phase) (ton r0 r1 toff f0 f1 : Nat) : State :=
  let pg := brPage n
  let c := s.chopSet n p
  let vm := s.estVm n
  let don : Int := (r1 : Int) - r0
  let doff : Int := (f0 : Int) - f1
  let tf : Int := fastTime c toff
  let den : Int := don * toff + doff * ton
  let sum : Int := r0 + r1 + f0 + f1
  -- where both slopes cancel the formulas state no value
  let (l, e, s) :=
    if den = 0 then
      let (x, s) := s.draw 65536
      let (y, s) := s.draw 65536
      ((x : Int), ((y : Int) - 32768), s)
    else
      (Int.tdiv (vm * ton * ((toff : Int) + tf) * 10240) (den * 14000000),
       Int.tdiv (vm * den * 20480 - vm * ((toff : Int) + tf) * don * 20480 - (s.reg pg 0x18).toNat * sum * 7 * den) (den * 20480), s)
  let k := s.regFld pg 0x1A 0 4
  let s := s.modPh n p (fun h => { h with sampled := true, emf := average h.emf e k, ind := average h.ind l k })
  let h := (s.brg n).ph p
  let emf := satInt16 (h.emf / 65536)
  let ind := BitVec.ofInt 16 (max 0 (min 65535 (h.ind / 65536)))
  match p with
  | .pa =>
    (((((s.setReg pg 0x1B emf).setReg pg 0x1D ind).setReg pg 0x1F (satWord (ton / 5))).setReg pg 0x20 (satWord (toff / 5))).modAxis n
      (fun a => { a with stall := { a.stall with smpA := true } }))
  | .pb =>
    (((((s.setReg pg 0x1C emf).setReg pg 0x1E ind).setReg pg 0x21 (satWord (ton / 5))).setReg pg 0x22 (satWord (toff / 5))).modAxis n
      (fun a => { a with stall := { a.stall with smpB := true } }))

/-! ### Phases of the chopper (R241, R242) -/

/-- An off phase begins at `t`. `own`: the last crossing causes the edge. -/
def State.chopOff (s : State) (n : Ax) (p : Phase) (t : Nat) (own : Bool) : State :=
  s.swEdge n p t (fun h => { h with on := false, t0 := t, passed := false, clean := h.clean && (own || !s.chops n) })

/-- The cycle that ends gave no sample: EST_MISS counts while |SET| is at least HYST (R247). -/
def State.cycleEnd (s : State) (n : Ax) (p : Phase) : State :=
  let h := (s.brg n).ph p
  let first := !h.on && h.t0 == h.cyc0
  if first then s
  else
    let miss := !h.sampled && decide (h.set.hyst ≤ (s.setOf n p).natAbs)
    let s := if miss then s.count (brPage n) 0x26 else s
    let s := s.modPh n p (fun h => { h with est := h.sampled })
    if h.cut then s else s.modBrg n (fun b => { b with chopSlow := false })

/-- A cycle begins with its on phase at `t`: an applied set takes effect (R244). -/
def State.chopOn (s : State) (n : Ax) (p : Phase) (t : Nat) (own : Bool) : State :=
  let s := s.cycleEnd n p
  let took := ((s.brg n).ph p).pending
  let chops := s.chops n
  let s := s.swEdge n p t (fun h => { h with
    on := true, t0 := t, cyc0 := t, passed := false, clean := h.clean && (own || !chops), rise := none, cut := false, sampled := false
    set := (match h.pend with | some c => c | none => h.set), pend := none })
  if took then s.chopApplied n else s

/-- May an off phase end at `t` (R241)? -/
def ChopPh.offMayEnd (h : ChopPh) (c : ChopSet) (t : Nat) : Bool :=
  decide (500 ≤ t - h.t0) && decide (1000000 ≤ (t - h.cyc0) * c.fmax)

/-- The intervals that a crossing closes and opens (R245 to R247). -/
def State.stampCrossing (s : State) (n : Ax) (p : Phase) (upper : Bool) : State :=
  let h := (s.brg n).ph p
  let c := s.chopSet n p
  let set := s.setOf n p
  let thr := threshold set c.hyst upper
  let big := decide (c.hyst ≤ set.natAbs)
  let st := s.stamp
  let s := match h.last with
    | some (u, t', thr') =>
      if u = upper ∨ h.clean = false ∨ big = false then
        if u = upper then s else if upper then s.modPh n p (fun h => { h with rise := none }) else s
      else if upper then
        if thr = thr' then s.modPh n p (fun h => { h with rise := none })
        else s.modPh n p (fun h => { h with rise := some (st - t', thr', thr) })
      else match h.rise with
        | some (ton, r0, r1) =>
          if h.cut ∨ thr = thr' then s else s.estimate n p ton r0 r1 (st - t') thr' thr
        | none => s
    | none => s
  s.modPh n p (fun h => { h with last := some (upper, st, thr), clean := big })

/-- The next switch of a self-test, or the end of the eight (R258). -/
def State.selfNext (s : State) (n : Ax) : State :=
  (s.modAxis n (fun a => { a with char := { a.char with selfSw := min 8 (a.char.selfSw + 1) } })).brgFollow n

/-- In a self-test the upper comparator stands at CHAR_CURRENT / 4: the switch under test has passed (R258). -/
def State.selfCrossing (s : State) (n : Ax) (p : Phase) (upper : Bool) : State :=
  match s.selfPair n with
  | some (i, _) => if upper ∧ swPhase i = p then s.selfNext n else s
  | none => s

/-- Is a crossing at `t` within BLANK of the latest switching edge of the phase (R243)? -/
def ChopPh.blanked (h : ChopPh) (c : ChopSet) (t : Nat) : Bool :=
  match h.edge with
  | some e => decide (t - e < 10 * c.blank)
  | none => false

/-- A command of a phase that tells the die's time `t` (ns), which a PARKED axis's bridge sees too. -/
def State.chopTime (s : State) (n : Ax) (t : Nat) (f : State → State) : State :=
  if s.hasAxis n = false then s
  else
    let s := s.dieTime n t
    if (s.axis n).mode = .parked then s else f s

/-- A comparator crossing of a phase at the die's time `t` (ns). One within BLANK of an edge is ignored (R243). -/
def State.crossing (s : State) (n : Ax) (p : Phase) (upper : Bool) (t : Nat) : State :=
  s.chopTime n t fun s =>
    let h := (s.brg n).ph p
    let c := s.chopSet n p
    if s.selfTesting n then s.selfCrossing n p upper
    else if h.blanked c t then s
    else
      let s := s.stampCrossing n p upper
      if h.on && upper then
        if 500 ≤ t - h.t0 then s.chopOff n p t true else s.modPh n p (fun h => { h with passed := true })
      else if !h.on && !upper && c.mode == 0 then
        if h.offMayEnd c t then s.chopOn n p t true else s.modPh n p (fun h => { h with passed := true })
      else s

/-- The minimum time of a phase, or 1/F_MAX, is over: a phase past its threshold ends (R241, R242). -/
def State.minTimeEnd (s : State) (n : Ax) (p : Phase) (t : Nat) : State :=
  s.chopTime n t fun s =>
    let h := (s.brg n).ph p
    let c := s.chopSet n p
    if h.passed = false then s
    else if h.on then if 500 ≤ t - h.t0 then s.chopOff n p t false else s
    else if c.mode = 0 ∧ h.offMayEnd c t then s.chopOn n p t false
    else s

/-- The cycle has reached 1/F_MIN: its phase is cut (R241). -/
def State.chopCut (s : State) (n : Ax) (p : Phase) (t : Nat) : State :=
  s.chopTime n t fun s =>
    if (s.chopSet n p).mode ≠ 0 then s
    else
      let on := ((s.brg n).ph p).on
      let s := (s.modBrg n (fun b => { b with chopSlow := true })).event (brPage n) 0
      let s := s.modPh n p (fun h => { h with cut := true })
      if on then s.chopOff n p t false else s.chopOn n p t false

/-- Fixed frequency (R242): an on phase starts with the period, and ends 0.5 us before it does. -/
def State.pwmPeriod (s : State) (n : Ax) (p : Phase) (ending : Bool) (t : Nat) : State :=
  s.chopTime n t fun s =>
    if (s.chopSet n p).mode ≠ 1 then s
    else if ending then (if ((s.brg n).ph p).on then s.chopOff n p t false else s)
    else s.chopOn n p t false

/-! ### Writes of a BRG page (R231, R235, R244, R248, R249) -/

/-- A level that lies above CUR_LIMIT sets CUR_CLAMPED (R231). -/
def State.levelWrite (s : State) (n : Ax) (off : Nat) (v : Word) : State :=
  (s.setReg (brPage n) off (v &&& 0x03FF#16)).clampFresh n (off - 8) (fld v 0 10)

/-- TABLE_SEL: 5 to 7 are ignored, an invalid bank is refused (R235). -/
def State.tableSelect (s : State) (n : Ax) (v : Word) : State :=
  let k := fld v 0 3
  if 4 < k then s
  else if s.bankValid k then s.setReg (brPage n) 0x0E (place k 0)
  else s.event (brPage n) 1

/-- READBACK: one page selects a DAC at a time (R248). -/
def State.readbackSelect (s : State) (n : Ax) (v : Word) : State :=
  let k := fld v 0 3
  if k ≠ 0 ∧ s.present.any (fun m => decide (m ≠ n) && s.reg (brPage m) 0x25 != 0#16) then s.event (brPage n) 4
  else s.setReg (brPage n) 0x25 (place k 0)

/-- A word written to a unit offset of BRGn. -/
def State.brgWrite (s : State) (n : Ax) (off : Nat) (v : Word) (unl : Bool) : State :=
  match off with
  | 0x08 | 0x09 | 0x0A => s.levelWrite n off v
  | 0x0E => s.tableSelect n v
  | 0x17 => if v.getLsbD 0 then s.applyChop n else s
  | 0x25 => s.readbackSelect n v
  | 0x41 | 0x42 | 0x43 | 0x44 => ((s.scChange n).plainWrite (brPage n) off v unl).1
  | _ => (s.plainWrite (brPage n) off v unl).1

end Sys2Proof.Machine
end

