-- ==== Sys2Proof/Machine/Char.lean ====
section
/-! DEFINITION. Characterisation: the results of its steps, the end of a run, ACCEPT, SAVE and DISCARD (R257 to R265), and
the writes of the AXIS pages (R177, R181 to R199, R202, R266). -/

namespace Sys2Proof.Machine

/-! ### Results (R258 to R260) -/

def State.modChar (s : State) (n : Ax) (f : CharRun → CharRun) : State := s.modAxis n (fun a => { a with char := f a.char })

/-- A command that ACCEPT, SAVE or DISCARD acts on: results are valid and no run is in progress (R261). -/
def State.resUsable (s : State) (n : Ax) : Bool :=
  (s.axis n).char.valid && decide ((s.axis n).mode ≠ .characterise)

/-- ACCEPT (R261): everything is copied as one action, or nothing is and RESULT becomes 8. The Bool tells that it was. -/
def State.acceptNow (s : State) (n : Ax) : Bool × State :=
  let pg := axPage n
  let bank := s.regFld pg 0x50 8 3
  let a3 := s.reg pg 0x57
  let a5 := s.reg pg 0x58
  let shaped := (s.axis n).char.ops.getLsbD 4 && decide (bank ≠ 0)
  let l := Fixed.shapeBank a3.toInt a5.toInt
  if shaped ∧ (s.bankInUse bank ∨ Fixed.bankOk l = false) then (false, (s.setCharResult n 8).event pg 13)
  else
    let s := (s.setReg (brPage n) 0x18 (s.reg pg 0x54)).setReg pg 0x48 (s.reg pg 0x56)
    let s := if shaped then ((s.setReg pg 0x49 a3).setReg pg 0x4A a5).putBank bank l else s
    (true, s.event pg 14)

/-- The AXISPARAM payload of the values in force (R262). -/
def State.axisPayload (s : State) (n : Ax) : List Word :=
  let pg := axPage n
  [0x0001#16, s.reg (brPage n) 0x18, s.reg pg 0x55, s.reg pg 0x48, s.reg pg 0x49, s.reg pg 0x4A,
    place (s.regFld pg 0x50 8 3) 0, (s.axis n).char.cur]

/-- SAVE (R261): an NVS WRITE of type 2, instance n, under R150; a refusal gives RESULT 6. -/
def State.saveNow (s : State) (n : Ax) : State :=
  let code := if s.nvsIdle = false then some 1 else if s.sup.vddLow then some 6 else none
  match code with
  | some c => ((s.setCharResult n 6).event (axPage n) 13).nvsRefuse c
  | none => ((s.setReg nvsPage 0x0D 0#16).modChar n (fun c => { c with saving := true })).nvsWriteAxis n (s.axisPayload n)

/-- A run ends with RESULT 1 (R259), and AUTO_ACCEPT and AUTO_SAVE follow (R261). -/
def State.charSuccess (s : State) (n : Ax) : State :=
  let pg := axPage n
  let s := s.setCharResult n 1
  let s := s.modChar n (fun c => { c with step := 0, todo := 0#5, ending := none, leg := 0, valid := true })
  let s := (s.enterMode n (s.axis n).char.from_).event pg 12
  if s.regBit pg 0x50 5 then
    match s.acceptNow n with
    | (true, s') => if s'.regBit pg 0x50 6 then s'.saveNow n else s'
    | (false, s') => s'
  else s

/-- The next selected step begins, or the run is done. -/
def State.charNext (s : State) (n : Ax) : State :=
  let c := (s.axis n).char
  let k := nextStep c.todo
  if k = 0 then s.charSuccess n
  else (s.modChar n (fun c => { c with todo := c.todo &&& ~~~(1#5 <<< (k - 1)) })).charBegin n k

/-- The intervals of a phase's latest cycle, in ns (R247). -/
def State.intervals (s : State) (n : Ax) : Phase → Nat × Nat
  | .pa => (5 * (s.reg (brPage n) 0x1F).toNat, 5 * (s.reg (brPage n) 0x20).toNat)
  | .pb => (5 * (s.reg (brPage n) 0x21).toNat, 5 * (s.reg (brPage n) 0x22).toNat)

/-- The phases whose |SET| is at least `k` times HYST. -/
def State.drivenPhases (s : State) (n : Ax) (k : Nat) : List Phase :=
  [Phase.pa, Phase.pb].filter (fun p => decide (k * (s.chopSet n p).hyst ≤ (s.setOf n p).natAbs))

/-- The upper and the lower threshold in force in a phase (R240). -/
def State.bandOf (s : State) (n : Ax) (p : Phase) : Nat × Nat :=
  let h := (s.chopSet n p).hyst
  (threshold (s.setOf n p) h true, threshold (s.setOf n p) h false)

/-- R of one phase in mOhm: VM * t_on / (i * (t_on + t_off)), i being the mean of the thresholds (R246, R258). -/
def State.phaseR (s : State) (n : Ax) (p : Phase) : Nat :=
  let (ton, toff) := s.intervals n p
  let (u, d) := s.bandOf n p
  (s.estVm n).toNat * ton * 2048000 / ((u + d) * 1400 * (ton + toff))

/-- L of one phase in uH, by R246 with fast decay, the differences of the thresholds, and e = 0 (R258). -/
def State.phaseL (s : State) (n : Ax) (p : Phase) : Nat :=
  let (ton, toff) := s.intervals n p
  let (u, d) := s.bandOf n p
  (s.estVm n).toNat * ton * (2 * toff) * 10240 / ((u - d) * (ton + toff) * 14000000)

/-- A result, or a free value where the spec states none: no phase was driven, no cycle was timed, or the two thresholds are the
same. -/
def State.meanOf (s : State) (n : Ax) (l : List Phase) (f : Phase → Nat) : Nat × State :=
  let l' := l.filter (fun p => decide (0 < (s.intervals n p).1 + (s.intervals n p).2 ∧ (s.bandOf n p).2 < (s.bandOf n p).1))
  if l = [] ∨ l' ≠ l then s.draw 65536 else ((l.map f).sum / l.length, s)

/-- A harmonic relative to the fundamental, in Q1.15 (R258); a free value without a fundamental. -/
def State.relHarmonic (s : State) (h1 h : Int) : Int × State :=
  if h1 = 0 then
    let (x, s) := s.draw 65536
    ((x : Int) - 32768, s)
  else (if 0 < h1 then roundDiv (h * 32768) h1.natAbs else -roundDiv (h * 32768) h1.natAbs, s)

/-- The run goes on after a step, or ends with its RESULT (R260). -/
def State.charJudge (s : State) (n : Ax) (code : Nat) (ok : Bool) : State :=
  if ok then s.charNext n else s.charFail n code (s.axis n).char.from_

/-- The step's result is formed and stored; one outside its range ends the run (R258, R260). DESIGN CHOICE (log entry 23):
results are truncated to whole units. -/
def State.charResult (s : State) (n : Ax) (m : CharMeas) : State :=
  let pg := axPage n
  match m with
  | .selftest => s.charJudge n 3 (s.reg pg 0x59 == 0#16)
  | .r =>
    let (v, s) := s.meanOf n (s.drivenPhases n 4) (s.phaseR n)
    (s.setReg pg 0x54 (satWord v)).charJudge n 4 (decide (100 ≤ v) && decide (v ≤ 20000))
  | .l =>
    let (v, s) := s.meanOf n (s.drivenPhases n 1) (s.phaseL n)
    (s.setReg pg 0x55 (satWord v)).charJudge n 4 (decide (50 ≤ v) && decide (v ≤ 60000))
  | .ke =>
    let c := (s.axis n).char
    let (v, s) := if c.ampN = 0 then s.draw 65536 else (c.ampSum * 1000 / (c.ampN * (s.reg pg 0x52).toNat), s)
    (s.setReg pg 0x56 (satWord v)).charJudge n 4 (decide (1 ≤ v) && decide (v ≤ 60000))
  | .shape h1 h3 h5 =>
    let (a, s) := s.relHarmonic h1 h3
    let (b, s) := s.relHarmonic h1 h5
    ((s.setReg pg 0x57 (satInt16 a)).setReg pg 0x58 (satInt16 b)).charJudge n 4
      (decide (a.natAbs ≤ 0x0CCD) && decide (b.natAbs ≤ 0x0CCD))

/-- The step that a measurement belongs to. -/
def measStep : CharMeas → Nat
  | .selftest => 1
  | .r => 2
  | .l => 3
  | .ke => 4
  | .shape .. => 5

/-- A run is under way and has not been interrupted. -/
def State.charRunning (s : State) (n : Ax) : Bool :=
  s.hasAxis n && decide ((s.axis n).mode = .characterise) && (s.axis n).char.ending.isNone

/-- The step in progress finishes: a self-test only once all eight switches have been tested, a travel step only after its
travel (R258). -/
def State.charStepEnd (s : State) (n : Ax) (m : CharMeas) : State :=
  let c := (s.axis n).char
  if s.charRunning n ∧ c.step = measStep m ∧ (if measStep m = 1 then c.selfSw = 8 else measStep m < 4 ∨ c.leg = 3) then
    s.charResult n m
  else s

/-- The step exceeds its budget: RESULT 4, at once or once the axis has come to rest (R258; DESIGN CHOICE, log
entry 23). -/
def State.charOverrun (s : State) (n : Ax) : State :=
  if s.charRunning n then
    if (s.axis n).chan.v = 0 then s.charFail n 4 (s.axis n).char.from_
    else s.modChar n (fun c => { c with ending := some c.from_, endCode := 4 })
  else s

/-- The switch under self-test has failed, and the next one comes under test (R258). -/
def State.selftestFail (s : State) (n : Ax) (sw : Fin 8) : State :=
  if s.charRunning n ∧ (s.axis n).char.step = 1 ∧ (s.axis n).char.selfSw = sw.val then
    (s.setReg (axPage n) 0x59 (s.reg (axPage n) 0x59 ||| bitWord sw.val)).selfNext n
  else s

/-- CHAR_CMD, its actions in the order of their bits; given in any other state it is ignored (R261). -/
def State.charCmd (s : State) (n : Ax) (v : Word) : State :=
  let s := if v.getLsbD 0 && s.resUsable n then (s.acceptNow n).2 else s
  let s := if v.getLsbD 1 && s.resUsable n then s.saveNow n else s
  if v.getLsbD 2 && s.resUsable n then s.modChar n (fun c => { c with valid := false }) else s

/-! ### Writes of an AXIS page -/

def State.paramClamped (s : State) (n : Ax) : State := s.event (axPage n) 9

/-- MODE_CMD: the request is judged at the next tick; a later one replaces it (R177). -/
def State.modeRequest (s : State) (n : Ax) (v : Word) : State :=
  s.modAxis n (fun a => { a with req := { a.req with mode := some (fld v 0 3) } })

/-- CMD.STOP acts on an axis in a moving mode (R194; DEDUCED, log entry 24). -/
def State.stopCmd (s : State) (n : Ax) : State := s.startStop n .hold

/-- AXISn.CMD, its actions in the order of their bits. -/
def State.axisCmd (s : State) (n : Ax) (v : Word) : State :=
  let s := if v.getLsbD 0 then s.stopCmd n else s
  let s := s.modAxis n (fun a => { a with req := { a.req with
    rt := a.req.rt || v.getLsbD 1, setPos := a.req.setPos || v.getLsbD 2, align := a.req.align || v.getLsbD 3 } })
  if v.getLsbD 4 then s.setWide (axPage n) 0x2E 0#32 else s

/-- Is POSITION outside the soft limits in force (R193)? -/
def State.outsideLimits (s : State) (n : Ax) : Bool :=
  match s.softLimits n with
  | some (lo, hi) => decide (s.position n < lo) || decide (hi < s.position n)
  | none => false

/-- Limits enabled, or moved, while the axis lies outside them set LIMIT_ACTIVE (R193). -/
def State.limitsNow (s : State) (n : Ax) : State :=
  if s.outsideLimits n then s.modAxis n (fun a => { a with limitActive := true }) else s

/-- CFG (R184, R193, R196): DIR_INV changes in PARKED and HOLD alone, at the next tick. FRZ_EN set while FRZ is high freezes
the axis. -/
def State.axisCfg (s : State) (n : Ax) (v : Word) : State :=
  let pg := axPage n
  let old := s.dirInv n
  let inv := v.getLsbD 8
  let a := s.axis n
  let still := (decide (a.mode = .parked) || decide (a.mode = .hold)) && a.stopping.isNone
  let froze := s.axisFrozen n
  let park := s.regBit pg 0x0B 0
  let s := s.setReg pg 0x0B ((v &&& 0x00FF#16) ||| flag old 8)
  let s := if inv = old then s.modAxis n (fun a => { a with invReq := none })
    else if still then s.modAxis n (fun a => { a with invReq := some inv })
    else s.paramClamped n
  let s := s.limitsNow n
  let s := if v.getLsbD 0 = park then s else s.brgFollow n
  if s.axisFrozen n ∧ froze = false ∧ s.awake then s.freezeAxis n else s

/-- CTRL.ENABLE of an axis (R181): 0 is ignored unless the axis is PARKED. -/
def State.axisEnable (s : State) (n : Ax) (en : Bool) : State :=
  if en then ({ s.setFld (axPage n) 0x01 0 1 1 with live := s.live ||| (1#10 <<< n.val) } : State).brgFollow n
  else if (s.axis n).mode = .parked then s.setFld (axPage n) 0x01 0 1 0
  else s.paramClamped n

/-- ENC_BIND (R199, R179 code 7): EN is refused on a channel that is absent or not in quadrature. DEDUCED (log entry 24):
a refused write changes nothing. A write of the binding in force leaves the last index of its channel (R409). -/
def State.encBind (s : State) (n : Ax) (v : Word) : State :=
  if v.getLsbD 2 && !s.encQuadOk (fld v 0 2) then s.axisRefuse n 7
  else
    let same := s.reg (axPage n) 0x35 == v &&& 0x0007#16
    let s := s.setReg (axPage n) 0x35 (v &&& 0x0007#16)
    if same then s else s.modAxis n (fun a => { a with idxPos := none })

/-- A word written to a unit offset of AXISn; a field whose value is ignored at 0x40 to 0x5F sets PARAM_CLAMPED (R266). -/
def State.axisWrite (s : State) (n : Ax) (off : Nat) (v : Word) (unl : Bool) : State :=
  match off with
  | 0x09 => s.modeRequest n v
  | 0x0A => s.axisCmd n v
  | 0x0B => s.axisCfg n v
  | 0x35 => s.encBind n v
  | 0x5A => s.charCmd n v
  | 0x51 =>
    let (s, rej) := s.plainWrite (axPage n) off v unl
    if rej then s.event (axPage n) 9 else s.modBrg n (fun b => { b with clamped := setBit4 b.clamped 3 false })
  | _ =>
    let (s, rej) := s.plainWrite (axPage n) off v unl
    s.eventIf (rej && decide (0x40 ≤ off) && decide (off < 0x60)) (axPage n) 9

/-- VCMD (R183, R192, R194): during a STOP it is refused with code 2. -/
def State.vcmdNow (s : State) (n : Ax) (v : Wide) : State :=
  let pg := axPage n
  if (s.axis n).stopping.isSome then s.axisRefuse n 2
  else
    let c := clampVel v.toInt
    (s.setWide pg 0x24 (BitVec.ofInt 32 c)).eventIf (decide (c ≠ v.toInt)) pg 9

/-- The jog limits and STOP_DECEL (R183). -/
def State.jogWrite (s : State) (n : Ax) (off : Nat) (v : Wide) : State :=
  let pg := axPage n
  let jogging := decide ((s.axis n).mode = .velocity) || decide ((s.axis n).mode = .follow)
  match off with
  | 0x1C =>
    if v = 0#32 ∧ jogging then s.paramClamped n
    else if maxVel < v.toNat then (s.setWide pg off (BitVec.ofNat 32 maxVel)).paramClamped n
    else s.setWide pg off v
  | 0x1E | 0x20 => if v = 0#32 ∧ jogging then s.paramClamped n else s.setWide pg off v
  | 0x26 => if v = 0#32 then s else s.setWide pg off v
  | _ => s.setWide pg off v

/-- A soft limit takes effect only if LO < HI remains (R193). -/
def State.posLimit (s : State) (n : Ax) (hi : Bool) (v : Wide) : State :=
  let pg := axPage n
  let ok := if hi then decide ((s.wide pg 0x2A).toInt < v.toInt) else decide (v.toInt < (s.wide pg 0x2C).toInt)
  if ok then (s.setWide pg (if hi then 0x2C else 0x2A) v).limitsNow n else s.paramClamped n

/-- A wide register of AXISn, on its high word (R79, R182). -/
def State.axisWideWrite (s : State) (n : Ax) (offHi : Nat) (v : Wide) : State :=
  match offHi with
  | 0x24 => s.vcmdNow n v
  | 0x2A => s.posLimit n false v
  | 0x2C => s.posLimit n true v
  | 0x1C | 0x1E | 0x20 | 0x22 | 0x26 | 0x28 => s.jogWrite n offHi v
  | _ => s.setWide (axPage n) offHi v

end Sys2Proof.Machine
end

