-- ==== Sys2Proof/Machine/Time.lean ====
section
/-! DEFINITION. Machine time: reading and setting it, TSYNC discipline, corrections, and how it advances with the core clock
and from tick to tick (R159 to R175). An event between two ticks brings the core clock cycles since the last one. -/

namespace Sys2Proof.Machine

def State.modTime (s : State) (f : MTime → MTime) : State := { s with time := f s.time }
def State.timeEvent (s : State) (k : Nat) : State := s.event timePage k

/-- SEC wraps after 2^32 seconds (R159). -/
def timeSpan : Nat := 4294967296000000000 * nsUnit

/-- A machine time moved by a signed amount. -/
def moveTime (t : Nat) (d : Int) : Nat := (((t : Int) + d) % timeSpan).toNat

/-! ### How time passes (R160, R171, R173) -/

/-- `d` passes on the core clock corrected by RATE: machine time follows it, at 0.875 in a slew, and stands still in a hold,
until the remaining error is 0 (R171). -/
def MTime.elapse (t : MTime) (d : Nat) : MTime :=
  let t := { t with run := t.run + d, total := t.total + d, high := t.high - d }
  match t.corr with
  | .none => { t with cur := (t.cur + d) % timeSpan }
  | .slew l => let k := min (d / 8) l; { t with cur := (t.cur + (d - k)) % timeSpan, corr := .slew (l - k) }
  | .hold l => let k := min d l; { t with cur := (t.cur + (d - k)) % timeSpan, corr := .hold (l - k) }

/-- How long until the coming tick. During a correction the tick clock runs on. After one the tick falls on the whole us of
machine time nearest to where it would have fallen, the later of two (R173); a boundary already past gives way to the next
one (DESIGN CHOICE, log entry 87). -/
def MTime.toTick (t : MTime) : Nat :=
  let plain := usUnit - t.run
  match t.corr with
  | .none =>
    if t.realign then
      let b := (t.cur + usUnit - t.run + usUnit / 2) / usUnit * usUnit
      (if b < t.cur then b + usUnit else b) - t.cur
    else plain
  | _ => plain

/-- Machine time at the coming tick. -/
def MTime.advance (t : MTime) : MTime :=
  let t' := t.elapse t.toTick
  match t.corr with
  | .none => { t' with run := 0, base := 0, baseCyc := 0, realign := false }
  | .slew _ => { t' with run := 0, base := 0, baseCyc := 0 }
  | .hold _ => { t' with run := 0, base := 0, baseCyc := 0, holdTicks := t'.holdTicks + 1 }

/-- The nominal cycle of the core clock, 5 ns or 62.5 ns, times (1 + RATE) (R160). -/
def State.coreCycle (s : State) : Nat :=
  ((if s.clk.onPll then 80 else 1000) * (4294967296 + s.time.rate)).toNat

/-- The length of the core clock's cycle changes now: the cycles of this tick's interval told so far had the length `cycle`. -/
def MTime.rebase (cycle : Nat) (t : MTime) : MTime :=
  { t with base := t.run, baseCyc := t.baseCyc + (t.run - t.base) / cycle }

/-- The core clock or RATE is about to change: only the step size of the cycles to come changes (R160, R161). DEDUCED (log
entry 48): a command that changes the core clock falls at the latest instant told. -/
def State.newCycle (s : State) : State := s.modTime (MTime.rebase s.coreCycle)

/-- An event `cycles` core clock cycles after the last ramp tick, of whichever length each had (R160, R161). Time never runs
back, and never past the coming tick; it is not kept in STANDBY. -/
def State.timeAt (s : State) (cycles : Nat) : State :=
  if s.awake then
    s.modTime (fun t => t.elapse (min (t.base + (cycles - t.baseCyc) * s.coreCycle - t.run) t.toTick))
  else s

/-- FBUS cycles since the last ramp tick, up to the latest instant told: two core clock cycles each on the PLL, one on HSRC
(R85, R86). -/
def State.fbusTold (s : State) : Nat :=
  let k := s.time.baseCyc + (s.time.run - s.time.base) / s.coreCycle
  if s.clk.onPll then k / 2 else k

/-- A slew or hold ends now, with no jump: machine time runs at the full rate from its present value. -/
def MTime.endCorr (t : MTime) : MTime :=
  match t.corr with
  | .none => t
  | _ => { t with corr := .none, realign := true }

/-! ### Discipline (R169) -/

/-- UNDISCIPLINED is set, with LOCK_LOST when it had been clear; the lock count starts afresh. -/
def State.undiscipline (s : State) : State :=
  let s := s.eventIf (!s.time.undisc) timePage 8
  s.modTime (fun t => { t with undisc := true, lock := 0 })

/-- The core clock and the reference set the limits of the loop (R168). -/
def State.wideRange (s : State) : Bool := s.clk.xoFail || !s.clk.onPll

/-! ### The tick (R170 to R173) -/

/-- A correction that a pulse decided begins (R167). A pulse that replaces the remaining error is handled under R167 with its
flags too (DEDUCED from R171, log entry 25). -/
def State.beginCorr (s : State) : State :=
  match s.time.due with
  | .none => s
  | .slew l => (s.undiscipline.modTime (fun t => { t with corr := .slew l, due := .none })).timeEvent 4
  | .hold l =>
    let was := match s.time.corr with | .hold _ => true | _ => false
    (s.undiscipline.modTime (fun t => { t with
      corr := .hold l, due := .none
      holdTicks := if was then t.holdTicks else 0
      tbDone := was && t.tbDone })).timeEvent 5

/-- The time of one ramp tick. A tick that a step has already brought is not advanced again. -/
def State.timeTick (s : State) : State :=
  let s := if s.time.ticked then s.modTime (fun t => { t with ticked := false }) else s.modTime MTime.advance
  s.beginCorr

/-- A step at a tick boundary (R170, R172): the tick's time and the step together. -/
def State.stepTime (s : State) (e : Int) : State :=
  let s := s.undiscipline
  s.modTime (fun t =>
    let t := t.advance
    { t with cur := moveTime t.cur e, corr := .none, due := .none, step := none, applied := false, realign := true, ticked := true })

def State.forwardNow (s : State) : State :=
  match s.time.step with
  | some e => if 0 < e then (s.stepTime e).timeEvent 2 else s
  | none => s

def State.backwardNow (s : State) : State :=
  match s.time.step with
  | some e => if e ≤ 0 then ((s.stepTime e).setFld timePage 0x01 3 1 0).timeEvent 3 else s
  | none => s

/-- The remaining error reaches 0 within the present tick (R171): after 8 times the rest of a slew, or the rest of a hold. -/
def State.slewEndNow (s : State) : State :=
  match s.time.corr with
  | .slew l => if 8 * l ≤ s.time.toTick then s.modTime (fun t => (t.elapse (8 * l)).endCorr) else s
  | _ => s

def State.holdEndNow (s : State) : State :=
  match s.time.corr with
  | .hold l => if l ≤ s.time.toTick then s.modTime (fun t => (t.elapse l).endCorr) else s
  | _ => s

/-- A hold has lasted 50 ms (R171). -/
def State.timebaseFaultNow (s : State) : State :=
  match s.time.corr with
  | .hold _ =>
    if 50000 ≤ s.time.holdTicks ∧ s.time.tbDone = false then (s.modTime (fun t => { t with tbDone := true })).timeEvent 6 else s
  | _ => s

/-! ### Reading (R162) -/

/-- A read of SEC_H. -/
def State.latchAll (s : State) (dma : Bool) : State :=
  let n := snapOf s.time.now
  if dma then { s with dma := { s.dma with snap := n } } else s.modTime (fun t => { t with snap := n })

/-- A read of MT_US_H that does not come later in a burst that has read SEC_H. -/
def State.latchUs (s : State) (dma : Bool) : State :=
  let u := usOf s.time.now
  if dma then { s with dma := { s.dma with snap := { s.dma.snap with us := u } } }
  else s.modTime (fun t => { t with snap := { t.snap with us := u } })

/-! ### Setting (R164, R172) -/

/-- The machine time of two wide words, in ns. -/
def timeOf (sec ns : Wide) : Nat := sec.toNat * 1000000000 + ns.toNat

/-- CTRL.APPLY. -/
def State.applyTime (s : State) : State :=
  let nsW := s.wide timePage 0x12
  let staged := timeOf (s.wide timePage 0x10) nsW * nsUnit
  let now := s.time.cur
  let allow := s.regBit timePage 0x01 3
  if 1000000000 ≤ nsW.toNat then s.timeEvent 0
  else if staged < now ∧ allow = false then s.timeEvent 1
  else
    let s := s.undiscipline.modTime (fun t => { t.endCorr with due := .none, step := none, applied := false })
    if staged < now then s.modTime (fun t => { t with step := some ((staged : Int) - now), applied := true })
    else s.modTime (fun t => { t with cur := staged, realign := true })

/-- CTRL: ALLOW_STEP takes its value before APPLY is judged (DEDUCED, log entry 25). -/
def State.timeCtrl (s : State) (v : Word) : State :=
  let s := s.setFld timePage 0x01 3 1 (fld v 3 1)
  if v.getLsbD 2 then s.applyTime else s

/-! ### TSYNC (R165 to R168) -/

/-- A write of NEXT_SEC_H, with the word in place (R166). -/
def State.armNext (s : State) : State :=
  let ns := s.wide timePage 0x16
  if 1000000000 ≤ ns.toNat then s.timeEvent 0
  else s.modTime (fun t => { t with armed := some (timeOf (s.wide timePage 0x14) ns) })

/-- TSYNC_EN changes. -/
def State.tsyncEnable (s : State) (en : Bool) : State :=
  let old := s.regBit timePage 0x18 0
  let s := s.setReg timePage 0x18 (flag en 0)
  if en then (if old then s else s.modTime (fun t => { t with seen := false, missed := 0 })) else s.undiscipline

/-- The largest RATE: 500 ppm, or 3 %, in units of 2^-32. -/
def rateLimit (wide : Bool) : Int := if wide then 128849018 else 2147483

/-- The rate loop at a pulse inside PHASE_WIN, `T` ns after the previous one. RATE is rounded to the nearest 2^-32 and
then clamped (R168). Without a previous pulse there is no T, and nothing changes (DEDUCED, log entry 25). DESIGN CHOICE (log
entry 92): E / T and the term added to F are truncated toward zero at the 48th fraction bit, and a RATE that lies outside the
limits after a change of the core clock is clamped at the next such pulse. -/
def State.rateLoop (s : State) (e : Int) (interval : Nat) (first : Bool) : State :=
  let s := s.modTime MTime.endCorr
  let s :=
    if first ∨ interval = 0 then s
    else
      let q := Int.tdiv (e * 281474976710656) interval
      let f := s.time.freq + Int.tdiv q (2 ^ s.regFld timePage 0x1B 0 4)
      let r := roundDiv (f + q) 65536
      let lim := rateLimit s.wideRange
      let c := max (-lim) (min lim r)
      s.newCycle.modTime (fun t => { t with freq := f, rate := c, clamped := decide (c ≠ r) })
  let near : Nat := if s.clk.onPll then 20 else 100
  if 100 < e.natAbs then s.undiscipline
  else if e.natAbs ≤ near ∧ s.time.clamped = false ∧ s.reduced = false then
    let k := min 4 (s.time.lock + 1)
    let gained := decide (k = 4) && s.time.undisc
    let s := s.modTime (fun t => { t with lock := k, undisc := t.undisc && !gained })
    s.eventIf gained timePage 7
  else s.modTime (fun t => { t with lock := 0 })

/-- An accepted pulse with NEXT armed: E and its correction (R167). A slew or hold begins at the next tick; E replaces the
remaining error of one in progress at once, and so ends it where a step is due (R171, R172). -/
def State.correct (s : State) (e : Int) (interval : Nat) (first : Bool) : State :=
  let s := s.setWide timePage 0x1C (satInt32 e)
  let win : Int := (s.reg timePage 0x1A).toNat * 10
  let old := s.time.corr
  let s := s.modTime (fun t => { t with due := .none, step := none })
  if -win ≤ e ∧ e ≤ win then s.rateLoop e interval first
  else if 0 < e ∨ s.regBit timePage 0x01 3 then s.undiscipline.modTime (fun t => { t with corr := .none, step := some (e * nsUnit) })
  else
    let s := s.modTime (fun t => { t with
      lock := 0, due := if -1000000 ≤ e then .slew (e.natAbs * nsUnit) else .hold (e.natAbs * nsUnit) })
    if old = .none then s else s.beginCorr

/-- The captured time in ns: it resolves 5 ns on the PLL, and on HSRC the core cycle in which the edge falls (R165). -/
def State.capture (s : State) : Nat := if s.clk.onPll then s.time.now / 5 * 5 else s.time.now

/-- An accepted pulse. With an APPLY in its cycle it measures the period only, and consumes the armed NEXT (R174). DESIGN CHOICE (log
entry 113): the same where the backward step of an APPLY still waits for its tick (R172), which takes effect as it was decided. -/
def State.acceptPulse (s : State) (interval : Nat) (apply : Bool) : State :=
  let first := !s.time.seen
  let s := (s.produce 0x1C).modTime (fun t => { t with seen := true, missed := 0 })
  match s.time.armed with
  | none => s.undiscipline.timeEvent 11
  | some nx =>
    let s := s.modTime (fun t => { t with armed := none })
    if apply ∨ s.time.applied then s else s.correct ((nx : Int) - s.capture) interval first

/-- A candidate pulse, `interval` ns after the last accepted one (R165). -/
def State.candidate (s : State) (interval : Nat) (apply : Bool) : State :=
  if s.time.seen ∧ interval < (s.reg timePage 0x19).toNat * 500000 then (s.count timePage 0x23).timeEvent 10
  else s.acceptPulse interval apply

/-- A rising edge of TSYNC, that stays high for `highNs`, taken or not (R165). Between 10 and 20 ns a free value decides. -/
def State.pulseEdge (s : State) (highNs interval : Nat) (apply : Bool) : State :=
  if s.regBit timePage 0x18 0 = false ∨ highNs < 10 then s
  else if highNs < 20 then
    let (b, s) := s.drawBool
    if b then s.candidate interval apply else s
  else s.candidate interval apply

/-- A rising edge of TSYNC, `cycles` after the last tick. `apply`: an accepted APPLY falls in its FBUS cycle, and takes effect
(R174). -/
def State.tsyncRise (s : State) (highNs cycles interval : Nat) (apply : Bool) : State :=
  if s.awake = false ∨ s.sup.vio = false then s
  else
    let s := (s.timeAt cycles).modTime (fun t => { t with high := highNs * nsUnit })
    if apply then
      let ok := decide ((s.wide timePage 0x12).toNat < 1000000000)
        && (s.regBit timePage 0x01 3 || decide (s.time.cur ≤ timeOf (s.wide timePage 0x10) (s.wide timePage 0x12) * nsUnit))
      (s.pulseEdge highNs interval ok).applyTime
    else s.pulseEdge highNs interval false

/-- No accepted pulse for 1.5 PERIOD, and each PERIOD after (R165, R169). -/
def State.pulseMissing (s : State) : State :=
  if s.awake = false ∨ s.regBit timePage 0x18 0 = false then s
  else
    let s := ((s.count timePage 0x22).timeEvent 9).modTime (fun t => { t with missed := t.missed + 1 })
    if 2 ≤ s.time.missed then s.undiscipline else s

/-! ### Registers (R175) -/

/-- The remaining error of a slew or hold, in units of 2^-36 ns. -/
def Corr.left : Corr → Nat
  | .none => 0
  | .slew l | .hold l => l

def State.timeStatus (s : State) : Word :=
  let t := s.time
  let sl := match t.corr with | .slew _ => true | _ => false
  let ho := match t.corr with | .hold _ => true | _ => false
  flagWord [t.undisc || s.reduced, sl, ho, t.clamped, s.wideRange, t.armed.isSome, s.sup.vio && decide (0 < t.high)] 0

/-- The TIME registers without a read side effect, for the host or the DMA snapshot. -/
def State.timeRead (s : State) (dma : Bool) (off : Nat) : Option Word :=
  let n := if dma then s.dma.snap else s.time.snap
  match off with
  | 0x02 => some s.timeStatus
  | 0x08 | 0x09 => some (half off n.sec)
  | 0x0A | 0x0B => some (half off n.ns)
  | 0x0C | 0x0D => some (half off n.us)
  | 0x1E | 0x1F => some (half off (BitVec.ofInt 32 s.time.rate))
  | 0x20 | 0x21 => some (half off (BitVec.ofNat 32 (min 0xFFFFFFFF (s.time.corr.left / nsUnit))))
  | _ => none

/-- A word written to a unit offset of TIME. -/
def State.timeWrite (s : State) (off : Nat) (v : Word) (unl : Bool) : State :=
  match off with
  | 0x14 => (s.setReg timePage 0x14 v).armNext
  | 0x18 => s.tsyncEnable (v.getLsbD 0)
  | _ => (s.plainWrite timePage off v unl).1

end Sys2Proof.Machine
end

