-- ==== Sys2Proof/Machine/Tally.lean ====
section
/-! DEFINITION. Tallyman: counting, direction, index, line check, speed and position triggers, with the confirmation of
inherited positions by an index; and encoder emulation (R309 to R329, R421). -/

namespace Sys2Proof.Machine

/-! ### Channels -/

def State.modEnc (s : State) (c : Nat) (f : Enc → Enc) : State :=
  if h : c < 4 then { s with encs := s.encs.set c (f s.encs[c]) } else s

/-- Offset of a register of a channel's block (R328). -/
def eOff (c k : Nat) : Nat := 0x10 + 0x10 * c + k
/-- Offset of a register of a trigger's block. -/
def pOff (p k : Nat) : Nat := 0x50 + 8 * p + k

/-- The channel takes edges: present, the unit clocked, the device awake, its inputs live (R43, R66, R327). -/
def State.encLive (s : State) (c : Nat) : Bool :=
  s.hasEnc c && s.awake && s.sup.vio && s.regBit tallyPage 0x01 0

/-- A bit of En_FLAGS sets, and ATTN with it. -/
def State.encFlag (s : State) (c k : Nat) : State :=
  (s.setReg tallyPage (eOff c 0xC) (s.reg tallyPage (eOff c 0xC) ||| bitWord k)).event tallyPage c

/-- The restart of R319: the line check, INDEX_SEEN and the missing-index timer begin afresh. INDEX_MISSING waits for an
index all the same (R320). -/
def Enc.lineRestart (e : Enc) : Enc :=
  { e with idxSeen := false, lastIdx := none, rose := false, fell := false, moved := false, msLeft := 1000, idxMs := 0 }

/-- The filter's fields: FBUS cycles between samples, and the samples of a level (R311). -/
def State.filtPeriod (s : State) (c : Nat) : Nat := 2 ^ s.regFld tallyPage (eOff c 0) 3 3
def State.filtSamples (s : State) (c : Nat) : Nat := s.regFld tallyPage (eOff c 0) 6 5

/-- Is a level that stood for `held` FBUS cycles accepted? Between the two bounds of R311 it may or may not be. -/
def State.encAccepts (s : State) (c held : Nat) : Bool × State :=
  if (s.filtSamples c + 1) * s.filtPeriod c ≤ held then (true, s)
  else if held < (s.filtSamples c - 1) * s.filtPeriod c + 1 then (false, s)
  else s.drawBool

/-- The filter's time: a level that has stood for so many FBUS cycles is accepted. -/
def State.filtTime (s : State) (c : Nat) : Nat := (s.filtSamples c + 1) * s.filtPeriod c

/-- A change of MODE or filter, or the unit's enabling, at the latest instant told (R311, R317): the levels on the pins are accepted
again, and make no count. -/
def State.encRestart (s : State) (c : Nat) : State :=
  let k := s.fbusTold + s.filtTime c
  s.modEnc c (fun e => { e.lineRestart with
    freshA := true, freshB := true, freshI := true, leftA := k, leftB := k, leftI := k, dirKnown := false })

/-- The first accepted level of an input of a restarted channel: the one that has stood on its pin for the filter's time, `cycles`
FBUS cycles after the last ramp tick (R311; DEDUCED, log entry 30). -/
def Enc.accept (cycles : Nat) (e : Enc) : Enc :=
  let ta := e.freshA && decide (e.leftA ≤ cycles)
  let tb := e.freshB && decide (e.leftB ≤ cycles)
  let ti := e.freshI && decide (e.leftI ≤ cycles)
  { e with
    a := if ta then e.pinA else e.a, b := if tb then e.pinB else e.b, i := if ti then e.pinI else e.i
    freshA := e.freshA && !ta, freshB := e.freshB && !tb, freshI := e.freshI && !ti }

/-- An edge comes `cycles` FBUS cycles after the last ramp tick: the levels that stood before it may have been accepted by then. -/
def State.encStood (s : State) (c cycles : Nat) : State :=
  if s.encLive c ∧ s.encMode c ≠ 0 ∧ 0 < cycles then s.modEnc c (Enc.accept cycles) else s

/-- A speed window begins (R316). -/
def State.winRestart (s : State) (c : Nat) : State :=
  s.modEnc c (fun e => { e with winLeft := (s.reg tallyPage (eOff c 6)).toNat, winBase := e.count })

/-! ### Sources of triggers and emulation (R310, R321) -/

/-- What a SRC code names: an axis, or a channel. -/
def srcAxis (code : Nat) : Option Ax := if h : 1 ≤ code ∧ code ≤ 10 then some ⟨code - 1, by omega⟩ else none
def srcChan (code : Nat) : Option Nat := if 0x10 ≤ code ∧ code < 0x14 then some (code - 0x10) else none

/-- SRC_ABSENT. -/
def State.srcAbsent (s : State) (code : Nat) : Bool :=
  match srcAxis code, srcChan code with
  | some n, _ => !s.hasAxis n
  | _, some c => !s.hasEnc c
  | _, _ => false

/-- The present value of a source. -/
def State.srcValue (s : State) (code : Nat) : Option Wide :=
  if s.srcAbsent code then none
  else match srcAxis code, srcChan code with
    | some n, _ => some (BitVec.ofInt 32 (s.position n))
    | _, some c => some (s.enc c).count
    | _, _ => none

/-! ### Position triggers (R321, R322) -/

def State.trig (s : State) (p : Fin 4) : Trig := s.trigs[p]
def State.modTrig (s : State) (p : Fin 4) (f : Trig → Trig) : State := { s with trigs := s.trigs.set p (f s.trigs[p]) }

def State.trigSrc (s : State) (p : Fin 4) : Nat := s.regFld tallyPage (pOff p 0) 0 5
def State.trigDir (s : State) (p : Fin 4) : Nat := s.regFld tallyPage (pOff p 0) 5 2

/-- The compare is crossed rising, or falling, by a move from `prev` to `new`. -/
def crossed (rising : Bool) (prev new cmp : Wide) : Bool :=
  let a := (prev - cmp).toInt
  let b := (new - cmp).toInt
  if rising then decide (a < 0) && decide (0 ≤ b) else decide (0 < a) && decide (b ≤ 0)

/-- The sense in which a trigger with DIR fires, if it does. DIR 3 acts as 0. -/
def fires (dir : Nat) (prev new cmp : Wide) : Option Bool :=
  if dir ≠ 2 ∧ crossed true prev new cmp then some true
  else if dir ≠ 1 ∧ crossed false prev new cmp then some false
  else none

/-- A firing (R322). -/
def State.trigFire (s : State) (p : Fin 4) (rising : Bool) (prev new : Wide) : State :=
  let cmp := s.wide tallyPage (pOff p 1)
  let step := s.wide tallyPage (pOff p 3)
  let s := (s.produce (0x14 + p.val)).event tallyPage (4 + p.val)
  let t := s.trig p
  let s := s.modTrig p (fun t => { t with fires := (t.fires + 1) % 256 })
  if 0 < t.remain then
    let cmp' := cmp + step
    let passed := step ≠ 0#32 && (crossed rising prev new cmp' || crossed rising cmp new cmp')
    (s.setWide tallyPage (pOff p 1) cmp').modTrig p (fun t =>
      { t with remain := t.remain - 1, late := if passed then some rising else none })
  else s.modTrig p (fun t => { t with armed := false })

/-- One evaluation, with the source now at `new`. A trigger fires at most once in it. -/
def State.trigEval (s : State) (p : Fin 4) (new : Wide) : State :=
  let t := s.trig p
  let s := s.modTrig p (fun t => { t with prev := new })
  if t.armed = false ∨ s.regBit tallyPage 0x01 0 = false then s
  else match t.late with
    | some r => (s.modTrig p (fun t => { t with late := none, lagged := true })).trigFire p r t.prev new
    | none =>
      match fires (s.trigDir p) t.prev new (s.wide tallyPage (pOff p 1)) with
      | some r => s.trigFire p r t.prev new
      | none => s

def allTrigs : List (Fin 4) := [0, 1, 2, 3]

/-- The triggers of a source are evaluated. -/
def State.trigsOf (s : State) (code : Nat) : State :=
  match s.srcValue code with
  | none => s
  | some v => allTrigs.foldl (fun s p => if s.trigSrc p = code then s.trigEval p v else s) s

/-- CMD.ARM. -/
def State.trigArm (s : State) (p : Fin 4) : State :=
  let v := (s.srcValue (s.trigSrc p)).getD 0#32
  s.modTrig p (fun t => { t with
    armed := true, remain := s.regFld tallyPage (pOff p 5) 0 4, lagged := false, late := none, prev := v })

def State.trigDisarm (s : State) (p : Fin 4) : State := s.modTrig p (fun t => { t with armed := false, late := none })

/-! ### Emulation (R324 to R326) -/

def State.emu (s : State) (x : Fin 2) : Emu := s.emus[x]
def State.modEmu (s : State) (x : Fin 2) (f : Emu → Emu) : State := { s with emus := s.emus.set x (f s.emus[x]) }
def xOff (x k : Nat) : Nat := 0x10 + 0x10 * x + k
def State.hasEmu (s : State) (x : Fin 2) : Bool := decide (x.val < s.part.emus)
def State.emuSrc (s : State) (x : Fin 2) : Nat := s.regFld emuPage (xOff x 0) 0 5

/-- The present source value is the reference; accumulator and BACKLOG are clear (R324). -/
def State.emuSync (s : State) (x : Fin 2) : State :=
  s.modEmu x (fun e => { e with ref := (s.srcValue (s.emuSrc x)).getD e.ref, acc := 0, backlog := 0, overrun := false })

/-- The source has moved: due counts enter BACKLOG. Beyond 32767 they are dropped with OVERRUN, and OUT_CNT no longer
follows the source until SYNC; what waits in BACKLOG is still emitted (R324, R326; DEDUCED, log entry 89). -/
def State.emuMove (s : State) (x : Fin 2) (v : Wide) : State :=
  let e := s.emu x
  if e.overrun then s
  else
    let num : Int := (s.reg emuPage (xOff x 1)).toNat
    let den : Int := (s.reg emuPage (xOff x 2)).toNat
    let acc := e.acc + (v - e.ref).toInt * num
    let n := Int.tdiv acc den
    let b := e.backlog + n
    let b' := max (-32767) (min 32767 b)
    (s.modEmu x (fun e => { e with ref := v, acc := acc - n * den, backlog := b', overrun := decide (b ≠ b') })).eventIf
      (decide (b ≠ b')) emuPage x.val

/-- The outputs that follow a source. -/
def State.emusOf (s : State) (code : Nat) : State :=
  if s.regBit emuPage 0x01 0 = false then s
  else match s.srcValue code with
    | none => s
    | some v => [0, 1].foldl (fun s (x : Fin 2) => if s.hasEmu x ∧ s.emuSrc x = code then s.emuMove x v else s) s

/-- A due count is emitted (R325, R326). An output whose source is absent never emits (R310). -/
def State.emuEmit (s : State) (x : Fin 2) : State :=
  if s.hasEmu x = false ∨ s.awake = false ∨ s.regBit emuPage 0x01 0 = false ∨ s.srcAbsent (s.emuSrc x) then s
  else
    let b := (s.emu x).backlog
    if 0 < b then s.modEmu x (fun e => { e with out := e.out + 1#32, backlog := e.backlog - 1 })
    else if b < 0 then s.modEmu x (fun e => { e with out := e.out - 1#32, backlog := e.backlog + 1 })
    else s

/-- The levels of A, B and I of an output (R325): low until host software has enabled the unit (R36), and none without VIO, when
they are Hi-Z (R43). -/
def State.emuPins (s : State) (x : Fin 2) : Option (Bool × Bool × Bool) :=
  let q := (s.emu x).out.toNat
  if s.sup.vio = false then none
  else if s.regBit emuPage (xOff x 0) 7 = false ∨ s.awake = false ∨ (s.emu x).live = false then some (false, false, false)
  else some (
    let a := decide (q % 4 = 1 ∨ q % 4 = 2)
    let b := decide (q % 4 = 2 ∨ q % 4 = 3)
    let i := s.regBit emuPage (xOff x 0) 6 && decide (q % (s.reg emuPage (xOff x 6)).toNat = 2)
    if s.regBit emuPage (xOff x 0) 5 then (b, a, i) else (a, b, i))

/-- A source has a new value: its triggers and outputs see it. -/
def State.sourceMoved (s : State) (code : Nat) : State := (s.trigsOf code).emusOf code

/-- What several inputs do to a channel in one FBUS cycle makes one evaluation of its triggers, and one change for its outputs, with
the COUNT that the cycle leaves (R321, R324). -/
def State.inOneCycle (s : State) (c : Nat) (f : State → State) : State :=
  let t := f { s with
    trigs := s.trigs.map (fun (t : Trig) => { t with armed := false }), emus := s.emus.map (fun (e : Emu) => { e with overrun := true }) }
  let t := { t with trigs := s.trigs, emus := s.emus }
  if (t.enc c).count = (s.enc c).count then t else t.sourceMoved (0x10 + c)

/-! ### Counting (R312 to R317) -/

/-- One count, rising or falling before INV_DIR. -/
def State.countStep (s : State) (c : Nat) (up : Bool) : State :=
  let up := up != s.regBit tallyPage (eOff c 0) 2
  let e := s.enc c
  let turned := e.dirKnown && (e.dir == up)
  let s := s.modEnc c (fun e => { e with
    count := if up then e.count + 1#32 else e.count - 1#32
    dir := !up, dirKnown := true, rose := e.rose || up, fell := e.fell || !up, moved := true })
  let s := if turned then s.encFlag c 1 else s
  s.sourceMoved (0x10 + c)

/-- The place of accepted levels in the rising sequence 00, 10, 11, 01. -/
def quadPos (a b : Bool) : Nat := match a, b with
  | false, false => 0
  | true, false => 1
  | true, true => 2
  | false, true => 3

/-- New levels on the pins of A and B, `cycles` FBUS cycles after the last ramp tick. An input that has yet to show its first accepted
level begins to stand afresh (R311). -/
def State.encPins (s : State) (c : Nat) (a b : Bool) (cycles : Nat) : State :=
  if s.hasEnc c = false ∨ s.sup.vio = false then s
  else
    let k := cycles + s.filtTime c
    s.modEnc c (fun e => { e with
      pinA := a, pinB := b, leftA := if e.pinA = a then e.leftA else k, leftB := if e.pinB = b then e.leftB else k })

/-- Levels of A and B, where there are such, as the accepted ones, if the channel takes edges. One in MODE 0 is disabled and keeps
its last levels (R333). -/
def State.encLevels (s : State) (c : Nat) (a b : Option Bool) : State :=
  if s.encLive c ∧ s.encMode c ≠ 0 then
    s.modEnc c (fun e => { e with
      a := a.getD e.a, b := b.getD e.b, freshA := e.freshA && a.isNone, freshB := e.freshB && b.isNone })
  else s

/-- An accepted rising edge of STEP: the DIR level accepted before counts (R315), and FOLLOW takes the step (R197). -/
def State.stepCount (s : State) (c : Nat) (dir : Bool) : State :=
  let s := s.countStep c dir
  let up := dir != s.regBit tallyPage (eOff c 0) 2
  s.forAxes s.present (fun n s => s.followStep c up n)

/-- One sample's change of A and B in quadrature (R312, R313). -/
def State.quadCount (s : State) (c : Nat) (a b a' b' : Bool) : State :=
  if a ≠ a' ∧ b ≠ b' then (s.encFlag c 0).count tallyPage (eOff c 0xD)
  else match (quadPos a' b' + 4 - quadPos a b) % 4 with
    | 1 => s.countStep c true
    | 3 => s.countStep c false
    | _ => s

/-- New accepted levels of A and B in one sample, of those that there are (R311 to R313); in step mode a rise of A is a STEP edge
(R315). An input's first accepted level makes no count. -/
def State.quadTake (s : State) (c : Nat) (a b : Option Bool) : State :=
  let e := s.enc c
  let a' := a.getD e.a
  let b' := b.getD e.b
  let s := s.encLevels c a b
  match s.encMode c with
  | 1 => s.quadCount c (if e.freshA then a' else e.a) (if e.freshB then b' else e.b) a' b'
  | 2 => if a' && !e.a && !e.freshA then s.stepCount c e.b else s
  | _ => s

/-- The levels of A and B that stood on the pins for so many FBUS cycles: the filter accepts each or does not (R311). -/
def State.quadChange (s : State) (c : Nat) (a b : Bool) (heldA heldB cycles : Nat) : State :=
  let s := s.encPins c a b cycles
  if s.encLive c = false then s
  else
    let (ta, s) := s.encAccepts c heldA
    let (tb, s) := s.encAccepts c heldB
    s.quadTake c (if ta then some a else none) (if tb then some b else none)

/-- A rise of STEP that stood for `held` FBUS cycles, with DIR's level after it. It is an accepted rising edge where the accepted level
was low; a fall that no row told was accepted before it (log entry 30). -/
def State.stepChange (s : State) (c : Nat) (dirAfter : Bool) (held cycles : Nat) : State :=
  let e := s.enc c
  let s := s.encPins c true dirAfter cycles
  if s.encLive c = false then s
  else match s.encAccepts c held with
    | (false, s) => s
    | (true, s) =>
      let s := s.encLevels c (some true) (some dirAfter)
      if e.freshA ∨ s.encMode c ≠ 2 ∨ (e.a && !e.pinA) then s else s.stepCount c e.b

/-- COUNT takes a value; the line check restarts (R314). -/
def State.loadCount (s : State) (c : Nat) (v : Wide) : State :=
  (s.modEnc c (fun e => { e.lineRestart with count := v })).sourceMoved (0x10 + c)

/-- A speed window ends (R316). -/
def State.windowEnd (s : State) (c : Nat) : State :=
  if s.hasEnc c ∧ s.awake ∧ s.regBit tallyPage 0x01 0 ∧ (s.enc c).winLeft = 0 then
    (s.modEnc c (fun e => { e with speed := e.count - e.winBase })).winRestart c
  else s

/-- The tick's part of a channel: its window and, with IDX_TIMEOUT set, its count of milliseconds (R316, R320). Once the
filter's time has gone by, the level that stands on a pin is its first accepted one (DEDUCED, log entry 30); `on`: MODE
is not 0. -/
def Enc.tick (e : Enc) (cycles : Nat) (timed on : Bool) : Enc :=
  let e := if on then e.accept cycles else e
  let e := { e with leftA := e.leftA - cycles, leftB := e.leftB - cycles, leftI := e.leftI - cycles, winLeft := e.winLeft - 1 }
  if e.msLeft ≤ 1 then { e with msLeft := 1000, idxMs := e.idxMs + (if e.moved && timed then 1 else 0), moved := false }
  else { e with msLeft := e.msLeft - 1 }

/-- FBUS cycles of a ramp tick (R86). -/
def State.tickCycles (s : State) : Nat := if s.clk.onPll then 100 else 16

def State.encTick (s : State) (c : Nat) : State :=
  s.modEnc c (fun e => e.tick s.tickCycles (decide (s.reg tallyPage (eOff c 0xB) ≠ 0#16)) (decide (s.encMode c ≠ 0)))

def State.encTicks (s : State) : State :=
  if s.regBit tallyPage 0x01 0 then (List.range 4).foldl (fun s c => if s.hasEnc c then s.encTick c else s) s else s

/-- IDX_TIMEOUT has run out (R320), with VIO or without it (R43). -/
def State.indexMissingNow (s : State) (c : Nat) : State :=
  let t := (s.reg tallyPage (eOff c 0xB)).toNat
  let e := s.enc c
  if s.hasEnc c ∧ s.awake ∧ s.regBit tallyPage 0x01 0 ∧ t ≠ 0 ∧ t ≤ e.idxMs ∧ e.missing = false then
    (s.modEnc c (fun e => { e with missing := true })).encFlag c 4
  else s

/-! ### Index (R318, R319, R421) -/

/-- d of R421, times ENC_DEN: reduced modulo one revolution where EXPECT_LINES is set. -/
def indexOffset (d : Int) (lines : Nat) (num : Int) (den : Nat) : Int :=
  let x := d * den
  let rev : Int := (4 * lines * num.natAbs : Nat)
  if rev = 0 then x
  else
    let r := x % rev
    if rev < 2 * r then r - rev else r

/-- An index on the bound channel of an axis with an inherited position confirms it or not (R421); a fraction of d is
rounded (DESIGN CHOICE, log entry 26). -/
def State.indexConfirm (s : State) (n : Ax) : State :=
  match s.twin.inhIdx[n] with
  | none => s
  | some idx =>
    if (s.axis n).uncertain = false ∨ s.regBit twinPage 0x08 4 = false then s
    else
      let pg := axPage n
      let c := s.regFld pg 0x35 0 2
      let den := (s.reg pg 0x37).toNat
      let d := (BitVec.ofInt 32 (s.position n - idx.toInt)).toInt
      let x := indexOffset d (s.reg tallyPage (eOff c 9)).toNat (s.reg pg 0x36).toInt den
      let s := { s with twin := { s.twin with inhIdx := s.twin.inhIdx.set n none } }
      if x.natAbs ≤ 2048 * den then
        let p := (BitVec.ofInt 32 (s.position n - roundDiv x den)).toInt
        ((s.loadPosition n p).modAxis n (fun a => { a with uncertain := false })).event twinPage 7
      else s.event twinPage 8

/-- What an index brings an axis: confirmation, IDX_AXPOS (R409), and the hit of a SEEK (R215). -/
def State.axisIndex (s : State) (c : Nat) (n : Ax) : State :=
  let s :=
    if s.bound n ∧ s.regFld (axPage n) 0x35 0 2 = c then
      let s := if s.encMode c = 1 then s.indexConfirm n else s
      s.modAxis n (fun a => { a with idxPos := some (Ramp.position a.chan) })
    else s
  match s.seekParam n with
  | some p => if fld p 0 2 = 1 ∧ fld p 2 2 = c then s.markSeen n else s
  | none => s

/-- LINE_CNT and its check (R319). -/
def State.lineCheck (s : State) (c : Nat) (e : Enc) : State :=
  match e.lastIdx with
  | none => s
  | some l =>
    let k := (e.count - l).toInt.natAbs
    let s := s.setReg tallyPage (eOff c 0xF) (satWord k)
    let want := 4 * (s.reg tallyPage (eOff c 9)).toNat
    let tol := (s.reg tallyPage (eOff c 0xA)).toNat
    if want ≠ 0 ∧ (e.rose && e.fell) = false ∧ (k + tol < want ∨ want + tol < k) then s.encFlag c 3 else s

/-- An accepted level of EnI (R318): a fall, a first accepted level (R311) and a rise while the accepted level was high bring the
level alone; in MODE 0 the channel keeps its last one (R333). `again`: the fall before a rise was told, and not accepted. -/
def State.indexTake (s : State) (c : Nat) (up again : Bool) : State :=
  let e := s.enc c
  let cfg := s.reg tallyPage (eOff c 0)
  let s := if s.encMode c = 0 then s else s.modEnc c (fun e => { e with i := up, freshI := false })
  if up = false ∨ e.freshI ∨ s.encMode c = 0 ∨ again then s
  else if cfg.getLsbD 11 && !(e.a && e.b) then s
  else
    let s := s.setWide tallyPage (eOff c 4) e.count
    let s := (s.encFlag c 2).produce (0x18 + c)
    let s := if s.encMode c = 1 then s.lineCheck c e else s
    let zero := cfg.getLsbD 12
    let now := if zero then 0#32 else e.count
    let s := s.modEnc c (fun e => { e with
      idxSeen := true, lastIdx := some now, rose := false, fell := false, moved := false, msLeft := 1000, idxMs := 0
      missing := false, count := now })
    let s := if zero ∧ e.count ≠ 0#32 then s.sourceMoved (0x10 + c) else s
    s.forAxes s.present (fun n s => s.axisIndex c n)

/-- A level of EnI that stood for `held` FBUS cycles (R311). A rise is an accepted rising edge where the accepted level was low; a fall
that no row told was accepted before it (log entry 30). -/
def State.encIndex (s : State) (c : Nat) (up : Bool) (held cycles : Nat) : State :=
  let e := s.enc c
  if s.hasEnc c = false ∨ s.sup.vio = false then s
  else
    let k := cycles + s.filtTime c
    let s := s.modEnc c (fun e => { e with pinI := up, leftI := if e.pinI = up then e.leftI else k })
    if s.encLive c = false then s
    else match s.encAccepts c held with
      | (true, s) => s.indexTake c up (e.i && !e.pinI)
      | (false, s) => s

/-- VIO vanishes: the pins of a channel read their inactive level, high, for as long as the slowest filter asks (R35, R43;
DEDUCED, log entry 30). -/
def State.encInactive (s : State) (c : Nat) : State :=
  let e := s.enc c
  let s := if e.pinA && e.pinB then s else s.quadChange c true true 4096 4096 0
  if e.pinI then s else s.encIndex c true 4096 0

/-- An index that comes in the same FBUS cycle as what `f` does, where `heldI`, for which EnI stood high, is not 0: it takes the COUNT
that this leaves (R313, R314, R318). -/
def State.withIndex (s : State) (c heldI cycles : Nat) (f : State → State) : State :=
  if heldI = 0 then f s else s.inOneCycle c (fun s => (f s).encIndex c true heldI cycles)

/-! ### Writes and reads (R327 to R329) -/

/-- TALLY must stay clocked while an axis follows or binds a channel (R327). -/
def State.tallyHeld (s : State) : Bool := s.present.any (fun n => decide ((s.axis n).mode = .follow) || s.bound n)

/-- TALLY.CTRL.ENABLE. -/
def State.tallyEnable (s : State) (en : Bool) : State :=
  let old := s.regBit tallyPage 0x01 0
  if en then
    let s := s.setFld tallyPage 0x01 0 1 1
    if old then s else (List.range 4).foldl (fun s c => (s.encRestart c).winRestart c) s
  else if s.tallyHeld then s.event tallyPage 8
  else s.setFld tallyPage 0x01 0 1 0

/-- En_CFG: a change of MODE or filter restarts the channel (R311). -/
def State.encCfg (s : State) (c : Nat) (v : Word) (unl : Bool) : State :=
  let old := s.reg tallyPage (eOff c 0)
  let s := (s.plainWrite tallyPage (eOff c 0) v unl).1
  if (old ^^^ s.reg tallyPage (eOff c 0)) &&& 0x07FB#16 = 0#16 then s else s.encRestart c

/-- The listed codes of SRC; a field given another keeps its value (R328). -/
def srcField (old v : Word) : Word :=
  let code := fld v 0 5
  if code ≤ 10 ∨ (0x10 ≤ code ∧ code < 0x14) then v else (v &&& 0xFFE0#16) ||| (old &&& 0x001F#16)

/-- A write of PTp_CFG disarms the trigger (R321). -/
def State.trigCfg (s : State) (p : Fin 4) (v : Word) : State :=
  (s.setReg tallyPage (pOff p 0) (srcField (s.reg tallyPage (pOff p 0)) v &&& 0x007F#16)).trigDisarm p

/-- A word written to a unit offset of TALLY. -/
def State.tallyWrite (s : State) (off : Nat) (v : Word) (unl : Bool) : State :=
  if h : 0x50 ≤ off ∧ off < 0x70 then
    let p : Fin 4 := ⟨(off - 0x50) / 8, by omega⟩
    match (off - 0x50) % 8 with
    | 0 => s.trigCfg p v
    | 6 =>
      let s := if v.getLsbD 0 then s.trigArm p else s
      if v.getLsbD 1 then s.trigDisarm p else s
    | _ => (s.plainWrite tallyPage off v unl).1
  else if 0x10 ≤ off ∧ off < 0x50 then
    let c := off / 16 - 1
    if s.hasEnc c = false then s
    else match off % 16 with
      | 0 => s.encCfg c v unl
      | 6 => if v = 0#16 then s else (s.setReg tallyPage off v).winRestart c
      | _ => (s.plainWrite tallyPage off v unl).1
  else (s.plainWrite tallyPage off v unl).1

/-- COUNT, CMP and STEP, on their high words. A new CMP replaces a stepped one that was already passed (R321). -/
def State.tallyWideWrite (s : State) (offHi : Nat) (v : Wide) : State :=
  if h : 0x50 ≤ offHi ∧ offHi < 0x70 then
    let s := s.setWide tallyPage offHi v
    if (offHi - 0x50) % 8 = 1 then s.modTrig ⟨(offHi - 0x50) / 8, by omega⟩ (fun t => { t with late := none }) else s
  else
    let c := offHi / 16 - 1
    if s.hasEnc c then s.loadCount c v else s

def State.tallyRead (s : State) (off : Nat) : Option Word :=
  if h : 0x50 ≤ off ∧ off < 0x70 then
    let p : Fin 4 := ⟨(off - 0x50) / 8, by omega⟩
    let t := s.trig p
    if (off - 0x50) % 8 = 7 then
      some (flagWord [t.armed, s.srcAbsent (s.trigSrc p), t.lagged] 0 ||| place t.remain 4 ||| place t.fires 8)
    else none
  else if 0x10 ≤ off ∧ off < 0x50 then
    let c := off / 16 - 1
    let e := s.enc c
    if s.hasEnc c = false then some 0#16
    else match off % 16 with
      | 2 | 3 => some (half off e.count)
      | 7 | 8 => some (halfOdd off e.speed)
      | 14 => some (flagWord [e.dir, e.a, e.b, e.i, e.idxSeen] 0)
      | _ => none
  else match off with
    | 0x02 => some (flagWord ((List.range 4).map (fun c => (s.enc c).dir)) 0 ||| flagWord (allTrigs.map (fun p => (s.trig p).armed)) 4)
    | 0x08 => some (BitVec.ofNat 16 (2 ^ s.part.encoders - 1))
    | _ => none

/-- The output of an offset of EMU. -/
def emuOf (off : Nat) : Option (Fin 2) := if h : 0x10 ≤ off ∧ off < 0x30 then some ⟨off / 16 - 1, by omega⟩ else none

/-- EMU.CTRL.ENABLE: on enabling each output takes its reference (R324). -/
def State.emuEnable (s : State) (en : Bool) : State :=
  let old := s.regBit emuPage 0x01 0
  let s := s.setFld emuPage 0x01 0 1 (if en then 1 else 0)
  if en && !old then
    let s := (s.emuSync 0).emuSync 1
    { s with emus := s.emus.map (fun (e : Emu) => { e with live := true }) }
  else s

/-- Xx_CFG; a new SRC brings its own reference (DEDUCED, log entry 89). -/
def State.emuCfg (s : State) (x : Fin 2) (v : Word) : State :=
  let old := s.emuSrc x
  let s := s.setReg emuPage (xOff x 0) (srcField (s.reg emuPage (xOff x 0)) v &&& 0x00FF#16)
  if s.emuSrc x = old then s else s.modEmu x (fun e => { e with ref := (s.srcValue (s.emuSrc x)).getD e.ref })

def State.emuWrite (s : State) (off : Nat) (v : Word) (unl : Bool) : State :=
  match emuOf off with
  | none => (s.plainWrite emuPage off v unl).1
  | some x =>
    if s.hasEmu x = false then s
    else match off % 16 with
      | 0 => s.emuCfg x v
      | 6 => if v = 0#16 ∨ v.toNat % 4 ≠ 0 then s else s.setReg emuPage off v
      | 8 => if v.getLsbD 0 then s.emuSync x else s
      | _ => (s.plainWrite emuPage off v unl).1

/-- OUT_CNT, writable only while OUT_EN = 0. -/
def State.emuWideWrite (s : State) (offHi : Nat) (v : Wide) : State :=
  match emuOf offHi with
  | some x =>
    if s.hasEmu x ∧ s.regBit emuPage (xOff x 0) 7 = false then s.modEmu x (fun e => { e with out := v }) else s
  | none => s

def State.emuRead (s : State) (off : Nat) : Option Word :=
  match emuOf off with
  | none => if off = 0x08 then some (BitVec.ofNat 16 (2 ^ s.part.emus - 1)) else none
  | some x =>
    let e := s.emu x
    if s.hasEmu x = false then some 0#16
    else match off % 16 with
      | 3 | 4 => some (halfOdd off e.out)
      | 5 => some (BitVec.ofInt 16 e.backlog)
      | 9 => some (flag (s.srcAbsent (s.emuSrc x)) 0)
      | _ => none

/-- UNIT_RESET of TALLY (R67, R327). COUNT becomes 0, a change like any other for the outputs that follow it (R324, log entry 89). -/
def State.tallyReset (s : State) : State :=
  let s := { s.resetPage tallyPage (fun o => o == 0) with encs := s.encs.map Enc.levels, trigs := Vector.replicate 4 {} }
  (List.range 4).foldl (fun s c => s.emusOf (0x10 + c)) s

/-- UNIT_RESET of EMU. -/
def State.emuReset (s : State) : State :=
  { s.resetPage emuPage (fun o => o == 0) with emus := Vector.replicate 2 {} }

end Sys2Proof.Machine
end

