-- ==== Sys2Proof/Machine/Timers.lean ====
section
/-! DEFINITION. The eight general timers (R330 to R345). -/

namespace Sys2Proof.Machine

def State.modTmr (s : State) (n : Fin 8) (f : Timer → Timer) : State := { s with tmr := { s.tmr with t := s.tmr.t.set n (f s.tmr.t[n]) } }
def State.timer (s : State) (n : Fin 8) : Timer := s.tmr.t[n]
/-- Offset of a register of a timer's block (R345). -/
def tOff (n k : Nat) : Nat := 0x10 + 0x10 * n + k
def allTimers : List (Fin 8) := [0, 1, 2, 3, 4, 5, 6, 7]

/-- A bit of Tn_FLAGS sets, and ATTNn with it when FLAG_EN has the bit (R341). -/
def State.tmrFlag (s : State) (n : Fin 8) (k : Nat) : State :=
  (s.setReg tmrPage (tOff n 0xE) (s.reg tmrPage (tOff n 0xE) ||| bitWord k)).eventIf (s.regBit tmrPage (tOff n 0xF) k) tmrPage n

/-! ### Start, stop and load (R334, R335) -/

def State.tmrStart (s : State) (n : Fin 8) : State := s.modTmr n (fun t => { t with run := true })
def State.tmrStop (s : State) (n : Fin 8) : State := s.modTmr n (fun t => { t with run := false })

/-- CMD.LOAD, accepted only while the timer is stopped. -/
def State.tmrLoad (s : State) (n : Fin 8) : State :=
  if (s.timer n).run then s
  else
    let r := s.wide tmrPage (tOff n 4)
    s.modTmr n (fun t => { t with active := r, count := r })

/-- Tn_CMD. A load is judged by the state before the write; a stop prevails over a start (R334). -/
def State.tmrCmd (s : State) (n : Fin 8) (v : Word) : State :=
  let s := if v.getLsbD 2 then s.tmrLoad n else s
  if v.getLsbD 1 then s.tmrStop n else if v.getLsbD 0 then s.tmrStart n else s

/-! ### Counting and comparing (R331 to R333, R336 to R339) -/

/-- The input of a GATE_SRC code (R333). The level of the TSYNC or WAKE pin is the operand's; without VIO it reads low (R43). -/
def State.gateInput (s : State) (code : Nat) (pin : Bool) : Bool :=
  if 1 ≤ code ∧ code ≤ 12 then
    let e := (code - 1) / 3
    let c := s.enc e
    s.hasEnc e && (match (code - 1) % 3 with | 0 => c.a | 1 => c.b | _ => c.i)
  else if h : 0x10 ≤ code ∧ code < 0x18 then s.wmons[code - 0x10].out
  else pin && s.sup.vio

/-- A link of AUX acts on its target in the next FBUS cycle (R339). -/
def State.linkDue (s : State) (n : Fin 8) (zero : Bool) : State :=
  let act := s.regFld tmrPage (tOff n 0xD) 9 2
  if s.regBit tmrPage (tOff n 0xD) 11 = zero ∧ (act = 1 ∨ act = 2) then
    { s with tmr := { s.tmr with links := s.tmr.links ++ [(s.regFld tmrPage (tOff n 0xD) 6 3, act == 1)] } }
  else s

/-- A match steps COMPARE, unless it lies above ACTIVE_RELOAD (R337). -/
def State.compareStep (s : State) (n : Fin 8) : State :=
  let c := (s.wide tmrPage (tOff n 6)).toNat
  let st := (s.wide tmrPage (tOff n 8)).toNat
  let r := (s.timer n).active.toNat
  if st = 0 ∨ r < c then s
  else s.setWide tmrPage (tOff n 6) (BitVec.ofInt 32 (((c : Int) - st) % ((r : Int) + 1)))

/-- COUNT takes a value on a count tick: match, zero and their effects. -/
def State.tmrTake (s : State) (n : Fin 8) (v : Wide) : State :=
  let s := s.modTmr n (fun t => { t with count := v })
  let s :=
    if s.regBit tmrPage (tOff n 0) 7 ∧ v = s.wide tmrPage (tOff n 6) then
      (((s.tmrFlag n 0).produce (0x01 + n.val)).linkDue n false).compareStep n
    else s
  if v = 0#32 then
    let s := ((s.tmrFlag n 1).produce (0x09 + n.val)).linkDue n true
    if s.regBit tmrPage (tOff n 0) 4 then s.tmrStop n else s
  else s

/-- A timer that takes count ticks: running, the unit clocked, the device awake, and not frozen (R342, R344). -/
def State.tmrLive (s : State) (n : Fin 8) : Bool :=
  s.awake && s.regBit tmrPage 0x01 0 && (s.timer n).run && !(s.pins.frz && s.regBit tmrPage (tOff n 0) 6)

/-- One count tick, skipped by a closed gate. -/
def State.tmrTick (s : State) (n : Fin 8) (pin : Bool) : State :=
  let g := s.regFld tmrPage (tOff n 0) 8 5
  if s.tmrLive n = false ∨ (g ≠ 0 ∧ s.gateInput g pin ≠ s.regBit tmrPage (tOff n 0) 5) then s
  else
    let t := s.timer n
    if t.count = 0#32 then
      let r := s.wide tmrPage (tOff n 4)
      (s.modTmr n (fun t => { t with active := r })).tmrTake n r
    else s.tmrTake n (t.count - 1#32)

/-- The oldest `n` link actions that are due, all of one FBUS cycle (R339); where both kinds reach a timer the stop prevails
(R334). -/
def State.linkAct (s : State) (n : Nat) : State :=
  let now := s.tmr.links.take n
  let s := { s with tmr := { s.tmr with links := s.tmr.links.drop n } }
  allTimers.foldl (fun s k =>
    if now.contains (k.val, false) then s.tmrStop k else if now.contains (k.val, true) then s.tmrStart k else s) s

/-- A fabric pulse on CAP_SEL (R340). -/
def State.tmrCapture (s : State) (n : Fin 8) : State :=
  let full := (s.timer n).capFull
  let s := (s.setWide tmrPage (tOff n 0xA) (s.timer n).count).modTmr n (fun t => { t with capFull := true })
  let s := s.tmrFlag n 2
  if full then s.tmrFlag n 3 else s

/-- A timer's share of the pulses that reach it in one cycle, by consumer code (R121, R334, R340). -/
def State.tmrPulse (s : State) (n : Fin 8) (codes : List Nat) : State :=
  let trig := tOff n 0xC
  let aux := tOff n 0xD
  let s := if s.regBit tmrPage 0x01 0 && s.regBit tmrPage aux 5 && codes.contains (s.regFld tmrPage aux 0 5) then
      s.tmrCapture n else s
  if s.regBit tmrPage trig 11 && codes.contains (s.regFld tmrPage trig 6 5) then s.tmrStop n
  else if s.regBit tmrPage trig 5 && codes.contains (s.regFld tmrPage trig 0 5) then s.tmrStart n
  else s

/-! ### STANDBY (R343) -/

/-- Count ticks missed in a STANDBY whose SLEEP_TICKS, a word of 32 bits, is `sleep` (R343). -/
def State.missedTicks (s : State) (n : Fin 8) (sleep : Nat) : Nat :=
  let fbus := if s.tmr.entryPll then 100000000 else 16000000
  let fslow := if s.clk.slowXtal then 32768 else 32000
  sleep * fbus / (fslow * 2 ^ s.regFld tmrPage (tOff n 0) 0 4)

/-- The advance of one timer by K ticks, without producers, links or steps. -/
def State.catchUp (s : State) (n : Fin 8) (k : Nat) : State :=
  let t := s.timer n
  let c := t.count.toNat
  let rw := s.wide tmrPage (tOff n 4)
  let r := rw.toNat
  let m := (s.wide tmrPage (tOff n 6)).toNat
  let one := s.regBit tmrPage (tOff n 0) 4
  let len := if c = 0 then r + 1 else c
  let k := if one then min k len else k
  let wrapped := decide (c < k)
  let j := k - c - 1
  let count := if wrapped then r - j % (r + 1) else c - k
  let zero := (decide (0 < c) && decide (c ≤ k)) || (wrapped && decide (r ≤ j))
  let hit := s.regBit tmrPage (tOff n 0) 7
    && ((decide (m < c) && decide (c - m ≤ k)) || (wrapped && decide (m ≤ r) && decide (r - m ≤ j)))
  let s := s.modTmr n (fun t => { t with
    count := BitVec.ofNat 32 count
    active := if wrapped then rw else t.active
    run := !(one && decide (len ≤ k)) })
  let s := if hit then s.tmrFlag n 0 else s
  let s := if zero then s.tmrFlag n 1 else s
  s.tmrFlag n 4

/-- Bring-up step 2 after a STANDBY of `sleep` FSLOW ticks: SLEEP_TICKS, and the advance of every timer that was running,
ungated and not frozen. -/
def State.tmrWake (s : State) (sleep : Nat) : State :=
  let sleep := sleep % 4294967296
  let s := s.setWide tmrPage 0x08 (BitVec.ofNat 32 sleep)
  allTimers.foldl (fun s n =>
    if s.regBit tmrPage 0x01 0 && (s.timer n).run && s.regFld tmrPage (tOff n 0) 8 5 == 0
        && !(s.tmr.entryFrz && s.regBit tmrPage (tOff n 0) 6) then
      s.catchUp n (s.missedTicks n sleep)
    else s) s

/-! ### Registers (R345) -/

def tmrOf (off : Nat) : Option (Fin 8) := if h : 0x10 ≤ off ∧ off < 0x90 then some ⟨off / 16 - 1, by omega⟩ else none

def State.tmrRead (s : State) (off : Nat) : Option Word :=
  if off = 0x02 then
    some (flagWord (allTimers.map (fun n => (s.timer n).run)) 0 ||| flagWord (allTimers.map (fun n => (s.timer n).capFull)) 8)
  else match tmrOf off with
    | none => none
    | some n => match off % 16 with
      | 2 | 3 => some (half off (s.timer n).count)
      | _ => none

/-- A read of CAPTURE_L (R340). -/
def State.captureRead (s : State) (n : Fin 8) : State := s.modTmr n (fun t => { t with capFull := false })

/-- GATE_SRC keeps its value when the code written names no input (R333). -/
def gateSrcOk (c : Nat) : Bool := decide (c ≤ 0x0E) || decide (0x10 ≤ c ∧ c ≤ 0x17)

def State.tmrCfg (s : State) (n : Fin 8) (v : Word) : State :=
  let old := s.regFld tmrPage (tOff n 0) 8 5
  let g := fld v 8 5
  s.setReg tmrPage (tOff n 0) ((v &&& 0x00FF#16) ||| place (if gateSrcOk g then g else old) 8)

/-- A word written to a unit offset of TMR. -/
def State.tmrWrite (s : State) (off : Nat) (v : Word) (unl : Bool) : State :=
  match tmrOf off with
  | none => (s.plainWrite tmrPage off v unl).1
  | some n => match off % 16 with
    | 0 => s.tmrCfg n v
    | 1 => s.tmrCmd n v
    | _ => (s.plainWrite tmrPage off v unl).1

/-- RELOAD, COMPARE and STEP take effect on their high word (R79, R331, R336). -/
def State.tmrWideWrite (s : State) (offHi : Nat) (v : Wide) : State := s.setWide tmrPage offHi v

/-- UNIT_RESET of TMR (R344). -/
def State.tmrReset (s : State) : State := { s.resetPage tmrPage (fun o => o == 0) with tmr := {} }

end Sys2Proof.Machine
end

