-- ==== Sys2Proof/Machine/Chand.lean ====
section
/-! DEFINITION. Chandler: strings, fades, flashes, exposure, colour feedback, derating, lamp faults and tap tests; and the
status lamp chain (R376 to R402). -/

namespace Sys2Proof.Machine

def State.modChand (s : State) (f : Chand → Chand) : State := { s with chand := f s.chand }
def State.str (s : State) (n : Fin 4) : Str := s.chand.str[n]
def State.modStr (s : State) (n : Fin 4) (f : Str → Str) : State :=
  s.modChand (fun c => { c with str := c.str.set n (f c.str[n]) })
def State.chandEvent (s : State) (k : Nat) : State := s.event chandPage k
/-- Offset of a register of a string's block (R401). -/
def sOff (n k : Nat) : Nat := 0x40 + 0x30 * n + k
def allStrs : List (Fin 4) := [0, 1, 2, 3]
def allLamps : List (Fin 8) := [0, 1, 2, 3, 4, 5, 6, 7]

def State.modLamp (s : State) (n : Fin 4) (k : Fin 8) (f : Lamp → Lamp) : State :=
  s.modStr n (fun g => { g with lamps := g.lamps.set k (f g.lamps[k]) })
def State.lamp (s : State) (n : Fin 4) (k : Fin 8) : Lamp := (s.str n).lamps[k]

def State.strReg (s : State) (n : Fin 4) (k : Nat) : Nat := (s.reg chandPage (sOff n k)).toNat
/-- N, the lamps of a string (R376). -/
def State.lampCount (s : State) (n : Fin 4) : Nat := s.regFld chandPage (sOff n 0) 1 3 + 1
def State.lampGroup (s : State) (n : Fin 4) (k : Fin 8) : Nat := s.regFld chandPage (sOff n (0x10 + k.val)) 0 2
def State.lampFlash (s : State) (n : Fin 4) (k : Fin 8) : Bool :=
  decide (k.val < s.lampCount n) && s.regBit chandPage (sOff n (0x10 + k.val)) 2

/-- The unit is present, clocked and the device awake. -/
def State.chandLive (s : State) : Bool := s.part.hasChandler && s.awake && s.regBit chandPage 0x01 0

/-- A flash is in progress. -/
def State.flashing (s : State) : Bool := allStrs.any (fun n => (s.str n).inFlash)

/-- Lamps that a broken tap leaves unjudged (R394). -/
def Str.excluded (g : Str) (k : Nat) : Bool := g.broken.getLsbD k || g.broken.getLsbD (k + 1)

/-- A current code derated (R378). -/
def State.derated (s : State) (code : Nat) : Nat := code * (s.reg chandPage 0x27).toNat / 1024

/-- Continuous lighting is on: the unit and the string enabled, neither cut off nor stale, outside SAFE (R388, R389,
R395). -/
def State.strOn (s : State) (n : Fin 4) : Bool :=
  s.chandLive && decide (s.pwr.pstate ≠ .safe) && s.regBit chandPage (sOff n 0) 0 && !s.chand.cutoff && s.chand.stale == 0#2

/-- The string carries current (STATUS.LITn). -/
def State.strLit (s : State) (n : Fin 4) : Bool :=
  if (s.str n).inFlash then decide (0 < (s.str n).flashCode)
  else s.strOn n && decide (0 < s.derated (s.strReg n 3))

/-! ### Flashes (R382 to R386) -/

/-- Full service in RUN (R88, R97). -/
def State.fullRun (s : State) : Bool := decide (s.pwr.pstate = .run) && !s.reduced

/-- The lowest cause that refuses a flash. -/
def State.flashRefusal (s : State) (n : Fin 4) : Option Nat :=
  let l : List (Nat × Bool) :=
    [(1, !s.fullRun),
     (2, !s.regBit chandPage 0x01 0 || !s.regBit chandPage (sOff n 0) 0 || !allLamps.any (s.lampFlash n)),
     (3, s.flashing),
     (4, decide (s.time.total < (s.str n).holdoff)),
     (5, s.chand.cutoff || s.chand.stale != 0#2)]
  (l.find? (fun e => e.2)).map Prod.fst

def State.flashRefuse (s : State) (cause : Nat) : State := (s.setFld chandPage 0x08 0 3 cause).chandEvent 1

/-- Lamps on either side of a broken interior tap follow each other: where one of a pair is in the mask, both are (R394). -/
def Str.paired (g : Str) (count : Nat) (m : BitVec 8) : BitVec 8 :=
  let spread := fun (m : BitVec 8) => (List.range (min count 8)).foldl (fun (m : BitVec 8) k =>
    if 1 ≤ k ∧ g.broken.getLsbD k ∧ (m.getLsbD (k - 1) ∨ m.getLsbD k) then m ||| (3#8 <<< (k - 1)) else m) m
  (List.range 8).foldl (fun m _ => spread m) m

/-- The lamps whose switch stays closed: bypassed, beyond N, or paired with a bypassed lamp. -/
def closedLamps (g : Str) (count : Nat) : BitVec 8 := g.paired count g.bypass ||| (0xFF#8 <<< count)

/-- The lamps of a string for which `p` holds. -/
def lampMask (p : Fin 8 → Bool) : BitVec 8 :=
  allLamps.foldl (fun (m : BitVec 8) k => if p k then m ||| (1#8 <<< k.val) else m) 0#8

/-- The switches that open for the flash: every lamp with FLASH = 1 that is not bypassed, and its partner in a pair (R383,
R391, R394). -/
def State.flashOpen (s : State) (n : Fin 4) : State :=
  let g := s.str n
  let own := lampMask (s.lampFlash n)
  let lit := g.paired (s.lampCount n) (own &&& ~~~closedLamps g (s.lampCount n))
  allLamps.foldl (fun s k => s.modLamp n k (fun l => { l with lit := lit.getLsbD k.val })) s

/-- The switches of these lamps of a string in a flash close; a pair's close together (R394). -/
def State.flashDark (s : State) (n : Fin 4) (m : BitVec 8) : State :=
  let m := (s.str n).paired (s.lampCount n) m
  allLamps.foldl (fun s k => s.modLamp n k (fun l => { l with lit := l.lit && !m.getLsbD k.val })) s

/-- Is a lamp of a group lit on a string of the flash? -/
def State.groupLit (s : State) (g : Nat) : Bool :=
  allStrs.any (fun n => (s.str n).inFlash && allLamps.any (fun k => (s.lamp n k).lit && s.lampGroup n k == g))

def State.anyLit (s : State) : Bool := allStrs.any (fun n => (s.str n).inFlash && allLamps.any (fun k => (s.lamp n k).lit))

/-- Starts that reach the unit in one FBUS cycle form one flash (R382, R383). -/
def State.flashStart (s : State) (strs : List (Fin 4)) : State :=
  let s' := strs.foldl (fun t n => match s.flashRefusal n with
    | some c => t.flashRefuse c
    | none => (t.modStr n (fun g => { g with
        inFlash := true, flashCode := s.derated (s.strReg n 2), flashUs := s.strReg n 4 })).flashOpen n) s
  if strs.all (fun n => (s.flashRefusal n).isSome) then s'
  else
    let w : BitVec 3 := BitVec.ofNat 3 ((if s'.groupLit 1 then 1 else 0) + (if s'.groupLit 2 then 2 else 0)
      + (if s'.groupLit 3 then 4 else 0))
    let s' := s'.setFld chandPage 0x08 4 3 0
    let s' := [0, 1, 2].foldl (fun t g => if w.getLsbD g then t
      else (t.setReg chandPage (0x0F + g) 0#16).setReg chandPage (0x12 + g) 0#16) s'
    s'.modChand (fun c => { c with watch := w, ended := 0#3, dirty := true, began := s.time.total })

/-- The flash ends `t` units of 10 ns after its start (R379, R384). The PWM resumes at the next period start: what the period before
the flash had left open is over. The hold-off of 19 times its length runs from its end. -/
def State.flashEnd (s : State) (t : Nat) : State :=
  let s := allStrs.foldl (fun s n =>
    if (s.str n).inFlash then
      let strong := decide (273 < (s.str n).flashCode)
      let s := allLamps.foldl (fun s k => s.modLamp n k (fun l => { l with lit := false, window := 0, probe := false })) s
      s.modStr n (fun g => { g with inFlash := false, holdoff := if strong then s.chand.began + 20 * t * (10 * nsUnit) else g.holdoff })
    else s) s
  let s := s.modChand (fun c => { c with watch := 0#3 })
  ((s.setReg chandPage 0x09 (satWord t)).countWrap chandPage 0x0A).chandEvent 0

/-- The shortest FLASH_MAX of the strings in the flash, in us. -/
def State.flashMax (s : State) : Nat :=
  allStrs.foldl (fun m n => if (s.str n).inFlash then min m (s.str n).flashUs else m) 200

/-- The length of a flash that ends at the latest instant told, in units of 10 ns: not before any END_T it recorded, nor past
FLASH_MAX (R384). -/
def State.flashSoFar (s : State) : Nat :=
  min (s.flashMax * 100) ([0, 1, 2].foldl (fun m g => if s.chand.ended.getLsbD g then max m (s.reg chandPage (0x12 + g)).toNat else m)
    ((s.time.total - s.chand.began) / (10 * nsUnit)))

/-- A flash that something else ends (CUTOFF, TEMP_STALE, SAFE). -/
def State.flashCut (s : State) : State := if s.flashing then s.flashEnd s.flashSoFar else s

/-- Integral `g` reaches its target `t` units of 10 ns after the flash start (R385, R386). The switches close within
100 ns of the crossing, and the flash may end with them: that delay is a free value. -/
def State.exposureEnd (s : State) (g : Fin 3) (t : Nat) : State :=
  let longest := s.flashMax * 100
  if s.flashing ∧ s.chand.watch.getLsbD g.val ∧ s.chand.ended.getLsbD g.val = false ∧ t ≤ longest then
    let s := allStrs.foldl (fun s n => s.flashDark n (lampMask (fun k => s.lampGroup n k == g.val + 1))) s
    let s := (s.setReg chandPage (0x0F + g.val) (s.reg chandPage (0x0C + g.val))).setReg chandPage (0x12 + g.val) (satWord t)
    let s := s.modChand (fun c => { c with ended := c.ended ||| (1#3 <<< g.val) })
    let s := s.eventIf (decide (t ≤ 200)) chandPage 3
    if s.anyLit then s
    else
      let (d, s) := s.draw 11
      s.flashEnd (min (t + d) longest)
  else s

/-- FLASH_MAX ends the flash: watched groups that have not reached their target are underexposed. -/
def State.flashExpire (s : State) : State :=
  if s.flashing then
    let u := (s.chand.watch &&& ~~~s.chand.ended).toNat
    let s := (s.setFld chandPage 0x08 4 3 u).eventIf (decide (u ≠ 0)) chandPage 2
    s.flashEnd (s.flashMax * 100)
  else s

/-! ### Fades and duty (R380, R381) -/

/-- CMD.APPLY. -/
def State.fadeApply (s : State) (n : Fin 4) : State :=
  let s := allLamps.foldl (fun s k =>
    s.modLamp n k (fun l => { l with from_ := l.level, to_ := s.strReg n (0x18 + k.val) })) s
  s.modStr n (fun g => { g with fadeAt := 0, fadeLen := s.strReg n 5, fading := true })

def State.fadeEnd (s : State) (n : Fin 4) : State :=
  let s := allLamps.foldl (fun s k => s.modLamp n k (fun l => { l with level := l.to_ })) s
  (s.modStr n (fun g => { g with fading := false })).chandEvent 7

/-- One 10 ms step of a fade: the level moves linearly; its fraction is truncated toward the level it started from. -/
def State.fadeStepNow (s : State) (n : Fin 4) : State :=
  let g := s.str n
  if s.chandLive ∧ g.fading ∧ 0 < g.fadeLen then
    let at' := g.fadeAt + 1
    if g.fadeLen ≤ at' then s.fadeEnd n
    else
      let s := s.modStr n (fun g => { g with fadeAt := at' })
      allLamps.foldl (fun s k => s.modLamp n k (fun l =>
        { l with level := ((l.from_ : Int) + truncDiv (((l.to_ : Int) - l.from_) * at') g.fadeLen).toNat })) s
  else s

/-- The largest d below `bound`, by bisection, with (2d - 1)^5 * 4095^6 ≤ 32 L^11. -/
def gammaGo (L : Nat) : Nat → Nat → Nat
  | 0, d => d
  | k + 1, d =>
    let d' := d + 2 ^ k
    gammaGo L k (if (2 * d' - 1) ^ 5 * 4095 ^ 6 ≤ 32 * L ^ 11 then d' else d)

/-- round (4095 * (L / 4095) ^ 2.2). -/
def gammaOf (L : Nat) : Nat := gammaGo L 12 0

/-- Steps 1 to 4 of R380. The product with GSCALE is truncated. -/
def State.dutyOf (s : State) (n : Fin 4) (k : Fin 8) : Nat :=
  let L := (s.lamp n k).level
  let d := if s.regBit chandPage (sOff n 0) 4 then gammaOf L else L
  let g := s.lampGroup n k
  let d := if g ≠ 0 ∧ s.regBit chandPage 0x1E (g - 1) then d * (s.reg chandPage (0x1B + (g - 1))).toNat / 32768 else d
  min 4095 d

/-- Bypasses and pairings override the duties (R391, R394): a pair takes the larger duty, or none if one of it is
bypassed. -/
def pairDuties (broken : BitVec 9) (count : Nat) : List Nat → List Nat → List Nat
  | _, [] => []
  | taps, ds =>
    taps.foldl (fun ds k =>
      if 1 ≤ k ∧ k < count ∧ broken.getLsbD k then
        let a := (ds[k - 1]?).getD 0
        let b := (ds[k]?).getD 0
        (ds.set (k - 1) (max a b)).set k (max a b)
      else ds) ds

/-- 1 us, 3 us and 20 us in tenths of a duty code, of which a period of 50 us has 40950. -/
def openUs (us : Nat) : Nat := us * 819

/-- The window of a lamp in the period that starts, `d` its duty (R390): once per interval a lamp of duty 1 to 81, or one of
duty 0 with MEAS_AT_ZERO (`zero`), has the inserted opening of 3 us, and its later periods give the same open time back.
DESIGN CHOICE (log entry 104): the opening falls in the interval's first period that asks for it. `able`: the lamp's switch
may open by itself and its string carries current. -/
def Lamp.period (l : Lamp) (d : Nat) (able zero : Bool) : Lamp :=
  let back := min l.owed (10 * d)
  let probe := able && !l.probed && decide (d ≤ 81) && (decide (0 < d) || zero)
  { l with
    duty := d, window := 10 * d - back, probe := probe, probed := l.probed || probe
    owed := l.owed - back + (if probe ∧ 0 < d then openUs 3 else 0) }

/-- A PWM period of a string starts: the duties are formed, of a pair with the same window (R394). During its flash the PWM is suspended (R383). -/
def State.pwmStart (s : State) (n : Fin 4) : State :=
  let g := s.str n
  if s.chandLive = false ∨ g.inFlash then s
  else
    let s := if g.fading ∧ g.fadeLen = 0 then s.fadeEnd n else s
    let g := s.str n
    let on := s.strOn n
    let closed := closedLamps g (s.lampCount n)
    let ds := allLamps.map (s.dutyOf n)
    let taps := List.range 9
    let alike := pairDuties g.broken (s.lampCount n) (taps ++ taps.reverse)
    let ds := alike ds
    let owed := alike (allLamps.map (fun k => (s.lamp n k).owed))
    let zero := s.regBit chandPage (sOff n 0) 6
    let lit := s.strLit n
    allLamps.foldl (fun s k =>
      let shut := !on || closed.getLsbD k.val
      s.modLamp n k (fun l =>
        { l with owed := (owed[k.val]?).getD 0 }.period (if shut then 0 else (ds[k.val]?).getD 0) (lit && !shut && !g.excluded k.val) zero)) s

/-! ### Lamp measurement and faults (R390 to R394) -/

/-- The switches a tap test holds open: those of the lamps on both sides of the tap (R393), and of the lamps paired with them
(R394). -/
def State.tapHeld (s : State) (n : Fin 4) (k : Nat) : Bool :=
  let g := s.str n
  let sides := lampMask (fun i => decide (i.val < s.lampCount n) && (i.val == g.tapAt || i.val + 1 == g.tapAt))
  g.tapBusy && (g.paired (s.lampCount n) sides).getLsbD k

/-- The lamp's switch opens for 1 us or more, in the flash, in the present period, or held by a tap test (R383, R390, R393). -/
def State.lampOpens (s : State) (n : Fin 4) (k : Fin 8) : Bool :=
  let l := s.lamp n k
  if (s.str n).inFlash then l.lit
  else s.tapHeld n k.val || (!(closedLamps (s.str n) (s.lampCount n)).getLsbD k.val && (l.probe || decide (openUs 1 ≤ l.window)))

/-- Lamps of a string in a flash are bypassed for a HEADROOM loss, which counts as the first of their two intervals (R391); a pair
together (R394). -/
def State.flashBypass (s : State) (n : Fin 4) (m : BitVec 8) : State :=
  allLamps.foldl (fun s k =>
    if m.getLsbD k.val then s.modLamp n k (fun l => { l with opens := max 1 l.opens, counted := true }) else s) (s.flashDark n m)

/-- A lamp that reads `v` is bypassed at a HEADROOM loss: it is lit, at or above VF_OPEN, and no broken tap excludes it (R391). -/
def State.flashOpens (s : State) (n : Fin 4) (k : Fin 8) (v : Nat) : Bool :=
  (s.lamp n k).lit && !(s.str n).excluded k && decide (s.strReg n 7 ≤ v)

/-- A sample of a lamp that is measured: its string carries current, and its switch is open long enough (R390). In a flash with too
little headroom it may be the one that bypasses the lamp (R391). -/
def State.lampSample (s : State) (n : Fin 4) (k : Fin 8) (v : Byte) : State :=
  if s.chandLive ∧ s.strLit n ∧ k.val < s.lampCount n ∧ s.lampOpens n k then
    let s := s.modLamp n k (fun l => { l with sample := some v.toNat })
    if (s.str n).inFlash ∧ (s.str n).headroom ∧ s.flashOpens n k v.toNat then s.flashBypass n (1#8 <<< k.val) else s
  else s

/-- LAMP_OPEN: the lamp's switch closes for good, in a flash too. -/
def State.declareOpen (s : State) (n : Fin 4) (k : Fin 8) : State :=
  ((s.modStr n (fun g => { g with bypass := g.bypass ||| (1#8 <<< k.val) })).modLamp n k
    (fun l => { l with lit := false })).chandEvent 4

def State.declareShort (s : State) (n : Fin 4) (k : Fin 8) : State :=
  if s.regBit chandPage (sOff n 0xC) k.val then s
  else (s.setReg chandPage (sOff n 0xC) (s.reg chandPage (sOff n 0xC) ||| bitWord k.val)).chandEvent 4

/-- One lamp's judgement from its reading of this interval (R391). An interval that a headroom loss has counted already
counts once. -/
def State.judgeLamp (s : State) (n : Fin 4) (k : Fin 8) (v : Nat) : State :=
  let hi := decide (s.strReg n 7 ≤ v)
  let lo := decide (v ≤ s.strReg n 8)
  let l := s.lamp n k
  let o := if l.counted then l.opens else if hi then l.opens + 1 else 0
  let h := if lo then l.shorts + 1 else 0
  let s := s.modLamp n k (fun l => { l with opens := min o 2, shorts := min h 2 })
  let s := if 2 ≤ o then s.declareOpen n k else s
  if 2 ≤ h then s.declareShort n k else s

/-- The signature of a broken tap wire at interior tap `k` (R392). -/
def tapSignature (a b nom short : Nat) : Bool :=
  let pair := fun (x y : Nat) => decide (x ≤ short) && decide (3 * nom ≤ 2 * y)
  let sum := ((a + b : Nat) : Int) - 2 * nom
  (pair a b || pair b a) && decide (4 * sum.natAbs ≤ 2 * nom)

/-- The taps whose signature holds in this interval: interior, both lamps measured, neither excluded. -/
def State.suspects (s : State) (n : Fin 4) (new : List (Option Nat)) : List Nat :=
  let g := s.str n
  (List.range (s.lampCount n)).filter (fun k =>
    decide (1 ≤ k) && !g.broken.getLsbD k
      && !g.excluded (k - 1) && !g.excluded k
      && (match (new[k - 1]?).join, (new[k]?).join with
        | some a, some b => tapSignature a b (s.strReg n 6) (s.strReg n 8)
        | _, _ => false))

/-- CMD.TAP_TEST of one tap, or refused while the string carries no current or a flash runs (R393). The lamps on both sides
give the 20 us back in later periods of the interval. DESIGN CHOICE (log entry 104): a tap above N is refused as a value
outside its range, and a test in progress is not disturbed. -/
def State.tapStart (s : State) (n : Fin 4) (tap : Nat) : State :=
  if s.strLit n = false ∨ s.flashing ∨ s.lampCount n < tap then s.chandEvent 13
  else if (s.str n).tapBusy then s
  else
    let s := s.modStr n (fun g => { g with tapBusy := true, tapAt := tap })
    allLamps.foldl (fun s k =>
      if s.tapHeld n k.val then s.modLamp n k (fun l => { l with owed := l.owed + openUs 20 }) else s) s

/-- The lowest suspect tap whose test is due, where one may start (R392). -/
def State.tapFollow (s : State) (n : Fin 4) : State :=
  let g := s.str n
  match (List.range (s.lampCount n)).find? (fun k => decide (1 ≤ k) && g.tapWait.getLsbD k && g.suspect.getLsbD k && !g.broken.getLsbD k) with
  | some k =>
    if s.regBit chandPage (sOff n 0) 5 && s.strLit n && !s.flashing && !g.tapBusy then
      (s.modStr n (fun g => { g with tapWait := g.tapWait &&& ~~~(1#9 <<< k) })).tapStart n k
    else s
  | none => s

/-- A 100 ms interval ends (R390 to R392, R394). The tests of the taps that were suspect before follow, one after the other
(TAP_AUTO). -/
def State.judgeInterval (s : State) (n : Fin 4) : State :=
  if s.chandLive = false then s
  else
    let g := s.str n
    let before := g.suspect
    let new := allLamps.map (fun k => (s.lamp n k).sample)
    let s := allLamps.foldl (fun s k => s.modLamp n k (fun l => match l.sample with
      | some v => { l with vlamp := v, sample := none, owed := 0, probe := false, probed := false }
      | none => { l with owed := 0, probe := false, probed := false })) s
    let taps := s.suspects n new
    let s := taps.foldl (fun s k => (s.modStr n (fun g => { g with suspect := g.suspect ||| (1#9 <<< k) })).chandEvent 5) s
    let s := allLamps.foldl (fun s k =>
      match (new[k.val]?).join with
      | some v =>
        if g.excluded k.val || taps.contains k.val || taps.contains (k.val + 1) then s else s.judgeLamp n k v
      | none => s) s
    let s := allLamps.foldl (fun s k => s.modLamp n k (fun l => { l with counted := false })) s
    (s.modStr n (fun g => { g with tapWait := before })).tapFollow n

/-- A lamp judged at once (R393), unless a broken tap excludes it (R394). -/
def State.judgeAtOnce (s : State) (n : Fin 4) (k : Nat) : State :=
  if h : k < 8 then
    if k < s.lampCount n ∧ (s.str n).excluded k = false then
      let v := (s.lamp n ⟨k, h⟩).vlamp
      if s.strReg n 7 ≤ v then s.declareOpen n ⟨k, h⟩
      else if v ≤ s.strReg n 8 then s.declareShort n ⟨k, h⟩ else s
    else s
  else s

/-- The tap test ends, the pin having risen by `mv` mV. The next suspect tap's test follows. -/
def State.tapEnd (s : State) (n : Fin 4) (mv : Nat) : State :=
  let g := s.str n
  if g.tapBusy = false then s
  else
    let k := g.tapAt
    let s := s.modStr n (fun g => { g with tapBusy := false })
    let s :=
      if 1000 < mv then s.modStr n (fun g => { g with broken := g.broken ||| (1#9 <<< k) })
      else
        let s := if 1 ≤ k then s.judgeAtOnce n (k - 1) else s
        (s.judgeAtOnce n k).modStr n (fun g => { g with suspect := g.suspect &&& ~~~(1#9 <<< k) })
    (s.chandEvent 6).tapFollow n

/-- CMD.CLR_LAMP. -/
def State.clearLamps (s : State) (n : Fin 4) : State :=
  let s := s.setReg chandPage (sOff n 0xC) 0#16
  let s := allLamps.foldl (fun s k => s.modLamp n k (fun l => { l with opens := 0, shorts := 0, sample := none, counted := false })) s
  s.modStr n (fun g => { g with bypass := 0#8, suspect := 0#9, broken := 0#9, tapWait := 0#9 })

/-- STRn crosses 1.0 V (R377); in a flash, lamps at or above VF_OPEN are bypassed, as the first of their two intervals
(R391), a pair together (R394). Lamps that a broken tap excludes are not judged. -/
def State.headroomNow (s : State) (n : Fin 4) (low : Bool) : State :=
  if s.chandLive = false then s
  else
    let was := (s.str n).headroom
    let s := (s.modStr n (fun g => { g with headroom := low })).eventIf (low && !was) chandPage 11
    if low && (s.str n).inFlash then
      s.flashBypass n (lampMask (fun k => s.flashOpens n k ((s.lamp n k).sample.getD (s.lamp n k).vlamp)))
    else s

/-! ### Colour feedback (R387) -/

/-- One group's GSCALE after a window; the Bool tells that it reached a clamp. -/
def adjustScale (scale step mean target : Nat) : Nat × Bool :=
  if 100 * mean < 99 * target then (min 0xFFFF (scale + step), decide (0xFFFF ≤ scale + step))
  else if 101 * target < 100 * mean then (max 0x2000 (scale - step), decide (scale - step ≤ 0x2000))
  else (scale, false)

/-- A 10 ms photodiode window ends with these means; one that overlaps a flash is discarded. -/
def State.windowMeans (s : State) (means : List Word) : State :=
  if s.chandLive = false then s
  else if s.chand.dirty then s.modChand (fun c => { c with dirty := s.flashing })
  else
    [0, 1, 2].foldl (fun s g =>
      let m := (means[g]?).getD 0#16
      let s := s.setReg chandPage (0x18 + g) m
      if s.regBit chandPage 0x1E g then
        let (v, c) := adjustScale (s.reg chandPage (0x1B + g)).toNat (s.regFld chandPage 0x1E 8 8) m.toNat
          (s.reg chandPage (0x15 + g)).toNat
        (s.setReg chandPage (0x1B + g) (BitVec.ofNat 16 v)).eventIf c chandPage 8
      else s) s

/-- FB_CFG: a cleared EN bit returns its GSCALE to 0x8000. -/
def State.fbCfg (s : State) : State :=
  [0, 1, 2].foldl (fun s g => if s.regBit chandPage 0x1E g then s else s.setReg chandPage (0x1B + g) 0x8000#16) s

/-! ### Derating (R388, R389) -/

/-- Strings off and the flash ended, for a cutoff or a stale temperature. -/
def State.stringsOff (s : State) : State := s.flashCut

def State.derateSrc (s : State) : Nat := s.regFld chandPage 0x20 0 3

/-- FACTOR at T (R389). -/
def factorAt (t : Int) (knee slope cut : Nat) : Nat :=
  if t ≤ knee then 1024
  else if (cut : Int) ≤ t then 0
  else (1024 * (1000 - slope * (t - knee).toNat)) / 1000

/-- A new T of the source in force. -/
def State.newTemp (s : State) (t : Int) : State :=
  let knee := (s.reg chandPage 0x21).toNat
  let cut := (s.reg chandPage 0x23).toNat
  let was := decide ((knee : Int) < (s.reg chandPage 0x26).toInt)
  let s := (s.setReg chandPage 0x26 (satInt16 t)).setReg chandPage 0x27
    (place (factorAt t knee (s.regFld chandPage 0x22 0 10) cut) 0)
  let s := s.eventIf (decide ((knee : Int) < t) && !was) chandPage 9
  if (cut : Int) ≤ t then
    let s := s.eventIf (!s.chand.cutoff) chandPage 10
    (s.modChand (fun c => { c with cutoff := true })).stringsOff
  else if t ≤ (cut : Int) - 5 then s.modChand (fun c => { c with cutoff := false })
  else s

/-- Chandler reads the die sensor every 10 ms. -/
def State.dieTemp (s : State) (t : Int) : State :=
  if s.chandLive ∧ s.derateSrc = 1 then s.newTemp t else s

/-- T of a corrected result on an NTC channel, rounded to the nearest degree. Where the formula has no value (R = 0, or
a zero denominator) T is a free value (log entry 2). -/
def State.ntcTemp (s : State) (code : Nat) : Int × State :=
  let r25 := (s.reg chandPage 0x24).toNat
  let beta := (s.reg chandPage 0x25).toNat
  let d : Int :=
    if code = 0 ∨ r25 = 0 then 0
    else Fixed.one * 100 / 29815 + truncDiv (Fixed.lnRatio (code * 300) (16777216 * r25)) beta
  if d = 0 then
    let (v, s) := s.draw 65536
    ((BitVec.ofNat 16 v).toInt, s)
  else
    let n := Fixed.one * 100 - 27315 * d
    ((if 0 < d then roundDiv n (100 * d).toNat else roundDiv (-n) (-(100 * d)).toNat), s)

/-- A new result on channel 0x16 (`i` = 0) or 0x17 of any converter. -/
def State.ntcResult (s : State) (i : Nat) (code : Nat) : State :=
  if s.chandLive = false then s
  else
    let (t, s) := s.ntcTemp code
    let s := s.modChand (fun c => if i = 0 then { c with ntc0 := some t, stale := c.stale &&& 2#2 }
      else { c with ntc1 := some t, stale := c.stale &&& 1#2 })
    let src := s.derateSrc
    if (src = 2 ∧ i = 0) ∨ (src = 3 ∧ i ≠ 0) then s.newTemp t
    else if src = 4 then s.newTemp (max (s.chand.ntc0.getD t) (s.chand.ntc1.getD t))
    else s

/-- A selected NTC has given no result for 1 s. -/
def State.tempStaleNow (s : State) (i : Fin 2) : State :=
  if s.chandLive ∧ (s.derateSrc = 4 ∨ s.derateSrc = 2 + i.val) then
    ((s.chandEvent 12).modChand (fun c => { c with stale := c.stale ||| (1#2 <<< i.val) })).stringsOff
  else s

/-- DERATE_SRC written: an NTC that is not selected cannot be stale, one that stays selected stays as it is, and no source
derates nothing. -/
def State.derateSource (s : State) : State :=
  let m : BitVec 2 := match s.derateSrc with | 2 => 1#2 | 3 => 2#2 | 4 => 3#2 | _ => 0#2
  let s := s.modChand (fun c => { c with stale := c.stale &&& m })
  if s.derateSrc = 0 then (s.setReg chandPage 0x27 1024#16).modChand (fun c => { c with cutoff := false }) else s

/-! ### Registers (R401) -/

def State.chandStatus (s : State) : Word :=
  flagWord (allStrs.map s.strLit) 0
    ||| flagWord [s.flashing, decide (s.derateSrc ≠ 0) && decide (((s.reg chandPage 0x21).toNat : Int) < (s.reg chandPage 0x26).toInt),
      s.chand.cutoff, s.chand.stale != 0#2] 4

def strOf (off : Nat) : Option (Fin 4 × Nat) :=
  if h : 0x40 ≤ off ∧ off < 0x100 then some (⟨(off - 0x40) / 0x30, by omega⟩, (off - 0x40) % 0x30) else none

def State.chandRead (s : State) (off : Nat) : Option Word :=
  if off = 0x02 then some s.chandStatus
  else match strOf off with
    | none => none
    | some (n, k) =>
      let g := s.str n
      if k = 0xA then some (flagWord [g.fading, g.headroom, g.tapBusy] 0)
      else if k = 0xB then some (g.bypass.setWidth 16)
      else if k = 0xD then some (g.suspect.setWidth 16)
      else if k = 0xE then some (g.broken.setWidth 16)
      else if h : 0x20 ≤ k ∧ k < 0x28 then some (place (s.lamp n ⟨k - 0x20, by omega⟩).duty 0)
      else if h : 0x28 ≤ k ∧ k < 0x30 then
        some (if g.excluded (k - 0x28) then 0x00FF#16 else place (s.lamp n ⟨k - 0x28, by omega⟩).vlamp 0)
      else none

/-- STRn_CMD. -/
def State.strCmd (s : State) (n : Fin 4) (v : Word) : State :=
  let s := if v.getLsbD 0 then s.flashStart [n] else s
  let s := if v.getLsbD 1 then s.fadeApply n else s
  let s := if v.getLsbD 2 then s.tapStart n (s.regFld chandPage (sOff n 0xF) 0 4) else s
  if v.getLsbD 3 then s.clearLamps n else s

/-- A plain write whose values outside a range set CFG_REJECTED. -/
def State.chandPlain (s : State) (off : Nat) (v : Word) (unl : Bool) : State :=
  let (s', rej) := s.plainWrite chandPage off v unl
  s'.eventIf rej chandPage 13

/-- A word written to a unit offset of CHAND. -/
def State.chandWrite (s : State) (off : Nat) (v : Word) (unl : Bool) : State :=
  match off with
  | 0x1E => (s.chandPlain off v unl).fbCfg
  | 0x20 => if fld v 0 3 ≤ 4 then (s.chandPlain off v unl).derateSource else s.chandPlain off v unl
  | 0x21 =>
    let s' := s.chandPlain off v unl
    if (s'.reg chandPage 0x23).toNat ≤ (s'.reg chandPage 0x21).toNat then s.chandEvent 13 else s'
  | 0x23 =>
    let s' := s.chandPlain off v unl
    if (s'.reg chandPage 0x23).toNat ≤ (s'.reg chandPage 0x21).toNat then s.chandEvent 13 else s'
  | _ =>
    match strOf off with
    | some (n, 9) => s.strCmd n v
    | _ => s.chandPlain off v unl

/-- SAFE entry (R395): the flash ends, every string turns off and every EN clears. -/
def State.chandSafe (s : State) : State :=
  allStrs.foldl (fun s (n : Fin 4) => s.setFld chandPage (sOff n 0) 0 1 0) s.flashCut

/-- UNIT_RESET, refused while a flash runs. -/
def State.chandReset (s : State) : State := { s.resetPage chandPage (fun o => o == 0) with chand := {} }

/-! ### The status lamp chain (R396 to R400) -/

def State.modChain (s : State) (f : LChain → LChain) : State := { s with lchain := f s.lchain }

/-- The chain shifts frames. -/
def State.chainLive (s : State) : Bool := s.part.hasChandler && s.awake && s.regBit lchainPage 0x01 0

/-- LC_BLANK is high (R396, R399, R400). -/
def State.chainBlank (s : State) : Bool := !s.chainLive || s.lchain.therm

/-- Target level of a group. -/
def State.chainTarget (s : State) (q : Nat) : Nat := s.regFld lchainPage (0x20 + q / 4) (4 * (q % 4)) 4

/-- The blink gate of a group is open. -/
def State.blinkOn (s : State) (q : Nat) : Bool :=
  match s.regFld lchainPage (0x28 + q / 8) (2 * (q % 8)) 2 with
  | 0 => true
  | 1 => decide (s.lchain.ph1 < 500000)
  | 2 => decide (s.lchain.ph4 < 125000)
  | _ => decide (500000 ≤ s.lchain.ph1)

/-- Which of the 15 frames of a cycle show a group of level L is open: any L of them (free values). -/
def State.groupFrame (s : State) (q : Fin 32) : Bool × State :=
  let L := s.lchain.levels[q]
  let done := s.lchain.shown[q]
  let left := 15 - s.lchain.frame
  let (b, s) := if L ≤ done then (false, s) else if left ≤ L - done then (true, s) else s.drawBool
  (b, s.modChain (fun c => { c with shown := c.shown.set q (done + if b then 1 else 0) }))

/-- The gates of all groups in one frame. -/
def State.chainGates (s : State) : List (Fin 32) → List Bool × State
  | [] => ([], s)
  | q :: l =>
    let (b, s1) := s.groupFrame q
    let (bs, s2) := s1.chainGates l
    ((b && s.blinkOn q.val) :: bs, s2)

/-- A frame starts (R397, R398). -/
def State.chainFrame (s : State) : State :=
  if s.chainLive = false then s
  else
    let img := if s.regBit lchainPage 0x08 13 then s.lchain.image
      else (List.range 16).map (fun j => s.reg lchainPage (0x10 + j))
    let s := if s.lchain.frame = 0 then s.modChain (fun c => { c with shown := Vector.replicate 32 0 }) else s
    let (gates, s) := s.chainGates (List.finRange 32)
    let bits := (List.range (s.regFld lchainPage 0x08 0 9)).map (fun i =>
      (img[i / 16]?.getD 0#16).getLsbD (i % 16) && (gates[i / 8]?).getD false)
    s.modChain (fun c => { c with image := img, sent := bits, frame := (c.frame + 1) % 15 })

/-- Levels move at once while FADE_TIME is 0. -/
def State.chainFollow (s : State) : State :=
  if s.regFld lchainPage 0x0A 0 10 = 0 then
    s.modChain (fun c => { c with levels := Vector.ofFn (fun q => s.chainTarget q.val) })
  else s

def stepTo (x t : Nat) : Nat := if x < t then x + 1 else if t < x then x - 1 else x

/-- Every FADE_TIME x 10 ms / 15 each level moves one step. -/
def State.chainStep (s : State) : State :=
  if s.chainLive then
    s.modChain (fun c => { c with levels := Vector.ofFn (fun q => stepTo c.levels[q] (s.chainTarget q.val)) })
  else s

/-- LC_THERM has been low for `us`; 1 ms is accepted. -/
def State.thermFault (s : State) (us : Nat) : State :=
  let s := { s with pins := { s.pins with lcTherm := false } }
  if s.chainLive ∧ 1000 ≤ us then (s.modChain (fun c => { c with therm := true })).event lchainPage 0 else s

/-- LC_THERM has been high for `ms`; after 1 s THERM_AUTO ends the blanking. -/
def State.thermRelease (s : State) (ms : Nat) : State :=
  let s := { s with pins := { s.pins with lcTherm := true } }
  if s.chainLive ∧ 1000 ≤ ms ∧ s.regBit lchainPage 0x08 12 ∧ s.lchain.therm then
    (s.modChain (fun c => { c with therm := false })).event lchainPage 1
  else s

/-- CMD.RESUME. -/
def State.chainResume (s : State) : State :=
  if s.pins.lcTherm then s.modChain (fun c => { c with therm := false }) else s.event lchainPage 2

/-- CTRL.ENABLE set: the cycle starts, at a blink phase the spec leaves open. Cleared: no frame is sent (R400). -/
def State.chainEnable (s : State) (en : Bool) : State :=
  let was := s.regBit lchainPage 0x01 0
  let s := s.setFld lchainPage 0x01 0 1 (if en then 1 else 0)
  if en && !was then
    let (a, s) := s.draw 1000000
    let (b, s) := s.draw 250000
    s.modChain (fun c => { c with frame := 0, ph1 := a, ph4 := b })
  else if en then s
  else s.modChain (fun c => { c with sent := [] })

/-- The blink timing over one microsecond. -/
def State.chainTick (s : State) : State :=
  if s.chainLive then s.modChain (fun c => { c with ph1 := (c.ph1 + 1) % 1000000, ph4 := (c.ph4 + 1) % 250000 }) else s

def State.lchainRead (s : State) (off : Nat) : Option Word :=
  if off = 0x02 then some (flagWord [s.chainBlank, s.lchain.therm] 0) else none

/-- A word written to a unit offset of LCHAIN. -/
def State.lchainWrite (s : State) (off : Nat) (v : Word) (unl : Bool) : State :=
  if off = 0x09 then (if v.getLsbD 0 then s.chainResume else s)
  else (s.plainWrite lchainPage off v unl).1.chainFollow

def State.lchainReset (s : State) : State := { s.resetPage lchainPage (fun o => o == 0) with lchain := {} }

end Sys2Proof.Machine
end

