-- ==== Sys2Proof/Machine/Conv.lean ====
section
/-! DEFINITION. The converters CNVA, CNVB and CNVC and the Assayer (R346 to R367). -/

namespace Sys2Proof.Machine

def State.cnv (s : State) (i : Fin 3) : Cnv := s.cnvs[i]
def State.modCnv (s : State) (i : Fin 3) (f : Cnv → Cnv) : State := { s with cnvs := s.cnvs.set i (f s.cnvs[i]) }
def State.cnvEvent (s : State) (i : Fin 3) (k : Nat) : State := s.event (cnvPage i) k

/-- The converter is present, clocked and the device awake. -/
def State.cnvLive (s : State) (i : Fin 3) : Bool := (i ≠ 1 || s.part.hasCnvB) && s.awake && s.regBit (cnvPage i) 0x01 0

/-! ### Entries (R346, R348 to R350) -/

def entChan (a : Word) : Nat := fld a 0 5
def entRate (a : Word) : Nat := fld a 5 4
def entCorr (a : Word) : Nat := fld a 9 4
def entWin (a : Word) : Bool := a.getLsbD 13
def entFab (a : Word) : Bool := a.getLsbD 14
def entOw (b : Word) : Nat := fld b 8 3

/-- An entry is valid: its channel, its rate and its OW, which only an AIN channel heeds (R346, R348 to R350, R356). -/
def entryOk (i : Fin 3) (a b : Word) : Bool :=
  let c := entChan a
  decide (c ≤ 0x19) && (c != 0x18 || i == 0) && (i == 2 || decide (entRate a ≤ 9))
    && (decide (0x0B < c) || decide (entOw b ≤ 4))

def State.entryA (s : State) (i : Fin 3) (k : Nat) : Word := s.reg (cnvPage i) (0x20 + 2 * k)
def State.entryB (s : State) (i : Fin 3) (k : Nat) : Word := s.reg (cnvPage i) (0x21 + 2 * k)
def State.cnvLast (s : State) (i : Fin 3) : Nat := s.regFld (cnvPage i) 0x08 4 4
def State.cnvCont (s : State) (i : Fin 3) : Bool := s.regBit (cnvPage i) 0x08 2

/-- The converter has this channel selected: from the start of an entry's delay to the end of its conversion. -/
def State.cnvSelects (s : State) (i : Fin 3) (chan : Nat) : Bool :=
  let c := s.cnv i
  match c.work with
  | .seq | .inj => c.stage != .startup && entChan c.entA == chan
  | .assay => c.stage == .conv && c.assay.head? == some chan
  | _ => false

/-- The currents of OW, in uA into the pin. -/
def owMicroamps (ow : Nat) : Int :=
  match ow with
  | 1 => 1 | 2 => 10 | 3 => -1 | 4 => -10 | _ => 0

/-- The open-wire current on AIN `k`: those of the converters that have it selected add (R350). -/
def State.pinCurrent (s : State) (k : Fin 12) : Int :=
  ([0, 1, 2] : List (Fin 3)).foldl (fun x i =>
    if s.cnvSelects i k.val ∧ (s.cnv i).work ≠ .assay then x + owMicroamps (entOw (s.cnv i).entB) else x) 0

/-- The bias on NTC `k`, in uA: applied while a converter has it selected (R348). -/
def State.ntcBias (s : State) (k : Fin 2) : Nat :=
  if ([0, 1, 2] : List (Fin 3)).any (fun i => s.cnvSelects i (0x16 + k.val)) then 100 else 0

/-! ### What a channel reads (R348, R349, R351) -/

/-- The threshold DAC that BRG READBACK selects, at 1.5 V/A, as a code of 3 V / 2^24; AGND without one (R229, R248). -/
def State.brgReadback (s : State) : Int :=
  match s.present.find? (fun n => s.reg (brPage n) 0x25 != 0#16) with
  | none => 0
  | some n =>
    let sel := s.regFld (brPage n) 0x25 0 3
    let dac := fun (p : Phase) (upper : Bool) =>
      roundDiv ((threshold (s.setOf n p) (s.chopSet n p).hyst upper : Int) * 114688) 10
    match sel with
    | 1 => dac .pa true
    | 2 => dac .pa false
    | 3 => dac .pb true
    | 4 => dac .pb false
    | _ => 0

/-- What channel 0x18 reads (R349). A source that is not there or not enabled reads AGND (DEDUCED, log entry 84). -/
def State.readback (s : State) : Int :=
  match s.regFld (cnvPage 0) 0x0F 0 2 with
  | 1 => s.brgReadback
  | 2 => if s.part.hasGate then roundDiv ((1024 + (s.regFld gatePage 0x29 0 10 : Nat) : Int) * 20480) 3 else 0
  | 3 =>
    if s.regBit wmonPage 0x0C 4 then
      let off := 0x10 + 2 * s.regFld wmonPage 0x0C 0 3 + (if s.regBit wmonPage 0x0C 3 then 1 else 0)
      roundDiv (((s.regFld wmonPage off 0 10 : Nat) : Int) * 40960) 3
    else 0
  | _ => 0

/-- Codes of the internal 2.500 V (R351). -/
def vrefCode : Int := 0xD55555

/-- The voltage on a channel, in codes of 3 V / 2^24; `vin` where it comes from outside the block (R348). -/
def State.channelIn (s : State) (chan : Nat) (vin : Int) : Int :=
  if chan = 0x0F then vrefCode
  else if chan = 0x19 then 0
  else if 0x11 ≤ chan ∧ chan ≤ 0x15 ∧ s.part.dies ≤ chan - 0x11 then 0
  else if chan = 0x18 then s.readback
  else vin

/-- A code clamped to 24 bits (R351). -/
def clamp24 (x : Int) : Nat := (max 0 (min 0xFFFFFF x)).toNat

/-- A raw result: the voltage, with the converter's own error, as a code; 18 bits in bits 23:6 for CNVC (R346, R351). -/
def State.rawCode (s : State) (i : Fin 3) (chan : Nat) (vin err : Int) : Nat :=
  let x := clamp24 (s.channelIn chan vin + err)
  if i = 2 then x / 64 * 64 else x

/-! ### Taking work (R355, R358 to R360) -/

/-- Work begins on the converter: start-up first, if it is powered down; an entry's delay; a slot's conversion. -/
def State.beginWork (s : State) (i : Fin 3) (w : CWork) (a b : Word) : State :=
  s.modCnv i (fun c =>
    let first := match w with
      | .seq | .inj => CStage.delay
      | _ => CStage.conv
    { c with work := w, stage := (if c.powered && c.stage != .startup then first else .startup), powered := true
             entA := a, entB := b, stream := false, assayTaken := c.assayTaken && w != .seq })

/-- The work that waits is taken in the order of R360, or the converter powers down. Once an assay conversion has been
taken, the next entry comes before another one (R366). -/
def State.nextWork (s : State) (i : Fin 3) : State :=
  let s := s.modCnv i (fun c => { c with work := .none, stream := false })
  let c := s.cnv i
  let pg := cnvPage i
  if c.injWait then
    (s.modCnv i (fun c => { c with injWait := false })).beginWork i .inj (s.reg pg 0x0B) (s.reg pg 0x0C)
  else if c.calWait then (s.modCnv i (fun c => { c with calWait := false })).beginWork i (.cal true) 0#16 0#16
  else if c.assay ≠ [] ∧ ¬(c.assayTaken ∧ c.seq) then s.beginWork i .assay 0#16 0#16
  else if c.seq then s.beginWork i .seq (s.entryA i c.cur) (s.entryB i c.cur)
  else s.modCnv i (fun c => { c with powered := false, stage := .startup })

/-- Take work if the converter does nothing. -/
def State.kick (s : State) (i : Fin 3) : State := if (s.cnv i).work = .none then s.nextWork i else s

/-- CMD.GO, or a start trigger (R356). The windows of the entries count as inside until their first result (R361). -/
def State.cnvGo (s : State) (i : Fin 3) : State :=
  let last := s.cnvLast i
  if s.cnvLive i = false then s
  else if (s.cnv i).seq then (if s.cnvCont i then s else s.cnvEvent i 3)
  else if (List.range (last + 1)).all (fun k => entryOk i (s.entryA i k) (s.entryB i k)) = false then s.cnvEvent i 5
  else
    let s := s.setReg (cnvPage i) 0x10 (s.reg (cnvPage i) 0x10 &&& ~~~(BitVec.ofNat 16 (2 ^ (last + 1) - 1)))
    (s.modCnv i (fun c => { c with seq := true, cur := 0, assayTaken := false })).kick i

/-- Work waits on the converter for its next boundary. -/
def Cnv.waits (c : Cnv) : Bool := c.injWait || c.calWait || decide (c.assay ≠ [])

/-- CMD.HALT (R357). With CTRL.ENABLE = 0 the sequence ends too; what waits begins when the unit is enabled. -/
def State.cnvHalt (s : State) (i : Fin 3) : State :=
  if (i ≠ 1 ∨ s.part.hasCnvB) ∧ s.awake ∧ (s.cnv i).seq then
    let s := s.modCnv i (fun c => { c with seq := false })
    if (s.cnv i).work ≠ .seq then s
    else if s.cnvLive i then s.nextWork i
    else s.modCnv i (fun c => { c with
      work := .none, stream := false, powered := c.powered && c.waits, stage := if c.waits then c.stage else .startup })
  else s

/-- The urgent entry begins now. -/
def State.injStart (s : State) (i : Fin 3) : State := s.beginWork i .inj (s.reg (cnvPage i) 0x0B) (s.reg (cnvPage i) 0x0C)

/-- CMD.INJECT, or an urgent trigger (R358). -/
def State.cnvInject (s : State) (i : Fin 3) : State :=
  let c := s.cnv i
  let pg := cnvPage i
  if s.cnvLive i = false then s
  else if c.injWait ∨ c.work = .inj then s.cnvEvent i 4
  else if entryOk i (s.reg pg 0x0B) (s.reg pg 0x0C) = false then s.cnvEvent i 5
  else match c.work with
    | .none => s.injStart i
    | .seq | .assay => (s.cnvEvent i 8).injStart i
    | .cal true => s.modCnv i (fun c => { c with injWait := true })
    | .cal false => s.injStart i
    | .inj => s

/-- CMD.CAL_NOW: one slot is forced at the next boundary (R359). -/
def State.calForce (s : State) (i : Fin 3) : State := (s.modCnv i (fun c => { c with calWait := true })).kick i

def State.cnvCalNow (s : State) (i : Fin 3) : State := if s.cnvLive i then s.calForce i else s

/-- 100 ms have passed with no slot. -/
def State.bgForcedNow (s : State) (i : Fin 3) : State :=
  if s.cnvLive i ∧ s.regBit (cnvPage i) 0x08 1 then (s.cnvEvent i 7).calForce i else s

/-- An unforced slot starts on an idle converter. -/
def State.calSlot (s : State) (i : Fin 3) : State :=
  if s.cnvLive i ∧ s.regBit (cnvPage i) 0x08 1 ∧ (s.cnv i).work = .none then s.beginWork i (.cal false) 0#16 0#16 else s

def State.startupEnd (s : State) (i : Fin 3) : State :=
  let c := s.cnv i
  if s.cnvLive i ∧ c.work ≠ .none ∧ c.stage = .startup then
    s.modCnv i (fun c => { c with stage := match c.work with
      | .seq | .inj => .delay
      | _ => .conv })
  else s

def State.delayEnd (s : State) (i : Fin 3) : State :=
  let c := s.cnv i
  if s.cnvLive i ∧ (c.work = .seq ∨ c.work = .inj) ∧ c.stage = .delay then s.modCnv i (fun c => { c with stage := .conv }) else s

/-! ### Results (R351 to R353, R361, R362) -/

/-- clamp (round ((x - 16 OFS) (1 + GAIN 2^-22)), 0, 0xFFFFFF) (R352). -/
def corrected (x : Nat) (ofs gain : Word) : Nat :=
  clamp24 (roundDiv (((x : Int) - 16 * ofs.toInt) * (4194304 + gain.toInt)) 4194304)

/-- The raw result after background calibration (R351). DEDUCED (log entry 84): BG_OFS and BG_GAIN, in the units of R373, act
as the two fields of a slot do. -/
def State.bgCorrect (s : State) (i : Fin 3) (raw : Nat) : Nat := corrected raw (s.cnv i).bgOfs (s.cnv i).bgGain

/-- A calibration slot ends (R359): the result of the internal zero gives the offset, that of VREF the gain, so that the
correction of R352 brings each to its nominal code (DEDUCED, log entry 84). A VREF result at or below the offset gives no
gain; it is a free value then. -/
def State.calResult (s : State) (i : Fin 3) (err : Int) : State :=
  let c := s.cnv i
  let s := s.modCnv i (fun c => { c with calVref := !c.calVref })
  if c.calVref then
    let r := vrefCode + err - 16 * c.bgOfs.toInt
    if 0 < r then s.modCnv i (fun c => { c with bgGain := satInt16 (roundDiv ((vrefCode - r) * 4194304) r.toNat) })
    else
      let (k, s) := s.draw 65536
      s.modCnv i (fun c => { c with bgGain := BitVec.ofNat 16 k })
  else s.modCnv i (fun c => { c with bgOfs := satInt16 (roundDiv err 16) })

/-- The result of an entry after its slot. -/
def State.slotCorrect (s : State) (i : Fin 3) (a : Word) (raw : Nat) : Nat :=
  let k := entCorr a
  corrected raw (s.reg (cnvPage i) (0x80 + 2 * k)) (s.reg (cnvPage i) (0x81 + 2 * k))

/-- A result register pair: the count rises, and the code is stored. -/
def State.putResult (s : State) (i : Fin 3) (off code : Nat) : State :=
  let n := (s.regFld (cnvPage i) off 8 8 + 1) % 256
  (s.setReg (cnvPage i) off (place n 8 ||| place (code / 65536) 0)).setReg (cnvPage i) (off + 1) (BitVec.ofNat 16 (code % 65536))

/-- A conversion of VM/20 by CNVC publishes VM (R362). -/
def State.publishVm (s : State) (i : Fin 3) (chan code : Nat) : State :=
  if i = 2 ∧ chan = 0x0D then
    let v : Word := BitVec.ofNat 16 (roundDiv ((code : Int) * 6000) 16777216).toNat
    (s.setReg (cnvPage i) 0x15 v).modCnv i (fun c => { c with published := some v })
  else s

/-- An open wire shows at the rail (R350). -/
def openWire (a b : Word) (raw : Nat) : Bool :=
  decide (entChan a ≤ 0x0B)
    && ((decide (entOw b = 1 ∨ entOw b = 2) && decide (0xDDDDDE ≤ raw)) || (decide (entOw b = 3 ∨ entOw b = 4) && decide (raw ≤ 0x044444)))

/-- What a result of an entry does beyond its registers: the published VM, the thermistors, the fabric. -/
def State.resultUse (s : State) (i : Fin 3) (a : Word) (code : Nat) : State :=
  let s := s.publishVm i (entChan a) code
  let s := if entChan a = 0x16 then s.ntcResult 0 code else if entChan a = 0x17 then s.ntcResult 1 code else s
  s.produceIf (entFab a) (0x11 + i.val)

/-- Window of entry `k` (R361). -/
def State.windowJudge (s : State) (i : Fin 3) (k : Nat) (a : Word) (code : Nat) : State :=
  if entWin a then
    let v := code / 256
    let out := decide (v < (s.reg (cnvPage i) (0x60 + 2 * k)).toNat) || decide ((s.reg (cnvPage i) (0x61 + 2 * k)).toNat < v)
    let was := s.regBit (cnvPage i) 0x10 k
    (s.setFld (cnvPage i) 0x10 k 1 (if out then 1 else 0)).eventIf (out && !was) (cnvPage i) 1
  else s

/-- A result of sequence entry `cur`. -/
def State.entryResult (s : State) (i : Fin 3) (vin err : Int) : State :=
  let c := s.cnv i
  let x := s.bgCorrect i (s.rawCode i (entChan c.entA) vin err)
  let code := s.slotCorrect i c.entA x
  let s := s.putResult i (0x40 + 2 * c.cur) code
  let ow := openWire c.entA c.entB x
  let s := if ow then (s.setReg (cnvPage i) 0x11 (s.reg (cnvPage i) 0x11 ||| bitWord c.cur)).cnvEvent i 6 else s
  (s.windowJudge i c.cur c.entA code).resultUse i c.entA code

/-- An entry is complete: the next one, the end of the sequence, or a further pass (R354, R355). -/
def State.entryDone (s : State) (i : Fin 3) : State :=
  let c := s.cnv i
  if s.cnvLast i ≤ c.cur then
    let s := (s.cnvEvent i 0).countWrap (cnvPage i) 0x16
    if s.cnvCont i = false then (s.modCnv i (fun c => { c with seq := false })).nextWork i
    else if s.cnvLast i = 0 ∧ c.injWait = false ∧ c.calWait = false ∧ c.assay = [] then
      s.modCnv i (fun c => { c with cur := 0, stream := decide (i ≠ 2) })
    else (s.modCnv i (fun c => { c with cur := 0 })).nextWork i
  else (s.modCnv i (fun c => { c with cur := c.cur + 1 })).nextWork i

/-! ### The Assayer (R365 to R367) -/

def State.modAssay (s : State) (f : Assay → Assay) : State := { s with assay := f s.assay }

/-- round of a number of 3 V / 2^24 in uV. -/
def uvOf (x : Int) : Int := roundDiv (x * 3000000) 16777216

/-- One check gets its difference, in uV. -/
def State.assayDiff (s : State) (k : Nat) (d : Int) : Nat × State :=
  let s := s.setReg assayPage (0x0D + k) (satInt16 d)
  (if d.natAbs ≤ (s.reg assayPage (0x0A + k)).toNat then 1 else 2, s)

/-- Checks whose readings are there get their outcome (R365, R367). -/
def State.assayJudge (s : State) : State :=
  let s := match s.assay.ab, s.assay.aRefx, s.assay.bRefx with
    | 3, some a, some b => let (o, s) := s.assayDiff 0 (uvOf ((a : Int) - b)); s.modAssay (fun g => { g with ab := o })
    | _, _, _ => s
  let s := match s.assay.ca, s.assay.aVm, s.assay.cVm with
    | 3, some a, some c => let (o, s) := s.assayDiff 1 (uvOf ((a : Int) - c)); s.modAssay (fun g => { g with ca := o })
    | _, _, _ => s
  match s.assay.twin, s.assay.aRefx with
  | 3, some a =>
    let tw : Int := ((if s.assay.twinSeen.isSome then s.assay.twinSeen else s.assay.twinHeld).getD 0#16).toNat
    let (o, s) := s.assayDiff 2 (roundDiv ((a : Int) * 3000000 - tw * 40 * 16777216) 16777216)
    s.modAssay (fun g => { g with twin := o })
  | _, _ => s

/-- The run ends once no check is pending. -/
def State.assayEnd (s : State) : State :=
  let g := s.assay
  if g.busy ∧ g.ab ≠ 3 ∧ g.ca ≠ 3 ∧ g.twin ≠ 3 then
    let s := (s.event assayPage 0).eventIf (decide (g.ab = 2 ∨ g.ca = 2 ∨ g.twin = 2)) assayPage 1
    (s.countWrap assayPage 0x12).modAssay (fun g => { g with busy := false })
  else s

/-- An assay conversion waits on a converter. -/
def State.assayAsk (s : State) (i : Fin 3) (chan : Nat) : State :=
  let s := s.modCnv i (fun c => { c with assay := c.assay ++ [chan] })
  if s.cnvLive i then s.kick i else s

/-- A run starts. A check whose converter is in UNIT_RESET is not performed (R364, R365). -/
def State.assayStart (s : State) : State :=
  let on := fun (k : Nat) => s.regBit assayPage 0x08 k
  let up := fun (i : Fin 3) => !s.inUnitReset (cnvPage i)
  let ab := on 8 && s.part.hasCnvB && up 0 && up 1
  let ca := on 9 && up 0 && up 2
  let tw := on 10 && up 0 && decide (s.twin.st = .mirroring) && s.assay.twinSeen.isSome
  let p := fun (b : Bool) => if b then 3 else 0
  let s := s.modAssay (fun g => { g with
    busy := true, aRefx := none, bRefx := none, aVm := none, cVm := none, ab := p ab, ca := p ca, twin := p tw
    twinHeld := none })
  let s := if ab || tw then s.assayAsk 0 0x0C else s
  let s := if ab then s.assayAsk 1 0x0C else s
  let s := if ca then (s.assayAsk 0 0x0D).assayAsk 2 0x0D else s
  s.assayEnd

/-- The unit is clocked and the device awake. -/
def State.assayLive (s : State) : Bool := s.awake && s.regBit assayPage 0x01 0

/-- CMD.RUN. -/
def State.assayRun (s : State) : State :=
  if s.assayLive = false then s else if s.assay.busy then s.event assayPage 2 else s.assayStart

/-- Every PERIOD x 100 ms. -/
def State.assayPeriodic (s : State) : State :=
  if s.assayLive ∧ s.regFld assayPage 0x08 0 8 ≠ 0 ∧ s.assay.busy = false then s.assayStart else s

/-- An assay conversion ends. -/
def State.assayResult (s : State) (i : Fin 3) (vin err : Int) : State :=
  match (s.cnv i).assay with
  | [] => s
  | ch :: l =>
    let x := s.bgCorrect i (s.rawCode i ch vin err)
    let s := s.modCnv i (fun c => { c with assay := l, assayTaken := c.seq })
    let s := s.publishVm i ch x
    let s :=
      if i = 0 ∧ ch = 0x0C then
        (s.setReg assayPage 0x10 (satWord (roundDiv ((x : Int) * 75000) 16777216).toNat)).modAssay (fun g => { g with aRefx := some x })
      else if i = 1 then s.modAssay (fun g => { g with bRefx := some x })
      else if i = 0 then s.modAssay (fun g => { g with aVm := some x })
      else s.modAssay (fun g => { g with cVm := some x })
    s.assayJudge.assayEnd

/-- The conversions of a run that are not kept end, and give way to what waits behind them (R360). -/
def State.assayDrop (s : State) (keep : Fin 3 → Nat → Bool) : State :=
  [0, 1, 2].foldl (fun s (i : Fin 3) =>
    let c := s.cnv i
    let ends := decide (c.work = .assay) && !c.assay.head?.any (keep i)
    let s := s.modCnv i (fun c => { c with assay := c.assay.filter (keep i) })
    if ends = false then s
    else if s.cnvLive i then s.nextWork i
    else s.modCnv i (fun c => { c with work := .none, powered := c.powered && c.waits, stage := if c.waits then c.stage else .startup })) s

/-- Does a check that is pending still ask for a conversion (R365)? -/
def Assay.wants (g : Assay) (i : Fin 3) (chan : Nat) : Bool :=
  if chan = 0x0C then g.ab == 3 || (decide (i = 0) && g.twin == 3) else g.ca == 3

/-- A converter is reset: the checks that need it read as not performed (R364), and the conversions that no other check asks for end
with them (R365). -/
def State.assayLose (s : State) (i : Fin 3) : State :=
  let z := fun (o : Nat) => if o = 3 then 0 else o
  let s := s.modAssay (fun g =>
    if i = 0 then { g with ab := z g.ab, ca := z g.ca, twin := z g.twin }
    else if i = 1 then { g with ab := z g.ab } else { g with ca := z g.ca })
  (s.assayDrop s.assay.wants).assayEnd

/-! ### The end of a conversion (R354) -/

/-- A conversion ends. -/
def State.conversionDone (s : State) (i : Fin 3) (vin err : Int) : State :=
  let c := s.cnv i
  if s.cnvLive i = false ∨ c.stage ≠ .conv ∨ c.stream then s
  else match c.work with
    | .none => s
    | .seq => (s.entryResult i vin err).entryDone i
    | .inj =>
      let b := s.bgCorrect i (s.rawCode i (entChan c.entA) vin err)
      let code := s.slotCorrect i c.entA b
      let s := ((s.putResult i 0x0D code).eventIf (openWire c.entA c.entB b) (cnvPage i) 6).resultUse i c.entA code
      (s.cnvEvent i 2).nextWork i
    | .assay => (s.assayResult i vin err).nextWork i
    | .cal _ => (s.calResult i err).nextWork i

/-- A further result of a stream (R355). -/
def State.streamResult (s : State) (i : Fin 3) (vin err : Int) : State :=
  let c := s.cnv i
  if s.cnvLive i ∧ c.stream ∧ c.work = .seq then (s.entryResult i vin err).entryDone i else s

/-- CTRL.ENABLE of a converter; what waits on an idle one begins (R366). -/
def State.cnvEnable (s : State) (i : Fin 3) (en : Bool) : State :=
  let s := s.setFld (cnvPage i) 0x01 0 1 (if en then 1 else 0)
  if s.cnvLive i then s.kick i else s

/-! ### Registers (R373, R374) -/

def State.cnvStatus (s : State) (i : Fin 3) : Word :=
  let c := s.cnv i
  let bg := match c.work with | .cal _ => true | _ => false
  flagWord [c.seq, c.injWait || decide (c.work = .inj), bg, c.powered] 0 ||| place c.cur 4

def State.cnvRead (s : State) (i : Fin 3) (off : Nat) : Option Word :=
  match off with
  | 0x02 => some (s.cnvStatus i)
  | 0x13 => some (s.cnv i).bgOfs
  | 0x14 => some (s.cnv i).bgGain
  | _ => none

/-- CFG: LP, LAST and CONT keep their values while the sequencer or an urgent entry is busy (R357). -/
def State.cnvCfg (s : State) (i : Fin 3) (v : Word) : State :=
  let c := s.cnv i
  let lp : Word := if i = 2 then 0x00F6#16 else 0x00F7#16
  if c.seq ∨ c.injWait ∨ c.work = .inj then
    (s.setFld (cnvPage i) 0x08 1 1 (fld v 1 1)).cnvEvent i 5
  else s.setReg (cnvPage i) 0x08 (v &&& lp)

/-- CMD. -/
def State.cnvCmd (s : State) (i : Fin 3) (v : Word) : State :=
  let s := if v.getLsbD 1 then s.cnvHalt i else s
  let s := if v.getLsbD 0 then s.cnvGo i else s
  let s := if v.getLsbD 2 then s.cnvInject i else s
  if v.getLsbD 3 then s.cnvCalNow i else s

/-- A word written to a unit offset of a converter page. -/
def State.cnvWrite (s : State) (i : Fin 3) (off : Nat) (v : Word) (unl : Bool) : State :=
  match off with
  | 0x08 => s.cnvCfg i v
  | 0x09 => s.cnvCmd i v
  | 0x0F => if i = 0 then (s.plainWrite (cnvPage i) off v unl).1 else s
  | _ => (s.plainWrite (cnvPage i) off v unl).1

/-- Words reloaded from the store, which a UNIT_RESET returns to (R21, R153). -/
def State.calWords (s : State) (page : Nat) : State :=
  s.nvs.cal.foldl (fun s e => if e.1 / 256 = page then s.setReg page (e.1 % 256) e.2 else s) s

/-- UNIT_RESET of a converter (R364). -/
def State.cnvReset (s : State) (i : Fin 3) : State :=
  let s := s.resetPage (cnvPage i) (fun o => o == 0)
  ({ s with cnvs := s.cnvs.set i { published := s.cnvs[i].published } } : State).calWords (cnvPage i) |>.assayLose i

/-- A converter's share of the pulses of one cycle, by consumer code (R121). -/
def State.cnvPulse (s : State) (i : Fin 3) (codes : List Nat) : State :=
  let pg := cnvPage i
  let s := if s.regBit pg 0x0A 11 && codes.contains (s.regFld pg 0x0A 6 5) then s.cnvInject i else s
  if s.regBit pg 0x0A 5 && codes.contains (s.regFld pg 0x0A 0 5) then s.cnvGo i else s

def State.assayRead (s : State) (off : Nat) : Option Word :=
  let g := s.assay
  if off = 0x02 then some (place g.ab 0 ||| place g.ca 2 ||| place g.twin 4 ||| flag g.busy 6) else none

def State.assayWrite (s : State) (off : Nat) (v : Word) (unl : Bool) : State :=
  if off = 0x09 then (if v.getLsbD 0 then s.assayRun else s) else (s.plainWrite assayPage off v unl).1

/-- UNIT_RESET of ASSAY: a run ends, and its conversions with it. -/
def State.assayReset (s : State) : State :=
  let s := s.resetPage assayPage (fun o => o == 0)
  ({ s with assay := { twinSeen := s.assay.twinSeen } } : State).assayDrop (fun _ _ => false)

end Sys2Proof.Machine
end

