-- ==== Sys2Proof/Machine/Twin.lean ====
section
/-! DEFINITION. Twin pairing over the Jagor link (R403 to R424). -/

namespace Sys2Proof.Machine

def State.modTwin (s : State) (f : Twin → Twin) : State := { s with twin := f s.twin }
def State.twinEvent (s : State) (k : Nat) : State := s.event twinPage k

/-- The link runs (R403, R88, R404). -/
def State.linkOn (s : State) : Bool := s.part.hasTwin && s.awake && s.regBit twinPage 0x01 0

/-- The twin takes part in pairing. -/
def State.pairing (s : State) : Bool := s.linkOn && s.regBit twinPage 0x08 0

def TState.code : TState → Nat
  | .solo => 0
  | .seeking => 1
  | .handshake => 2
  | .mirroring => 3
  | .refused => 4
  | .lost => 5

/-- The own hash (R407). -/
def State.twinHash (s : State) : Wide :=
  crc32 [s.part.number, s.reg twinPage 0x08 &&& 0x0022#16, s.reg twinPage 0x0A, s.reg twinPage 0x0B, s.reg timePage 0x19]

/-! ### Reactions of the survivor (R412) -/

/-- Moving axes stop, a characterisation is interrupted, ledgers pause and the gate port stops. -/
def State.haltAll (s : State) : State :=
  let s := s.forAxes s.present (fun n s => s.haltAxis n)
  let s := s.forAxes s.present (fun n s => s.ledgerPause n)
  s.gateStop

/-! ### States (R405, R406, R413, R414) -/

/-- The twin leaves MIRRORING for another state: what belonged to the pairing ends, and no later pairing is the first. An orphan
already accepted is loaded on its tick all the same (R419). A TWIN check in progress keeps the reading it compares with (R365). -/
def State.leaveTo (s : State) (st : TState) : State :=
  let was := decide (s.twin.st = .mirroring)
  let s := s.modTwin (fun t => { t with
    st := st, fresh := t.fresh && !was, offer := none, offering := false, asked := false, rx := if t.load then t.rx else [], ack := false
    decline := false, resetCmd := false, ready := false })
  if was then s.modAssay (fun g => { g with twinSeen := none, twinHeld := if g.twinSeen.isSome then g.twinSeen else g.twinHeld })
  else s

/-! ### Frames (R408) -/

/-- FLAGS of an outgoing frame. -/
def State.twinFlags (s : State) : Byte :=
  let t := s.twin
  (flagWord [t.elder, decide (s.pwr.pstate = .safe), t.held, t.ack, t.resetCmd, t.decline, t.fresh] 0).setWidth 8

/-- The words of an axis block. -/
def AxisBlock.words (b : AxisBlock) : List Word :=
  [b.pos.hi, b.pos.lo, b.state, b.head, b.angle, b.idxAxpos.hi, b.idxAxpos.lo]

def TFrame.code : TFrame → Nat
  | .hello _ => 1
  | .mirror _ => 2
  | .leave _ _ => 3

def TFrame.flags : TFrame → Byte
  | .hello h => h.flags
  | .mirror m => m.flags
  | .leave _ f => f

/-- Bytes 4 on of a frame but its CRC. A MIRROR without a chunk carries zeros in its place. -/
def TFrame.body : TFrame → List Word
  | .hello h => [h.serial.hi, h.serial.lo, h.part, h.hash.hi, h.hash.lo, h.seen.hi, h.seen.lo]
  | .mirror m =>
    [m.hash.hi, m.hash.lo, m.refx] ++ m.blocks.flatMap AxisBlock.words ++ (match m.chunk with
      | some (k, ws) => (place k 0 ||| 0x8000#16) :: ws
      | none => List.replicate 17 0#16)
  | .leave serial _ => [serial.hi, serial.lo]

/-- A frame as it goes over the link: words whose high byte is sent first, with the type, FLAGS, the sequence and the CRC of
R146 over all bytes before it. -/
def TFrame.words (f : TFrame) (seq : Word) : List Word :=
  let ws := (place f.code 8 ||| f.flags.setWidth 16) :: seq :: f.body
  let c := crc32 ws
  ws ++ [c.hi, c.lo]

/-- Does a frame received carry the CRC of what comes before it? One that does not is a bad frame (R409). -/
def frameCrcGood (ws : List Word) : Bool :=
  let n := ws.length - 2
  (wordAt ws n).wide (wordAt ws (n + 1)) == crc32 (ws.take n)

/-- The last frame sent, as words. Sequences count the frames sent, the first with 0 (DESIGN CHOICE, log entry 95). -/
def State.lastFrame (s : State) : List Word :=
  match s.twin.sent with
  | some f => f.words (BitVec.ofNat 16 (s.twin.seq - 1))
  | none => []

/-- Three LEAVE frames go out (R413). -/
def State.sendLeaves (s : State) : State :=
  s.modTwin (fun t => { t with leaves := t.leaves + 3, sent := some (.leave s.serial s.twinFlags), seq := t.seq + 3 })

/-- REFUSED with a cause (R406). -/
def State.twinRefuse (s : State) (cause : Nat) : State :=
  let new := decide (s.twin.st ≠ .refused) || s.regFld twinPage 0x0C 0 2 != cause
  ((s.leaveTo .refused).setReg twinPage 0x0C (place cause 0)).eventIf new twinPage 1

/-- ENABLE or PAIR_EN has changed, or the link has stopped (R405, R413). -/
def State.twinFollow (s : State) : State :=
  if s.pairing then
    (if s.twin.st = .solo then s.modTwin (fun t => { t with st := .seeking, seen := none }) else s)
  else
    let s := if s.twin.st = .mirroring then s.sendLeaves else s
    (s.leaveTo .solo).modTwin (fun t => { t with elder := false, seen := none, linkUp := t.linkUp && s.linkOn })

/-- CMD.RETRY (R414). -/
def State.twinRetry (s : State) : State :=
  if s.pairing ∧ (s.twin.st = .mirroring ∨ s.twin.st = .refused) then
    (s.sendLeaves.leaveTo .seeking).modTwin (fun t => { t with seen := none })
  else s

/-- What a valid frame of any type shows: FLAGS.SAFE and FRESH, and the time of the latest (R409, R412, R417). -/
def State.frameHeard (s : State) (flags : Byte) : State :=
  let us := s.mtUs
  s.modTwin (fun t => { t with lastUs := us, peerSafe := flags.getLsbD 1, peerFresh := flags.getLsbD 6 })

/-- A LEAVE frame arrives (R413), in whichever state: it shows its serial and FLAGS, and nothing stops. -/
def State.leaveArrives (s : State) (serial : Wide) (flags : Byte) : State :=
  if s.linkOn = false then s
  else
    let s := (s.setWide twinPage 0x11 serial).frameHeard flags
    if s.pairing then ((s.leaveTo .seeking).modTwin (fun t => { t with seen := none })).twinEvent 3 else s

/-- The receiver gains or loses lock (R403). -/
def State.linkChange (s : State) (up : Bool) : State := if s.linkOn then s.modTwin (fun t => { t with linkUp := up }) else s

/-! ### HELLO (R406 to R408) -/

/-- MIRRORING begins; the lower serial becomes ELDER (R406). -/
def State.pairNow (s : State) : State :=
  (s.modTwin (fun t => { t with
    st := .mirroring, elder := decide (s.serial.toNat < (t.seen.getD 0#32).toNat), last := none, offer := none
    offering := false, asked := false, rx := if t.load then t.rx else [], ready := false })).twinEvent 0

/-- Outside MIRRORING a HELLO goes out every 10 us. At this frame boundary a twin that is ready enters MIRRORING: the HELLO
that echoes the partner's serial has gone out then (DEDUCED, log entry 85). -/
def State.helloOut (s : State) : State :=
  if s.pairing ∧ s.twin.st ≠ .mirroring then
    let h : Hello := ⟨s.serial, s.part.number, s.twinHash, s.twin.seen.getD 0#32, s.twinFlags⟩
    let s := s.modTwin (fun t => { t with sent := some (.hello h), seq := t.seq + 1 })
    if s.twin.ready then s.pairNow else s
  else s

/-- A frame of a twin in MIRRORING whose SAFE rises over the frame before has the axes stop where CROSS_STOP_EN asks for it (R412). `was`:
SAFE of the frame before. -/
def State.crossStop (s : State) (was safe : Bool) : State :=
  if safe && !was && s.regBit twinPage 0x08 1 then (s.twinEvent 9).haltAll else s

/-- A valid HELLO updates the PEER registers (R409), and is judged where pairing is enabled. In MIRRORING its hash alone is compared
(R407), and a rise of SAFE counts (R412), whatever the hash (DEDUCED, log entry 124). -/
def State.helloIn (s : State) (h : Hello) : State :=
  if s.linkOn = false then s
  else
    let was := s.twin.peerSafe
    let s := ((s.setWide twinPage 0x0F h.hash).setWide twinPage 0x11 h.serial).frameHeard h.flags
    if s.pairing = false then s
    else if s.twin.st = .mirroring then
      let s := s.crossStop was (h.flags.getLsbD 1)
      if h.hash = s.twinHash then s else s.twinRefuse 1
    else
      let s := s.modTwin (fun t => { t with seen := some h.serial })
      if h.hash ≠ s.twinHash then s.twinRefuse 1
      else if h.serial = s.serial then s.twinRefuse 2
      else s.modTwin (fun t => { t with st := .handshake, ready := decide (h.seen = s.serial) })

/-! ### MIRROR (R408, R409, R418) -/

/-- The axis block of one axis. -/
def State.axisBlock (s : State) (n : Ax) : AxisBlock :=
  let a := s.axis n
  if s.hasAxis n then
    { pos := BitVec.ofInt 32 (s.position n)
      state := place a.mode.code 0 ||| flagWord [decide (a.chan.v ≠ 0), s.regBit (axPage n) 0x0B 0, true, a.uncertain] 3
      head := place (s.ledger n).head 0
      angle := place (s.angle n) 0
      idxAxpos := if s.bound n then (match a.idxPos with | some p => BitVec.ofInt 32 p | none => 0x80000000#32) else 0x80000000#32 }
  else { pos := 0#32, state := 0#16, head := 0#16, angle := 0#16, idxAxpos := 0x80000000#32 }

/-- Sixteen words of the padded orphan (R417). -/
def orphanChunk (words : List Word) (k : Nat) : List Word := ((words ++ [0#16, 0#16]).drop (16 * k)).take 16

/-- The orphan is offered once in a pairing, when the partner is MIRRORING too. -/
def State.offerNow (s : State) : State :=
  let t := s.twin
  if t.held ∧ s.regBit twinPage 0x08 2 ∧ t.offering = false ∧ t.last.isSome then
    s.modTwin (fun t => { t with offer := some 0, offering := true, asked := true })
  else s

/-- A MIRROR frame goes out. -/
def State.mirrorOut (s : State) : State :=
  if s.pairing ∧ s.twin.st = .mirroring then
    let s := s.offerNow
    let m : Mirror :=
      { flags := s.twinFlags, hash := s.twinHash, refx := s.reg assayPage 0x10, blocks := allAxes.map s.axisBlock
        chunk := s.twin.offer.map (fun k => (k, orphanChunk s.twin.orphan k)) }
    s.modTwin (fun t => { t with
      sent := some (.mirror m), seq := t.seq + 1, ack := false, decline := false, resetCmd := false
      offer := match t.offer with
        | some k => if k < 4 then some (k + 1) else none
        | none => none })
  else s

/-- PEER registers of one axis. -/
def State.peerAxis (s : State) (n : Nat) (b : AxisBlock) : State :=
  (((s.setWide twinPage (0x20 + 4 * n) b.pos).setReg twinPage (0x22 + 4 * n) (b.state &&& 0x03FF#16)).setReg twinPage
    (0x23 + 4 * n) (b.head &&& 0x0FFF#16)).setReg twinPage (0x48 + n) (b.angle &&& 0x0FFF#16)

def State.peerAxes (s : State) : Nat → List AxisBlock → State
  | _, [] => s
  | n, b :: l => (s.peerAxis n b).peerAxes (n + 1) l

/-- After the last chunk the orphan is accepted or declined (R418). -/
def State.orphanJudge (s : State) : State :=
  let ok := s.regBit twinPage 0x08 3 && s.twin.fresh
    && s.present.all (fun n => decide ((s.axis n).mode = .parked))
  if ok then (s.modTwin (fun t => { t with ack := true, load := true })).twinEvent 4
  else (s.modTwin (fun t => { t with decline := true })).twinEvent 6

/-- A chunk arrives. -/
def State.chunkIn (s : State) (k : Nat) (ws : List Word) : State :=
  let got := if k = 0 then [ws] else if k = s.twin.rx.length then s.twin.rx ++ [ws] else s.twin.rx
  let new := decide (k = 0) || decide (k = s.twin.rx.length)
  let s := s.modTwin (fun t => { t with rx := got })
  if new && decide (got.length = 5) then s.orphanJudge else s

/-- The partner's answer to the orphan that went out, once; CLR_ORPHAN in between takes nothing from it (R418). -/
def State.answerIn (s : State) (f : Byte) : State :=
  let t := s.modTwin (fun t => { t with asked := false })
  if s.twin.asked ∧ f.getLsbD 3 then (t.modTwin (fun t => { t with held := false })).twinEvent 4
  else if s.twin.asked ∧ f.getLsbD 5 then t.twinEvent 6
  else s

/-- What every valid MIRROR frame shows: the PEER registers and REFX_TWIN (R409). -/
def State.peerShow (s : State) (m : Mirror) : State :=
  ((s.setWide twinPage 0x0F m.hash).peerAxes 0 m.blocks).setReg assayPage 0x11 m.refx

/-- A MIRROR frame arrives, or a frame with a bad CRC. The Bool tells that the device must reset (R422). -/
def State.mirrorIn (s : State) (m : Option Mirror) : Bool × State :=
  if s.linkOn = false then (false, s)
  else match m with
    | none => (false, s.count twinPage 0x13)
    | some m =>
      let was := s.twin.peerSafe
      let s := (s.peerShow m).frameHeard m.flags
      if s.pairing = false ∨ s.twin.st ≠ .mirroring then (false, s)
      else
        let s := s.crossStop was (m.flags.getLsbD 1)
        if m.hash ≠ s.twinHash then (false, s.twinRefuse 1)
        else
          let s := s.modAssay (fun g => { g with twinSeen := some m.refx })
          let s := (s.modTwin (fun t => { t with last := some m })).answerIn m.flags
          let s := match m.chunk with
            | some (k, ws) => s.chunkIn k ws
            | none => s
          if m.flags.getLsbD 4 then
            (if s.regBit devPage 0x14 0 then (true, s) else (false, s.twinEvent 10))
          else (false, s)

/-! ### Loss (R410, R411, R417) -/

/-- CLASS of an axis block. -/
def classOf (state : Word) : Nat :=
  let mode := fld state 0 3
  if state.getLsbD 5 = false then 0
  else if state.getLsbD 3 = false ∧ ((1 ≤ mode ∧ mode ≤ 4) ∨ (mode = 0 ∧ state.getLsbD 4)) then 1
  else 2

def blockWords (b : AxisBlock) : List Word :=
  AxisBlock.words { b with state := (b.state &&& 0xFCFF#16) ||| place (classOf b.state) 8 }

/-- The ORPHAN payload: 78 words. -/
def State.orphanWords (s : State) (m : Mirror) : List Word :=
  let sn := s.wide twinPage 0x11
  [0x0001#16, s.part.number, sn.hi, sn.lo, s.twin.lastUs.hi, s.twin.lastUs.lo, m.refx, 0#16]
    ++ m.blocks.flatMap blockWords

/-- No valid frame for TIMEOUT. -/
def State.twinLostNow (s : State) : State :=
  if s.pairing ∧ s.twin.st = .mirroring then
    let s := ((s.leaveTo .lost).twinEvent 2).count twinPage 0x14
    let s := match s.twin.last with
      | some m =>
        let ws := s.orphanWords m
        (s.modTwin (fun t => { t with orphan := ws, held := true })).modNvs (fun n => { n with orphanReq := true })
      | none => s
    if s.regBit twinPage 0x08 5 then s.haltAll else s
  else s

/-- CMD.CLR_ORPHAN. -/
def State.orphanClear (s : State) : State := s.modTwin (fun t => { t with held := false, offer := none })

/-! ### Inheritance (R419, R421) -/

/-- One axis block of the orphan received. -/
def State.inherit (s : State) (n : Ax) (b : List Word) : State :=
  let cls := fld (wordAt b 2) 8 2
  if cls = 1 then
    let pos := ((wordAt b 0).wide (wordAt b 1)).toInt
    let s := s.loadPosition n pos
    let ofs := ofsFor (s.dirInv n) (fld (wordAt b 4) 0 12) pos
    let idx := (wordAt b 5).wide (wordAt b 6)
    let s := s.modAxis n (fun a => { a with ofs := ofs, uncertain := true })
    s.modTwin (fun t => { t with inhIdx := t.inhIdx.set n (if idx = 0x80000000#32 then none else some idx) })
  else if cls = 2 then s.modTwin (fun t => { t with inhLost := t.inhLost ||| (1#10 <<< n.val) })
  else s

/-- The tick after the last chunk. -/
def State.orphanLoadNow (s : State) : State :=
  if s.twin.load then
    let ws := s.twin.rx.flatten
    let s := s.forAxes s.present (fun n s => s.inherit n ((ws.drop (8 + 7 * n.val)).take 7))
    (s.modTwin (fun t => { t with load := false, inherited := true, rx := [] })).twinEvent 5
  else s

/-- A write of CONFIRM. -/
def State.confirmAxes (s : State) (v : Word) : State :=
  s.forAxes s.present (fun n s => if v.getLsbD n.val then s.modAxis n (fun a => { a with uncertain := false }) else s)

/-- A write of PEER_RESET (R422). -/
def State.peerResetWrite (s : State) (v : Word) (unl : Bool) : State :=
  if unl && v == 0xA53C#16 && decide (s.twin.st = .mirroring) then s.modTwin (fun t => { t with resetCmd := true }) else s

/-! ### Registers (R424) -/

def State.uncertainWord (s : State) : Word := flagWord (allAxes.map (fun n => (s.axis n).uncertain)) 0

def State.twinRead (s : State) (off : Nat) : Option Word :=
  let t := s.twin
  match off with
  | 0x02 => some (place t.st.code 0 ||| flagWord [t.elder, t.held, t.inherited, t.linkUp, decide (t.st = .mirroring), t.peerSafe] 3)
  | 0x0D => some s.twinHash.hi
  | 0x0E => some s.twinHash.lo
  | 0x16 => some s.uncertainWord
  | 0x17 => some (t.inhLost.setWidth 16)
  | _ => none

/-- CMD; ignored on a part without the link (R404). -/
def State.twinCmd (s : State) (v : Word) : State :=
  if s.part.hasTwin then
    let s := if v.getLsbD 1 then s.orphanClear else s
    if v.getLsbD 0 then s.twinRetry else s
  else s

/-- A word written to a unit offset of TWIN. -/
def State.twinWrite (s : State) (off : Nat) (v : Word) (unl : Bool) : State :=
  match off with
  | 0x08 => (s.plainWrite twinPage off v unl).1.twinFollow
  | 0x09 => s.twinCmd v
  | 0x15 => s.confirmAxes v
  | 0x18 => s.peerResetWrite v unl
  | _ => (s.plainWrite twinPage off v unl).1

/-- CTRL.ENABLE. -/
def State.twinEnable (s : State) (en : Bool) : State := (s.setFld twinPage 0x01 0 1 (if en then 1 else 0)).twinFollow

/-- The page at its Reset values: no pairing, no orphan, nothing uncertain (R419, R423). A request to write the orphan ends with the
image it would write (DESIGN CHOICE, log entry 94). -/
def State.twinClear (s : State) : State :=
  let s := s.resetPage twinPage (fun o => o == 0)
  let s := s.forAxes allAxes (fun n s => s.modAxis n (fun a => { a with uncertain := false }))
  (s.modTwin (fun t => { fresh := t.fresh, seq := t.seq, leaves := t.leaves, sent := t.sent })).modNvs
    (fun n => { n with orphanReq := false })

/-- UNIT_RESET of TWIN: it clears ENABLE, so a twin in MIRRORING sends its LEAVE frames (R413). -/
def State.twinReset (s : State) : State :=
  let s := if s.twin.st = .mirroring then s.sendLeaves else s
  (s.leaveTo .solo).twinClear

end Sys2Proof.Machine
end

