-- ==== Sys2Proof/Machine/Fabric.lean ====
section
/-! DEFINITION. The trigger fabric: lines, delays and the delivery of a pulse to every consumer (R117 to R122). -/

namespace Sys2Proof.Machine

def State.modFab (s : State) (f : Fabric → Fabric) : State := { s with fab := f s.fab }
def State.modDma (s : State) (n : Fin 8) (f : DmaCh → DmaCh) : State :=
  { s with dma := { s.dma with ch := s.dma.ch.set n (f s.dma.ch[n]) } }
def State.dmaCh (s : State) (n : Fin 8) : DmaCh := s.dma.ch[n]
/-- Offset of a register of a channel's block (R133). -/
def dOff (n k : Nat) : Nat := 0x10 + 8 * n + k

def State.fabricOn (s : State) : Bool := s.awake && s.regBit fabricPage 0x01 0

/-! ### Consumers (R121) -/

/-- A request for a DMA channel (R127, R130): it makes an ARMED channel ACTIVE, is counted while the channel is ACTIVE,
and is discarded otherwise. -/
def State.dmaRequest (s : State) (n : Fin 8) : State :=
  let c := s.dmaCh n
  if s.regBit dmaPage 0x01 0 = false ∨ (s.pins.frz ∧ s.regBit dmaPage (dOff n 0) 7) then s
  else match c.st with
    | .armed => s.modDma n (fun c => { c with st := .active })
    | .active =>
      if c.pend < 255 then s.modDma n (fun c => { c with pend := c.pend + 1 })
      else (s.modDma n (fun c => { c with err := 4 })).event dmaPage (8 + n.val)
    | _ => s

def State.dmaPulse (s : State) (n : Fin 8) (codes : List Nat) : State :=
  if s.regBit dmaPage (dOff n 0) 5 && codes.contains (s.regFld dmaPage (dOff n 0) 0 5) then s.dmaRequest n else s

/-- A SEEK or a WAIT that runs and watches one of these outputs (R215, R216). -/
def State.ledgerPulse (s : State) (n : Ax) (codes : List Nat) : State :=
  let l := s.ledger n
  match l.run, l.loaded with
  | some u, r :: _ =>
    let p := r.param
    if r.type = 7 ∧ codes.contains (fld p 0 5) then s.markSeen n
    else if r.type = 4 ∧ u.hit = false ∧ fld p 0 2 = 2 ∧ codes.contains (fld p 4 5) then s.markSeen n
    else s
  | _, _ => s

/-- The strings whose trigger takes one of these outputs, and those of `own`, which STRn_CMD.FLASH starts in the same cycle: one
flash (R382). -/
def State.flashPulse (s : State) (codes : List Nat) (own : List (Fin 4)) : State :=
  let l := allStrs.filter (fun (n : Fin 4) =>
    own.contains n || (s.regBit chandPage (sOff n 1) 5 && codes.contains (s.regFld chandPage (sOff n 1) 0 5)))
  if l = [] ∨ s.part.hasChandler = false then s else s.flashStart l

def allChans : List (Fin 8) := [0, 1, 2, 3, 4, 5, 6, 7]
def allConvs : List (Fin 3) := [0, 1, 2]

/-- Every consumer of these outputs receives the pulse in the same cycle. -/
def State.deliver (s : State) (codes : List Nat) (own : List (Fin 4) := []) : State :=
  let s := s.flashPulse codes own
  let s := allTimers.foldl (fun s n => s.tmrPulse n codes) s
  let s := allConvs.foldl (fun s i => s.cnvPulse i codes) s
  let s := allChans.foldl (fun s n => s.dmaPulse n codes) s
  s.forAxes s.present (fun n s => s.ledgerPulse n codes)

/-! ### Lines (R117, R119, R120) -/

/-- A line pulses on its direct output; its delay element takes the pulse, passes it on at once (DELAY = 0), or drops
it. The consumer codes that pulse now. -/
def State.lineOut (s : State) (l : Fin 16) : List Nat × State :=
  let s := s.setReg fabricPage 0x29 (s.reg fabricPage 0x29 ||| bitWord l.val)
  if s.fab.pend.getLsbD l.val then ([l.val], s.event fabricPage l.val)
  else if s.reg fabricPage (0x18 + l.val) = 0#16 then ([l.val, 16 + l.val], s)
  else ([l.val], s.modFab (fun f => { f with pend := f.pend ||| bitWord l.val }))

/-- The lines of `w` pulse in one FBUS cycle, with outputs whose codes are given; each consumer receives all that reach it
together (R117, R334). -/
def State.linesPulse (s : State) (w : Word) (codes : List Nat) (own : List (Fin 4) := []) : State :=
  let p := ((List.finRange 16).filter (fun l => w.getLsbD l.val)).foldl (fun (p : List Nat × State) l =>
    let q := p.2.lineOut l
    (p.1 ++ q.1, q.2)) (codes, s)
  p.2.deliver p.1 own

/-- The oldest words of due pulses that name the lines of `ls`, one for each, joined, and the words that remain. -/
def dueTake : List Nat → Word × List Word → Word × List Word
  | [], p => p
  | l :: ls, (w, due) =>
    match due.find? (fun v => v.getLsbD l) with
    | some v => dueTake ls (w ||| v, due.erase v)
    | none => dueTake ls (w, due)

/-- The lines of a word. -/
def linesIn (w : Word) : List Nat := (List.range 16).filter (fun l => w.getLsbD l)

/-- The pulse that a producer or SWPULSE owes line `l` is presented, with those of the other lines of its FBUS cycle: the lines
of `also` that owe one in a word of their own, which pulse once with it (R119), and the delayed outputs of `delayed` whose pulse
leaves in that cycle, before the direct pulses reach their delay elements (R120). Every consumer receives them all together
(R117, R334). -/
def State.lineDue (s : State) (l : Fin 16) (also delayed : Word) (own : List (Fin 4) := []) : State :=
  match s.fab.due.find? (fun w => w.getLsbD l.val) with
  | some w =>
    if s.fabricOn then
      let (w, due) := dueTake (linesIn also) (w, s.fab.due.erase w)
      let out := delayed &&& s.fab.pend
      let s := s.modFab (fun f => { f with due := due, pend := f.pend &&& ~~~out })
      s.linesPulse w ((linesIn out).map (16 + ·)) own
    else s.flashPulse [] own
  | none => s.flashPulse [] own

/-- The delayed outputs of `w` whose pulse is pending pulse, in one FBUS cycle. -/
def State.lineDelayed (s : State) (w : Word) (own : List (Fin 4) := []) : State :=
  let w := w &&& s.fab.pend
  if s.fabricOn ∧ w ≠ 0#16 then
    (s.modFab (fun f => { f with pend := f.pend &&& ~~~w })).deliver
      ((linesIn w).map (16 + ·)) own
  else s.flashPulse [] own

/-- STRn_CMD.FLASH in the FBUS cycle of a fabric pulse, whose direct outputs are `lines` and delayed ones `delayed` (R382). -/
def State.flashWith (s : State) (n : Fin 4) (lines delayed : Word) : State :=
  match (List.finRange 16).find? (fun l => lines.getLsbD l.val && s.fab.due.any (fun w => w.getLsbD l.val)) with
  | some l => s.lineDue l lines delayed [n]
  | none => s.lineDelayed delayed [n]

/-- SWPULSE: the lines named will pulse, whatever their source. -/
def State.softPulse (s : State) (v : Word) : State := if s.fabricOn then s.duePulse v else s

/-- The last two words of due pulses fall in one FBUS cycle, and a line in both pulses once (R119). -/
def mergeDue : List Word → List Word
  | [] => []
  | [w] => [w]
  | [w, v] => [w ||| v]
  | w :: l => w :: mergeDue l

/-- CTRL.ENABLE cleared: no line pulses, and pending pulses are discarded (R122). -/
def State.fabricEnable (s : State) (en : Bool) : State :=
  let s := s.setFld fabricPage 0x01 0 1 (if en then 1 else 0)
  if en then s else { s with fab := {} }

def State.fabricRead (s : State) (off : Nat) : Option Word := if off = 0x02 then some s.fab.pend else none

def State.fabricWrite (s : State) (off : Nat) (v : Word) (unl : Bool) : State :=
  if off = 0x28 then s.softPulse v else (s.plainWrite fabricPage off v unl).1

def State.fabricReset (s : State) : State := { s.resetPage fabricPage (fun o => o == 0) with fab := {} }

end Sys2Proof.Machine
end

