-- ==== Sys2Proof/Machine/Power.lean ====
section
/-! DEFINITION. Power states, wake, bring-up, clocks, SAFE and resets (R85 to R108, R37 to R39, R437 to R439), the supplies
(R42 to R48, R111, R278 to R280), the host watchdog (R80, R81, R107) and the load of the store at bring-up (R153). -/

namespace Sys2Proof

/-- Bit of a SAFE cause in SAFE_CAUSE and SAFE_EN (R109). -/
def SafeCause.bit : SafeCause → Nat
  | .tripN => 0
  | .ovTrip => 1
  | .bridgeThermal => 2
  | .ctrlThermal => 3
  | .sram => 4
  | .software => 5

/-- Bit of a wake source in WAKE_EN and WAKE_CAUSE (R109). -/
def WakeSrc.bit : WakeSrc → Nat
  | .cs => 0
  | .wakePin => 1
  | .wmon => 2
  | .tsync => 3
  | .jagor => 4

/-- Offset of a SUPPLY threshold (R111). -/
def SupplyReg.off : SupplyReg → Nat
  | .brakeOn => 0x08
  | .brakeOff => 0x09
  | .ovTrip => 0x0A

end Sys2Proof

namespace Sys2Proof.Machine

def State.modPwr (s : State) (f : Power → Power) : State := { s with pwr := f s.pwr }
def State.modClk (s : State) (f : Clock → Clock) : State := { s with clk := f s.clk }
def State.modSup (s : State) (f : Supply → Supply) : State := { s with sup := f s.sup }
def State.devEvent (s : State) (k : Nat) : State := s.event devPage k
def State.supEvent (s : State) (k : Nat) : State := s.event supplyPage k

/-! ### SAFE (R102 to R105, R439) -/

/-- Is a cause active now (R105)? The software cause is active only in the cycle of its write. -/
def State.safeActive (s : State) : SafeCause → Bool
  | .tripN => s.anyLatch .trip
  | .ovTrip => s.anyLatch .ov
  | .bridgeThermal => s.anyLatch .ot
  | .ctrlThermal => s.sup.ctrlHot
  | .sram => s.mem.safeUe
  | .software => false

def allCauses : List SafeCause := [.tripN, .ovTrip, .bridgeThermal, .ctrlThermal, .sram, .software]

/-- The causes active now, in the bits of SAFE_CAUSE. -/
def State.activeCauses (s : State) : Word := flagWord (allCauses.map s.safeActive) 0

def State.safeLatch (s : State) (w : Word) : State := s.setReg devPage 0x19 (s.reg devPage 0x19 ||| w)

/-- Every axis in its fault-policy state at once (R103, R285). -/
def State.axesSafe (s : State) : State :=
  s.forAxes s.present (fun n s =>
    (if s.parkPolicy n then s.parkFault n else s.holdNow n).modAxis n (fun a => { a with frozen := none, stopping := none }))

/-- SAFE with these causes: entered, or added to; latched in STANDBY (R102 to R104, R439). A DOZE or STANDBY entry in
progress ends, and so does the PLL relock on leaving DOZE, where the return state is DOZE; a clock recovery goes on (DESIGN
CHOICE, log entry 40). -/
def State.enterSafe (s : State) (w : Word) : State :=
  let s := s.safeLatch w
  match s.pwr.pstate with
  | .safe | .standby => s
  | st =>
    let s := s.modPwr (fun p => { p with pstate := .safe, ret := st, held := none, change := .none })
    let s := s.devEvent 4
    let s := s.forAxes s.present (fun n s => s.ledgerPause n)
    let s := s.axesSafe
    let s := if s.part.hasGate then s.gateFaultNow else s
    if s.part.hasChandler then s.chandSafe else s

/-- Enabled causes among these enter SAFE. -/
def State.safeCauses (s : State) (w : Word) : State :=
  let e := w &&& s.reg devPage 0x1A
  if e = 0#16 ∨ s.pwr.testHold then s else s.enterSafe e

/-- A cause arises (R102). One that is not active raises nothing; the software cause is its own event. -/
def State.causeArises (s : State) (c : SafeCause) : State :=
  if s.safeActive c ∨ c = .software then s.safeCauses (bitWord c.bit) else s

/-- The controller die's temperature: above 150 degrees its SAFE cause is active, and arises where it was not (R102, R105). -/
def State.ctrlTemp (s : State) (celsius : Int) : State :=
  let hot := decide (150 < celsius)
  let was := s.sup.ctrlHot
  let s := s.modSup (fun u => { u with ctrlHot := hot })
  if was then s else s.causeArises .ctrlThermal

/-- SAFE_EN: a bit set while its cause is active enters SAFE (R102). -/
def State.safeEnable (s : State) (v : Word) : State :=
  let new := v &&& ~~~s.reg devPage 0x1A &&& 0x003F#16
  (s.setReg devPage 0x1A (v &&& 0x003F#16)).safeCauses (new &&& s.activeCauses)

/-- SAFE_CTRL.RELEASE (R105). Outside SAFE there is nothing to release (DEDUCED, log entry 41). -/
def State.safeReleaseNow (s : State) : State :=
  if s.pwr.pstate ≠ .safe then s
  else if s.reg devPage 0x19 &&& s.activeCauses ≠ 0#16 then s.devEvent 5
  else
    let s := (s.setReg devPage 0x19 0#16).modPwr (fun p => { p with pstate := p.ret })
    if s.gate.st = .fault ∧ ¬(s.gate.prot.latched ∧ s.gatePolicy ≠ 0) then s.gateEnter .idle else s

/-! ### Wake (R91 to R93) -/

/-- A source is recorded in WAKE_CAUSE. -/
def State.wakeRecord (s : State) (k : Nat) : State := s.setReg devPage 0x0F (s.reg devPage 0x0F ||| bitWord k)

/-- Bring-up starts from STANDBY at step 1, with a fresh count of attempts; XO_FAIL and PLL_FAIL end (R99, R100). -/
def State.startBring (s : State) : State :=
  (s.modPwr (fun p => { p with bring := 1, attempts := 1, retryWait := false, fromReset := false, heldWake := 0#16 })).modClk
    (fun c => { c with xoFail := false, pllFail := false, pllLock := false, onPll := false, xoRun := false, xoAmp := false })

/-- A wake source has qualified (R91, R92): it starts a bring-up from STANDBY, is added during steps 1 and 2, is held while
STANDBY is being entered, and is ignored at any other time. -/
def State.wakeQualify (s : State) (k : Nat) : State :=
  if s.pwr.testHold ∨ s.regBit devPage 0x0E k = false then s
  else match s.pwr.pstate with
    | .standby => if s.pwr.bring = 0 then (s.wakeRecord k).startBring else s.wakeRecord k
    | _ =>
      if s.pwr.change = .standbyEntry then
        (s.wakeRecord k).modPwr (fun p => { p with heldWake := p.heldWake ||| bitWord k })
      else s

/-- Can the source reach the device? Pins of the VIO domain read inactive without VIO (R43); a part without the link has
no link wake. -/
def State.wakeReaches (s : State) : WakeSrc → Bool
  | .cs | .wakePin | .tsync => s.sup.vio
  | .wmon => true
  | .jagor => s.part.hasTwin

def State.wakeSource (s : State) (w : WakeSrc) : State := if s.wakeReaches w then s.wakeQualify w.bit else s

/-- WAKE_TIMER after `ticks` FSLOW ticks; reaching 0 is a TIMER wake (R93). -/
def State.wakeTimer (s : State) (ticks : Nat) : State :=
  let v := (s.wide devPage 0x11).toNat
  if v = 0 then s
  else
    let s := s.setWide devPage 0x11 (BitVec.ofNat 32 (v - ticks))
    if v ≤ ticks then s.wakeQualify 5 else s

/-! ### Requests for a power state (R89) -/

def State.stateRefuse (s : State) : State := s.devEvent 3

/-- The gate port counts as disabled in IDLE (R295). -/
def State.gateOff (s : State) : Bool := decide (s.gate.st = .idle)

def State.canDoze (s : State) : Bool :=
  s.gateOff && s.present.all (fun n => decide ((s.axis n).mode = .parked) || decide ((s.axis n).mode = .hold))

def State.canStandby (s : State) : Bool :=
  s.gateOff && s.nvsIdle && s.present.all (fun n => decide ((s.axis n).mode = .parked))

def State.setChange (s : State) (c : Change) : State := s.modPwr (fun p => { p with change := c })

/-- STANDBY is granted: its entry begins, and WAKE_CAUSE records afresh (R92). -/
def State.beginStandby (s : State) : State :=
  ((s.setReg devPage 0x0F 0#16).modPwr (fun p => { p with fromReset := false, heldWake := 0#16 })).setChange .standbyEntry

/-- XO runs again, where it has not failed (R85, R96). -/
def Clock.xoBack (c : Clock) : Clock := { c with xoRun := !c.xoFail, xoAmp := !c.xoFail && !c.xiExt }

/-- Reduced service begins (R97, R101, R169): in RUN the gate port is stopped (R298); in SAFE it stays in its fault-policy state (R439).
A CHARACTERISE run or a flash already in progress goes on: R97 has them refused, and names no end of one (DESIGN CHOICE, log
entry 76). -/
def State.reduceNow (s : State) : State :=
  let s := s.undiscipline
  if s.pwr.pstate = .run then s.gateCoast else s

/-- A request judged against the state in force. From DOZE with PLL_FAIL set the core stays on HSRC (DEDUCED from R100); XO runs
in RUN (R85). -/
def State.judgeState (s : State) (r : PReq) : State :=
  match s.pwr.pstate, r with
  | .standby, .run => (s.wakeRecord 6).startBring
  | .standby, .standby => s
  | .standby, .doze => s.stateRefuse
  | .run, .run => s
  | .run, .doze => if s.canDoze then s.setChange .dozeEntry else s.stateRefuse
  | .run, .standby | .doze, .standby => if s.canStandby then s.beginStandby else s.stateRefuse
  | .doze, .doze => s
  | .doze, .run =>
    if s.clk.pllFail then ((s.modPwr (fun p => { p with pstate := .run })).modClk Clock.xoBack).reduceNow else s.setChange .dozeExit
  | _, _ => s

/-- A change is under way: an entry, the relock on leaving DOZE, or a clock recovery (R89). -/
def State.changing (s : State) : Bool := decide (s.pwr.change ≠ .none) || s.pwr.relock.isSome

/-- PSTATE_REQ: refused in SAFE, held during bring-up and during a change, judged otherwise. -/
def State.requestState (s : State) (r : PReq) : State :=
  if s.pwr.testHold then s
  else if s.pwr.pstate = .safe then s.stateRefuse
  else if s.inSteps12 ∨ s.pwr.pstate = .waking ∨ s.changing then s.modPwr (fun p => { p with held := some r })
  else s.judgeState r

/-- The held request, once every change and the bring-up have ended. -/
def State.judgeHeld (s : State) : State :=
  match s.pwr.held with
  | some r => if s.changing then s else (s.modPwr (fun p => { p with held := none })).judgeState r
  | none => s

/-- The codes of PSTATE_REQ; other values are ignored (R109). -/
def State.pstateWrite (s : State) (v : Word) : State :=
  match fld v 0 3 with
  | 0 => s.requestState .standby
  | 2 => s.requestState .run
  | 3 => s.requestState .doze
  | _ => s

/-- An entry ends without the state change: an axis or the gate port has been commanded since it began, so that the
condition of R89 no longer holds (DESIGN CHOICE, log entry 75). -/
def State.entryRefused (s : State) : State := ((s.setChange .none).stateRefuse).judgeHeld

/-- XO and the PLL stop, with a recovery in progress; a reference that was lost stays declared (R85, R101). -/
def State.clocksOff (s : State) : State :=
  (s.newCycle.modClk (fun c => { c with
    onPll := false, pllLock := false, xoRun := false, xoAmp := false, xoFail := c.xoFail || s.pwr.relock == some true })).modPwr
    (fun p => { p with relock := none })

/-- DOZE is in force: the core is on HSRC, XO and the PLL are off (R85, R88). -/
def State.dozeIn (s : State) : State :=
  if s.pwr.change = .dozeEntry then
    if s.canDoze then (s.clocksOff.modPwr (fun p => { p with pstate := .doze, change := .none })).judgeHeld
    else s.entryRefused
  else s

/-- The relock on leaving DOZE ends. XO runs in RUN again. -/
def State.dozeOut (s : State) (locked : Bool) : State :=
  if s.pwr.change = .dozeExit then
    let s := (s.modPwr (fun p => { p with pstate := .run, change := .none })).modClk Clock.xoBack
    let s := if locked then s.newCycle.modClk (fun c => { c with onPll := true, pllLock := true })
      else ((s.modClk (fun c => { c with pllFail := true })).devEvent 2).reduceNow
    s.judgeHeld
  else s

/-- STANDBY is reached (R35, R88 to R90, R130, R277, R343, R413): the clocks and the charge pumps stop, the SRAM is lost,
every transfer ends, strings, lamp chain and emulation outputs are off, and the twin leaves. A held request is judged and a
held wake starts a bring-up. -/
def State.standbyIn (s : State) : State :=
  if s.pwr.change = .standbyEntry then
    if s.canStandby then
      let s := if s.twin.st = .mirroring then s.sendLeaves else s
      let s := (s.leaveTo .solo).modTwin (fun t => { t with elder := false, seen := none, linkUp := false })
      let s := { s with
        tmr := { s.tmr with entryPll := s.clk.onPll, entryFrz := s.pins.frz }
        mem := { memBlank with safeUe := s.mem.safeUe }, dma := {}, fab := {}
        chand := {}, lchain := {}, cnvs := Vector.replicate 3 {}, assay := {}
        dies := s.dies.map (fun (d : DieSt) => { d with uvArmed := false, hbLost := false }) }
      let s := (s.clocksOff.modPwr (fun p => { p with pstate := .standby, bring := 0, change := .none })).judgeHeld
      if s.pwr.heldWake ≠ 0#16 ∧ s.pwr.bring = 0 then s.startBring else s
    else s.entryRefused
  else s

/-! ### The load of R153 -/

/-- A value loaded at bring-up: into its register, and kept for a UNIT_RESET (R21). -/
def State.loadCal (s : State) (page off : Nat) (v : Word) : State :=
  let a := page * 256 + off
  (s.setReg page off v).modNvs (fun n => { n with cal := Store.insert (a, v) (n.cal.filter (fun e => e.1 != a)) })

def State.loadDefault (s : State) : State := s.nvsEvent 8

/-- The shape of an AXISPARAM record, when its bank can take it (R263). -/
def State.loadShape (s : State) (n : Ax) (a3 a5 : Word) (bank : Nat) : State :=
  let put := fun (s : State) => (s.loadCal (axPage n) 0x49 a3).loadCal (axPage n) 0x4A a5
  if h : 1 ≤ bank ∧ bank < 5 then
    let k : Fin 5 := ⟨bank, h.2⟩
    match s.table.shape[k] with
    | some c => if c = (a3.toInt, a5.toInt) then put s else s.loadDefault
    | none =>
      ((put s).putBank bank (Fixed.shapeBank a3.toInt a5.toInt)).modTable (fun t =>
        { t with shape := t.shape.set k (some (a3.toInt, a5.toInt)) })
  else if bank = 0 then put s else (put s).loadDefault

/-- The AXISPARAM record of one axis (R262, R263). -/
def State.loadAxis (s : State) (n : Ax) : State :=
  let (r, _, s) := s.currentRec 2 n.val
  match r with
  | some r =>
    if r.len = 16 ∧ wordAt r.payload 0 = 0x0001#16 then
      let s := (s.loadCal (brPage n) 0x18 (wordAt r.payload 1)).loadCal (axPage n) 0x48 (wordAt r.payload 3)
      s.loadShape n (wordAt r.payload 4) (wordAt r.payload 5) (wordAt r.payload 6).toNat
    else s.loadDefault
  | none => s.loadDefault

/-- The slots of a CAL record (R363). -/
def State.loadSlots (s : State) (i : Fin 3) (p : List Word) : State :=
  (List.range 32).foldl (fun s k => s.loadCal (cnvPage i) (0x80 + k) (wordAt p (k + 1))) s

def State.loadCnv (s : State) (i : Fin 3) : State :=
  let (r, _, s) := s.currentRec 3 i.val
  match r with
  | some r => if r.len = 66 ∧ wordAt r.payload 0 = 0x0001#16 then s.loadSlots i r.payload else s.loadDefault
  | none => s.loadDefault

/-- A valid ORPHAN record becomes the orphan to offer (R423). -/
def State.loadOrphan (s : State) : State :=
  if s.part.hasTwin then
    let (r, _, s) := s.currentRec 5 0
    match r with
    | some r => if r.len = 156 then s.modTwin (fun t => { t with orphan := r.payload, held := true }) else s
    | none => s
  else s

/-- Bring-up has passed step 2 and the load has not been made yet. -/
def State.loadNow (s : State) : State :=
  if s.awake ∧ s.nvs.loaded = false then
    let s := [0, 1, 2].foldl (fun s (i : Fin 3) => if i ≠ 1 || s.part.hasCnvB then s.loadCnv i else s) s
    let s := s.forAxes s.present (fun n s => s.loadAxis n)
    s.loadOrphan.modNvs (fun n => { n with loadDone := true, loaded := true })
  else s

/-! ### The configuration image (R154, R155) -/

/-- Do the words hold `n` entries? DESIGN CHOICE (log entry 83): a RUN entry whose k is not 1 to 64, for which the spec gives
no outcome, makes the image one that is rejected. -/
def imageFits : Nat → List Word → Bool
  | 0, _ => true
  | _ + 1, [] => false
  | n + 1, h :: l =>
    match fld h 14 2 with
    | 0 | 2 => (match l with | [] => false | _ :: l => imageFits n l)
    | 1 => (match l with
      | [] => false
      | k :: l => decide (1 ≤ k.toNat ∧ k.toNat ≤ 64 ∧ k.toNat ≤ l.length) && imageFits n (l.drop k.toNat))
    | _ => imageFits n l

/-- The words of the first `n` entries. -/
def imageTake : Nat → List Word → List Word
  | 0, _ => []
  | _ + 1, [] => []
  | n + 1, h :: l =>
    match fld h 14 2 with
    | 0 | 2 => h :: (l.take 1 ++ imageTake n (l.drop 1))
    | 1 => (match l with
      | [] => [h]
      | k :: l => h :: k :: (l.take k.toNat ++ imageTake n (l.drop k.toNat)))
    | _ => h :: imageTake n l

/-- The current CONFIG record is judged and its application begins. With no record there is no image to apply, and it
counts as rejected (DEDUCED, log entry 42). -/
def State.imageLoad (s : State) (auto : Bool) : State :=
  let (r, _, s) := s.currentRec 1 0
  match r with
  | none => if auto then s else s.nvsEvent 6
  | some r =>
    if auto && !r.flags.getLsbD 0 then s
    else
      let part := wordAt r.payload 1
      let n := (wordAt r.payload 2).toNat
      let l := r.payload.drop 3
      if wordAt r.payload 0 = 0x0001#16 ∧ (part = 0#16 ∨ part = s.part.number) ∧ 3 ≤ r.payload.length ∧ imageFits n l then
        (s.setReg nvsPage 0x14 0#16).modNvs (fun g => { g with image := some (imageTake n l), imgWait := false })
      else s.nvsEvent 6

/-! ### Bring-up (R94 to R98) -/

def State.setAttempts (s : State) : State := s.setFld devPage 0x10 2 3 s.pwr.attempts
def State.setBring (s : State) (k : Nat) : State := s.modPwr (fun p => { p with bring := k })

/-- Step 1 ends. -/
def State.vcoreUp (s : State) : State :=
  if s.pwr.bring = 1 ∧ s.pwr.retryWait = false ∧ s.pwr.testHold = false then s.setBring 2 else s

/-- Is a register kept over step 2 of a wake? DEV, SUPPLY, TMR, WMON (R109, R111, R343, R372) and the protection registers
of BRG and GATE (R286). -/
def wakeKeeps (a : Nat) : Bool :=
  match pageKind (a / 256) with
  | .dev | .supply | .tmr | .wmon => true
  | .brg _ | .gate => decide (0x40 ≤ a % 256) && decide (a % 256 < 0x60)
  | _ => false

/-- EVENT bits 8 to 15 of a page with latches are kept (R286). -/
def State.keepProtEvents (s old : State) : State :=
  old.protPages.foldl (fun s p => s.setReg p.page 0x03 (old.reg p.page 0x03 &&& 0xFF00#16)) s

/-- The pages whose unlock outlives step 2. -/
def wakeUnlocks : BitVec 64 := (1#64 <<< devPage) ||| (1#64 <<< supplyPage) ||| (1#64 <<< tmrPage) ||| (1#64 <<< wmonPage)

/-- The units of the controller die at their Reset values (R95). -/
def State.freshUnits (s : State) : State :=
  let t := { s with
    regs := s.regs.filter (fun e => wakeKeeps e.1), lows := s.lows.filter (fun e => wakeKeeps e.1)
    unlock := s.unlock &&& wakeUnlocks, unitRst := 0#64
    fab := {}, dma := {}, mem := { memBlank with safeUe := s.mem.safeUe }, time := {}, stopN := false
    nvs := { s.nvs with cal := [], loadDone := false, loaded := false, image := none, imgWait := false, orphanReq := false, autoWait := false }
    axes := Vector.replicate 10 {}, ledgers := Vector.replicate 10 {}
    brgs := s.brgs.map (fun (b : Bridge) => { prot := b.prot })
    table := {}, gate := s.gate.kept
    encs := s.encs.map Enc.levels, trigs := Vector.replicate 4 {}, emus := Vector.replicate 2 {}
    cnvs := Vector.replicate 3 {}, assay := {}, chand := {}, lchain := {}, twin := {}, spi := { s.spi with waiting := [] } }
  t.keepProtEvents s

/-- Step 3 begins: the crystal amplifier starts unless XI_MODE = 1 (R96). -/
def State.stepThree (s : State) : State :=
  let ext := s.regBit devPage 0x0D 0
  (s.modClk (fun c => { c with xoAmp := !ext, xiExt := ext })).setBring 3

/-- Step 2 ends (R95, R104, R135, R161, R286, R343): WAKING, under reduced service. -/
def State.hsrcUp (s : State) (sleep : Nat) : State :=
  if s.pwr.bring = 2 ∧ s.pwr.testHold = false then
    let s := s.setAttempts.setFld devPage 0x10 0 2 0
    let s := (s.freshUnits.modPwr (fun p => { p with pstate := .waking })).stepThree
    let s := if s.pwr.fromReset then s.relatch else s.tmrWake sleep
    let w := (s.reg devPage 0x19 ||| s.activeCauses) &&& s.reg devPage 0x1A
    if w = 0#16 then s else s.enterSafe w
  else s

/-- Step 3 ends. -/
def State.xoUp (s : State) : State :=
  if s.pwr.bring = 3 then (s.modClk (fun c => { c with xoRun := true })).setBring 4 else s

/-- Step 4 ends. -/
def State.pllUp (s : State) : State :=
  if s.pwr.bring = 4 then (s.modClk (fun c => { c with pllLock := true })).setBring 5 else s

/-- The AUTO image of R155 is applied as soon as the engine is idle: a command, an orphan or a snapshot in progress is done
first (DEDUCED, log entry 77). -/
def State.autoImage (s : State) : State :=
  if s.nvs.autoWait ∧ s.nvsIdle then
    (s.modNvs (fun g => { g with autoWait := false })).imageLoad true
  else s

/-- Bring-up has ended in RUN (R89, R439, R155): RUN_REACHED, the held request, the image. DESIGN CHOICE (log entry 32): the image
begins also where a held STANDBY request has begun the entry, which then ends as refused, with the store busy. -/
def State.reachRun (s : State) : State :=
  let s := s.modPwr (fun p => if p.pstate = .safe then { p with bring := 0, ret := .run } else { p with bring := 0, pstate := .run })
  let s := s.devEvent 1
  let s := s.judgeHeld
  (s.modNvs (fun g => { g with autoWait := true })).autoImage

/-- Step 5 ends. -/
def State.coreUp (s : State) : State :=
  if s.pwr.bring = 5 then (s.newCycle.modClk (fun c => { c with onPll := true })).reachRun else s

/-- A step runs out of time (R98). -/
def State.stepTimeout (s : State) : State :=
  let p := s.pwr
  if p.testHold ∨ p.retryWait then s
  else match p.bring with
    | 1 | 2 =>
      let s := s.setAttempts
      if p.attempts < 4 then s.modPwr (fun p => { p with bring := 1, retryWait := true })
      else ((s.setBring 0).setFld devPage 0x10 0 2 p.bring).devEvent 6
    | 3 => ((s.modClk (fun c => { c with xoFail := true, xoAmp := false })).devEvent 2).setBring 4
    | 4 => ((s.modClk (fun c => { c with pllFail := true })).devEvent 2).reachRun
    | _ => s

/-- The next attempt begins 10 ms later. -/
def State.retryStep (s : State) : State :=
  if s.pwr.bring = 1 ∧ s.pwr.retryWait then
    s.modPwr (fun p => { p with retryWait := false, attempts := p.attempts + 1 })
  else s

/-! ### Clocks (R87, R101, R438) -/

def State.xsUp (s : State) : State :=
  if s.clk.xs = .starting then s.modClk (fun c => { c with xs := .good, slowXtal := true }) else s

def State.xsTimeout (s : State) : State :=
  if s.clk.xs = .starting then (s.modClk (fun c => { c with xs := .failed, xsFail := true })).devEvent 7 else s

/-- CLKCTRL, unlocked: a change of XS_DISABLE acts at once. -/
def State.clkctrl (s : State) (v : Word) : State :=
  let old := s.regBit devPage 0x0D 1
  let new := v.getLsbD 1
  let s := s.setReg devPage 0x0D (v &&& 0x0003#16)
  if new = old then s
  else if new then s.modClk (fun c => { c with xs := .off, slowXtal := false, xsFail := false })
  else s.modClk (fun c => { c with xs := .starting, xsFail := false })

/-- The core leaves the PLL for a recovery. -/
def State.toHsrc (s : State) (xi : Bool) : State :=
  ((s.newCycle.modClk (fun c => { c with onPll := false, pllLock := false })).devEvent 2).modPwr (fun p => { p with relock := some xi })

/-- The reference or the PLL is lost in RUN (R101). With XO_FAIL the PLL is referenced to HSRC already. XI lost while the PLL
relocks on it leaves HSRC to relock on; with PLL_FAIL the core is on HSRC for good (R100), and the lost reference alone is
declared (DEDUCED, log entry 43). -/
def State.clockLost (s : State) (src : ClockSrc) : State :=
  if s.effState ≠ .run then s
  else match src with
    | .xi =>
      if s.clk.xoFail ∨ s.clk.xoRun = false then s
      else
        let s := s.modClk (fun c => { c with xoRun := false })
        if s.clk.pllFail then (s.modClk (fun c => { c with xoFail := true, xoAmp := false })).devEvent 2 else s.toHsrc true
    | .pll => if s.clk.onPll then s.toHsrc false else s

/-- Lock is regained. -/
def State.clockBack (s : State) : State :=
  match s.pwr.relock with
  | some xi =>
    ((s.newCycle.modClk (fun c => { c with onPll := true, pllLock := true, xoFail := c.xoFail || xi })).modPwr
      (fun p => { p with relock := none })).judgeHeld
  | none => s

/-- Lock is not regained. -/
def State.clockGone (s : State) : State :=
  match s.pwr.relock with
  | some xi =>
    (((s.modClk (fun c => { c with pllFail := true, xoFail := c.xoFail || xi })).modPwr
      (fun p => { p with relock := none })).reduceNow).judgeHeld
  | none => s

/-! ### Resets (R37, R39, R48, R106, R108) -/

/-- What the dies themselves show, whatever the controller does. -/
def Prot.inputs (q : Prot) : Prot := { uvLow := q.uvLow, hot := q.hot, warn := q.warn }

/-- A power-on reset within a snapshot: a free number of its words is written (R156). -/
def State.snapLost (s : State) : State :=
  match s.nvs.snap with
  | some (slot, ws) =>
    let (k, s) := s.draw (ws.length + 1)
    (s.mramWrites slot (ws.take k)).modNvs (fun n => { n with snap := none })
  | none => s

/-- A reset of the controller die: everything at its Reset value but what R108 keeps, the store, the pins and supplies,
and what the dies show. The dies receive OFF frames, which end a brake, and their pumps stop; the outputs stay off until host
software enables an axis (R35 to R37, R277, R415). Bring-up starts at step 1, or waits for TEST_EN to fall (R39). -/
def State.deviceReset (s : State) (cause : Word) (por : Bool) : State :=
  let s := s.nvsAbandon.snapLost
  let kept := fun (e : Nat × Word) => decide (e.1 = 0x0D) || decide (0x20 ≤ e.1 ∧ e.1 < 0x24)
  let t : State := {
    part := s.part, serial := s.serial, rdata := s.rdata, free := s.free, pins := s.pins, sup := s.sup
    dies := s.dies.map (fun (d : DieSt) => { hbSeen := d.hbSeen, vcpLow := d.vcpLow })
    pending := s.pending
    regs := if por then [] else s.regs.filter kept
    spi := { miso := s.spi.miso }
    encs := s.encs.map Enc.levels
    nvs := { mram := s.nvs.mram, mramErr := s.nvs.mramErr, armed := s.nvs.armed }
    clk := if por then {} else { slowXtal := s.clk.slowXtal, xsFail := s.clk.xsFail, xs := s.clk.xs }
    brgs := s.brgs.map (fun (b : Bridge) => { prot := b.prot.inputs })
    gate := { s.gate.kept with prot := s.gate.prot.inputs }
    pwr := { testHold := s.pins.testEn, bring := if s.pins.testEn then 0 else 1 } }
  t.setReg devPage 0x13 cause

/-- A reset by one source. It waits for a snapshot in progress (R48), and joins a reset that TEST_EN holds. -/
def State.resetBy (s : State) (k : Nat) : State :=
  if s.nvs.snap.isSome then
    s.modPwr (fun p => { p with rstWait := some ((p.rstWait.getD 0#16) ||| bitWord k) })
  else if s.pwr.testHold then s.setReg devPage 0x13 (s.reg devPage 0x13 ||| bitWord k)
  else s.deviceReset (bitWord k) false

/-- The snapshot is armed again: VDD above 3.1 V with PFAIL_N high, and no snapshot in progress (R47, R48). -/
def State.rearm (s : State) : State :=
  if s.sup.vddLow = false ∧ s.pins.pfailN ∧ s.nvs.snap.isNone then s.modNvs (fun n => { n with armed := true }) else s

/-- The snapshot's record is committed; a reset that waits follows. -/
def State.snapshotDone (s : State) : State :=
  if s.nvs.snap.isSome then
    let s := s.snapEnd.rearm
    match s.pwr.rstWait with
    | some w => s.deviceReset w false
    | none => s.autoImage
  else s

/-- Is a pulse of this length accepted by R37? Between its two limits a free value decides. -/
def State.resetPulse (s : State) (ns : Nat) : Bool × State :=
  if ns < 200 then (false, s) else if 1000 ≤ ns then (true, s) else s.drawBool

/-- RST_N low for `ns`. -/
def State.rstLow (s : State) (ns : Nat) : State :=
  if s.sup.vio = false then s
  else match s.resetPulse ns with
    | (true, s) => s.resetBy 1
    | (false, s) => s

/-- TEST_EN high for `ns` (R39). It stays high until its fall is commanded, once it is accepted. -/
def State.testRise (s : State) (ns : Nat) : State :=
  if s.sup.vio = false ∨ s.pins.testEn then s
  else match s.resetPulse ns with
    | (true, s) => ({ s with pins := { s.pins with testEn := true } } : State).resetBy 5
    | (false, s) => s

def State.testFall (s : State) : State :=
  let s := { s with pins := { s.pins with testEn := false } }
  if s.pwr.testHold then s.modPwr (fun p => { p with testHold := false, bring := 1, attempts := 1 }) else s

def State.powerOn (s : State) : State := s.deviceReset (1#16 ||| flag s.pins.testEn 5) true

/-! ### Supplies (R43, R46, R47, R111, R278 to R280, R284) -/

/-- A threshold write, unlocked (R111). -/
def State.thresholdWrite (s : State) (r : SupplyReg) (v : Word) : State :=
  let x := fld v 0 10
  let at_ := fun (q : SupplyReg) => if q = r then x else (s.reg supplyPage q.off).toNat
  let range := match r with
    | .brakeOn => decide (200 ≤ x ∧ x ≤ 570)
    | .brakeOff => decide (120 ≤ x ∧ x ≤ 560)
    | .ovTrip => decide (300 ≤ x ∧ x ≤ 590)
  if range && decide (at_ .brakeOff + 10 ≤ at_ .brakeOn) && decide (at_ .brakeOn < at_ .ovTrip) then
    s.setReg supplyPage r.off (place x 0)
  else s.supEvent 8

/-- A word written to a unit offset of SUPPLY: the thresholds are RWL. -/
def State.supplyWrite (s : State) (off : Nat) (v : Word) (unl : Bool) : State :=
  if unl then
    match off with
    | 0x08 => s.thresholdWrite .brakeOn v
    | 0x09 => s.thresholdWrite .brakeOff v
    | 0x0A => s.thresholdWrite .ovTrip v
    | _ => s
  else s

/-- VM_OK changes (R278). -/
def State.vmOkNow (s : State) (ok : Bool) : State :=
  if s.sup.vmOk = ok then s
  else
    let s := s.modSup (fun u => { u with vmOk := ok })
    if ok then s.supEvent 1
    else
      let s := s.supEvent 0
      let s := s.forAxes s.present (fun n s => s.parkNow n)
      s.forAxes s.present (fun n s => s.ledgerPause n)

def State.vgpOkNow (s : State) (ok : Bool) : State :=
  if s.sup.vgpOk = ok then s else (s.modSup (fun u => { u with vgpOk := ok })).supEvent (if ok then 3 else 2)

def State.vddLowNow (s : State) (low : Bool) : State :=
  if s.sup.vddLow = low then s
  else
    let s := s.modSup (fun u => { u with vddLow := low })
    if low then s.supEvent 4 else s.rearm

/-- A trigger by PFAIL_N or by VDD (R46), so many us after the last one that started a snapshot. Within 120 us it is ignored, like
every other until VDD has returned above 3.1 V with PFAIL_N high (R47). -/
def State.powerFail (s : State) (byPin : Bool) (sinceUs : Nat) : State :=
  let s := if byPin && s.sup.vio then { s with pins := { s.pins with pfailN := false } } else s
  if byPin && !s.sup.vio then s
  else if sinceUs < 120 then s.modNvs (fun n => { n with armed := false })
  else s.snapTrigger

def State.pfailHigh (s : State) : State := ({ s with pins := { s.pins with pfailN := true } } : State).rearm

/-- BRK (R279). VM at BRAKE_ON makes the OV cause active; at BRAKE_OFF it lies below BRAKE_ON, so that the cause is not (R284). -/
def State.brakeCross (s : State) (rising : Bool) : State :=
  let was := s.sup.brk
  (s.modSup (fun u => { u with brk := rising, ovCause := rising, ovNow := rising && u.ovNow })).eventIf (rising && !was) supplyPage 6

/-- VM crosses OV_TRIP: it reaches it (R280), or falls below it again, which STATUS.OV follows (R111). -/
def State.ovReached (s : State) (reached : Bool) : State :=
  if reached then ((s.modSup (fun u => { u with ovNow := true, ovCause := true })).supEvent 7).setLatchAll .ov
  else s.modSup (fun u => { u with ovNow := false })

/-- VM falls below BRAKE_ON: the OV cause ends (R284). -/
def State.ovOver (s : State) : State := s.modSup (fun u => { u with ovNow := false, ovCause := false })

/-- A die's logic supply changes; after it returns, the die waits for its first heartbeat (R38, R278). -/
def State.logicSupply (s : State) (d : Die) (ok : Bool) : State :=
  let s := s.modSup (fun u => { u with logic := u.logic.set d ok })
  if ok then s else (s.modDie d (fun x => { vcpLow := x.vcpLow })).dieFollow s d

/-! ### The host watchdog (R80, R81, R107) -/

/-- The watchdog counts in WAKING, RUN and DOZE. -/
def State.watchCounts (s : State) : Bool :=
  decide (s.reg devPage 0x16 ≠ 0#16)
    && (match s.pwr.pstate with | .waking | .run | .doze => true | _ => false)

/-- The first expiry. -/
def State.watchExpire (s : State) : State :=
  if s.watchCounts ∧ s.pwr.hostExpired = false then
    (s.haltAll.modPwr (fun p => { p with hostExpired := true })).devEvent 0
  else s

/-- The second expiry resets the device where WDOG_ESCALATE asks for it. -/
def State.watchEscalate (s : State) : State :=
  if s.watchCounts ∧ s.pwr.hostExpired ∧ s.regBit devPage 0x14 1 then s.resetBy 2 else s

/-! ### DEV (R109) -/

/-- CMD: ACK_WAKE_FAIL, CLR_ABSENT_WR, ENTER_SAFE. -/
def State.devCmd (s : State) (v : Word) : State :=
  let s := if v.getLsbD 0 then s.setFld devPage 0x10 0 2 0 else s
  let s := if v.getLsbD 1 then s.setReg devPage 0x17 0#16 else s
  if v.getLsbD 2 then s.causeArises .software else s

/-- A word written to a unit offset of DEV. -/
def State.devWrite (s : State) (off : Nat) (v : Word) (unl : Bool) : State :=
  match off with
  | 0x0B => s.pstateWrite v
  | 0x0D => if unl then s.clkctrl v else s
  | 0x15 => if unl ∧ v = 0x5AC3#16 then s.resetBy 3 else s
  | 0x18 => s.devCmd v
  | 0x1A => if unl then s.safeEnable v else s
  | 0x1B => if unl ∧ v.getLsbD 0 then s.safeReleaseNow else s
  | _ => (s.plainWrite devPage off v unl).1

/-! ### Window monitors (R368 to R372) -/

def State.wmon (s : State) (m : Fin 8) : Wmon := s.wmons[m]

/-- A monitor is powered: its bit and the unit's clock, and the device out of reset. -/
def State.wmonOn (s : State) (m : Fin 8) : Bool := !s.pwr.testHold && s.regBit wmonPage 0x01 0 && s.regBit wmonPage 0x08 m.val

/-- The change from inside to outside (R370). -/
def State.wmonLeave (s : State) (m : Fin 8) : State :=
  let s := s.event wmonPage m.val
  let s := s.produceIf s.awake (0x28 + m.val)
  if s.regBit wmonPage 0x0B m.val then s.wakeSource .wmon else s

/-- The comparator hysteresis of 4 mV, in millionths of a code of 2.5 V / 1024 (R433). -/
def wmonBand : Int := 1638400

/-- What the comparators of THR_LO and THR_HI show for an input in millionths of a code: outside (R370). DESIGN CHOICE (log entry
99): the input leaves at the threshold, and returns where it lies inside by the whole hysteresis. -/
def State.wmonSides (s : State) (m : Fin 8) (v : Int) : Bool × Bool :=
  let lo : Int := (s.reg wmonPage (0x10 + 2 * m.val)).toNat * 1000000
  let hi : Int := (s.reg wmonPage (0x11 + 2 * m.val)).toNat * 1000000
  (decide (v < if (s.wmon m).lo then lo + wmonBand else lo), decide ((if (s.wmon m).hi then hi - wmonBand else hi) < v))

/-- One comparison of an input, in millionths of a code, with the thresholds (R369, R370). -/
def State.wmonJudge (s : State) (m : Fin 8) (v : Int) : State :=
  if s.wmonOn m then
    let (lo, hi) := s.wmonSides m v
    let out := lo || hi
    let w := s.wmon m
    let need := s.regFld wmonPage 0x0D (2 * m.val) 2 + 1
    let k := if out = w.out then 0 else w.agree + 1
    let flips := decide (need ≤ k)
    let now := if flips then out else w.out
    let w' : Wmon := {
      out := now, above := if out && now then hi else w.above && now, agree := if flips then 0 else k, lo := lo, hi := hi }
    let s := { s with wmons := s.wmons.set m w' }
    if flips && out then s.wmonLeave m else s
  else s

/-- The temperature of the hottest present bridge die. -/
def State.hottest (s : State) (t : Vector Int 5) : Int :=
  match t.toList.take s.part.dies with
  | [] => 0
  | a :: l => l.foldl max a

/-- The input of a monitor in millionths of a threshold code (R368): WM0 to WM3 and WM6, WM7 from mV, WM4 and WM5 from
thousandths of a degree. An operand of the other kind brings no input. -/
def State.wmonLevel (s : State) (m : Fin 8) (x : WmonIn) : Option Int :=
  match m, x with
  | 0, .value x => some (x * 16384)
  | 1, .value x | 2, .value x => some (x * 204800)
  | 3, .value x => some (x * 51200)
  | 4, .value x => some ((50000 + x) * 4096)
  | 5, .dies t => some ((50000 + s.hottest t) * 4096)
  | 6, .value x | 7, .value x => some (x * 409600)
  | _, _ => none

/-- One comparison of the input with the thresholds. -/
def State.wmonCompareNow (s : State) (m : Fin 8) (x : WmonIn) : State :=
  match s.wmonLevel m x with
  | none => s
  | some v => s.wmonJudge m v

/-- A threshold keeps THR_LO at or below THR_HI (R371). -/
def State.wmonThreshold (s : State) (m : Fin 8) (hi : Bool) (v : Word) : State :=
  let x := v &&& 0x03FF#16
  let lo := s.reg wmonPage (0x10 + 2 * m.val)
  let up := s.reg wmonPage (0x11 + 2 * m.val)
  let ok := if hi then decide (lo.toNat ≤ x.toNat) else decide (x.toNat ≤ up.toNat)
  if ok then s.setReg wmonPage ((if hi then 0x11 else 0x10) + 2 * m.val) x else s.event wmonPage 8

/-- Monitors that a write has enabled count as inside. -/
def State.wmonRestart (s : State) (was : Fin 8 → Bool) : State :=
  (List.finRange 8).foldl (fun s m => if s.wmonOn m && !was m then { s with wmons := s.wmons.set m {} } else s) s

def wmonThr (off : Nat) : Option (Fin 8) := if h : 0x10 ≤ off ∧ off < 0x20 then some ⟨(off - 0x10) / 2, by omega⟩ else none

/-- A word written to a unit offset of WMON. -/
def State.wmonWrite (s : State) (off : Nat) (v : Word) (unl : Bool) : State :=
  match wmonThr off with
  | some m => s.wmonThreshold m (off % 2 == 1) v
  | none => (s.plainWrite wmonPage off v unl).1.wmonRestart (fun m => s.wmonOn m)

/-- CTRL.ENABLE of WMON. -/
def State.wmonEnable (s : State) (en : Bool) : State :=
  (s.setFld wmonPage 0x01 0 1 (if en then 1 else 0)).wmonRestart (fun m => s.wmonOn m)

/-- STATUS: a monitor that is off keeps its last level, as its gate input does (R333, R370). -/
def State.wmonRead (s : State) (off : Nat) : Option Word :=
  if off = 0x02 then
    some (flagWord ((List.finRange 8).map (fun m => (s.wmon m).out)) 0
      ||| flagWord ((List.finRange 8).map (fun m => (s.wmon m).above)) 8)
  else none

def State.wmonReset (s : State) : State :=
  { s.resetPage wmonPage (fun o => o == 0) with wmons := Vector.replicate 8 {} }

end Sys2Proof.Machine
end

