-- ==== Sys2Proof/Machine/Pins.lean ====
section
/-! DEFINITION. The input pins: STOP_N (R195), FRZ (R196), TRIP_N (R281, R284), DRV_EN and GATE_EN (R282, R289), and the
loss of VIO, without which every input of its domain reads as inactive (R43). -/

namespace Sys2Proof.Machine

def State.modPins (s : State) (f : Pins → Pins) : State := { s with pins := f s.pins }

/-- Is a pulse of `ns` accepted by a filter that ignores what is shorter than `lo` and takes what lasts `hi`? Between the
two a free value decides. -/
def State.pulseTaken (s : State) (ns lo hi : Nat) : Bool × State :=
  if ns < lo then (false, s) else if hi ≤ ns then (true, s) else s.drawBool

/-! ### STOP_N (R195, R297) -/

/-- A low pulse latches; no axis resumes from a freeze during which it did (R196). -/
def State.stopLatch (s : State) (ns : Nat) : State :=
  if s.awake = false ∨ s.sup.vio = false then s
  else match s.pulseTaken ns 20 50 with
    | (false, s) => s
    | (true, s) =>
      let s := ({ s with stopN := true } : State).modPins (fun p => { p with stopN := false })
      s.forAxes s.present (fun n s => s.modAxis n (fun a => { a with noResume := a.noResume || a.frozen.isSome }))

/-- The latch in a tick: it acts while it is set, and clears where STOP_N is high (R195). -/
def State.stopTick (s : State) (high : Bool) : State :=
  let s := s.modPins (fun p => { p with stopN := high })
  if s.stopN then s.haltAll else s

def State.stopClear (s : State) (high : Bool) : State :=
  if high || !s.sup.vio then { s with stopN := false } else s

/-! ### FRZ (R196, R297) -/

/-- FRZ rises. In STANDBY and in reset it is ignored (R35). -/
def State.frzUp (s : State) : State :=
  if s.sup.vio = false ∨ s.pins.frz then s
  else
    let s := s.modPins (fun p => { p with frz := true })
    if s.awake then
      let s := s.forAxes s.present (fun n s => s.freezeAxis n)
      if s.regBit gatePage 0x0A 2 then s.gateStop else s
    else s

/-- FRZ falls: an axis with FRZ_RESUME requests its mode again, at once or when its STOP has ended (log entry 15). -/
def State.unfreezeAxis (s : State) (n : Ax) : State :=
  let a := s.axis n
  match a.frozen with
  | some m =>
    if s.regBit (axPage n) 0x0B 3 = false ∨ a.noResume then s.modAxis n (fun a => { a with frozen := none })
    else if a.stopping.isSome then s
    else s.modAxis n (fun a => { a with frozen := none, req := { a.req with mode := some m.code } })
  | none => s

def State.frzDown (s : State) : State :=
  if s.pins.frz then (s.modPins (fun p => { p with frz := false })).forAxes s.present (fun n s => s.unfreezeAxis n) else s

/-! ### TRIP_N (R281, R284) -/

def State.tripLow (s : State) (ns : Nat) : State :=
  if s.sup.vio = false ∨ s.pins.tripN = false then s
  else match s.pulseTaken ns 80 100 with
    | (false, s) => s
    | (true, s) => (s.modPins (fun p => { p with tripN := false })).setLatchAll .trip

def State.tripHigh (s : State) : State := s.modPins (fun p => { p with tripN := true })

/-! ### DRV_EN and GATE_EN (R282, R289, R297) -/

/-- DRV_EN is low from now on. -/
def State.drvDown (s : State) : State :=
  let s0 := s
  let s := s.modPins (fun p => { p with drvEn := false })
  if s.awake then s.forAxes s.present (fun n s => ((s.startStop n .hold).edgesSince s0 n).brgForget n) else s

def State.gateDown (s : State) : State :=
  let s := s.modPins (fun p => { p with gateEn := false })
  if s.awake then (s.gateStop.gatePull 0xFF#8).gateForget else s

def State.drvFall (s : State) (ns : Nat) : State :=
  if s.sup.vio = false ∨ s.pins.drvEn = false then s
  else match s.pulseTaken ns 80 100 with
    | (false, s) => s
    | (true, s) => s.drvDown

def State.gateFall (s : State) (ns : Nat) : State :=
  if s.sup.vio = false ∨ s.pins.gateEn = false then s
  else match s.pulseTaken ns 80 100 with
    | (false, s) => s
    | (true, s) => s.gateDown

/-- DRV_EN rises after a low of `ns`; at least 10 us make a toggle. -/
def State.drvRise (s : State) (ns : Nat) : State :=
  if s.sup.vio = false ∨ s.pins.drvEn then s
  else
    let s0 := s
    let s := s.modPins (fun p => { p with drvEn := true })
    let s := s.forAxes s.present (fun n s => s.edgesSince s0 n)
    if s.awake ∧ 10000 ≤ ns then s.present.foldl (fun s n => s.toggleNow (.brg n)) s else s

def State.gateRise (s : State) (ns : Nat) : State :=
  if s.sup.vio = false ∨ s.pins.gateEn then s
  else
    let s0 := s
    let s := s.modPins (fun p => { p with gateEn := true })
    -- the switches that turn on have a normal edge (R303)
    let s := s.modGate (fun g => g.edgeBegin (s.gateOnNow &&& ~~~s0.gateOnNow))
    if s.awake ∧ 10000 ≤ ns ∧ s.part.hasGate then s.toggleNow .gate else s

/-! ### VIO (R43, R433) -/

/-- VIO vanishes: every input of its domain goes to its inactive level, with what that brings. -/
def State.vioLost (s : State) : State :=
  let s := if s.pins.drvEn then s.drvDown else s
  let s := if s.pins.gateEn then s.gateDown else s
  let s := s.frzDown
  let s := s.tripHigh.pfailHigh
  let s := s.modPins (fun p => { p with stopN := true, lcTherm := true })
  let s := (List.range 4).foldl (fun s c => s.encInactive c) s
  let s := if s.gateLive ∧ s.gate.hall ≠ 7#3 then s.hallCode 7#3 s.gate.now else s
  let s := if s.pins.testEn then s.testFall else s
  (s.modTime (fun t => { t with high := 0 })).modSup (fun u => { u with vio := false })

def State.vioNow (s : State) (present : Bool) : State :=
  if s.sup.vio = present then s
  else if present then s.modSup (fun u => { u with vio := true }) else s.vioLost

end Sys2Proof.Machine
end

