-- ==== Sys2Proof/Machine/Dma.lean ====
section
/-! DEFINITION. The commands, the descriptor load and the end of a burst of the DMA channels (R123, R126 to R130, R133). The
words themselves move in the bus, which this file does not see. -/

namespace Sys2Proof.Machine

def DmaState.code : DmaState → Nat
  | .idle => 0
  | .armed => 1
  | .active => 2
  | .halted => 3

/-- The channels work: the unit clocked and the device awake. -/
def State.dmaLive (s : State) : Bool := s.awake && s.regBit dmaPage 0x01 0

/-- A channel halts with an error (R129). -/
def State.dmaHalt (s : State) (n : Fin 8) (err : Nat) : State :=
  let s := s.modDma n (fun c => { c with st := .halted, err := err, loading := false, left := 0, stopReq := false })
  let s := { s with dma := { s.dma with granted := if s.dma.granted = some n then none else s.dma.granted } }
  s.event dmaPage (8 + n.val)

/-- CMD.GO, ignored unless the channel is IDLE: the descriptor load begins (R126, R133). -/
def State.dmaGoNow (s : State) (n : Fin 8) : State :=
  let c := s.dmaCh n
  if c.st = .idle ∧ c.loading = false then s.modDma n (fun c => { c with loading := true, stopReq := false }) else s

/-- CMD.STOP: the channel is HALTED after the word in flight; a granted one holds the engine until that word's end
(R130). An IDLE channel that loads nothing has nothing to halt, and stays IDLE (DESIGN CHOICE, log entry 100). -/
def State.dmaStopNow (s : State) (n : Fin 8) : State :=
  let c := s.dmaCh n
  if s.dma.granted = some n then s.modDma n (fun c => { c with stopReq := true })
  else if c.st = .armed ∨ c.st = .active ∨ c.loading then
    s.modDma n (fun c => { c with st := .halted, loading := false })
  else s

/-- CMD.CLR_ERR (R129). -/
def State.dmaClear (s : State) (n : Fin 8) : State :=
  s.modDma n (fun c => if c.st = .halted then { c with st := .idle, err := 0, pend := 0 } else { c with err := 0 })

/-- CHn_CMD, its actions in the order of their bits. DESIGN CHOICE (log entry 86): with DMA.CTRL.ENABLE = 0 a GO is kept until
the unit is enabled, and STOP and CLR_ERR act at once. -/
def State.dmaCmd (s : State) (n : Fin 8) (v : Word) : State :=
  let s := if v.getLsbD 0 then s.dmaGoNow n else s
  let s := if v.getLsbD 1 then s.dmaStopNow n else s
  if v.getLsbD 2 then s.dmaClear n else s

/-! ### Descriptors (R123, R126, R129) -/

/-- Is a descriptor invalid (ERR 3)? NEXT is judged where it is used. -/
def descBad (ws : List Word) : Bool :=
  let d0 := wordAt ws 0
  decide (1 < fld d0 0 2) || decide (1 < fld d0 2 2) || decide (wordAt ws 1 = 0#16) || decide (fld d0 8 3 = 7)
    || (d0.getLsbD 6 && decide ((wordAt ws 7).toNat % 16 ≠ 0))

/-- The channel after a load: FREE runs without requests; a queued request is taken. DESIGN CHOICE (log entry 86): a channel that loads a
chained descriptor waits for a new request, and with FREE the requests that reach it are only counted in PEND. -/
def State.dmaReady (s : State) (n : Fin 8) : State :=
  let free := s.regBit dmaPage (dOff n 0) 6
  s.modDma n (fun c =>
    if free then { c with st := .active }
    else if 0 < c.pend then { c with st := .active, pend := c.pend - 1 }
    else { c with st := .armed })

/-- The descriptor load ends. It waits for the SRAM initialisation (R135). A descriptor outside the SRAM is an address
error (DEDUCED, log entry 45). -/
def State.dmaLoad (s : State) (n : Fin 8) : State :=
  let c := s.dmaCh n
  if s.dmaLive = false ∨ c.loading = false ∨ s.mem.init then s
  else
    let a := (s.wide dmaPage (dOff n 2)).toNat
    if a % 16 ≠ 0 then s.dmaHalt n 3
    else if 0x80000 ≤ a then s.dmaHalt n 1
    else
      let (ws, ue, s) := s.sramReads .dma a 8
      if ue then s.dmaHalt n 2
      else if descBad ws then s.dmaHalt n 3
      else
        let s := s.modDma n (fun c => { c with
          loading := false, d0 := wordAt ws 0, remain := (wordAt ws 1).toNat
          src := (wordAt ws 2).wide (wordAt ws 3), dst := (wordAt ws 4).wide (wordAt ws 5), next := (wordAt ws 6).wide (wordAt ws 7) })
        s.dmaReady n

/-! ### The end of a burst (R126, R127) -/

/-- COUNT is exhausted: DONE, then the next descriptor or IDLE. DESIGN CHOICE (log entry 86): requests still queued in PEND when
the channel becomes IDLE are discarded, and so they are by CLR_ERR. -/
def State.dmaExhausted (s : State) (n : Fin 8) : State :=
  let c := s.dmaCh n
  let s := (s.eventIf (c.d0.getLsbD 7) dmaPage n.val).countWrap dmaPage (dOff n 6)
  if c.d0.getLsbD 6 then (s.setWide dmaPage (dOff n 2) c.next).modDma n (fun c => { c with loading := true })
  else s.modDma n (fun c => { c with st := .idle, pend := 0 })

/-- The granted burst ends, once its words are moved. -/
def State.dmaDone (s : State) : State :=
  match s.dma.granted with
  | none => s
  | some n =>
    let c := s.dmaCh n
    if s.dmaLive = false ∨ c.left ≠ 0 then s
    else
      let s := { s with dma := { s.dma with granted := none } }
      if c.remain = 0 then
        let s := s.dmaExhausted n
        if c.stopReq then s.modDma n (fun c => { c with stopReq := false, loading := false, st := if c.st = .idle then .idle else .halted }) else s
      else if c.stopReq then s.modDma n (fun c => { c with stopReq := false, st := .halted })
      else s.dmaReady n

/-! ### Registers (R133) -/

def dmaOf (off : Nat) : Option (Fin 8) := if h : 0x10 ≤ off ∧ off < 0x50 then some ⟨(off - 0x10) / 8, by omega⟩ else none

def State.dmaRead (s : State) (off : Nat) : Option Word :=
  if off = 0x02 then some (flagWord (allChans.map (fun n => decide ((s.dmaCh n).st = .active))) 0)
  else match dmaOf off with
    | none => none
    | some n =>
      let c := s.dmaCh n
      match (off - 0x10) % 8 with
      | 4 => some (place c.st.code 0 ||| place c.err 2 ||| place c.pend 8)
      | 5 => some (BitVec.ofNat 16 c.remain)
      | _ => none

/-- A word written to a unit offset of DMA. -/
def State.dmaWrite (s : State) (off : Nat) (v : Word) (unl : Bool) : State :=
  match dmaOf off with
  | some n => if (off - 0x10) % 8 = 1 then s.dmaCmd n v else (s.plainWrite dmaPage off v unl).1
  | none => (s.plainWrite dmaPage off v unl).1

/-- UNIT_RESET of DMA ends every channel (R130). -/
def State.dmaReset (s : State) : State :=
  { s.resetPage dmaPage (fun o => o == 0) with dma := { snap := s.dma.snap } }

end Sys2Proof.Machine
end

