-- ==== Sys2Proof/Machine/Bus.lean ====
section
/-! DEFINITION. How an access reaches a register: reads with their side effects, writes by page and offset, KEY and unlock,
CTRL and UNIT_RESET, groups, absent pages (R66 to R79, R82 to R84), and the frames of the host port (R53 to R65). -/

namespace Sys2Proof.Machine

/-! ### Reading (R78, R84) -/

/-- The registers of a unit that show live state. -/
def State.unitRead (s : State) (dma : Bool) (page off : Nat) : Option Word :=
  match pageKind page with
  | .dev => s.devRead off
  | .evt => s.evtRead off
  | .time => s.timeRead dma off
  | .mem => s.memRead off
  | .nvs => s.nvsRead off
  | .dma => s.dmaRead off
  | .tmr => s.tmrRead off
  | .wmon => s.wmonRead off
  | .cnv i => s.cnvRead i off
  | .assay => s.assayRead off
  | .tally => s.tallyRead off
  | .emu => s.emuRead off
  | .ledg => s.ledgRead off
  | .fabric => s.fabricRead off
  | .axis n => s.axisRead n off
  | .brg n => s.brgRead n off
  | .gate => s.gateRead off
  | .supply => if off = 0x02 then some s.supplyStatus else none
  | .chand => s.chandRead off
  | .lchain => s.lchainRead off
  | .twin => s.twinRead off
  | .table => s.tableRead off
  | .axisGroup _ | .brgGroup _ | .reserved => none

/-- What a register reads, with no side effect. -/
def State.peek (s : State) (dma : Bool) (page off : Nat) : Word :=
  match off with
  | 0x00 => pageId (pageKind page)
  | 0x01 => s.reg page 0x01 ||| flag (alwaysEnabled (pageKind page)) 0
  | 0x07 => flag (s.unlocked page) 0
  | _ => (s.unitRead dma page off).getD (s.reg page off)

/-- A read of a register of a present unit, with its side effect (R61, R141, R162, R236, R340). `secRead`: the burst, or
the DMA request, has read SEC_H already. -/
def State.readReg (s : State) (dma secRead : Bool) (page off : Nat) : Word × State :=
  match pageKind page, off with
  | .time, 0x08 => let s := s.latchAll dma; (s.peek dma page off, s)
  | .time, 0x0C => let s := if secRead then s else s.latchUs dma; (s.peek dma page off, s)
  | .mem, 0x0A => s.winRead
  | .table, 0x0A => (s.peek dma page off, s.tblAdvance)
  | .tmr, _ =>
    match tmrOf off with
    | some n => if off % 16 = 11 then (s.peek dma page off, s.captureRead n) else (s.peek dma page off, s)
    | none => (s.peek dma page off, s)
  | _, _ => (s.peek dma page off, s)

/-! ### CTRL (R66, R67) -/

/-- UNIT_RESET of an AXIS page (R440): the ledger, the bridge and the TWIN page's bits are not affected. -/
def State.axisReset (s : State) (n : Ax) : State :=
  if (s.axis n).mode = .parked then
    let s := s.resetPage (axPage n) (fun o => o == 0)
    (s.setAxis n {}).calWords (axPage n)
  else s.axisRefuse n 14

/-- UNIT_RESET of a page with latches keeps what lies in the dies (R286). -/
def State.protReset (s : State) (p : ProtPage) : State :=
  let ev := s.reg p.page 0x03 &&& 0xFF00#16
  (s.resetPage p.page (fun o => o == 0 || (decide (0x40 ≤ o) && decide (o < 0x60)))).setReg p.page 0x03 ev

def State.brgReset (s : State) (n : Ax) : State :=
  ((s.protReset (.brg n)).modBrg n (fun b => { prot := b.prot })).calWords (brPage n)

def State.gateReset (s : State) : State := (s.protReset .gate).modGate Gate.kept

/-- UNIT_RESET of NVS ends an orphan write and an image too. -/
def State.nvsReset (s : State) : State :=
  (s.nvsAbandon.resetPage nvsPage (fun o => o == 0)).modNvs (fun n => { n with
    orphanReq := false, image := none, imgWait := false, autoWait := false, loadDone := false })

/-- Is a UNIT_RESET of the page accepted (R67 and the chapters)? -/
def State.resetAccepted (s : State) (page : Nat) : Bool :=
  match pageKind page with
  | .dev | .evt | .time | .mem | .supply | .table => false
  | .axis n | .brg n => decide ((s.axis n).mode = .parked)
  | .ledg => s.ledgResetOk
  | .tally => !s.tallyHeld
  | .nvs => !s.nvsBusy && s.nvs.snap.isNone
  | .chand => !s.flashing
  | .axisGroup _ | .brgGroup _ | .reserved => false
  | _ => true

/-- The report of a refused UNIT_RESET, where its chapter names one. -/
def State.resetRefused (s : State) (page : Nat) : State :=
  match pageKind page with
  | .axis n => s.axisRefuse n 14
  | .tally => s.event tallyPage 8
  | _ => s

/-- What an accepted UNIT_RESET does to the unit. -/
def State.unitClear (s : State) (page : Nat) : State :=
  match pageKind page with
  | .axis n => s.axisReset n
  | .brg n => s.brgReset n
  | .gate => s.gateReset
  | .ledg => s.ledgReset
  | .tally => s.tallyReset
  | .emu => s.emuReset
  | .nvs => s.nvsReset
  | .dma => s.dmaReset
  | .tmr => s.tmrReset
  | .wmon => s.wmonReset
  | .cnv i => s.cnvReset i
  | .assay => s.assayReset
  | .fabric => s.fabricReset
  | .chand => s.chandReset
  | .lchain => s.lchainReset
  | .twin => s.twinReset.autoImage
  | .dev | .evt | .time | .mem | .supply | .table | .axisGroup _ | .brgGroup _ | .reserved => s

/-- UNIT_RESET: the page's unlock is cancelled, and the page is not ready until the reset completes (R67, R70). -/
def State.unitResetNow (s : State) (page : Nat) : State :=
  if s.resetAccepted page then ((s.unitClear page).setUnlock page false).setUnitReset page true else s.resetRefused page

/-- ENABLE of a page whose unit reacts to it. -/
def State.enableWrite (s : State) (page : Nat) (v : Word) : State :=
  let en := v.getLsbD 0
  match pageKind page with
  | .time => s.timeCtrl v
  | .axis n => s.axisEnable n en
  | .tally => s.tallyEnable en
  | .emu => s.emuEnable en
  | .lchain => s.chainEnable en
  | .fabric => s.fabricEnable en
  | .twin => s.twinEnable en
  | .wmon => s.wmonEnable en
  | .cnv i => s.cnvEnable i en
  | k => if alwaysEnabled k then s else s.setFld page 0x01 0 1 (if en then 1 else 0)

/-- CTRL: a word with UNIT_RESET acts as the reset alone. The bit is reserved on DEV. -/
def State.ctrlWrite (s : State) (page : Nat) (v : Word) : State :=
  if v.getLsbD 1 && page != devPage then s.unitResetNow page else s.enableWrite page v

/-! ### Unit registers (R18, R79) -/

/-- NVS.CMD, unlocked (R150). -/
def State.nvsCmd (s : State) (op : Nat) : State :=
  match op with
  | 1 => s.nvsAccept 1 State.nvsWriteNow
  | 2 => s.nvsAccept 2 State.nvsInvalidateNow
  | 3 => s.nvsAccept 3 (fun s => s.imageLoad false)
  | 4 => s.nvsAccept 4 State.nvsQueryNow
  | k => s.nvsAccept k id

def State.nvsWrite (s : State) (off : Nat) (v : Word) (unl : Bool) : State :=
  if off = 0x0C then (if unl then s.nvsCmd (fld v 0 3) else s) else (s.plainWrite nvsPage off v unl).1

/-- A wide value that takes effect on its high word (R79). -/
def State.wideWrite (s : State) (page offHi : Nat) (v : Wide) : State :=
  match pageKind page with
  | .axis n => s.axisWideWrite n offHi v
  | .ledg => s.ledgWideWrite offHi v
  | .tally => s.tallyWideWrite offHi v
  | .emu => s.emuWideWrite offHi v
  | .tmr => s.tmrWideWrite offHi v
  | .gate => s.gateWideWrite offHi v
  | _ => s.setWide page offHi v

/-- A word for a unit offset that is no half of such a value. -/
def State.wordWrite (s : State) (page off : Nat) (v : Word) (unl : Bool) : State :=
  match pageKind page with
  | .dev => s.devWrite off v unl
  | .evt => (s.plainWrite evtPage off v unl).1
  | .time => s.timeWrite off v unl
  | .mem => s.memWrite off v unl
  | .nvs => s.nvsWrite off v unl
  | .dma => s.dmaWrite off v unl
  | .tmr => s.tmrWrite off v unl
  | .wmon => s.wmonWrite off v unl
  | .cnv i => s.cnvWrite i off v unl
  | .assay => s.assayWrite off v unl
  | .tally => s.tallyWrite off v unl
  | .emu => s.emuWrite off v unl
  | .ledg => s.ledgWrite off v unl
  | .fabric => s.fabricWrite off v unl
  | .axis n => s.axisWrite n off v unl
  | .brg n => s.brgWrite n off v unl
  | .gate => s.gateWrite off v unl
  | .supply => s.supplyWrite off v unl
  | .chand => s.chandWrite off v unl
  | .lchain => s.lchainWrite off v unl
  | .twin => s.twinWrite off v unl
  | .table => s.tableWrite off v unl
  | .axisGroup _ | .brgGroup _ | .reserved => s

/-- Registers from 0x08 on. A low word waits for its high word; the high word takes the low word that waits, or else the
one in force. -/
def State.unitWrite (s : State) (page off : Nat) (v : Word) (unl : Bool) : State :=
  let k := pageKind page
  if isHeldLow k off then s.holdLow page off v
  else if isHeldLow k (off + 1) then
    let lo := (s.heldLow page (off + 1)).getD (s.peek false page (off + 1))
    (s.dropLow page (off + 1)).wideWrite page off (v.wide lo)
  else s.wordWrite page off v unl

/-- The common registers 0x01 to 0x06 and the unit's own (R84). What a write clears in EVENT, the hardware's events of the same
FBUS cycle set again after it (R19, log entry 103). -/
def State.offsetWrite (s : State) (page off : Nat) (v : Word) (unl : Bool) : State :=
  let k := pageKind page
  match off with
  | 0x00 | 0x02 => s
  | 0x01 => s.ctrlWrite page v
  | 0x03 => s.setReg page 0x03 (s.reg page 0x03 &&& ~~~v)
  | 0x04 => s.setReg page 0x04 (v &&& eventMask k)
  | 0x05 => s.setReg page 0x05 (v &&& routeMask (eventMask k) false)
  | 0x06 => s.setReg page 0x06 (v &&& routeMask (eventMask k) true)
  | _ => s.unitWrite page off v unl

/-- A word written to a page of a present unit that is ready. While TABLE is BUSY its writes are refused with no other effect
(R237), so that an unlock stands (DESIGN CHOICE, log entry 38). KEY unlocks or cancels; any other write consumes the unlock (R69,
R70). -/
def State.writeReg (s : State) (page off : Nat) (v : Word) : State :=
  if page = tablePage ∧ s.table.busy then s.tblRefuse
  else if off = 0x07 then s.setUnlock page (v == 0x7A5C#16)
  else
    let unl := s.unlocked page
    (s.setUnlock page false).offsetWrite page off v unl

/-! ### Targets (R54, R65, R67, R72 to R76) -/

inductive Target where
  | notReady | absent
  | group (members : List Nat)
  | unit
  deriving DecidableEq, Repr

/-- The members of a group: present, and with the group's bit in AXISn.GROUP (R72). -/
def State.members (s : State) (mask : Nat) (page : Ax → Nat) : List Nat :=
  (s.present.filter (fun n => mask == 8 || (s.regFld (axPage n) 0x08 0 3 &&& mask) != 0)).map page

/-- Is a page served in the present state (R54)? -/
def State.served (s : State) (page : Nat) : Bool :=
  !s.pwr.testHold && (decide (s.pwr.pstate ≠ .standby) || page == devPage)

/-- A unit in UNIT_RESET, or MEM while the SRAM is being cleared (R67, R135). -/
def State.unitBusy (s : State) (page : Nat) : Bool := s.inUnitReset page || (page == memPage && s.mem.init)

def State.target (s : State) (page : Nat) : Target :=
  if s.served page = false then .notReady
  else match pageKind page with
    | .axisGroup m => .group (s.members m axPage)
    | .brgGroup m => .group (s.members m brPage)
    | _ => if s.pagePresent page = false then .absent else if s.unitBusy page then .notReady else .unit

/-- A word delivered to each member that is not in UNIT_RESET (R72, R75). DESIGN CHOICE (log entry 79): offsets 0x00 and 0x02,
which R72 does not name, reach no member, so that a write there consumes no unlock. -/
def State.groupWrite (s : State) (members : List Nat) (off : Nat) (v : Word) : State :=
  if off = 0x00 ∨ off = 0x02 then s
  else members.foldl (fun s p => if s.unitBusy p then s else s.writeReg p off v) s

/-- What a group page reads: the OR of the members' STATUS and EVENT (R74). -/
def State.groupRead (s : State) (members : List Nat) (off : Nat) : Word :=
  if off = 0x02 ∨ off = 0x03 then members.foldl (fun w p => w ||| s.peek false p off) 0#16 else 0#16

/-- A write that reaches its page, whoever makes it: nothing where the page is not ready, a count where it is absent. -/
def State.busWrite (s : State) (page off : Nat) (v : Word) : State :=
  match s.target page with
  | .notReady => s
  | .absent => s.count devPage 0x17
  | .group ms => s.groupWrite ms off v
  | .unit => s.writeReg page off v

/-- A read that reaches its page. -/
def State.busRead (s : State) (dma secRead : Bool) (page off : Nat) : Word × State :=
  match s.target page with
  | .notReady | .absent => (0#16, s)
  | .group ms => (s.groupRead ms off, s)
  | .unit => s.readReg dma secRead page off

/-! ### Frames (R53 to R65) -/

def State.modSpi (s : State) (f : Spi → Spi) : State := { s with spi := f s.spi }

/-- The host port lives: out of reset, with VIO (R35, R43). -/
def State.portLive (s : State) : Bool := !s.pwr.testHold && s.sup.vio

/-- The status byte of a frame that starts now (R65). -/
def State.statusByte (s : State) : Byte :=
  (flagWord [false, false, false, false, s.spi.bcast, s.spi.absent, s.spi.notReady, s.spi.crcErr] 0 ||| s.irqLines).setWidth 8

def hiByte (w : Word) : Byte := w.extractLsb' 8 8
def loByte (w : Word) : Byte := w.extractLsb' 0 8
def wordBytes (ws : List Word) : List Byte := ws.flatMap (fun w => [hiByte w, loByte w])

/-- MISO with its CRC (R63). -/
def withCrc (bytes : List Byte) : List Byte := bytes ++ [crc8 bytes]

def State.singleMiso (s : State) : List Byte := withCrc [s.statusByte, s.spi.echo, hiByte s.spi.data, loByte s.spi.data]
def State.writeMiso (s : State) (n : Nat) : List Byte := withCrc ([s.statusByte, s.spi.echo] ++ List.replicate (2 * n) 0#8)
def State.readMiso (s : State) (ws : List Word) : List Byte :=
  withCrc ([s.statusByte, s.spi.echo, 0#8, 0#8] ++ wordBytes ws)

/-- MISO of a rejected frame of `len` bytes: the form its command byte names, with the CRC last (DEDUCED, log entry 90). DESIGN
CHOICE (log entry 93): a burst read rejected for its length has fetched nothing, and shows 0x0000 for its data words. -/
def State.rejectedMiso (s : State) (bytes : List Byte) : List Byte :=
  let len := bytes.length
  match bytes with
  | [] => []
  | b0 :: _ =>
    let body := if b0.getLsbD 6 then [s.statusByte, s.spi.echo] else [s.statusByte, s.spi.echo, hiByte s.spi.data, loByte s.spi.data]
    let body := (body ++ List.replicate len 0#8).take (len - 1)
    if 3 ≤ len then withCrc body else body ++ List.replicate (len - body.length) 0#8

/-- A single read that waits when a later frame ends leaves its word to no frame (R64). -/
def PortAccess.older : PortAccess → PortAccess
  | .read page off _ => .read page off false
  | a => a

/-- What the page a frame addresses gives the next status byte (R65). -/
def State.noteTarget (s : State) (t : Target) (read : Bool) : State :=
  s.modSpi (fun p => match t with
    | .notReady => { p with notReady := true }
    | .absent => { p with absent := true }
    | .group _ => { p with bcast := p.bcast || read }
    | .unit => p)

/-- A frame for `page` with a good CRC: the watchdog restarts (R80, R107), and the next frame reports this one (R63 to R65).
DESIGN CHOICE (log entry 93): while a single read still waits behind a full window buffer the next single frame's data word is
0x0000. -/
def State.frameSeen (s : State) (miso : List Byte) (page off : Nat) (data : Word) (read : Bool) : State :=
  ((s.modPwr (fun p => { p with hostExpired := false })).modSpi (fun p =>
    { waiting := p.waiting.map PortAccess.older, miso := miso, echo := BitVec.ofNat 8 off, data := data })).noteTarget
      (s.target page) read

/-- Must the access wait for room in the window's buffer (R60, R142)? -/
def State.mustWait (s : State) : PortAccess → Bool
  | .write page off _ => page == memPage && off == 0x0A && decide (s.target page = .unit) && s.winFull
  | .group .. | .read .. => false

/-- An access whose page has stopped being ready since its frame was judged, by a UNIT_RESET before it, has no effect and is
reported as such (R67). DESIGN CHOICE (log entry 8): by NOTREADY in the status byte of the next frame that begins after the access has
run, which R65 gives for an access of the frame before. -/
def State.noteLate (s : State) (page : Nat) : State :=
  if s.target page = .notReady then s.modSpi (fun p => { p with notReady := true }) else s

/-- One access of a frame. A single read leaves its word for the next frame. -/
def State.portDo (s : State) (a : PortAccess) : State :=
  match a with
  | .write page off v => (s.noteLate page).busWrite page off v
  | .group ms off v => s.groupWrite ms off v
  | .read page off last =>
    let (w, s) := (s.noteLate page).busRead false false page off
    { s.modSpi (fun p => if last then { p with data := w } else p) with rdata := w }

/-- The accesses in their order, up to one that must wait (R56, R142). DESIGN CHOICE (log entry 93): the words of a burst that
follow one which resets the device are still written, after the reset. -/
def State.portRun (s : State) : List PortAccess → State
  | [] => s.modSpi (fun p => { p with waiting := [] })
  | a :: l => if s.mustWait a then s.modSpi (fun p => { p with waiting := a :: l }) else (s.portDo a).portRun l

/-- Accesses of a new frame, behind those that wait. -/
def State.portAdd (s : State) (l : List PortAccess) : State := s.portRun (s.spi.waiting ++ l)

/-- A read frame for a page that is not ready fetches nothing and answers 0x0000 (R67). -/
def State.singleRead (s : State) (page off : Nat) : State :=
  if s.portLive then
    let t := s.frameSeen s.singleMiso page off 0#16 true
    if s.target page = .notReady then { t with rdata := 0#16 } else t.portAdd [.read page off true]
  else s

/-- The offset of word `k` of a burst (R61). -/
def burstOff (page off k : Nat) : Nat := if isPort page off then off else (off + k) % 256

/-- The accesses of a write frame, judged when its CRC passes: none where the page is not ready (R67), and for a group those of
its members that are ready (R73, R75). -/
def State.burstAccesses (s : State) (page off : Nat) (ws : List Word) : List PortAccess :=
  let l := ws.zip (List.range ws.length)
  match s.target page with
  | .notReady => []
  | .group ms => l.map (fun e => .group (ms.filter (fun p => !s.unitBusy p)) (burstOff page off e.2) e.1)
  | _ => l.map (fun e => .write page (burstOff page off e.2) e.1)

def State.singleWrite (s : State) (page off : Nat) (v : Word) : State :=
  if s.portLive then
    let acc := s.burstAccesses page off [v]
    (s.frameSeen s.singleMiso page off v false).portAdd acc
  else s

def State.burstWrite (s : State) (page off : Nat) (ws : List Word) : State :=
  if s.portLive then
    let acc := s.burstAccesses page off ws
    (s.frameSeen (s.writeMiso ws.length) page off 0#16 false).portAdd acc
  else s

/-- What waits behind a full buffer is done before a burst read fetches its words (DESIGN CHOICE, log entry 46). -/
def State.portFlush (s : State) : Nat → State
  | 0 => s
  | k + 1 => if s.spi.waiting = [] then s else ((s.winDrain).portRun s.spi.waiting).portFlush k

/-- The words of a burst read, with the state after their side effects (R62). -/
def State.burstFetch (s : State) (page off : Nat) : Nat → Nat → Bool → List Word × State
  | 0, _, _ => ([], s)
  | n + 1, k, sec =>
    let o := burstOff page off k
    let (w, s1) := s.busRead false sec page o
    let (ws, s2) := s1.burstFetch page off n (k + 1) (sec || (page == timePage && o == 0x08))
    (w :: ws, s2)

/-- A burst read. DESIGN CHOICE (log entry 119): one that fails its CRC reports CRC_ERR alone. -/
def State.burstRead (s : State) (page off n : Nat) (crcOk : Bool) : State :=
  if s.portLive then
    let old := s
    let s := s.portFlush s.spi.waiting.length
    let u := s
    let (ws, s) := s.burstFetch page off n 0 false
    let s := { s with rdata := (ws.getLast?).getD s.rdata }
    let miso := old.readMiso ws
    if crcOk then
      let next := (u.frameSeen miso page off 0#16 true).spi
      (s.modPwr (fun p => { p with hostExpired := false })).modSpi (fun p => { next with waiting := p.waiting })
    else s.modSpi (fun p => { waiting := p.waiting.map PortAccess.older, miso := miso, crcErr := true })
  else s

/-- A rejected frame has no effect but the report (R55, R59), which is CRC_ERR alone (DESIGN CHOICE, log entry 119). -/
def State.frameBad (s : State) (bytes : List Byte) : State :=
  if s.portLive then s.modSpi (fun p => { waiting := p.waiting.map PortAccess.older, miso := s.rejectedMiso bytes, crcErr := true }) else s

/-- The window has room again: the accesses that wait go on (R142). -/
def State.portResume (s : State) : State := if s.spi.waiting = [] then s else s.portRun s.spi.waiting

end Sys2Proof.Machine
end

