-- ==== Sys2Proof/Machine/Engine.lean ====
section
/-! DEFINITION. The two masters inside the device that access registers as a host frame does: the DMA engine (R124, R125,
R128, R129) and the configuration image (R154, R155). -/

namespace Sys2Proof.Machine

/-! ### DMA: the words of a burst -/

/-- Is an address outside R124, or a register that DMA may not access (ERR 1)? -/
def State.dmaAddrBad (s : State) (kind a : Nat) (dst : Bool) : Bool :=
  if kind = 0 then a % 2 == 1 || !(inSram a || (!dst && inStore a))
  else
    let page := a / 256
    decide (0x4000 ≤ a) || page == dmaPage || (match pageKind page with
      | .axisGroup _ | .brgGroup _ => false
      | _ => !s.pagePresent page)

/-- A register write that SAFE forbids (ERR 5). -/
def State.dmaSafeBad (s : State) (kind a : Nat) : Bool :=
  let page := a / 256
  decide (s.pwr.pstate = .safe) && kind == 1
    && (decide (0x10 ≤ page ∧ page < 0x31) || page == chandPage)

/-- Must the word wait: for the SRAM initialisation (R135), for a UNIT_RESET (R125), for room in the window's buffer
(R142)? -/
def State.dmaMustWait (s : State) (kind a : Nat) (dst : Bool) : Bool :=
  if kind = 0 then inSram a && s.mem.init
  else
    let page := a / 256
    match s.target page with
    | .group ms => ms.any s.unitBusy
    | .notReady => true
    | _ => dst && page == memPage && a % 256 == 0x0A && s.winFull

/-- The address of the next word (R124). -/
def dmaStepAddr (kind a : Nat) (inc : Bool) : Wide :=
  if inc = false then BitVec.ofNat 32 a
  else if kind = 0 then BitVec.ofNat 32 (a + 2)
  else if isPort (a / 256) (a % 256) then BitVec.ofNat 32 a
  else BitVec.ofNat 32 (a / 256 * 256 + (a % 256 + 1) % 256)

/-- The word read, and whether it was uncorrectable. A register read has the effect of a frame's read; DESIGN CHOICE (log entry 120):
of WIN_DATA the window is the reader, so that a word that is uncorrectable there is reported by MEM, moved as stored and halts no
channel. -/
def State.dmaFetch (s : State) (kind a : Nat) (sec : Bool) : Word × Bool × State :=
  if kind = 0 then (if inSram a then s.sramRead a .dma else s.mramRead a)
  else
    let (w, s) := s.busRead true sec (a / 256) (a % 256)
    (w, false, s)

def State.dmaPut (s : State) (kind a : Nat) (w : Word) : State :=
  if kind = 0 then s.sramStore a w else s.busWrite (a / 256) (a % 256) w

/-- What the engine did with a word. -/
inductive DmaGo where
  | moved | waits | halted
  deriving DecidableEq, Repr

/-- One word of the granted burst. -/
def State.dmaWord (s : State) (n : Fin 8) : DmaGo × State :=
  let c := s.dmaCh n
  let sk := fld c.d0 0 2
  let dk := fld c.d0 2 2
  let sa := c.src.toNat
  let da := c.dst.toNat
  if s.dmaAddrBad sk sa false || s.dmaAddrBad dk da true then (.halted, s.dmaHalt n 1)
  else if s.dmaSafeBad dk da then (.halted, s.dmaHalt n 5)
  else if s.dmaMustWait sk sa false || s.dmaMustWait dk da true then (.waits, s)
  else
    let (w, ue, s) := s.dmaFetch sk sa c.secRead
    if ue then (.halted, s.dmaHalt n 2)
    else
      let s := s.modDma n (fun c => { c with
        remain := c.remain - 1, left := c.left - 1, secRead := c.secRead || (sk == 1 && sa == timePage * 256 + 8)
        src := dmaStepAddr sk sa (c.d0.getLsbD 4), dst := dmaStepAddr dk da (c.d0.getLsbD 5) })
      (.moved, s.dmaPut dk da w)

/-- The words of the granted burst, until it ends, must wait, halts, is stopped or is lost to a reset. -/
def State.dmaWords (n : Fin 8) : Nat → State → State
  | 0, s => s
  | k + 1, s =>
    match s.dmaWord n with
    | (.moved, s) =>
      if s.dma.granted ≠ some n then s
      else if (s.dmaCh n).stopReq then s.modDma n (fun c => { c with left := 0 })
      else State.dmaWords n k s
    | (_, s) => s

/-- Words per request (R123, R126). DESIGN CHOICE (log entry 86): a request that meets the end of COUNT ends there, and its rest does not
go on in a chained descriptor. -/
def burstLen (d0 : Word) (remain : Nat) : Nat :=
  if d0.getLsbD 11 then remain else min remain (2 ^ fld d0 8 3)

/-- The engine: the granted burst goes on, or the lowest ACTIVE channel is granted (R128); up to `k` words move. -/
def State.dmaGrant (s : State) (k : Nat) : State :=
  if s.dmaLive = false then s
  else match s.dma.granted with
    | some n => State.dmaWords n (min k (s.dmaCh n).left) s
    | none =>
      match allChans.find? (fun n => decide ((s.dmaCh n).st = .active) && !(s.dmaCh n).loading) with
      | none => s
      | some n =>
        let s := { s with dma := { s.dma with granted := some n } }
        let s := s.modDma n (fun c => { c with left := burstLen c.d0 c.remain, secRead := false })
        State.dmaWords n (min k (s.dmaCh n).left) s

/-! ### The configuration image -/

/-- Registers that the image may not write (R155). -/
def imageBarred (page off : Nat) : Bool :=
  page == nvsPage || (page == devPage && (off == 0x15 || off == 0x0B || off == 0x1B)) || decide (0x36 ≤ page)

/-- One word of an entry. A WIN_DATA write that finds the buffer full waits until a word has drained (R142); nothing else
of the device waits for it. -/
def State.imageWord (s : State) (a : PortAccess) : State :=
  match a with
  | .write page off v => (if s.mustWait a then s.winDrain else s).busWrite page off v
  | .group ms off v => s.groupWrite ms off v
  | .read .. => s

/-- One entry with the effect of a host frame; an entry with a barred register is skipped and counted (R155). -/
def State.imageEntry (s : State) (page off : Nat) (keyed : Bool) (ws : List Word) : State :=
  if (List.range ws.length).any (fun k => imageBarred page (burstOff page off k)) then s.count nvsPage 0x14
  else
    let s := if keyed then s.busWrite page 0x07 0x7A5C#16 else s
    (s.burstAccesses page off ws).foldl State.imageWord s

def State.imageLeft (s : State) (l : List Word) (wait : Bool) : State :=
  s.modNvs (fun g => if g.image.isSome then { g with image := some l, imgWait := wait } else g)

/-- The entries up to the next WAIT or the end. A reset that a word causes drops the image. -/
def State.imageGo : Nat → List Word → State → State
  | 0, _, s => s
  | _ + 1, [], s => s.imageLeft [] false
  | k + 1, h :: l, s =>
    if s.nvs.image.isNone then s
    else
      let page := fld h 8 6
      let off := fld h 0 8
      match fld h 14 2 with
      | 0 => State.imageGo k (l.drop 1) (s.imageEntry page off false (l.take 1))
      | 1 =>
        let m := (wordAt l 0).toNat
        State.imageGo k (l.drop (1 + m)) (s.imageEntry page off false ((l.drop 1).take m))
      | 2 => State.imageGo k (l.drop 1) (s.imageEntry page off true (l.take 1))
      | _ => s.imageLeft l true

/-- The image goes on, unless it waits. -/
def State.imageRun (s : State) : State :=
  match s.nvs.image with
  | some l => if s.nvs.imgWait then s else State.imageGo (l.length + 1) l s
  | none => s

/-- An AUTO image that waits for the store's engine begins once that is idle (R155; log entry 77), and an image that is being
applied goes on. -/
def State.engineGo (s : State) : State := s.autoImage.imageRun

/-- A WAIT ends (R154). -/
def State.imageWaitOver (s : State) : State :=
  if s.nvs.imgWait then (s.modNvs (fun g => { g with imgWait := false })).imageRun else s

/-- The last entry is applied (R155). -/
def State.imageDone (s : State) : State :=
  if s.nvs.image = some [] ∧ s.nvs.imgWait = false then (s.modNvs (fun g => { g with image := none })).nvsEvent 5 else s

end Sys2Proof.Machine
end

