-- ==== Sys2Proof/Machine/Tick.lean ====
section
/-! DEFINITION. One ramp tick (R186): machine time, the tick counters, STOP_N, the pending requests, every channel, the
ledgers, the setpoints, and the position triggers and emulators that follow axes. -/

namespace Sys2Proof.Machine

/-- One axis before the ledgers: its motion, and what its new position shows. The tick's motion event goes to the
ledger. -/
def State.axisTick (s : State) (n : Ax) : MEv × State :=
  let old := s.position n
  let (ev, s) := (s.settleTick n).axisMotion n
  let s := ((s.stallTick n old).deviationTick n).limitTick n
  (ev, s)

/-- The present axes in order, with their events. -/
def State.axesTick (s : State) : List Ax → List (Ax × MEv) × State
  | [] => ([], s)
  | n :: l =>
    let (ev, s) := s.axisTick n
    let (evs, s) := s.axesTick l
    ((n, ev) :: evs, s)

/-- The ledgers: barriers, progress, and the records that start on this tick (R212, R219). -/
def State.ledgersTick (s : State) (evs : List (Ax × MEv)) : State :=
  evs.foldl (fun s e => s.ledgerTick e.1 e.2) s.releaseBarriers

/-- The setpoints of this tick, for the next one (R27, R186). -/
def State.setpointsTick (s : State) : State := s.forAxes s.present (fun n s => s.currentTick n)

/-- Triggers and emulators whose source is an axis (R321, R323). -/
def State.axisSources (s : State) : State := s.forAxes s.present (fun n s => s.sourceMoved (n.val + 1))

/-- One tick, with the level of STOP_N in it. The block has no ticks in STANDBY or in reset. -/
def State.rampTickNow (s : State) (stopNHigh : Bool) : State :=
  if s.awake = false then s
  else
    let t := s.timeTick
    let ns := (t.time.total - (s.time.total - s.time.run)) / nsUnit
    let s := (t.encTicks).chainTick
    let s := s.forAxes s.present (fun n s => s.dieTick ns n)
    let s := if s.part.hasGate then s.gateClock ns else s
    let s := s.forAxes s.present (fun n s => s.setpointsIn n)
    let s := s.stopTick stopNHigh
    let s := s.forAxes s.present (fun n s => s.judgeRequests n)
    let (evs, s) := s.axesTick s.present
    let s := (s.ledgersTick evs).setpointsTick
    let s := if s.part.hasGate then s.gateTick.bstWatch else s
    (s.axisSources).stopClear stopNHigh

/-! ### Records that end by a count of ticks (R210, R216): the next one starts on the tick just made -/

/-- The record that runs in an axis's ledger, where it is of this type and its count has run out. -/
def State.countOver (s : State) (n : Ax) (type : Nat) : Option LRec :=
  let l := s.ledger n
  if (s.axis n).mode = .ledger ∧ (s.axis n).stopping = none then
    match l.run, l.loaded with
    | some u, r :: _ => if r.type = type ∧ u.left = 0 then some r else none
    | _, _ => none
  else none

def State.dwellOver (s : State) (n : Ax) : State :=
  match s.countOver n 3 with
  | some r => (State.runRecords n 4 (s.completeRecord n r)).currentAgain n
  | none => s

def State.waitOver (s : State) (n : Ax) : State :=
  match s.countOver n 7 with
  | some r =>
    if r.target = 0#32 then s else (State.runRecords n 4 ((s.ledgFlag n 7).completeRecord n r)).currentAgain n
  | none => s

/-! ### The settle check (R201) -/

/-- Mode 2: a move of DEVIATION microsteps under the jog limits, which the next record waits for. It runs in LEDGER mode
with limits that can move the axis (DEDUCED, log entry 27). -/
def State.settleMove (s : State) (n : Ax) (dev : Int) : State :=
  let a := s.axis n
  let jog := s.jogLimits n
  if dev ≠ 0 ∧ a.mode = .ledger ∧ a.stopping = none ∧ jog.vmax ≠ 0 ∧ jog.amax ≠ 0 ∧ jog.dmax ≠ 0 then
    (s.planMove n (s.position n + dev) jog).modAxis n (fun a => { a with correcting := true })
  else s

/-- The check, once SETTLE_TIME has passed: Q is POSITION - DEVIATION. -/
def State.settleNow (s : State) (n : Ax) : State :=
  if (s.axis n).settleLeft = some 0 then
    let pg := axPage n
    let dev := (s.wide pg 0x3A).toInt
    let s := s.modAxis n (fun a => { a with settleLeft := none })
    let s := if dev.natAbs ≤ (s.reg pg 0x3E).toNat then
        match s.regFld pg 0x0B 6 2 with
        | 1 => (s.loadPosition n (BitVec.ofInt 32 (s.position n - dev)).toInt).setWide pg 0x3A 0#32
        | 2 => s.settleMove n dev
        | _ => s
      else s.modAxis n (fun a => { a with settleOut := true })
    s.event pg 8
  else s

end Sys2Proof.Machine
end

