-- ==== Sys2Proof/Machine/Operands.lean ====
section
/-! DEFINITION. What the operands of a register command name: the register's offset, and the access that carries the value.
A register command of the table is the access of a host frame to that register; the frame itself, with its CRC, its status
byte and the watchdog, belongs to the rows of the host port (DESIGN CHOICE, log entry 28). -/

namespace Sys2Proof

/-- The high word's offset in AXISn (R202). -/
def JogReg.off : JogReg → Nat
  | .vmax => 0x1C
  | .amax => 0x1E
  | .dmax => 0x20
  | .jmax => 0x22
  | .stopDecel => 0x26
  | .stopJerk => 0x28

end Sys2Proof

namespace Sys2Proof.Machine

/-! ### Accesses -/

/-- The accesses that wait behind a full window buffer get further ones (R142). -/
def State.accessLater (s : State) (l : List PortAccess) : State :=
  s.modSpi (fun p => { p with waiting := p.waiting ++ l })

/-- A word written by the host: behind what waits, or at once. An image that the write starts runs its entries. -/
def State.access (s : State) (page off : Nat) (v : Word) : State :=
  if s.spi.waiting ≠ [] ∨ s.mustWait (.write page off v) then s.accessLater (s.burstAccesses page off [v])
  else (s.busWrite page off v).imageRun

/-- A wide value written in the order of R79: the low word, then the high word. -/
def State.accessWide (s : State) (page offHi : Nat) (v : Wide) : State :=
  (s.access page (offHi + 1) v.lo).access page offHi v.hi

/-- A register read by the host, with the side effects of the read. -/
def State.accessRead (s : State) (page off : Nat) (secRead : Bool) : State :=
  if s.target page = .notReady then { s with rdata := 0#16 }
  else if s.spi.waiting ≠ [] then s.accessLater [.read page off false]
  else
    let (w, s) := s.busRead false secRead page off
    { s with rdata := w }

/-! ### Guards of the commands that come from the power stage -/

/-- An event of an axis that the part does not have does not come. -/
def State.onAxis (s : State) (n : Ax) (f : State → State) : State := if s.hasAxis n then f s else s

end Sys2Proof.Machine
end

