-- ==== Sys2Proof/Machine/AxisCmds.lean ====
section
/-! DEFINITION. The meanings of the commands of the ramp engine and the axes (R176 to R202), and of STOP_N and FRZ (R195, R196). -/

namespace Sys2Proof.Machine

/-- RAMP_TICK (R27, R186 to R201, R210 to R221, R230, R251 to R255, R307). -/
def execRampTick (stopNHigh : Bool) (s : State) : Host.Outcome State Fault Refusal := .next (s.rampTickNow stopNHigh)

/-- MODE_CMD (R177): a request, judged at the next tick. -/
def execModeCmd (n : Ax) (v : Word) (s : State) : Host.Outcome State Fault Refusal := .next (s.access (axPage n) 0x09 v)

/-- AXIS_STOP (R194): CMD.STOP. -/
def execAxisStop (n : Ax) (s : State) : Host.Outcome State Fault Refusal := .next (s.access (axPage n) 0x0A 0x0001#16)

/-- APPLY_RT (R189): CMD.APPLY_RT, judged at the next tick. -/
def execApplyRt (n : Ax) (s : State) : Host.Outcome State Fault Refusal := .next (s.access (axPage n) 0x0A 0x0002#16)

/-- SET_POS (R184): CMD.SET_POS, judged at the next tick. -/
def execSetPos (n : Ax) (s : State) : Host.Outcome State Fault Refusal := .next (s.access (axPage n) 0x0A 0x0004#16)

/-- ENC_ALIGN (R199): CMD.ENC_ALIGN, made at the next tick. -/
def execEncAlign (n : Ax) (s : State) : Host.Outcome State Fault Refusal := .next (s.access (axPage n) 0x0A 0x0008#16)

/-- CLR_OVERSHOOT (R191). -/
def execClrOvershoot (n : Ax) (s : State) : Host.Outcome State Fault Refusal := .next (s.access (axPage n) 0x0A 0x0010#16)

/-- VCMD_WRITE (R79, R192). -/
def execVcmdWrite (n : Ax) (v : Wide) (s : State) : Host.Outcome State Fault Refusal :=
  .next (s.accessWide (axPage n) 0x24 v)

/-- JOG_LIMIT_WRITE (R183, R188). -/
def execJogLimitWrite (n : Ax) (reg : JogReg) (v : Wide) (s : State) : Host.Outcome State Fault Refusal :=
  .next (s.accessWide (axPage n) reg.off v)

/-- POS_LIMIT_WRITE (R193). -/
def execPosLimitWrite (n : Ax) (hi : Bool) (v : Wide) (s : State) : Host.Outcome State Fault Refusal :=
  .next (s.accessWide (axPage n) (if hi then 0x2C else 0x2A) v)

/-- AXIS_CFG_WRITE (R184, R193). -/
def execAxisCfgWrite (n : Ax) (v : Word) (s : State) : Host.Outcome State Fault Refusal :=
  .next (s.access (axPage n) 0x0B v)

/-- AXIS_ENABLE_WRITE (R181). -/
def execAxisEnableWrite (n : Ax) (en : Bool) (s : State) : Host.Outcome State Fault Refusal :=
  .next (s.access (axPage n) 0x01 (flag en 0))

/-- SETTLE_CHECK (R201). -/
def execSettleCheck (n : Ax) (s : State) : Host.Outcome State Fault Refusal := .next (s.settleNow n)

/-- STOP_N_LATCH (R195): the latch acts in the next tick. -/
def execStopNLatch (lowNs : Nat) (s : State) : Host.Outcome State Fault Refusal := .next (s.stopLatch lowNs)

/-- FRZ_RISE (R196, R297). -/
def execFrzRise (s : State) : Host.Outcome State Fault Refusal := .next s.frzUp

/-- FRZ_FALL (R196). -/
def execFrzFall (s : State) : Host.Outcome State Fault Refusal := .next s.frzDown

end Sys2Proof.Machine
end

