-- ==== Sys2Proof/Machine/BridgeCmds.lean ====
section
/-! DEFINITION. The meanings of the commands of current regulation, the tables and characterisation (R229 to R266). -/

namespace Sys2Proof.Machine

/-- STANDSTILL_DELAY_EXPIRY (R230). -/
def execStandstillDelayExpiry (n : Ax) (s : State) : Host.Outcome State Fault Refusal := .next (s.standstill n)

/-- TABLE_SEL_WRITE (R235). -/
def execTableSelWrite (n : Ax) (v : Word) (s : State) : Host.Outcome State Fault Refusal :=
  .next (s.access (brPage n) 0x0E v)

/-- TABLE_DATA_WRITE (R236, R237). -/
def execTableDataWrite (v : Word) (s : State) : Host.Outcome State Fault Refusal := .next (s.access tablePage 0x0A v)

/-- TABLE_DATA_READ (R236). -/
def execTableDataRead (s : State) : Host.Outcome State Fault Refusal := .next (s.accessRead tablePage 0x0A false)

/-- TABLE_COMMIT (R236, R237). -/
def execTableCommit (s : State) : Host.Outcome State Fault Refusal := .next (s.access tablePage 0x0B 0x0001#16)

/-- TABLE_COMMIT_DONE (R236). -/
def execTableCommitDone (s : State) : Host.Outcome State Fault Refusal := .next s.tblCommitDone

/-- TABLE_INVALIDATE (R237). -/
def execTableInvalidate (s : State) : Host.Outcome State Fault Refusal := .next (s.access tablePage 0x0B 0x0002#16)

/-- APPLY_CHOP (R244). -/
def execApplyChop (n : Ax) (s : State) : Host.Outcome State Fault Refusal := .next (s.access (brPage n) 0x17 0x0001#16)

/-- READBACK_WRITE (R248). -/
def execReadbackWrite (n : Ax) (v : Word) (s : State) : Host.Outcome State Fault Refusal :=
  .next (s.access (brPage n) 0x25 v)

/-- COMPARATOR_CROSSING (R241, R245, R247): at the bridge die's time `t`, and `cycles` core clock cycles after the last ramp
tick. -/
def execComparatorCrossing (n : Ax) (ph : Phase) (upper : Bool) (t : Nat) (s : State) (cycles : Nat := 0) :
    Host.Outcome State Fault Refusal :=
  .next ((s.timeAt cycles).crossing n ph upper t)

/-- CHOP_MIN_TIME_END (R241). -/
def execChopMinTimeEnd (n : Ax) (ph : Phase) (t : Nat) (s : State) : Host.Outcome State Fault Refusal :=
  .next (s.minTimeEnd n ph t)

/-- CHOP_SLOW (R241). -/
def execChopSlow (n : Ax) (ph : Phase) (t : Nat) (s : State) : Host.Outcome State Fault Refusal :=
  .next (s.chopCut n ph t)

/-- CHOP_PWM_PERIOD (R242). -/
def execChopPwmPeriod (n : Ax) (ph : Phase) (ending : Bool) (t : Nat) (s : State) : Host.Outcome State Fault Refusal :=
  .next (s.pwmPeriod n ph ending t)

/-- CHAR_STEP_DONE (R258 to R263). -/
def execCharStepDone (n : Ax) (m : CharMeas) (s : State) : Host.Outcome State Fault Refusal :=
  .next (s.onAxis n (fun s => s.charStepEnd n m))

/-- CHAR_STEP_TIMEOUT (R258). -/
def execCharStepTimeout (n : Ax) (s : State) : Host.Outcome State Fault Refusal :=
  .next (s.onAxis n (fun s => s.charOverrun n))

/-- SELFTEST_SWITCH_TIMEOUT (R258). -/
def execSelftestSwitchTimeout (n : Ax) (sw : Fin 8) (s : State) : Host.Outcome State Fault Refusal :=
  .next (s.onAxis n (fun s => s.selftestFail n sw))

/-- ACCEPT (R261, R263). -/
def execAccept (n : Ax) (s : State) : Host.Outcome State Fault Refusal := .next (s.access (axPage n) 0x5A 0x0001#16)

/-- SAVE (R261). -/
def execSave (n : Ax) (s : State) : Host.Outcome State Fault Refusal := .next (s.access (axPage n) 0x5A 0x0002#16)

/-- DISCARD (R261). -/
def execDiscard (n : Ax) (s : State) : Host.Outcome State Fault Refusal := .next (s.access (axPage n) 0x5A 0x0004#16)

end Sys2Proof.Machine
end

