-- ==== Sys2Proof/Machine/ConvCmds.lean ====
section
/-! DEFINITION. The meanings of the commands of the converters, the Assayer and the window monitors (R346 to R374). -/

namespace Sys2Proof.Machine

/-- GO (R356). -/
def execGo (c : Conv) (s : State) : Host.Outcome State Fault Refusal :=
  .next (s.access (cnvPage (convIdx c)) 0x09 0x0001#16)

/-- HALT (R357). -/
def execHalt (c : Conv) (s : State) : Host.Outcome State Fault Refusal :=
  .next (s.access (cnvPage (convIdx c)) 0x09 0x0002#16)

/-- INJECT (R358). -/
def execInject (c : Conv) (s : State) : Host.Outcome State Fault Refusal :=
  .next (s.access (cnvPage (convIdx c)) 0x09 0x0004#16)

/-- CAL_NOW (R359). -/
def execCalNow (c : Conv) (s : State) : Host.Outcome State Fault Refusal :=
  .next (s.access (cnvPage (convIdx c)) 0x09 0x0008#16)

/-- CNV_STARTUP_END (R355). -/
def execCnvStartupEnd (c : Conv) (s : State) : Host.Outcome State Fault Refusal := .next (s.startupEnd (convIdx c))

/-- CNV_DELAY_END (R355). -/
def execCnvDelayEnd (c : Conv) (s : State) : Host.Outcome State Fault Refusal := .next (s.delayEnd (convIdx c))

/-- CNV_CONVERSION_DONE (R351 to R362, R365 to R367, R388): the voltage on the input and the converter's own error, in codes
of 3 V / 2^24. -/
def execCnvConversionDone (c : Conv) (vin : Int) (s : State) (err : Int := 0) : Host.Outcome State Fault Refusal :=
  .next (s.conversionDone (convIdx c) vin err)

/-- CNV_STREAM_RESULT (R355). -/
def execCnvStreamResult (c : Conv) (vin : Int) (s : State) (err : Int := 0) : Host.Outcome State Fault Refusal :=
  .next (s.streamResult (convIdx c) vin err)

/-- CNV_CFG_WRITE (R357). -/
def execCnvCfgWrite (c : Conv) (v : Word) (s : State) : Host.Outcome State Fault Refusal :=
  .next (s.access (cnvPage (convIdx c)) 0x08 v)

/-- CAL_SLOT_START (R359). -/
def execCalSlotStart (c : Conv) (s : State) : Host.Outcome State Fault Refusal := .next (s.calSlot (convIdx c))

/-- BG_FORCED (R359). -/
def execBgForced (c : Conv) (s : State) : Host.Outcome State Fault Refusal := .next (s.bgForcedNow (convIdx c))

/-- RUN (R365). -/
def execRun (s : State) : Host.Outcome State Fault Refusal := .next (s.access assayPage 0x09 0x0001#16)

/-- ASSAY_PERIODIC_START (R365). -/
def execAssayPeriodicStart (s : State) : Host.Outcome State Fault Refusal := .next s.assayPeriodic

/-- WMON_COMPARE (R368 to R370). -/
def execWmonCompare (m : Fin 8) (x : WmonIn) (s : State) : Host.Outcome State Fault Refusal :=
  .next (s.wmonCompareNow m x)

/-- WMON_THRESHOLD_WRITE (R371). -/
def execWmonThresholdWrite (m : Fin 8) (hi : Bool) (v : Word) (s : State) : Host.Outcome State Fault Refusal :=
  .next (s.access wmonPage (0x10 + 2 * m.val + (if hi then 1 else 0)) v)

end Sys2Proof.Machine
end

