-- ==== Sys2Proof/Machine/GateCmds.lean ====
section
/-! DEFINITION. The meanings of the commands of the gate port (R295 to R308). -/

namespace Sys2Proof.Machine

/-- START (R296). -/
def execStart (s : State) : Host.Outcome State Fault Refusal := .next (s.access gatePage 0x08 0x0001#16)

/-- STOP (R297). -/
def execStop (s : State) : Host.Outcome State Fault Refusal := .next (s.access gatePage 0x08 0x0002#16)

/-- APPLY_TABLE (R299). -/
def execApplyTable (s : State) : Host.Outcome State Fault Refusal := .next (s.access gatePage 0x08 0x0004#16)

/-- APPLY_DRIVE (R303). -/
def execApplyDrive (s : State) : Host.Outcome State Fault Refusal := .next (s.access gatePage 0x08 0x0008#16)

/-- PRECHARGE_END (R296, R304): PRECHARGE counts only while GATE_EN is high. -/
def execPrechargeEnd (s : State) : Host.Outcome State Fault Refusal :=
  .next (if s.part.hasGate ∧ s.gate.st = .precharge ∧ s.pins.gateEn then s.gateRun.bstWatch else s)

/-- HALL_CODE_CHANGE (R299 to R301, R306), with its stamp in 5 ns units. -/
def execHallCodeChange (code : BitVec 3) (t : Nat) (s : State) : Host.Outcome State Fault Refusal :=
  .next (if s.gateLive ∧ s.sup.vio then (s.hallCode code t).bstWatch else s)

/-- GATE_PWM_PERIOD (R305, R307). -/
def execGatePwmPeriod (t : Nat) (s : State) : Host.Outcome State Fault Refusal :=
  .next (if s.gateLive then (s.gateDuty t).bstWatch else s)

/-- BOOT_REFRESH (R304), with its start in 5 ns units. -/
def execBootRefresh (ph : Fin 3) (s : State) (t : Nat := 0) : Host.Outcome State Fault Refusal := .next (s.refreshAt ph t).bstWatch

/-- ILIM (R305), at a time in 5 ns units. -/
def execIlim (s : State) (t : Nat := 0) : Host.Outcome State Fault Refusal := .next (s.ilimHit t)

/-- SLOPE_TIMEOUT (R303). `edge`: a further edge of the phase has begun since, of its low side (`true`) or its high side. -/
def execSlopeTimeout (ph : Fin 3) (s : State) (edge : Option Bool := none) : Host.Outcome State Fault Refusal :=
  .next (s.slopeLate ph edge)

/-- SHX_MIDPOINT_CROSSING (R303), with the time since the edge in 5 ns units, and `edge` as above. -/
def execShxMidpointCrossing (ph : Fin 3) (s : State) (since : Nat := 0) (edge : Option Bool := none) :
    Host.Outcome State Fault Refusal := .next (s.slopeCross ph since edge)

/-- HALL_TIMEOUT (R306). -/
def execHallTimeout (s : State) : Host.Outcome State Fault Refusal := .next s.hallQuiet

end Sys2Proof.Machine
end

