-- ==== Sys2Proof/Machine/HostCmds.lean ====
section
/-! DEFINITION. The meanings of the host-port commands (R53 to R84, R107). A frame's register access, and a burst's reading of
machine time, comes so many core clock cycles after the last ramp tick (R160, R162). -/

namespace Sys2Proof.Machine

/-- SPI_SINGLE_READ (R57, R61, R63): a five-byte read frame with a good CRC. -/
def execSpiSingleRead (page : PageNo) (off : Offset) (s : State) (cycles : Nat := 0) : Host.Outcome State Fault Refusal :=
  .next ((s.timeAt cycles).singleRead page.toNat off.toNat).imageRun

/-- SPI_SINGLE_WRITE (R57, R80): a five-byte write frame with a good CRC. -/
def execSpiSingleWrite (page : PageNo) (off : Offset) (data : Word) (s : State) (cycles : Nat := 0) :
    Host.Outcome State Fault Refusal :=
  .next ((s.timeAt cycles).singleWrite page.toNat off.toNat data).imageRun

/-- SPI_BURST_WRITE (R57, R60, R61): the words in order, once the CRC has passed. -/
def execSpiBurstWrite (page : PageNo) (off : Offset) (words : List Word) (s : State) (cycles : Nat := 0) :
    Host.Outcome State Fault Refusal :=
  .next ((s.timeAt cycles).burstWrite page.toNat off.toNat words).imageRun

/-- SPI_BURST_READ (R61, R62): each word is fetched, with its side effects, whatever the CRC shows at the end. -/
def execSpiBurstRead (page : PageNo) (off : Offset) (n : Nat) (crcOk : Bool) (s : State) (cycles : Nat := 0) :
    Host.Outcome State Fault Refusal :=
  .next ((s.timeAt cycles).burstRead page.toNat off.toNat n crcOk).imageRun

/-- FRAME_REJECTED (R55, R59): no effect but the report. -/
def execFrameRejected (bytes : List Byte) (_extraBits : Nat) (s : State) : Host.Outcome State Fault Refusal :=
  .next (s.frameBad bytes)

/-- REGISTER_WRITE (R18, R79): a write by the register's access code. -/
def execRegisterWrite (page : PageNo) (off : Offset) (v : Word) (s : State) (cycles : Nat := 0) :
    Host.Outcome State Fault Refusal :=
  .next ((s.timeAt cycles).access page.toNat off.toNat v)

/-- KEY_WRITE (R69). -/
def execKeyWrite (page : PageNo) (v : Word) (s : State) : Host.Outcome State Fault Refusal :=
  .next (s.access page.toNat 0x07 v)

/-- UNLOCK_LAPSE (R70): 1 ms after the KEY write. -/
def execUnlockLapse (page : PageNo) (s : State) : Host.Outcome State Fault Refusal :=
  .next (s.setUnlock page.toNat false)

/-- UNIT_RESET (R67): a write of 1 to CTRL.UNIT_RESET. -/
def execUnitReset (page : PageNo) (s : State) : Host.Outcome State Fault Refusal :=
  .next (s.access page.toNat 0x01 0x0002#16)

/-- UNIT_RESET_COMPLETE (R67): the page accepts frames again. -/
def execUnitResetComplete (page : PageNo) (s : State) : Host.Outcome State Fault Refusal :=
  .next (s.setUnitReset page.toNat false)

/-- GROUP_PAGE_WRITE (R72, R73, R75): a write frame, for its membership is that of the moment when the CRC passes. -/
def execGroupPageWrite (page : PageNo) (off : Offset) (v : Word) (s : State) : Host.Outcome State Fault Refusal :=
  .next (s.singleWrite page.toNat off.toNat v).imageRun

/-- GROUP_PAGE_READ (R74): a read frame, for it sets BCAST_READ. -/
def execGroupPageRead (page : PageNo) (off : Offset) (s : State) : Host.Outcome State Fault Refusal :=
  .next (s.singleRead page.toNat off.toNat).imageRun

/-- ABSENT_PAGE_WRITE (R4, R76): a write frame, for it sets ABSENT. -/
def execAbsentPageWrite (page : PageNo) (off : Offset) (v : Word) (s : State) : Host.Outcome State Fault Refusal :=
  .next (s.singleWrite page.toNat off.toNat v).imageRun

/-- HOST_WATCHDOG_EXPIRY (R80, R81). -/
def execHostWatchdogExpiry (s : State) : Host.Outcome State Fault Refusal := .next s.watchExpire

/-- WDOG_ESCALATION_RESET (R107). -/
def execWdogEscalationReset (s : State) : Host.Outcome State Fault Refusal := .next s.watchEscalate

end Sys2Proof.Machine
end

