-- ==== Sys2Proof/Machine/LampCmds.lean ====
section
/-! DEFINITION. The meanings of the commands of Chandler and the lamp chain (R375 to R400). -/

namespace Sys2Proof.Machine

/-- FLASH (R382 to R384), so many core clock cycles after the last ramp tick. `lines`, `delayed`: the direct and the delayed outputs of
the fabric that pulse in its FBUS cycle; the flashes they start are one with it. -/
def execFlash (n : Fin 4) (s : State) (lines : Word := 0#16) (delayed : Word := 0#16) (cycles : Nat := 0) :
    Host.Outcome State Fault Refusal :=
  let s := s.timeAt cycles
  .next (if s.target chandPage = .unit ∧ s.spi.waiting = [] ∧ (lines ≠ 0#16 ∨ delayed ≠ 0#16) then
      (s.access chandPage (sOff n.val 9) 0x0000#16).flashWith n lines delayed
    else s.access chandPage (sOff n.val 9) 0x0001#16)

/-- EXPOSURE_TARGET_REACHED (R384 to R386). -/
def execExposureTargetReached (g : Fin 3) (t10ns : Nat) (s : State) : Host.Outcome State Fault Refusal :=
  .next (s.exposureEnd g t10ns)

/-- FLASH_MAX_EXPIRY (R384). -/
def execFlashMaxExpiry (s : State) : Host.Outcome State Fault Refusal := .next s.flashExpire

/-- APPLY (R381). -/
def execApply (n : Fin 4) (s : State) : Host.Outcome State Fault Refusal :=
  .next (s.access chandPage (sOff n.val 9) 0x0002#16)

/-- FADE_STEP (R381). -/
def execFadeStep (n : Fin 4) (s : State) : Host.Outcome State Fault Refusal := .next (s.fadeStepNow n)

/-- LAMP_PWM_PERIOD (R380). -/
def execLampPwmPeriod (n : Fin 4) (s : State) : Host.Outcome State Fault Refusal := .next (s.pwmStart n)

/-- LAMP_VOLTAGE_SAMPLE (R390). -/
def execLampVoltageSample (n : Fin 4) (k : Fin 8) (v : Byte) (s : State) : Host.Outcome State Fault Refusal :=
  .next (s.lampSample n k v)

/-- LAMP_JUDGE_INTERVAL (R391, R392). -/
def execLampJudgeInterval (n : Fin 4) (s : State) : Host.Outcome State Fault Refusal := .next (s.judgeInterval n)

/-- HEADROOM (R377). -/
def execHeadroom (n : Fin 4) (low : Bool) (s : State) : Host.Outcome State Fault Refusal := .next (s.headroomNow n low)

/-- FEEDBACK_WINDOW_END (R387). -/
def execFeedbackWindowEnd (r g b : Word) (s : State) : Host.Outcome State Fault Refusal := .next (s.windowMeans [r, g, b])

/-- DIE_TEMP_SAMPLE (R388, R389) of the controller die's sensor, which SAFE judges too (R102, R105), so many core clock cycles after the
last ramp tick. -/
def execDieTempSample (celsius : Int) (s : State) (cycles : Nat := 0) : Host.Outcome State Fault Refusal :=
  .next (((s.timeAt cycles).dieTemp celsius).ctrlTemp celsius)

/-- TEMP_STALE (R388) of one NTC, so many core clock cycles after the last ramp tick. -/
def execTempStale (s : State) (ntc : Fin 2 := 0) (cycles : Nat := 0) : Host.Outcome State Fault Refusal :=
  .next ((s.timeAt cycles).tempStaleNow ntc)

/-- TAP_TEST (R393). -/
def execTapTest (n : Fin 4) (s : State) : Host.Outcome State Fault Refusal :=
  .next (s.access chandPage (sOff n.val 9) 0x0004#16)

/-- TAP_TEST_END (R393). -/
def execTapTestEnd (n : Fin 4) (roseMv : Nat) (s : State) : Host.Outcome State Fault Refusal := .next (s.tapEnd n roseMv)

/-- CLR_LAMP (R391). -/
def execClrLamp (n : Fin 4) (s : State) : Host.Outcome State Fault Refusal :=
  .next (s.access chandPage (sOff n.val 9) 0x0008#16)

/-- CHAIN_FRAME_START (R396 to R398). -/
def execChainFrameStart (s : State) : Host.Outcome State Fault Refusal := .next s.chainFrame

/-- CHAIN_LEVEL_STEP (R398). -/
def execChainLevelStep (s : State) : Host.Outcome State Fault Refusal := .next s.chainStep

/-- LC_THERM_FAULT (R399). -/
def execLcThermFault (s : State) (lowUs : Nat := 1000) : Host.Outcome State Fault Refusal :=
  .next (if s.sup.vio then s.thermFault lowUs else s)

/-- LC_THERM_RELEASE (R399). Without VIO the pin reads inactive, that is high (R43). -/
def execLcThermRelease (s : State) (highMs : Nat := 1000) : Host.Outcome State Fault Refusal :=
  .next (s.thermRelease highMs)

/-- RESUME (R399). -/
def execResume (s : State) : Host.Outcome State Fault Refusal := .next (s.access lchainPage 0x09 0x0001#16)

end Sys2Proof.Machine
end

