-- ==== Sys2Proof/Machine/LedgerCmds.lean ====
section
/-! DEFINITION. The meanings of the commands of the ledgers (R203 to R228). -/

namespace Sys2Proof.Machine

/-- QUEUE_CFG_WRITE (R204). -/
def execQueueCfgWrite (n : Ax) (reg : QueueReg) (v : Wide) (s : State) : Host.Outcome State Fault Refusal :=
  .next (match reg with
    | .base => s.accessWide ledgPage (lOff n 0) v
    | .len => s.access ledgPage (lOff n 2) v.lo)

/-- TAIL_WRITE (R206). -/
def execTailWrite (n : Ax) (v : Word) (s : State) : Host.Outcome State Fault Refusal :=
  .next (s.access ledgPage (lOff n 4) v)

/-- HEAD_WRITE (R225). -/
def execHeadWrite (n : Ax) (v : Word) (s : State) : Host.Outcome State Fault Refusal :=
  .next (s.access ledgPage (lOff n 3) v)

/-- CLR_FAULT (R225). -/
def execClrFault (n : Ax) (s : State) : Host.Outcome State Fault Refusal := .next (s.access ledgPage (lOff n 9) 0x0001#16)

/-- SKIP (R225). -/
def execSkip (n : Ax) (s : State) : Host.Outcome State Fault Refusal := .next (s.access ledgPage (lOff n 9) 0x0002#16)

/-- FLUSH (R225). -/
def execFlush (n : Ax) (s : State) : Host.Outcome State Fault Refusal := .next (s.access ledgPage (lOff n 9) 0x0004#16)

/-- LEDGER_PREFETCH (R208, R211). -/
def execLedgerPrefetch (n : Ax) (s : State) : Host.Outcome State Fault Refusal := .next (s.prefetch n)

/-- WAIT_TIMEOUT (R216). -/
def execWaitTimeout (n : Ax) (s : State) : Host.Outcome State Fault Refusal := .next (s.waitOver n)

/-- DWELL_END (R210). -/
def execDwellEnd (n : Ax) (s : State) : Host.Outcome State Fault Refusal := .next (s.dwellOver n)

end Sys2Proof.Machine
end

