-- ==== Sys2Proof/Machine/MemCmds.lean ====
section
/-! DEFINITION. The meanings of the commands of the fabric, DMA, the SRAM, its window and the nonvolatile store (R117 to R158). -/

namespace Sys2Proof.Machine

/-- FABRIC_LINE_PULSE (R117, R119, R121); the other lines of its FBUS cycle pulse with it (log entry 28). `also` names lines that
owe a pulse of the same cycle by another event, `delayed` the delayed outputs that pulse in it. It falls so many core clock cycles
after the last ramp tick, which a flash that it starts counts from (R384). -/
def execFabricLinePulse (line : Fin 16) (s : State) (also : Word := 0#16) (delayed : Word := 0#16) (cycles : Nat := 0) :
    Host.Outcome State Fault Refusal := .next ((s.timeAt cycles).lineDue line also delayed)

/-- FABRIC_DELAYED_PULSE (R120, R121), with its time as above: `also` names the other delayed outputs that pulse in this FBUS
cycle. -/
def execFabricDelayedPulse (line : Fin 16) (s : State) (also : Word := 0#16) (cycles : Nat := 0) :
    Host.Outcome State Fault Refusal := .next ((s.timeAt cycles).lineDelayed (bitWord line.val ||| also))

/-- SWPULSE (R119). `same`: the write falls in the FBUS cycle of the producer's pulses that became due last. -/
def execSwPulse (v : Word) (s : State) (same : Bool := false) : Host.Outcome State Fault Refusal :=
  let t := s.access fabricPage 0x28 v
  .next (if same ∧ s.fab.due.length < t.fab.due.length then t.modFab (fun f => { f with due := mergeDue f.due }) else t)

/-- DMA_GO (R126). -/
def execDmaGo (ch : Fin 8) (s : State) : Host.Outcome State Fault Refusal :=
  .next (s.access dmaPage (dOff ch.val 1) 0x0001#16)

/-- DMA_DESCRIPTOR_LOADED (R126, R129). -/
def execDmaDescriptorLoaded (ch : Fin 8) (s : State) : Host.Outcome State Fault Refusal := .next (s.dmaLoad ch)

/-- DMA_REQUEST_GRANT (R124, R125, R128, R129): the granted request moves so many of its words before the next command, from so
many core clock cycles after the last ramp tick on (R162). -/
def execDmaRequestGrant (s : State) (words : Nat := 65536) (cycles : Nat := 0) : Host.Outcome State Fault Refusal :=
  .next ((s.timeAt cycles).dmaGrant words).imageRun

/-- DMA_TRANSFER_DONE (R126, R127). -/
def execDmaTransferDone (s : State) : Host.Outcome State Fault Refusal := .next s.dmaDone

/-- DMA_STOP (R130). -/
def execDmaStop (ch : Fin 8) (s : State) : Host.Outcome State Fault Refusal :=
  .next (s.access dmaPage (dOff ch.val 1) 0x0002#16)

/-- DMA_CLR_ERR (R129). -/
def execDmaClrErr (ch : Fin 8) (s : State) : Host.Outcome State Fault Refusal :=
  .next (s.access dmaPage (dOff ch.val 1) 0x0004#16)

/-- SRAM_INIT_DONE (R135). -/
def execSramInitDone (s : State) : Host.Outcome State Fault Refusal := .next s.initDone

/-- SCRUB_VISIT (R134, R137, R144): the upsets that the words of the SRAM and of the store have met since, then one visit. -/
def execScrubVisit (upsets : List (Nat × BitVec 22)) (s : State) : Host.Outcome State Fault Refusal :=
  let s := s.upset upsets
  .next (if s.scrubOn then s.scrubAccess else s)

/-- SCRUB_FORCED (R138). -/
def execScrubForced (s : State) : Host.Outcome State Fault Refusal :=
  .next (if s.scrubOn then (s.memEvent 3).scrubAccess else s)

/-- ECC_WRITEBACK (R139). -/
def execEccWriteback (s : State) : Host.Outcome State Fault Refusal := .next s.writeBack

/-- CLR_COUNTS (R157). -/
def execClrCounts (s : State) : Host.Outcome State Fault Refusal := .next (s.access memPage 0x15 0x0001#16)

/-- WIN_ADDR_WRITE (R141). -/
def execWinAddrWrite (addr : Wide) (s : State) : Host.Outcome State Fault Refusal := .next (s.accessWide memPage 0x08 addr)

/-- WIN_DATA_READ (R141, R143). -/
def execWinDataRead (s : State) : Host.Outcome State Fault Refusal := .next (s.accessRead memPage 0x0A false)

/-- WIN_DATA_WRITE (R141 to R143). -/
def execWinDataWrite (v : Word) (s : State) : Host.Outcome State Fault Refusal := .next (s.access memPage 0x0A v)

/-- WIN_DATA_WRITE_RESUME (R142): the accesses that waited go on, as far as there is room. -/
def execWinDataWriteResume (s : State) : Host.Outcome State Fault Refusal := .next s.portResume.imageRun

/-- WIN_BUFFER_DRAIN (R142). -/
def execWinBufferDrain (s : State) : Host.Outcome State Fault Refusal :=
  .next (if s.mem.init then s else s.winDrain)

/-- NVS_WRITE (R148, R150). -/
def execNvsWrite (s : State) : Host.Outcome State Fault Refusal := .next (s.access nvsPage 0x0C 0x0001#16)

/-- NVS_WRITE_START (R150): the SRAM initialisation has ended. -/
def execNvsWriteStart (s : State) : Host.Outcome State Fault Refusal :=
  .next (if s.mem.init then s else s.nvsReadSource)

/-- NVS_WRITE_DONE (R148). -/
def execNvsWriteDone (s : State) : Host.Outcome State Fault Refusal := .next s.nvsWriteEnd.engineGo

/-- NVS_INVALIDATE (R149, R150). -/
def execNvsInvalidate (s : State) : Host.Outcome State Fault Refusal := .next (s.access nvsPage 0x0C 0x0002#16)

/-- NVS_INVALIDATE_DONE (R149). -/
def execNvsInvalidateDone (s : State) : Host.Outcome State Fault Refusal := .next s.nvsInvalidateEnd.engineGo

/-- NVS_APPLY_IMAGE (R150, R155). -/
def execNvsApplyImage (s : State) : Host.Outcome State Fault Refusal := .next (s.access nvsPage 0x0C 0x0003#16)

/-- IMAGE_WAIT_END (R154). -/
def execImageWaitEnd (s : State) : Host.Outcome State Fault Refusal := .next s.imageWaitOver

/-- IMAGE_APPLY_DONE (R155). -/
def execImageApplyDone (s : State) : Host.Outcome State Fault Refusal := .next s.imageDone.engineGo

/-- NVS_QUERY (R147, R150). -/
def execNvsQuery (s : State) : Host.Outcome State Fault Refusal := .next (s.access nvsPage 0x0C 0x0004#16)

/-- NVS_UNDEFINED_OP (R150). -/
def execNvsUndefinedOp (op : BitVec 3) (s : State) : Host.Outcome State Fault Refusal :=
  .next (s.access nvsPage 0x0C (op.setWidth 16))

/-- ORPHAN_WRITE_START (R151, R417). -/
def execOrphanWriteStart (s : State) : Host.Outcome State Fault Refusal := .next s.orphanStart

/-- ORPHAN_WRITE_DONE (R417). -/
def execOrphanWriteDone (s : State) : Host.Outcome State Fault Refusal := .next s.orphanEnd.engineGo

/-- NV_LOAD_DONE (R153). -/
def execNvLoadDone (s : State) : Host.Outcome State Fault Refusal := .next s.loadNow

end Sys2Proof.Machine
end

