-- ==== Sys2Proof/Machine/PowerCmds.lean ====
section
/-! DEFINITION. The meanings of the commands of power states, clocks, bring-up, SAFE, resets and supplies (R37 to R48, R85 to R111, R278 to R280). -/

namespace Sys2Proof.Machine

/-- PSTATE_REQ_RUN (R89): the write of RUN. -/
def execPstateReqRun (s : State) : Host.Outcome State Fault Refusal := .next (s.access devPage 0x0B 0x0002#16)

/-- PSTATE_REQ_DOZE (R89). -/
def execPstateReqDoze (s : State) : Host.Outcome State Fault Refusal := .next (s.access devPage 0x0B 0x0003#16)

/-- PSTATE_REQ_STANDBY (R89). -/
def execPstateReqStandby (s : State) : Host.Outcome State Fault Refusal := .next (s.access devPage 0x0B 0x0000#16)

/-- DOZE_ENTRY_COMPLETE (R89, R161), so many core clock cycles after the last ramp tick. -/
def execDozeEntryComplete (s : State) (cycles : Nat := 0) : Host.Outcome State Fault Refusal := .next (s.timeAt cycles).dozeIn

/-- DOZE_EXIT_RELOCK (R89, R98, R161), so many core clock cycles after the last ramp tick. -/
def execDozeExitRelock (locked : Bool) (s : State) (cycles : Nat := 0) : Host.Outcome State Fault Refusal :=
  .next ((s.timeAt cycles).dozeOut locked)

/-- STANDBY_ENTRY_COMPLETE (R89, R92, R130, R343, R413). -/
def execStandbyEntryComplete (s : State) : Host.Outcome State Fault Refusal := .next s.standbyIn

/-- WAKE_SOURCE_QUALIFY (R91, R92). -/
def execWakeSourceQualify (src : WakeSrc) (s : State) : Host.Outcome State Fault Refusal := .next (s.wakeSource src)

/-- WAKE_TIMER_EXPIRY (R93). -/
def execWakeTimerExpiry (ticks : Nat) (s : State) : Host.Outcome State Fault Refusal := .next (s.wakeTimer ticks)

/-- VCORE_READY (R94). -/
def execVcoreReady (s : State) : Host.Outcome State Fault Refusal := .next s.vcoreUp

/-- HSRC_READY (R95, R104, R286, R343). -/
def execHsrcReady (sleepTicks : Nat) (s : State) : Host.Outcome State Fault Refusal := .next (s.hsrcUp sleepTicks)

/-- XO_QUALIFIED (R96, R100). -/
def execXoQualified (s : State) : Host.Outcome State Fault Refusal := .next s.xoUp

/-- PLL_LOCK (R94). -/
def execPllLock (s : State) : Host.Outcome State Fault Refusal := .next s.pllUp

/-- CORE_SWITCH_RUN (R94, R89, R155, R161), so many core clock cycles after the last ramp tick. -/
def execCoreSwitchRun (s : State) (cycles : Nat := 0) : Host.Outcome State Fault Refusal := .next (s.timeAt cycles).coreUp.imageRun

/-- BRINGUP_STEP_TIMEOUT (R98). -/
def execBringupStepTimeout (s : State) : Host.Outcome State Fault Refusal := .next s.stepTimeout.imageRun

/-- STEP1_RETRY (R98). -/
def execStep1Retry (s : State) : Host.Outcome State Fault Refusal := .next s.retryStep

/-- XS_QUALIFIED (R87). -/
def execXsQualified (s : State) : Host.Outcome State Fault Refusal := .next s.xsUp

/-- XS_START_TIMEOUT (R87). -/
def execXsStartTimeout (s : State) : Host.Outcome State Fault Refusal := .next s.xsTimeout

/-- XS_DISABLE_WRITE (R438): a write of CLKCTRL. -/
def execXsDisableWrite (v : Word) (s : State) : Host.Outcome State Fault Refusal := .next (s.access devPage 0x0D v)

/-- CLOCK_LOSS (R101, R161), so many core clock cycles after the last ramp tick. -/
def execClockLoss (src : ClockSrc) (s : State) (cycles : Nat := 0) : Host.Outcome State Fault Refusal :=
  .next ((s.timeAt cycles).clockLost src)

/-- CLOCK_RELOCK (R101, R161), so many core clock cycles after the last ramp tick. -/
def execClockRelock (s : State) (cycles : Nat := 0) : Host.Outcome State Fault Refusal := .next (s.timeAt cycles).clockBack

/-- CLOCK_RELOCK_TIMEOUT (R101, R298). -/
def execClockRelockTimeout (s : State) : Host.Outcome State Fault Refusal := .next s.clockGone

/-- SAFE_CAUSE_ARISES (R102 to R105), so many core clock cycles after the last ramp tick. The controller's temperature has no other
command that brings it. -/
def execSafeCauseArises (c : SafeCause) (s : State) (cycles : Nat := 0) : Host.Outcome State Fault Refusal :=
  .next (((s.timeAt cycles).modSup (fun u => { u with ctrlHot := u.ctrlHot || decide (c = .ctrlThermal) })).causeArises c)

/-- SAFE_EN_WRITE (R102). -/
def execSafeEnWrite (v : Word) (s : State) : Host.Outcome State Fault Refusal := .next (s.access devPage 0x1A v)

/-- ENTER_SAFE (R102, R105): DEV.CMD.ENTER_SAFE. -/
def execEnterSafe (s : State) : Host.Outcome State Fault Refusal := .next (s.access devPage 0x18 0x0004#16)

/-- SAFE_RELEASE (R105, R439), with what the controller's thermal comparator shows. -/
def execSafeRelease (ctrlAbove150 : Bool) (s : State) : Host.Outcome State Fault Refusal :=
  .next ((s.modSup (fun u => { u with ctrlHot := ctrlAbove150 })).access devPage 0x1B 0x0001#16)

/-- ACK_WAKE_FAIL (R99). -/
def execAckWakeFail (s : State) : Host.Outcome State Fault Refusal := .next (s.access devPage 0x18 0x0001#16)

/-- CLR_ABSENT_WR (R109). -/
def execClrAbsentWr (s : State) : Host.Outcome State Fault Refusal := .next (s.access devPage 0x18 0x0002#16)

/-- SWRESET (R106): a write of DEV.SWRESET. -/
def execSwReset (v : Word) (s : State) : Host.Outcome State Fault Refusal := .next (s.access devPage 0x15 v)

/-- RST_N_RESET (R37, R48). -/
def execRstNReset (lowNs : Nat) (s : State) : Host.Outcome State Fault Refusal := .next (s.rstLow lowNs)

/-- TEST_EN_RISE (R39). -/
def execTestEnRise (highNs : Nat) (s : State) : Host.Outcome State Fault Refusal := .next (s.testRise highNs)

/-- TEST_EN_FALL (R39). -/
def execTestEnFall (s : State) : Host.Outcome State Fault Refusal := .next s.testFall

/-- POWER_ON_RESET (R106, R108). -/
def execPowerOnReset (s : State) : Host.Outcome State Fault Refusal := .next s.powerOn

/-- SUPPLY_THRESHOLD_WRITE (R111). -/
def execSupplyThresholdWrite (reg : SupplyReg) (v : Word) (s : State) : Host.Outcome State Fault Refusal :=
  .next (s.access supplyPage reg.off v)

/-- VM_OK_CHANGE (R111, R278). -/
def execVmOkChange (ok : Bool) (s : State) : Host.Outcome State Fault Refusal := .next (s.vmOkNow ok)

/-- VGP_OK_CHANGE (R111). -/
def execVgpOkChange (ok : Bool) (s : State) : Host.Outcome State Fault Refusal := .next (s.vgpOkNow ok)

/-- VDD_LOW_CHANGE (R111, R47). -/
def execVddLowChange (low : Bool) (s : State) : Host.Outcome State Fault Refusal := .next (s.vddLowNow low)

/-- POWER_FAIL_TRIGGER (R46, R47, R151), so many core clock cycles after the last ramp tick, and so many us after the last
trigger. -/
def execPowerFailTrigger (byPin : Bool) (s : State) (cycles : Nat := 0) (sinceUs : Nat := 120) :
    Host.Outcome State Fault Refusal := .next ((s.timeAt cycles).powerFail byPin sinceUs)

/-- SNAPSHOT_COMPLETE (R48, R152). -/
def execSnapshotComplete (s : State) : Host.Outcome State Fault Refusal := .next s.snapshotDone.engineGo

/-- BRAKE_THRESHOLD_CROSSING (R279). -/
def execBrakeThresholdCrossing (rising : Bool) (s : State) : Host.Outcome State Fault Refusal := .next (s.brakeCross rising)

/-- OV_TRIP (R280, R111): the comparator at OV_TRIP, either way. -/
def execOvTrip (s : State) (reached : Bool := true) : Host.Outcome State Fault Refusal := .next (s.ovReached reached)

/-- VIO_PRESENT_CHANGE (R43, R433). -/
def execVioPresentChange (present : Bool) (s : State) : Host.Outcome State Fault Refusal := .next (s.vioNow present)

/-- PFAIL_N_RELEASE (R47). -/
def execPfailNRelease (s : State) : Host.Outcome State Fault Refusal := .next s.pfailHigh

/-- VM_BELOW_BRAKE_ON (R284). -/
def execVmBelowBrakeOn (s : State) : Host.Outcome State Fault Refusal := .next s.ovOver

/-- BRIDGE_LOGIC_SUPPLY_CHANGE (R278, R38). -/
def execBridgeLogicSupplyChange (d : Die) (ok : Bool) (s : State) : Host.Outcome State Fault Refusal :=
  .next (if s.hasDie d then s.logicSupply d ok else s)

end Sys2Proof.Machine
end

