-- ==== Sys2Proof/Machine/ProtCmds.lean ====
section
/-! DEFINITION. The meanings of the commands of the power stage's protection (R38, R274 to R290, R415, R416). -/

namespace Sys2Proof.Machine

/-- SC_DETECT (R273, R276, R285): one method's comparator of one switch, at the bridge die's time `t`. -/
def execScDetect (n : Ax) (sw : Fin 8) (s : State) (sense : ScSense := .didt) (t : Nat := 0) : Host.Outcome State Fault Refusal :=
  .next (s.brgShort n sw sense t)

/-- GATE_SC_DETECT (R274, R276, R285), at a time in 5 ns units. -/
def execGateScDetect (sense : GateSense) (s : State) (t : Nat := 0) : Host.Outcome State Fault Refusal :=
  .next (s.gateShort sense t)

/-- UVLO_TRIP (R277); of a bootstrap at a time in 5 ns units. -/
def execUvloTrip (u : UvSupply) (s : State) (t : Nat := 0) : Host.Outcome State Fault Refusal := .next (s.uvDown u t)

/-- UVLO_RELEASE (R277, R284): the supply crosses its release level, upward or (`below`) downward. -/
def execUvloRelease (u : UvSupply) (s : State) (below : Bool := false) : Host.Outcome State Fault Refusal := .next (s.uvUp u below)

/-- VCP_UVLO_ARM (R277). -/
def execVcpUvloArm (d : Die) (s : State) : Host.Outcome State Fault Refusal := .next (s.vcpArm d)

/-- TRIP_N_LOW (R281). -/
def execTripNLow (lowNs : Nat) (s : State) : Host.Outcome State Fault Refusal := .next (s.tripLow lowNs)

/-- TRIP_N_HIGH (R284). -/
def execTripNHigh (s : State) : Host.Outcome State Fault Refusal := .next s.tripHigh

/-- DRV_EN_FALL (R282). -/
def execDrvEnFall (lowNs : Nat) (s : State) : Host.Outcome State Fault Refusal := .next (s.drvFall lowNs)

/-- DRV_EN_RISE (R289, R290). -/
def execDrvEnRise (lowNs : Nat) (s : State) : Host.Outcome State Fault Refusal := .next (s.drvRise lowNs)

/-- GATE_EN_FALL (R282, R297). -/
def execGateEnFall (lowNs : Nat) (s : State) : Host.Outcome State Fault Refusal := .next (s.gateFall lowNs)

/-- GATE_EN_RISE (R289, R290, R298). -/
def execGateEnRise (lowNs : Nat) (s : State) : Host.Outcome State Fault Refusal := .next (s.gateRise lowNs)

/-- THERM_WARN (R283). -/
def execThermWarn (d : Die) (above : Bool) (s : State) : Host.Outcome State Fault Refusal := .next (s.thermWarn d above)

/-- THERM_SHUTDOWN (R283, R285). -/
def execThermShutdown (d : Die) (s : State) : Host.Outcome State Fault Refusal :=
  .next ((s.thermTrip d).causeArises .bridgeThermal)

/-- THERM_COOL (R284): the die crosses 140 degrees, downward or (`above`) upward. -/
def execThermCool (d : Die) (s : State) (above : Bool := false) : Host.Outcome State Fault Refusal := .next (s.thermCool d above)

/-- AUTO_RETRY_WAIT_END (R288, R290) of the latches of a class: `m` names the switches, for SC and UV. -/
def execAutoRetryWaitEnd (p : ProtPage) (c : FaultClass) (s : State) (m : BitVec 8 := 0xFF#8) : Host.Outcome State Fault Refusal :=
  .next (s.autoTestNow p c m)

/-- RETRY_CNT_RESET (R288). -/
def execRetryCntReset (p : ProtPage) (c : FaultClass) (s : State) : Host.Outcome State Fault Refusal :=
  .next (s.retryReset p c)

/-- SC_OUTPUT_CHECK_END (R287, R290): `shorted` has a bit for each phase, or half-bridge, whose check finds a short. -/
def execScOutputCheckEnd (p : ProtPage) (shorted : BitVec 3) (s : State) : Host.Outcome State Fault Refusal :=
  .next ((s.checkEnd p shorted).pageEdges s p)

/-- FIRST_HEARTBEAT (R38). -/
def execFirstHeartbeat (d : Die) (s : State) : Host.Outcome State Fault Refusal := .next (s.heartFirst d)

/-- HEARTBEAT_LOSS (R415). -/
def execHeartbeatLoss (d : Die) (s : State) : Host.Outcome State Fault Refusal := .next (s.heartLoss d)

/-- HEARTBEAT_RESUME (R415). -/
def execHeartbeatResume (d : Die) (s : State) : Host.Outcome State Fault Refusal := .next (s.heartBack d)

/-- GATE_STREAM_STOP (R416). -/
def execGateStreamStop (s : State) : Host.Outcome State Fault Refusal := .next s.streamStop

end Sys2Proof.Machine
end

