-- ==== Sys2Proof/Machine/TallyCmds.lean ====
section
/-! DEFINITION. The meanings of the commands of Tallyman, emulation and the timers (R309 to R345). -/

namespace Sys2Proof.Machine

/-- QUADRATURE_CHANGE (R311 to R313, R321), with the FBUS cycles for which the levels of A and of B stood, and those from the last tick
to the change; with `heldI` not 0 EnI rose in the same sample. -/
def execQuadratureChange (ch : Fin 4) (a b : Bool) (s : State) (held : Nat := 4096) (cycles : Nat := 0) (heldB : Nat := 4096)
    (heldI : Nat := 0) : Host.Outcome State Fault Refusal :=
  .next ((s.encStood ch.val cycles).withIndex ch.val heldI cycles (fun s => s.quadChange ch.val a b held heldB cycles))

/-- STEP_EDGE (R315, R197); with `heldI` not 0 EnI rose in the same sample. -/
def execStepEdge (ch : Fin 4) (dirAfter : Bool) (s : State) (held : Nat := 4096) (cycles : Nat := 0) (heldI : Nat := 0) :
    Host.Outcome State Fault Refusal :=
  .next ((s.encStood ch.val cycles).withIndex ch.val heldI cycles (fun s => s.stepChange ch.val dirAfter held cycles))

/-- ENCODER_INDEX (R311, R318, R319, R421): an edge of EnI. -/
def execEncoderIndex (ch : Fin 4) (s : State) (up : Bool := true) (held : Nat := 4096) (cycles : Nat := 0) :
    Host.Outcome State Fault Refusal :=
  .next ((s.encStood ch.val cycles).encIndex ch.val up held cycles)

/-- COUNT_LOAD (R314), with the levels of A and B of a change accepted in the FBUS cycle of the load, which applies to the loaded
value, and with `heldI` not 0 a rise of EnI accepted in it (R321). -/
def execCountLoad (ch : Fin 4) (v : Wide) (s : State) (edge : Option (Bool × Bool) := none) (heldI : Nat := 0) :
    Host.Outcome State Fault Refusal :=
  .next (s.withIndex ch.val heldI 0 (fun s =>
    match edge with
    | none => s.accessWide tallyPage (eOff ch.val 2) v
    | some (a, b) => s.inOneCycle ch.val (fun s => (s.accessWide tallyPage (eOff ch.val 2) v).quadChange ch.val a b 4096 4096 0)))

/-- SPEED_WINDOW_END (R316). -/
def execSpeedWindowEnd (ch : Fin 4) (s : State) : Host.Outcome State Fault Refusal := .next (s.windowEnd ch.val)

/-- INDEX_MISSING (R320). -/
def execIndexMissing (ch : Fin 4) (s : State) : Host.Outcome State Fault Refusal := .next (s.indexMissingNow ch.val)

/-- ARM (R322). -/
def execArm (p : Fin 4) (s : State) : Host.Outcome State Fault Refusal :=
  .next (s.access tallyPage (pOff p.val 6) 0x0001#16)

/-- DISARM (R328). -/
def execDisarm (p : Fin 4) (s : State) : Host.Outcome State Fault Refusal :=
  .next (s.access tallyPage (pOff p.val 6) 0x0002#16)

/-- PT_CFG_WRITE (R310, R321). -/
def execPtCfgWrite (p : Fin 4) (v : Word) (s : State) : Host.Outcome State Fault Refusal :=
  .next (s.access tallyPage (pOff p.val 0) v)

/-- SYNC (R324). -/
def execSync (x : Fin 2) (s : State) : Host.Outcome State Fault Refusal :=
  .next (s.access emuPage (xOff x.val 8) 0x0001#16)

/-- EMU_EDGE (R325, R326). -/
def execEmuEdge (x : Fin 2) (s : State) : Host.Outcome State Fault Refusal := .next (s.emuEmit x)

/-- TALLY_ENABLE_WRITE (R327). -/
def execTallyEnableWrite (en : Bool) (s : State) : Host.Outcome State Fault Refusal :=
  .next (s.access tallyPage 0x01 (flag en 0))

/-- TIMER_COUNT_TICK (R331 to R338, R342), with the level of a gate pin. -/
def execTimerCountTick (n : Fin 8) (pin : Bool) (s : State) : Host.Outcome State Fault Refusal := .next (s.tmrTick n pin)

/-- TIMER_START (R334). -/
def execTimerStart (n : Fin 8) (s : State) : Host.Outcome State Fault Refusal :=
  .next (s.access tmrPage (tOff n.val 1) 0x0001#16)

/-- TIMER_STOP (R334). -/
def execTimerStop (n : Fin 8) (s : State) : Host.Outcome State Fault Refusal :=
  .next (s.access tmrPage (tOff n.val 1) 0x0002#16)

/-- LOAD (R335). -/
def execLoad (n : Fin 8) (s : State) : Host.Outcome State Fault Refusal :=
  .next (s.access tmrPage (tOff n.val 1) 0x0004#16)

/-- TIMER_LINK_ACTION (R334, R339): the oldest `n` actions, due in one FBUS cycle. -/
def execTimerLinkAction (s : State) (n : Nat := 1) : Host.Outcome State Fault Refusal := .next (s.linkAct n)

/-- CAPTURE_L_READ (R340). -/
def execCaptureLRead (n : Fin 8) (s : State) : Host.Outcome State Fault Refusal :=
  .next (s.accessRead tmrPage (tOff n.val 11) false)

/-- COMPARE_WRITE (R336, R337). -/
def execCompareWrite (n : Fin 8) (v : Wide) (s : State) : Host.Outcome State Fault Refusal :=
  .next (s.accessWide tmrPage (tOff n.val 6) v)

end Sys2Proof.Machine
end

