-- ==== Sys2Proof/Machine/TimeCmds.lean ====
section
/-! DEFINITION. The meanings of the commands of machine time (R159 to R175). -/

namespace Sys2Proof.Machine

/-- SEC_H_READ (R162), with the core clock cycles since the last ramp tick. -/
def execSecHRead (phase : Nat) (s : State) : Host.Outcome State Fault Refusal :=
  .next ((s.timeAt phase).accessRead timePage 0x08 false)

/-- MT_US_H_READ (R162): within a burst that has read SEC_H, or in any other case. -/
def execMtUsHRead (inBurst : Bool) (phase : Nat) (s : State) : Host.Outcome State Fault Refusal :=
  .next ((s.timeAt phase).accessRead timePage 0x0C inBurst)

/-- TIME_APPLY (R164, R172, R174): TIME.CTRL.APPLY, with ALLOW_STEP as it stands. -/
def execTimeApply (phase : Nat) (s : State) : Host.Outcome State Fault Refusal :=
  let s := s.timeAt phase
  .next (s.access timePage 0x01 (flag (s.regBit timePage 0x01 3) 3 ||| 0x0004#16))

/-- TSYNC_EDGE (R165 to R174). -/
def execTsyncEdge (highNs phase interval : Nat) (s : State) (apply : Bool := false) : Host.Outcome State Fault Refusal :=
  .next (s.tsyncRise highNs phase interval apply)

/-- TSYNC_MISSING (R165). -/
def execTsyncMissing (s : State) : Host.Outcome State Fault Refusal := .next s.pulseMissing

/-- NEXT_SEC_H_WRITE (R166). -/
def execNextSecHWrite (v : Word) (s : State) : Host.Outcome State Fault Refusal := .next (s.access timePage 0x14 v)

/-- TSYNC_EN_WRITE (R165). -/
def execTsyncEnWrite (en : Bool) (s : State) : Host.Outcome State Fault Refusal :=
  .next (s.access timePage 0x18 (flag en 0))

/-- FORWARD_STEP (R170). -/
def execForwardStep (s : State) : Host.Outcome State Fault Refusal := .next s.forwardNow

/-- BACKWARD_STEP (R172). -/
def execBackwardStep (s : State) : Host.Outcome State Fault Refusal := .next s.backwardNow

/-- SLEW_END (R171). -/
def execSlewEnd (s : State) : Host.Outcome State Fault Refusal := .next s.slewEndNow

/-- HOLD_END (R171). -/
def execHoldEnd (s : State) : Host.Outcome State Fault Refusal := .next s.holdEndNow

/-- TIMEBASE_FAULT (R171). -/
def execTimebaseFault (s : State) : Host.Outcome State Fault Refusal := .next s.timebaseFaultNow

end Sys2Proof.Machine
end

