-- ==== Sys2Proof/Machine/TwinCmds.lean ====
section
/-! DEFINITION. The meanings of the commands of the twin link (R401 to R424). -/

namespace Sys2Proof.Machine

/-- HELLO_SEND (R406, R408). -/
def execHelloSend (s : State) : Host.Outcome State Fault Refusal := .next s.helloOut

/-- HELLO_RECEIVE (R406, R407). -/
def execHelloReceive (h : Hello) (s : State) : Host.Outcome State Fault Refusal := .next (s.helloIn h)

/-- MIRROR_SEND (R408, R409, R418). -/
def execMirrorSend (s : State) : Host.Outcome State Fault Refusal := .next s.mirrorOut

/-- MIRROR_RECEIVE (R409, R412, R418, R422): `none` is a frame with a bad CRC. An accepted RESET_CMD resets the device. -/
def execMirrorReceive (m : Option Mirror) (s : State) : Host.Outcome State Fault Refusal :=
  .next (match s.mirrorIn m with
    | (true, s) => s.resetBy 4
    | (false, s) => s)

/-- LEAVE_RECEIVE (R409, R413): a valid LEAVE with its serial and FLAGS. -/
def execLeaveReceive (s : State) (serial : Wide := 0#32) (flags : Byte := 0#8) : Host.Outcome State Fault Refusal :=
  .next (s.leaveArrives serial flags)

/-- TWIN_LOST (R410 to R412, R417). -/
def execTwinLost (s : State) : Host.Outcome State Fault Refusal := .next s.twinLostNow

/-- ORPHAN_LOAD (R419, R420). -/
def execOrphanLoad (s : State) : Host.Outcome State Fault Refusal := .next s.orphanLoadNow

/-- RETRY (R414). -/
def execRetry (s : State) : Host.Outcome State Fault Refusal := .next (s.access twinPage 0x09 0x0001#16)

/-- CLR_ORPHAN (R424). -/
def execClrOrphan (s : State) : Host.Outcome State Fault Refusal := .next (s.access twinPage 0x09 0x0002#16)

/-- CONFIRM (R421). -/
def execConfirm (v : Word) (s : State) : Host.Outcome State Fault Refusal := .next (s.access twinPage 0x15 v)

/-- PEER_RESET (R422). -/
def execPeerReset (v : Word) (s : State) : Host.Outcome State Fault Refusal := .next (s.access twinPage 0x18 v)

/-- LINK_UP_CHANGE (R403). -/
def execLinkUpChange (up : Bool) (s : State) : Host.Outcome State Fault Refusal := .next (s.linkChange up)

/-- TWIN_ENABLE_WRITE (R405, R413): CTRL.ENABLE, then CFG.PAIR_EN with CFG's other bits as they stand. -/
def execTwinEnableWrite (enable pairEn : Bool) (s : State) : Host.Outcome State Fault Refusal :=
  .next (let s := s.access twinPage 0x01 (flag enable 0)
    s.access twinPage 0x08 ((s.reg twinPage 0x08 &&& ~~~0x0001#16) ||| flag pairEn 0))

end Sys2Proof.Machine
end

