-- ==== Sys2Proof/Machine/Dispatch.lean ====
section
/-! DEFINITION. The meaning of every command: one arm for each constructor. -/

namespace Sys2Proof.Machine

def exec (i : Instr) (s : State) : Host.Outcome State Fault Refusal :=
  match i with
  | .spiSingleRead page off cycles => Sys2Proof.Machine.execSpiSingleRead page off s cycles
  | .spiSingleWrite page off data cycles => Sys2Proof.Machine.execSpiSingleWrite page off data s cycles
  | .spiBurstWrite page off words cycles => Sys2Proof.Machine.execSpiBurstWrite page off words s cycles
  | .spiBurstRead page off n crcOk cycles => Sys2Proof.Machine.execSpiBurstRead page off n crcOk s cycles
  | .frameRejected bytes extraBits => Sys2Proof.Machine.execFrameRejected bytes extraBits s
  | .registerWrite page off v cycles => Sys2Proof.Machine.execRegisterWrite page off v s cycles
  | .keyWrite page v => Sys2Proof.Machine.execKeyWrite page v s
  | .unlockLapse page => Sys2Proof.Machine.execUnlockLapse page s
  | .unitReset page => Sys2Proof.Machine.execUnitReset page s
  | .unitResetComplete page => Sys2Proof.Machine.execUnitResetComplete page s
  | .groupPageWrite page off v => Sys2Proof.Machine.execGroupPageWrite page off v s
  | .groupPageRead page off => Sys2Proof.Machine.execGroupPageRead page off s
  | .absentPageWrite page off v => Sys2Proof.Machine.execAbsentPageWrite page off v s
  | .hostWatchdogExpiry => Sys2Proof.Machine.execHostWatchdogExpiry s
  | .wdogEscalationReset => Sys2Proof.Machine.execWdogEscalationReset s
  | .pstateReqRun => Sys2Proof.Machine.execPstateReqRun s
  | .pstateReqDoze => Sys2Proof.Machine.execPstateReqDoze s
  | .pstateReqStandby => Sys2Proof.Machine.execPstateReqStandby s
  | .dozeEntryComplete cycles => Sys2Proof.Machine.execDozeEntryComplete s cycles
  | .dozeExitRelock locked cycles => Sys2Proof.Machine.execDozeExitRelock locked s cycles
  | .standbyEntryComplete => Sys2Proof.Machine.execStandbyEntryComplete s
  | .wakeSourceQualify src => Sys2Proof.Machine.execWakeSourceQualify src s
  | .wakeTimerExpiry ticks => Sys2Proof.Machine.execWakeTimerExpiry ticks s
  | .vcoreReady => Sys2Proof.Machine.execVcoreReady s
  | .hsrcReady sleepTicks => Sys2Proof.Machine.execHsrcReady sleepTicks s
  | .xoQualified => Sys2Proof.Machine.execXoQualified s
  | .pllLock => Sys2Proof.Machine.execPllLock s
  | .coreSwitchRun cycles => Sys2Proof.Machine.execCoreSwitchRun s cycles
  | .bringupStepTimeout => Sys2Proof.Machine.execBringupStepTimeout s
  | .step1Retry => Sys2Proof.Machine.execStep1Retry s
  | .xsQualified => Sys2Proof.Machine.execXsQualified s
  | .xsStartTimeout => Sys2Proof.Machine.execXsStartTimeout s
  | .xsDisableWrite v => Sys2Proof.Machine.execXsDisableWrite v s
  | .clockLoss src cycles => Sys2Proof.Machine.execClockLoss src s cycles
  | .clockRelock cycles => Sys2Proof.Machine.execClockRelock s cycles
  | .clockRelockTimeout => Sys2Proof.Machine.execClockRelockTimeout s
  | .safeCauseArises c cycles => Sys2Proof.Machine.execSafeCauseArises c s cycles
  | .safeEnWrite v => Sys2Proof.Machine.execSafeEnWrite v s
  | .enterSafe => Sys2Proof.Machine.execEnterSafe s
  | .safeRelease ctrlAbove150 => Sys2Proof.Machine.execSafeRelease ctrlAbove150 s
  | .ackWakeFail => Sys2Proof.Machine.execAckWakeFail s
  | .clrAbsentWr => Sys2Proof.Machine.execClrAbsentWr s
  | .swReset v => Sys2Proof.Machine.execSwReset v s
  | .rstNReset lowNs => Sys2Proof.Machine.execRstNReset lowNs s
  | .testEnRise highNs => Sys2Proof.Machine.execTestEnRise highNs s
  | .testEnFall => Sys2Proof.Machine.execTestEnFall s
  | .powerOnReset => Sys2Proof.Machine.execPowerOnReset s
  | .supplyThresholdWrite reg v => Sys2Proof.Machine.execSupplyThresholdWrite reg v s
  | .vmOkChange ok => Sys2Proof.Machine.execVmOkChange ok s
  | .vgpOkChange ok => Sys2Proof.Machine.execVgpOkChange ok s
  | .vddLowChange low => Sys2Proof.Machine.execVddLowChange low s
  | .powerFailTrigger byPin cycles sinceUs => Sys2Proof.Machine.execPowerFailTrigger byPin s cycles sinceUs
  | .snapshotComplete => Sys2Proof.Machine.execSnapshotComplete s
  | .brakeThresholdCrossing rising => Sys2Proof.Machine.execBrakeThresholdCrossing rising s
  | .ovTrip reached => Sys2Proof.Machine.execOvTrip s reached
  | .fabricLinePulse line also delayed cycles => Sys2Proof.Machine.execFabricLinePulse line s also delayed cycles
  | .fabricDelayedPulse line also cycles => Sys2Proof.Machine.execFabricDelayedPulse line s also cycles
  | .swPulse v same => Sys2Proof.Machine.execSwPulse v s same
  | .dmaGo ch => Sys2Proof.Machine.execDmaGo ch s
  | .dmaDescriptorLoaded ch => Sys2Proof.Machine.execDmaDescriptorLoaded ch s
  | .dmaRequestGrant words cycles => Sys2Proof.Machine.execDmaRequestGrant s words cycles
  | .dmaTransferDone => Sys2Proof.Machine.execDmaTransferDone s
  | .dmaStop ch => Sys2Proof.Machine.execDmaStop ch s
  | .dmaClrErr ch => Sys2Proof.Machine.execDmaClrErr ch s
  | .sramInitDone => Sys2Proof.Machine.execSramInitDone s
  | .scrubVisit upsets => Sys2Proof.Machine.execScrubVisit upsets s
  | .scrubForced => Sys2Proof.Machine.execScrubForced s
  | .eccWriteback => Sys2Proof.Machine.execEccWriteback s
  | .clrCounts => Sys2Proof.Machine.execClrCounts s
  | .winAddrWrite addr => Sys2Proof.Machine.execWinAddrWrite addr s
  | .winDataRead => Sys2Proof.Machine.execWinDataRead s
  | .winDataWrite v => Sys2Proof.Machine.execWinDataWrite v s
  | .winDataWriteResume => Sys2Proof.Machine.execWinDataWriteResume s
  | .winBufferDrain => Sys2Proof.Machine.execWinBufferDrain s
  | .nvsWrite => Sys2Proof.Machine.execNvsWrite s
  | .nvsWriteStart => Sys2Proof.Machine.execNvsWriteStart s
  | .nvsWriteDone => Sys2Proof.Machine.execNvsWriteDone s
  | .nvsInvalidate => Sys2Proof.Machine.execNvsInvalidate s
  | .nvsInvalidateDone => Sys2Proof.Machine.execNvsInvalidateDone s
  | .nvsApplyImage => Sys2Proof.Machine.execNvsApplyImage s
  | .imageWaitEnd => Sys2Proof.Machine.execImageWaitEnd s
  | .imageApplyDone => Sys2Proof.Machine.execImageApplyDone s
  | .nvsQuery => Sys2Proof.Machine.execNvsQuery s
  | .nvsUndefinedOp op => Sys2Proof.Machine.execNvsUndefinedOp op s
  | .orphanWriteStart => Sys2Proof.Machine.execOrphanWriteStart s
  | .orphanWriteDone => Sys2Proof.Machine.execOrphanWriteDone s
  | .nvLoadDone => Sys2Proof.Machine.execNvLoadDone s
  | .secHRead phase => Sys2Proof.Machine.execSecHRead phase s
  | .mtUsHRead inBurst phase => Sys2Proof.Machine.execMtUsHRead inBurst phase s
  | .timeApply phase => Sys2Proof.Machine.execTimeApply phase s
  | .tsyncEdge highNs phase interval apply => Sys2Proof.Machine.execTsyncEdge highNs phase interval s apply
  | .tsyncMissing => Sys2Proof.Machine.execTsyncMissing s
  | .nextSecHWrite v => Sys2Proof.Machine.execNextSecHWrite v s
  | .tsyncEnWrite en => Sys2Proof.Machine.execTsyncEnWrite en s
  | .forwardStep => Sys2Proof.Machine.execForwardStep s
  | .backwardStep => Sys2Proof.Machine.execBackwardStep s
  | .slewEnd => Sys2Proof.Machine.execSlewEnd s
  | .holdEnd => Sys2Proof.Machine.execHoldEnd s
  | .timebaseFault => Sys2Proof.Machine.execTimebaseFault s
  | .rampTick stopNHigh => Sys2Proof.Machine.execRampTick stopNHigh s
  | .modeCmd n v => Sys2Proof.Machine.execModeCmd n v s
  | .axisStop n => Sys2Proof.Machine.execAxisStop n s
  | .applyRt n => Sys2Proof.Machine.execApplyRt n s
  | .setPos n => Sys2Proof.Machine.execSetPos n s
  | .encAlign n => Sys2Proof.Machine.execEncAlign n s
  | .clrOvershoot n => Sys2Proof.Machine.execClrOvershoot n s
  | .vcmdWrite n v => Sys2Proof.Machine.execVcmdWrite n v s
  | .jogLimitWrite n reg v => Sys2Proof.Machine.execJogLimitWrite n reg v s
  | .posLimitWrite n hi v => Sys2Proof.Machine.execPosLimitWrite n hi v s
  | .axisCfgWrite n v => Sys2Proof.Machine.execAxisCfgWrite n v s
  | .axisEnableWrite n en => Sys2Proof.Machine.execAxisEnableWrite n en s
  | .settleCheck n => Sys2Proof.Machine.execSettleCheck n s
  | .stopNLatch lowNs => Sys2Proof.Machine.execStopNLatch lowNs s
  | .frzRise => Sys2Proof.Machine.execFrzRise s
  | .frzFall => Sys2Proof.Machine.execFrzFall s
  | .queueCfgWrite n reg v => Sys2Proof.Machine.execQueueCfgWrite n reg v s
  | .tailWrite n v => Sys2Proof.Machine.execTailWrite n v s
  | .headWrite n v => Sys2Proof.Machine.execHeadWrite n v s
  | .clrFault n => Sys2Proof.Machine.execClrFault n s
  | .skip n => Sys2Proof.Machine.execSkip n s
  | .flush n => Sys2Proof.Machine.execFlush n s
  | .ledgerPrefetch n => Sys2Proof.Machine.execLedgerPrefetch n s
  | .waitTimeout n => Sys2Proof.Machine.execWaitTimeout n s
  | .dwellEnd n => Sys2Proof.Machine.execDwellEnd n s
  | .standstillDelayExpiry n => Sys2Proof.Machine.execStandstillDelayExpiry n s
  | .tableSelWrite n v => Sys2Proof.Machine.execTableSelWrite n v s
  | .tableDataWrite v => Sys2Proof.Machine.execTableDataWrite v s
  | .tableDataRead => Sys2Proof.Machine.execTableDataRead s
  | .tableCommit => Sys2Proof.Machine.execTableCommit s
  | .tableCommitDone => Sys2Proof.Machine.execTableCommitDone s
  | .tableInvalidate => Sys2Proof.Machine.execTableInvalidate s
  | .applyChop n => Sys2Proof.Machine.execApplyChop n s
  | .readbackWrite n v => Sys2Proof.Machine.execReadbackWrite n v s
  | .comparatorCrossing n ph upper t cycles => Sys2Proof.Machine.execComparatorCrossing n ph upper t s cycles
  | .chopMinTimeEnd n ph t => Sys2Proof.Machine.execChopMinTimeEnd n ph t s
  | .chopSlow n ph t => Sys2Proof.Machine.execChopSlow n ph t s
  | .chopPwmPeriod n ph ending t => Sys2Proof.Machine.execChopPwmPeriod n ph ending t s
  | .charStepDone n m => Sys2Proof.Machine.execCharStepDone n m s
  | .charStepTimeout n => Sys2Proof.Machine.execCharStepTimeout n s
  | .selftestSwitchTimeout n sw => Sys2Proof.Machine.execSelftestSwitchTimeout n sw s
  | .accept n => Sys2Proof.Machine.execAccept n s
  | .save n => Sys2Proof.Machine.execSave n s
  | .discard n => Sys2Proof.Machine.execDiscard n s
  | .scDetect n sw sense t => Sys2Proof.Machine.execScDetect n sw s sense t
  | .gateScDetect sense t => Sys2Proof.Machine.execGateScDetect sense s t
  | .uvloTrip u t => Sys2Proof.Machine.execUvloTrip u s t
  | .uvloRelease u below => Sys2Proof.Machine.execUvloRelease u s below
  | .vcpUvloArm d => Sys2Proof.Machine.execVcpUvloArm d s
  | .tripNLow lowNs => Sys2Proof.Machine.execTripNLow lowNs s
  | .tripNHigh => Sys2Proof.Machine.execTripNHigh s
  | .drvEnFall lowNs => Sys2Proof.Machine.execDrvEnFall lowNs s
  | .drvEnRise lowNs => Sys2Proof.Machine.execDrvEnRise lowNs s
  | .gateEnFall lowNs => Sys2Proof.Machine.execGateEnFall lowNs s
  | .gateEnRise lowNs => Sys2Proof.Machine.execGateEnRise lowNs s
  | .thermWarn d above => Sys2Proof.Machine.execThermWarn d above s
  | .thermShutdown d => Sys2Proof.Machine.execThermShutdown d s
  | .thermCool d above => Sys2Proof.Machine.execThermCool d s above
  | .autoRetryWaitEnd p c m => Sys2Proof.Machine.execAutoRetryWaitEnd p c s m
  | .retryCntReset p c => Sys2Proof.Machine.execRetryCntReset p c s
  | .scOutputCheckEnd p shorted => Sys2Proof.Machine.execScOutputCheckEnd p shorted s
  | .firstHeartbeat d => Sys2Proof.Machine.execFirstHeartbeat d s
  | .heartbeatLoss d => Sys2Proof.Machine.execHeartbeatLoss d s
  | .heartbeatResume d => Sys2Proof.Machine.execHeartbeatResume d s
  | .gateStreamStop => Sys2Proof.Machine.execGateStreamStop s
  | .start => Sys2Proof.Machine.execStart s
  | .stop => Sys2Proof.Machine.execStop s
  | .applyTable => Sys2Proof.Machine.execApplyTable s
  | .applyDrive => Sys2Proof.Machine.execApplyDrive s
  | .prechargeEnd => Sys2Proof.Machine.execPrechargeEnd s
  | .hallCodeChange code t => Sys2Proof.Machine.execHallCodeChange code t s
  | .gatePwmPeriod t => Sys2Proof.Machine.execGatePwmPeriod t s
  | .bootRefresh ph t => Sys2Proof.Machine.execBootRefresh ph s t
  | .ilim t => Sys2Proof.Machine.execIlim s t
  | .slopeTimeout ph edge => Sys2Proof.Machine.execSlopeTimeout ph s edge
  | .shxMidpointCrossing ph since edge => Sys2Proof.Machine.execShxMidpointCrossing ph s since edge
  | .hallTimeout => Sys2Proof.Machine.execHallTimeout s
  | .quadratureChange ch a b held cycles heldB heldI => Sys2Proof.Machine.execQuadratureChange ch a b s held cycles heldB heldI
  | .stepEdge ch dirAfter held cycles heldI => Sys2Proof.Machine.execStepEdge ch dirAfter s held cycles heldI
  | .encoderIndex ch up held cycles => Sys2Proof.Machine.execEncoderIndex ch s up held cycles
  | .countLoad ch v edge heldI => Sys2Proof.Machine.execCountLoad ch v s edge heldI
  | .speedWindowEnd ch => Sys2Proof.Machine.execSpeedWindowEnd ch s
  | .indexMissing ch => Sys2Proof.Machine.execIndexMissing ch s
  | .arm p => Sys2Proof.Machine.execArm p s
  | .disarm p => Sys2Proof.Machine.execDisarm p s
  | .ptCfgWrite p v => Sys2Proof.Machine.execPtCfgWrite p v s
  | .sync x => Sys2Proof.Machine.execSync x s
  | .emuEdge x => Sys2Proof.Machine.execEmuEdge x s
  | .tallyEnableWrite en => Sys2Proof.Machine.execTallyEnableWrite en s
  | .timerCountTick n pin => Sys2Proof.Machine.execTimerCountTick n pin s
  | .timerStart n => Sys2Proof.Machine.execTimerStart n s
  | .timerStop n => Sys2Proof.Machine.execTimerStop n s
  | .load n => Sys2Proof.Machine.execLoad n s
  | .timerLinkAction n => Sys2Proof.Machine.execTimerLinkAction s n
  | .captureLRead n => Sys2Proof.Machine.execCaptureLRead n s
  | .compareWrite n v => Sys2Proof.Machine.execCompareWrite n v s
  | .go c => Sys2Proof.Machine.execGo c s
  | .halt c => Sys2Proof.Machine.execHalt c s
  | .inject c => Sys2Proof.Machine.execInject c s
  | .calNow c => Sys2Proof.Machine.execCalNow c s
  | .cnvStartupEnd c => Sys2Proof.Machine.execCnvStartupEnd c s
  | .cnvDelayEnd c => Sys2Proof.Machine.execCnvDelayEnd c s
  | .cnvConversionDone c vin err => Sys2Proof.Machine.execCnvConversionDone c vin s err
  | .cnvStreamResult c vin err => Sys2Proof.Machine.execCnvStreamResult c vin s err
  | .cnvCfgWrite c v => Sys2Proof.Machine.execCnvCfgWrite c v s
  | .calSlotStart c => Sys2Proof.Machine.execCalSlotStart c s
  | .bgForced c => Sys2Proof.Machine.execBgForced c s
  | .run => Sys2Proof.Machine.execRun s
  | .assayPeriodicStart => Sys2Proof.Machine.execAssayPeriodicStart s
  | .wmonCompare m x => Sys2Proof.Machine.execWmonCompare m x s
  | .wmonThresholdWrite m hi v => Sys2Proof.Machine.execWmonThresholdWrite m hi v s
  | .flash n lines delayed cycles => Sys2Proof.Machine.execFlash n s lines delayed cycles
  | .exposureTargetReached g t10ns => Sys2Proof.Machine.execExposureTargetReached g t10ns s
  | .flashMaxExpiry => Sys2Proof.Machine.execFlashMaxExpiry s
  | .apply n => Sys2Proof.Machine.execApply n s
  | .fadeStep n => Sys2Proof.Machine.execFadeStep n s
  | .lampPwmPeriod n => Sys2Proof.Machine.execLampPwmPeriod n s
  | .lampVoltageSample n k v => Sys2Proof.Machine.execLampVoltageSample n k v s
  | .lampJudgeInterval n => Sys2Proof.Machine.execLampJudgeInterval n s
  | .headroom n low => Sys2Proof.Machine.execHeadroom n low s
  | .feedbackWindowEnd r g b => Sys2Proof.Machine.execFeedbackWindowEnd r g b s
  | .dieTempSample celsius cycles => Sys2Proof.Machine.execDieTempSample celsius s cycles
  | .tempStale ntc cycles => Sys2Proof.Machine.execTempStale s ntc cycles
  | .tapTest n => Sys2Proof.Machine.execTapTest n s
  | .tapTestEnd n roseMv => Sys2Proof.Machine.execTapTestEnd n roseMv s
  | .clrLamp n => Sys2Proof.Machine.execClrLamp n s
  | .chainFrameStart => Sys2Proof.Machine.execChainFrameStart s
  | .chainLevelStep => Sys2Proof.Machine.execChainLevelStep s
  | .lcThermFault lowUs => Sys2Proof.Machine.execLcThermFault s lowUs
  | .lcThermRelease highMs => Sys2Proof.Machine.execLcThermRelease s highMs
  | .resume => Sys2Proof.Machine.execResume s
  | .helloSend => Sys2Proof.Machine.execHelloSend s
  | .helloReceive h => Sys2Proof.Machine.execHelloReceive h s
  | .mirrorSend => Sys2Proof.Machine.execMirrorSend s
  | .mirrorReceive m => Sys2Proof.Machine.execMirrorReceive m s
  | .leaveReceive serial flags => Sys2Proof.Machine.execLeaveReceive s serial flags
  | .twinLost => Sys2Proof.Machine.execTwinLost s
  | .orphanLoad => Sys2Proof.Machine.execOrphanLoad s
  | .retry => Sys2Proof.Machine.execRetry s
  | .clrOrphan => Sys2Proof.Machine.execClrOrphan s
  | .confirm v => Sys2Proof.Machine.execConfirm v s
  | .peerReset v => Sys2Proof.Machine.execPeerReset v s
  | .vioPresentChange present => Sys2Proof.Machine.execVioPresentChange present s
  | .pfailNRelease => Sys2Proof.Machine.execPfailNRelease s
  | .vmBelowBrakeOn => Sys2Proof.Machine.execVmBelowBrakeOn s
  | .bridgeLogicSupplyChange d ok => Sys2Proof.Machine.execBridgeLogicSupplyChange d ok s
  | .linkUpChange up => Sys2Proof.Machine.execLinkUpChange up s
  | .twinEnableWrite enable pairEn => Sys2Proof.Machine.execTwinEnableWrite enable pairEn s

end Sys2Proof.Machine
end

