-- ==== Sys2Proof/Machine/Step.lean ====
section
/-! DEFINITION. One step of the block: it takes the command at the front of the queue and runs it. -/

namespace Sys2Proof.Machine

/-- The command at the front of the queue runs on the state with the queue's rest. On an empty queue the block idles
(DESIGN CHOICE, log entry 1: elapsed time is brought by the commands, so nothing happens without one). Commands that fall in
one FBUS cycle stand in the queue in the order that R19, R20 and R334 give them: a clear before the event that the hardware
sets, an apply before a staging, a timer's start before its stop (DESIGN CHOICE, log entry 103). -/
def step (s : State) : Host.Outcome State Fault Refusal :=
  match s.pending with
  | [] => .next s
  | c :: rest => exec c { s with pending := rest }

/-- The state with the command that a table word spells put at the front of its queue. -/
def State.withFetchWord (s : State) (nbits w : Nat) : State :=
  match decodeTableWord nbits w with
  | some c => { s with pending := c :: s.pending }
  | none => s

end Sys2Proof.Machine
end

