-- ==== Sys2Proof/Machine/Outputs.lean ====
section
/-! DEFINITION. What the output pins show (R35, R36, R40, R43): levels that follow from the state, and that no command reads. -/

namespace Sys2Proof.Machine

/-- An output pin: high impedance (an open-drain output released, a pad of an absent unit), driven low or high, or shifting
frames. -/
inductive PinOut where
  | hiZ
  | low
  | high
  | shifting
  deriving DecidableEq, Repr

/-- An output of domain VIO is Hi-Z without VIO (R43), and where its unit is absent (R40). -/
def State.vioPin (s : State) (here : Bool) (p : PinOut) : PinOut := if s.sup.vio && here then p else .hiZ

/-- An open-drain output pulls low while it is asserted. -/
def State.drainPin (s : State) (on : Bool) : PinOut := s.vioPin true (if on then .low else .hiZ)

/-- FAULT_N (R36, R116). -/
def State.faultPin (s : State) : PinOut := s.drainPin s.faultN

/-- IRQ0_N to IRQ3_N (R112). -/
def State.irqPin (s : State) (line : Fin 4) : PinOut := s.drainPin (s.irqLine line.val)

/-- TWINOK_N, asserted in MIRRORING (R405). -/
def State.twinokPin (s : State) : PinOut := s.drainPin (s.awake && decide (s.twin.st = .mirroring))

def levelPin (b : Bool) : PinOut := if b then .high else .low

/-- XnA, XnB and XnI (R325): low until host software enables the unit (R36). -/
def State.emuOutPins (s : State) (x : Fin 2) : PinOut × PinOut × PinOut :=
  match s.emuPins x with
  | none => (.hiZ, .hiZ, .hiZ)
  | some (a, b, i) => (s.vioPin (s.hasEmu x) (levelPin a), s.vioPin (s.hasEmu x) (levelPin b), s.vioPin (s.hasEmu x) (levelPin i))

/-- LC_BLANK (R396, R399, R400). -/
def State.blankPin (s : State) : PinOut := s.vioPin s.part.hasChandler (levelPin s.chainBlank)

/-- LC_CLK, LC_DAT and LC_LAT: low unless the chain shifts its frames (R396, R400). -/
def State.chainPins (s : State) : PinOut := s.vioPin s.part.hasChandler (if s.chainLive then .shifting else .low)

/-- The shorting switch between two taps is open, somewhere in the present PWM period outside a flash. On a part without Chandler
nothing joins the pads (R40). In STANDBY, in reset and until host software enables CHAND the switches are open (R35, R36, R395),
and beyond N they are held closed (R376). DESIGN CHOICE (log entry 114): CTRL.ENABLE cleared later opens them too. -/
def State.lampSwitchOpen (s : State) (n : Fin 4) (k : Fin 8) : Bool :=
  if s.chandLive = false then true
  else
    let l := s.lamp n k
    if (s.str n).inFlash then l.lit
    else s.tapHeld n k.val
      || (!(closedLamps (s.str n) (s.lampCount n)).getLsbD k.val && (l.probe || decide (0 < l.window)))

/-- The sink of a string carries current: off in STANDBY, in reset and in SAFE (R35, R395). -/
def State.sinkOn (s : State) (n : Fin 4) : Bool := s.awake && s.strLit n

end Sys2Proof.Machine
end

