-- ==== Sys2Proof/Safety.lean ====
section
/-! DEFINITION. What a good state of the block is, when a register command reaches its unit, when an axis cruises or its record
runs undisturbed, and what a command leaves alone: the terms the claims use. -/

namespace Sys2Proof.Safety

open Sys2Proof.Machine

/-- The register file, the words that wait, the table banks, the SRAM and the store keep their canonical form. -/
def memoriesOk (s : State) : Bool :=
  Store.wf resetWord s.regs && Store.wf (fun _ => 0#16) s.table.bank
    && Memory.wf sramDefault s.mem.sram && Memory.wf mramDefault s.nvs.mram

/-- The command answers a next state that has the property. -/
def Runs (c : Instr) (s : State) (P : State → Prop) : Prop := ∃ t, exec c s = .next t ∧ P t

/-- A register command reaches its unit at once: the page is served, present and out of UNIT_RESET (R54, R67, R76), no
access waits behind the window's buffer (R142), and no image is being applied (R154). -/
def PortReady (s : State) (page : Nat) : Prop :=
  s.spi.waiting = [] ∧ s.nvs.image = none ∧ s.target page = .unit

/-- No register but the listed ones, by page and offset, reads differently in the register file. -/
def SameRegsBut (l : List (Nat × Nat)) (s t : State) : Prop :=
  ∀ page off, off < 256 → (page, off) ∉ l → t.reg page off = s.reg page off

/-- Event `k` of a page is set. -/
def HasEvent (t : State) (page k : Nat) : Prop := (t.reg page 0x03).getLsbD k = true

/-- Nothing but the register file and the unlocks differs. -/
def OnlyRegs (s t : State) : Prop := t = { s with regs := t.regs, unlock := t.unlock }

/-- The words of the image that the current CONFIG record holds, when it is one that may be applied (R154, R155). -/
def configImage (s : State) : Option (List Word) :=
  match (s.currentRec 1 0).1 with
  | none => none
  | some r =>
    let part := wordAt r.payload 1
    let n := (wordAt r.payload 2).toNat
    let l := r.payload.drop 3
    if wordAt r.payload 0 = 0x0001#16 ∧ (part = 0#16 ∨ part = s.part.number) ∧ 3 ≤ r.payload.length ∧ imageFits n l then
      some (imageTake n l)
    else none

/-- The payload of the current record of a kind, where it has the length that bring-up asks for (R153). -/
def storedAs (s : State) (ty i len : Nat) : Option (List Word) :=
  (s.currentRec ty i).1.bind (fun r => if r.len = len then some r.payload else none)

/-- The same of a record of version 1 (R150, R153). -/
def storedV1 (s : State) (ty i len : Nat) : Option (List Word) :=
  (storedAs s ty i len).filter (fun p => wordAt p 0 == 0x0001#16)

/-- The word at `a` does not belong to the source of a host WRITE in progress (R150). -/
def notSource (s : State) (a : Nat) : Bool :=
  match s.nvs.job with
  | .write _ _ src len _ _ _ _ => decide (a < src ∨ src + len ≤ a)
  | _ => true

/-- Every byte of a memory outside `len` bytes from `a` reads as before. -/
def SameBytesOutside (dflt : Nat → Byte) (a len : Nat) (m m' : List Host.Cell) : Prop :=
  ∀ b, b < a ∨ a + len ≤ b → Cells.get dflt m' b = Cells.get dflt m b

/-- Every entry of the table banks but the one at `1024 * bank + index` is as before. -/
def SameTableBut (a : Nat) (s t : State) : Prop :=
  ∀ b, b ≠ a → Store.get (fun _ => 0#16) t.table.bank b = Store.get (fun _ => 0#16) s.table.bank b

/-- On the next tick neither a STOP nor a request acts on the axis: the block is awake, the axis present and enabled, no STOP runs or
is asked for, and no request waits. -/
def tickCalm (s : State) (n : Ax) : Prop :=
  s.awake = true ∧ s.hasAxis n = true ∧ s.regBit (axPage n) 0x01 0 = true ∧ (s.axis n).stopping = none ∧ (s.axis n).req = {} ∧
  s.stopN = false

/-- On the next tick nothing but its own mode acts on the axis: neither a following error nor a stall is watched for. -/
def tickQuiet (s : State) (n : Ax) : Prop :=
  tickCalm s n ∧ s.reg (axPage n) 0x3C = 0#16 ∧ s.regBit (axPage n) 0x40 0 = false

/-- The axis cruises in VELOCITY at VCMD, within VMAX and without soft limits, and watches for no following error (R192). -/
def cruises (s : State) (n : Ax) : Prop :=
  tickCalm s n ∧ s.reg (axPage n) 0x3C = 0#16 ∧ (s.axis n).mode = .velocity ∧ s.softLimits n = none ∧ s.reduced = false ∧
  (s.wide (axPage n) 0x24).toInt.natAbs ≤ (s.jogLimits n).vmax ∧ (s.axis n).chan.a = 0 ∧
  (s.axis n).chan.v = Ramp.velUnits (s.wide (axPage n) 0x24).toInt

/-- POSITION one tick of cruise later (R186). -/
def cruisePos (s : State) (n : Ax) : Int := Ramp.position { (s.axis n).chan with p := (s.axis n).chan.p + (s.axis n).chan.v / 65536 }

/-- LOAD_ANGLE of R252 from the averages of a state and the velocity `v`, at the electrical angle of its position. -/
def loadAngleOf (s : State) (n : Ax) (v : Int) : Int :=
  let ea := (s.reg (brPage n) 0x1B).toInt
  let eb := (s.reg (brPage n) 0x1C).toInt
  let sn := Fixed.sin4096 (s.angle n)
  let cs := Fixed.cos4096 (s.angle n)
  let sgn : Int := if (v < 0) = (s.dirInv n = true) then 1 else -1
  Fixed.atan2Units (ea * sn + eb * cs) (sgn * (ea * cs - eb * sn))

/-- EMF_AMP of R252. -/
def emfAmp (s : State) (n : Ax) : Nat :=
  isqrt (((s.reg (brPage n) 0x1B).toInt.natAbs) ^ 2 + ((s.reg (brPage n) 0x1C).toInt.natAbs) ^ 2)

/-- EMF_EXP of R252 at the velocity `v`. -/
def emfExp (s : State) (n : Ax) (v : Int) : Nat := (s.reg (axPage n) 0x48).toNat * v.natAbs * 1000 / (1024 * 281474976710656)

/-- The stall condition of R254 for an estimate that counts. -/
def stallMet (s : State) (n : Ax) (v : Int) : Prop :=
  s.regBit (axPage n) 0x40 0 = true ∧ (((s.reg (axPage n) 0x42).toNat : Int) < loadAngleOf s n v ∨
    (s.reg (axPage n) 0x48 ≠ 0#16 ∧ emfAmp s n * 16 < emfExp s n v * s.regFld (axPage n) 0x40 8 4))

/-- The state with the cruise's next tick made in POSITION alone. -/
def cruised (s : State) (n : Ax) : State := s.modAxis n (fun a => { a with
  chan := { a.chan with p := (BitVec.ofInt 64 (a.chan.p + a.chan.v / 65536)).toInt } })

/-- The record at HEAD, where it is loaded. -/
def headRec (s : State) (n : Ax) : LRec := (s.ledger n).loaded.headD {}

/-- The record at HEAD runs, the last one loaded, and the next tick is its own. -/
def runsQuiet (s : State) (n : Ax) : Prop :=
  tickQuiet s n ∧ (s.axis n).mode = .ledger ∧ (s.axis n).correcting = false ∧ (s.ledger n).run.isSome = true ∧ (s.ledger n).loaded.length = 1

/-- The count of a DWELL that is not LAST is over, and a committed record is loaded behind it (R210, R212). -/
def dwellLeadsOn (s : State) (n : Ax) : Prop :=
  (s.countOver n 3).map LRec.last = some false ∧ 2 ≤ (s.ledger n).loaded.length ∧ 2 ≤ s.fill n ∧
  (s.axis n).correcting = false ∧ s.regBit ledgPage 0x01 0 = true

/-- Neither its START nor a barrier holds a record that is current, and nothing keeps it from starting (R211, R212, R219). -/
def mayStart (s : State) (n : Ax) (r : LRec) : Prop :=
  (r.timed = false ∨ 0 ≤ s.lateness r) ∧ (r.barrier = false ∨ s.participates n r.barrierId = false) ∧ s.recordFault n r false = none

/-- A bit of Qn_FLAGS. -/
def ledgFlagSet (s : State) (n : Ax) (k : Nat) : Prop := (s.reg ledgPage (lOff n 0xB)).getLsbD k = true

/-- HEAD has moved past the record, with its tag shown, and what its ACTION, LAST and an empty queue ask for (R217, R218, R221). -/
def completed (s t : State) (n : Ax) (r : LRec) : Prop :=
  (t.ledger n).head = ((s.ledger n).head + 1) % s.ledgLen n ∧ (t.ledger n).run = none ∧ t.reg ledgPage (lOff n 0xA) = r.tag ∧
  (r.action = 3 → t.reg ledgPage (lOff n 0xF) = r.tag ∧ ledgFlagSet t n 8) ∧
  (r.last = true → ledgFlagSet t n 2 ∧ ((t.axis n).chan.v = 0 → (t.axis n).mode = .hold ∧ (t.ledger n).st = .stopped)) ∧
  (r.last = false ∧ s.fill n = 1 → ledgFlagSet t n 1 ∧ (t.ledger n).st = .starved ∧ (t.axis n).mode = .ledger)

/-- The record loaded behind the one at HEAD (R207). -/
def secondRec (s : State) (n : Ax) : LRec := (s.ledger n).loaded.getD 1 {}

/-- The state in which the gate port has been told the time `t` (5 ns units; R302 to R304). -/
def gateToldAt (s : State) (t : Nat) : State := if s.gateLive ∧ s.gate.now < t then s.gateTime t else s

end Sys2Proof.Safety
end

