-- ==== Sys2Proof/Certificates/Slice0/Obligations.lean ====
section
/-! DEFINITION. The statements for the provers, family by family. -/

open Sys2Proof Sys2Proof.Machine Sys2Proof.Safety

/-- For every state whose queue begins with a command, a step is exec of that command on the state whose queue is the rest; on an empty queue the block idles (the model's choice, log entry 1). -/
def Obligations.StepRunsFrontCommand : Prop :=
  (∀ (s : State) (c : Instr) (rest : List Instr), s.pending = c :: rest → step s = exec c { s with pending := rest }) ∧
  (∀ s : State, s.pending = [] → step s = .next s)

/-- After reset the register file, the table banks, the SRAM and the store list addresses that strictly rise and no entry that equals what an unlisted address reads as; nothing is listed, which is the model's choice for SRAM, store and table banks (log entries 4 and 5), and no command waits (log entry 1). -/
def Obligations.ResetMemoriesCanonical : Prop :=
  memoriesOk State.reset = true ∧ State.reset.regs = [] ∧ State.reset.mem.sram = [] ∧ State.reset.nvs.mram = [] ∧
  State.reset.pending = []

/-- For every state whose register file, table banks, SRAM and store are in canonical form (addresses strictly rising, no entry equal to what an unlisted address reads as), whatever command a step takes from the queue, the next state has them in canonical form too. So equal memories are equal data in every state that a run from such a state reaches. -/
def Obligations.StepKeepsMemoriesCanonical : Prop :=
  ∀ s t : State, memoriesOk s = true → step s = .next t → memoriesOk t = true

/-- While the port lives and the page is ready, SPI_SINGLE_READ in whichever core clock cycle answers a next state: its own frame carried the status byte, the echo and the data that stood before; afterwards the echo is its offset, the data is what the register reads (with the side effects of the read), the error bits are clear, and the watchdog no longer counts as expired. Every byte of the store and every axis and bridge is as before. While the port lives and the page is ready, SPI_BURST_READ of one word answers a next state: the word that the register reads, with the side effects of the read, was on MISO in this frame. With a good CRC the next frame reports the offset and no error; with a bad one it reports CRC_ERR and echo 0. On a page without read side effects a burst of 1 to 64 words carries the words at the offsets that follow modulo 256, and changes no register, whatever its CRC shows. So that exec answers a next state for: spiSingleRead, spiBurstRead. -/
def Obligations.ReadsCarryTheirWords : Prop :=
  (∀ (s : State) (page : PageNo) (off : Offset) (cy : Nat),
      s.portLive = true →
      PortReady s page.toNat →
      Runs (.spiSingleRead page off cy) s (fun t =>
        t.spi.miso = s.singleMiso ∧ t.spi.echo = off ∧ t.spi.crcErr = false ∧ t.spi.notReady = false ∧
        t.spi.absent = false ∧ t.spi.bcast = false ∧
        t.spi.data = (((s.timeAt cy).frameSeen s.singleMiso page.toNat off.toNat 0#16 true).readReg false false page.toNat off.toNat).1 ∧
        t.pwr = { s.pwr with hostExpired := false } ∧ t.nvs = s.nvs ∧ t.axes = s.axes ∧ t.brgs = s.brgs)) ∧
  (∀ (s : State) (page : PageNo) (off : Offset) (cy : Nat),
      s.portLive = true →
      PortReady s page.toNat →
      Runs (.spiBurstRead page off 1 true cy) s (fun t =>
        t.spi.miso = s.readMiso [((s.timeAt cy).readReg false false page.toNat off.toNat).1] ∧ t.spi.echo = off ∧ t.spi.crcErr = false ∧
        t.rdata = ((s.timeAt cy).readReg false false page.toNat off.toNat).1)) ∧
  (∀ (s : State) (page : PageNo) (off : Offset) (cy : Nat),
      s.portLive = true →
      PortReady s page.toNat →
      Runs (.spiBurstRead page off 1 false cy) s (fun t =>
        t.spi.miso = s.readMiso [((s.timeAt cy).readReg false false page.toNat off.toNat).1] ∧ t.spi.echo = 0#8 ∧ t.spi.crcErr = true ∧
        t.pwr = s.pwr)) ∧
  (∀ (s : State) (page : PageNo) (off : Offset) (n : Nat) (ok : Bool) (cy : Nat),
      s.portLive = true →
      PortReady s page.toNat →
      page.toNat ≠ memPage →
      page.toNat ≠ timePage →
      page.toNat ≠ tmrPage →
      page.toNat ≠ tablePage →
      1 ≤ n →
      n ≤ 64 →
      Runs (.spiBurstRead page off n ok cy) s (fun t =>
        t.spi.miso = s.readMiso ((List.range n).map (fun k => s.peek false page.toNat ((off.toNat + k) % 256))) ∧ t.spi.crcErr = !ok ∧
        t.spi.echo = (if ok then off else 0#8) ∧ t.regs = s.regs ∧ t.mem = s.mem ∧ t.axes = s.axes))

/-- On every ready page, TABLE only while it is not BUSY, and in whichever core clock cycle the write falls: a REGISTER_WRITE to EVENT clears exactly the bits written 1, one to EVENT_EN stores the bits of defined events, one to EVENT_ROUTE_H or EVENT_ROUTE_L stores the two bits of each defined event (8 to 15, 0 to 7), and no other register changes. A single write frame and a burst of two words do the same to the registers at its offset and the next, and report their echo. Each such write consumes the unlock of its page. A burst of 1 to 64 words to any other page than DEV and MEM reports its echo with data 0, feeds the watchdog, and leaves the page unlocked only where its last word is the key at KEY. IRQn_N is asserted exactly while the device is awake, LINE_MASK bit n is clear and a present page has an event set, enabled and routed to line n; the PEND summaries show such pages, whatever the mask; a write of LINE_MASK changes no event and no summary. FAULT_N is asserted, out of reset, exactly while a bridge or a present gate port has a latch set, in SAFE, with an enabled SAFE cause latched in STANDBY, or with WAKE_FAIL not 0. So that exec answers a next state for: registerWrite, spiSingleWrite, spiBurstWrite. -/
def Obligations.EventRegistersTakeWrites : Prop :=
  (∀ (s : State) (page : PageNo) (v : Word) (cy : Nat),
      PortReady s page.toNat →
      (page.toNat ≠ tablePage ∨ s.table.busy = false) →
      Runs (.registerWrite page 0x03#8 v cy) s (fun t =>
        t.reg page.toNat 0x03 = s.reg page.toNat 0x03 &&& ~~~v ∧ t.unlocked page.toNat = false ∧
        SameRegsBut [(page.toNat, 0x03)] s t ∧ OnlyRegs (s.timeAt cy) t)) ∧
  (∀ (s : State) (page : PageNo) (v : Word) (cy : Nat),
      PortReady s page.toNat →
      (page.toNat ≠ tablePage ∨ s.table.busy = false) →
      Runs (.registerWrite page 0x04#8 v cy) s (fun t =>
        t.reg page.toNat 0x04 = v &&& eventMask (pageKind page.toNat) ∧ t.unlocked page.toNat = false ∧
        SameRegsBut [(page.toNat, 0x04)] s t ∧ OnlyRegs (s.timeAt cy) t)) ∧
  (∀ (s : State) (page : PageNo) (hi : Bool) (v : Word) (cy : Nat),
      PortReady s page.toNat →
      (page.toNat ≠ tablePage ∨ s.table.busy = false) →
      Runs (.registerWrite page (if hi then 0x06#8 else 0x05#8) v cy) s (fun t =>
        (∀ k : Fin 16, (t.reg page.toNat (if hi then 0x06 else 0x05)).getLsbD k.val =
          (v.getLsbD k.val && (eventMask (pageKind page.toNat)).getLsbD ((if hi then 8 else 0) + k.val / 2))) ∧
        t.unlocked page.toNat = false ∧ SameRegsBut [(page.toNat, if hi then 0x06 else 0x05)] s t ∧ OnlyRegs (s.timeAt cy) t)) ∧
  (∀ (s : State) (page : PageNo) (v : Word) (cy : Nat),
      s.portLive = true →
      PortReady s page.toNat →
      (page.toNat ≠ tablePage ∨ s.table.busy = false) →
      Runs (.spiSingleWrite page 0x03#8 v cy) s (fun t =>
        t.reg page.toNat 0x03 = s.reg page.toNat 0x03 &&& ~~~v ∧ SameRegsBut [(page.toNat, 0x03)] s t ∧
        t.spi.miso = s.singleMiso ∧ t.spi.echo = 0x03#8 ∧ t.spi.data = v ∧ t.spi.crcErr = false ∧
        t.pwr.hostExpired = false)) ∧
  (∀ (s : State) (page : PageNo) (v w : Word) (cy : Nat),
      s.portLive = true →
      PortReady s page.toNat →
      (page.toNat ≠ tablePage ∨ s.table.busy = false) →
      Runs (.spiBurstWrite page 0x03#8 [v, w] cy) s (fun t =>
        t.reg page.toNat 0x03 = s.reg page.toNat 0x03 &&& ~~~v ∧
        t.reg page.toNat 0x04 = w &&& eventMask (pageKind page.toNat) ∧
        SameRegsBut [(page.toNat, 0x03), (page.toNat, 0x04)] s t ∧
        t.spi.miso = s.writeMiso 2 ∧ t.spi.echo = 0x03#8 ∧ t.spi.data = 0#16)) ∧
  (∀ (s : State) (page : PageNo) (off : Offset) (ws : List Word) (cy : Nat),
      s.portLive = true →
      PortReady s page.toNat →
      (page.toNat ≠ tablePage ∨ s.table.busy = false) →
      page.toNat ≠ devPage →
      page.toNat ≠ memPage →
      ws ≠ [] →
      ws.length ≤ 64 →
      Runs (.spiBurstWrite page off ws cy) s (fun t => t.spi.miso = s.writeMiso ws.length ∧ t.spi.echo = off ∧ t.spi.data = 0#16 ∧
        t.spi.crcErr = false ∧ t.spi.waiting = [] ∧ t.pwr.hostExpired = false ∧ (t.unlocked page.toNat = true → ws.getLast? = some 0x7A5C#16 ∧ (off.toNat + ws.length - 1) % 256 = 0x07))) ∧
  (∀ (s : State) (l : Fin 4),
      (s.irqLine l.val = true ↔ s.awake = true ∧ s.regBit evtPage 0x10 l.val = false ∧ ∃ (p : Fin 64) (k : Fin 16),
        p.val ∈ eventPages ∧ s.pagePresent p.val = true ∧ HasEvent s p.val k.val ∧ (s.reg p.val 0x04).getLsbD k.val = true ∧ (if k.val < 8 then s.regFld p.val 0x05 (2 * k.val) 2 else s.regFld p.val 0x06 (2 * (k.val - 8)) 2) = l.val)) ∧
  (∀ (s : State) (l : Fin 4) (q : Fin 16),
      (((s.peek false evtPage (0x08 + 2 * l.val)).getLsbD q.val = true ↔ ∃ (p : Fin 64) (k : Fin 16), p.val = q.val ∧ s.pagePresent p.val = true ∧ HasEvent s p.val k.val ∧ (s.reg p.val 0x04).getLsbD k.val = true ∧ (if k.val < 8 then s.regFld p.val 0x05 (2 * k.val) 2 else s.regFld p.val 0x06 (2 * (k.val - 8)) 2) = l.val) ∧
        ((s.peek false evtPage (0x09 + 2 * l.val)).getLsbD q.val = true ↔ ∃ (p : Fin 64) (k : Fin 16),
          (if q.val < 10 then p.val = 0x10 + q.val ∨ p.val = 0x20 + q.val else p.val = 0x26 + q.val) ∧ s.pagePresent p.val = true ∧ HasEvent s p.val k.val ∧ (s.reg p.val 0x04).getLsbD k.val = true ∧ (if k.val < 8 then s.regFld p.val 0x05 (2 * k.val) 2 else s.regFld p.val 0x06 (2 * (k.val - 8)) 2) = l.val))) ∧
  (∀ (s : State) (v : Word) (cy : Nat) (l : Fin 4),
      PortReady s evtPage →
      Runs (.registerWrite (BitVec.ofNat 6 evtPage) 0x10#8 v cy) s (fun t => t.reg evtPage 0x10 = v &&& 0x000F#16 ∧ SameRegsBut [(evtPage, 0x10)] s t ∧
        (v.getLsbD l.val = true → t.irqLine l.val = false) ∧ t.pendA l.val = s.pendA l.val ∧ t.pendB l.val = s.pendB l.val)) ∧
  (∀ (s : State),
      s.pwr.testHold = false →
      s.pwr.fromReset = false →
      (s.faultN = true ↔ (∃ n : Ax, s.hasAxis n = true ∧ (s.brg n).prot.latched = true) ∨ (s.part.hasGate = true ∧ s.gate.prot.latched = true) ∨
        s.pwr.pstate = .safe ∨ s.wakeFail ≠ 0 ∨ (s.pwr.pstate = .standby ∧ s.reg devPage 0x19 &&& s.reg devPage 0x1A ≠ 0#16)))

/-- While the port lives, FRAME_REJECTED answers a next state that differs from the one before in the port alone: the next frame reports CRC_ERR with echo and data 0, and the watchdog is not fed. So that exec answers a next state for: frameRejected. -/
def Obligations.RejectedFrameOnlyReports : Prop :=
  (∀ (s : State) (bytes : List Byte) (extra : Nat),
      s.portLive = true →
      Runs (.frameRejected bytes extra) s (fun t =>
        t = { s with spi := t.spi } ∧ t.spi.crcErr = true ∧ t.spi.echo = 0#8 ∧ t.spi.data = 0#16 ∧ t.spi.waiting = s.spi.waiting.map PortAccess.older))

/-- On a ready page, TABLE only while it is not BUSY, KEY_WRITE of 0x7A5C unlocks that page and any other value cancels its unlock; the unlocks of the other pages stay, and nothing else changes. UNLOCK_LAPSE ends the unlock of its page and nothing else. On a ready page of FABRIC, DMA, LCHAIN or WMON, UNIT_RESET returns every register at 0x01 to 0xFF to its Reset value, cancels the unlock, and leaves every other page's registers alone; the page is not ready until UNIT_RESET_COMPLETE, which changes nothing else. So that exec answers a next state for: keyWrite, unlockLapse, unitReset, unitResetComplete. -/
def Obligations.KeysAndUnitResetsReachOnePage : Prop :=
  (∀ (s : State) (page : PageNo) (v : Word),
      PortReady s page.toNat →
      (page.toNat ≠ tablePage ∨ s.table.busy = false) →
      Runs (.keyWrite page v) s (fun t => t = { s with unlock := t.unlock } ∧
        t.unlocked page.toNat = decide (v = 0x7A5C#16) ∧ ∀ q : Fin 64, q.val ≠ page.toNat → t.unlocked q.val = s.unlocked q.val)) ∧
  (∀ (s : State) (page : PageNo),
      Runs (.unlockLapse page) s (fun t => t = { s with unlock := t.unlock } ∧
        t.unlocked page.toNat = false ∧ ∀ q : Fin 64, q.val ≠ page.toNat → t.unlocked q.val = s.unlocked q.val)) ∧
  (∀ (s : State) (page : PageNo),
      PortReady s page.toNat →
      (page.toNat = fabricPage ∨ page.toNat = dmaPage ∨ page.toNat = lchainPage ∨ page.toNat = wmonPage) →
      Runs (.unitReset page) s (fun t => t.inUnitReset page.toNat = true ∧ t.unlocked page.toNat = false ∧ t.target page.toNat = .notReady ∧
        (∀ o : Fin 256, o.val ≠ 0 → t.reg page.toNat o.val = resetWord (page.toNat * 256 + o.val)) ∧
        SameRegsBut ((List.range 256).map (fun o => (page.toNat, o))) s t ∧ t.axes = s.axes ∧ t.mem = s.mem ∧ t.nvs = s.nvs)) ∧
  (∀ (s : State) (page : PageNo),
      Runs (.unitResetComplete page) s (fun t => t = { s with unitRst := t.unitRst } ∧ t.inUnitReset page.toNat = false ∧
        ∀ q : Fin 64, q.val ≠ page.toNat → t.inUnitReset q.val = s.inUnitReset q.val))

/-- While the port lives, on each axis and bridge group page: a write at any offset but 0x00 and 0x02 (which reach no member, DESIGN CHOICE, log entry 79) leaves what the same write to each ready member in turn leaves, but for the port, and feeds the watchdog. So a member out of UNIT_RESET has the events written 1 cleared, EVENT_EN and the routes stored with their defined bits, its page unlocked by the key, its mode requested by MODE_CMD (of an axis) or its RUN_CURRENT stored (of a bridge); an axis or bridge outside the group keeps them. A burst reaches the members that the frame found, also behind a word that changes GROUP. A read, single or in a burst of 1 to 64 words, shows the OR of the members at STATUS and EVENT, 0 elsewhere, changes no register and reports BCAST_READ. A write to a page that the part does not have reports ABSENT and counts in ABSENT_WR, which saturates, and changes no other register. So that exec answers a next state for: groupPageWrite, spiBurstWrite, groupPageRead, spiBurstRead, absentPageWrite. -/
def Obligations.GroupAndAbsentPages : Prop :=
  (∀ (s : State) (br : Bool) (k : Fin 4) (off : Offset) (v : Word),
      s.portLive = true →
      s.spi.waiting = [] →
      s.nvs.image = none →
      s.served 0x1C = true →
      off ≠ 0x00#8 →
      off ≠ 0x02#8 →
      Runs (.groupPageWrite (BitVec.ofNat 6 ((if br then 0x2C else 0x1C) + k.val)) off v) s (fun t => { t with spi := s.spi } =
        ((s.members [1, 2, 4, 8][k.val]! (if br then brPage else axPage)).filter (fun p => !s.unitBusy p)).foldl (fun u p => if u.unitBusy p then u else u.writeReg p off.toNat v)
          { s with pwr := { s.pwr with hostExpired := false } } ∧ t.spi.echo = off ∧ t.spi.bcast = false)) ∧
  (∀ (s : State) (br : Bool) (k : Fin 4) (n : Ax) (v : Word),
      s.portLive = true →
      s.spi.waiting = [] →
      s.nvs.image = none →
      s.served 0x1C = true →
      ((if br then brPage n else axPage n) ∈ s.members [1, 2, 4, 8][k.val]! (if br then brPage else axPage)) →
      (s.unitBusy (if br then brPage n else axPage n) = false) →
      (Runs (.groupPageWrite (BitVec.ofNat 6 ((if br then 0x2C else 0x1C) + k.val)) 0x03#8 v) s (fun t => t.reg (if br then brPage n else axPage n) 0x03 = s.reg (if br then brPage n else axPage n) 0x03 &&& ~~~v) ∧
        Runs (.groupPageWrite (BitVec.ofNat 6 ((if br then 0x2C else 0x1C) + k.val)) 0x04#8 v) s (fun t => t.reg (if br then brPage n else axPage n) 0x04 = v &&& eventMask (pageKind (if br then brPage n else axPage n))) ∧
        Runs (.groupPageWrite (BitVec.ofNat 6 ((if br then 0x2C else 0x1C) + k.val)) 0x07#8 v) s (fun t => t.unlocked (if br then brPage n else axPage n) = decide (v = 0x7A5C#16)))) ∧
  (∀ (s : State) (br : Bool) (k : Fin 4) (n : Ax) (v : Word) (hi : Bool),
      s.portLive = true →
      s.spi.waiting = [] →
      s.nvs.image = none →
      s.served 0x1C = true →
      ((if br then brPage n else axPage n) ∈ s.members [1, 2, 4, 8][k.val]! (if br then brPage else axPage)) →
      (s.unitBusy (if br then brPage n else axPage n) = false) →
      Runs (.groupPageWrite (BitVec.ofNat 6 ((if br then 0x2C else 0x1C) + k.val)) (if hi then 0x06#8 else 0x05#8) v) s (fun t => ∀ b : Fin 16, (t.reg (if br then brPage n else axPage n) (if hi then 0x06 else 0x05)).getLsbD b.val =
        (v.getLsbD b.val && (eventMask (pageKind (if br then brPage n else axPage n))).getLsbD ((if hi then 8 else 0) + b.val / 2)))) ∧
  (∀ (s : State) (k : Fin 4) (n : Ax) (v : Word),
      s.portLive = true →
      s.spi.waiting = [] →
      s.nvs.image = none →
      s.served 0x1C = true →
      axPage n ∈ s.members [1, 2, 4, 8][k.val]! axPage →
      s.unitBusy (axPage n) = false →
      Runs (.groupPageWrite (BitVec.ofNat 6 (0x1C + k.val)) 0x09#8 v) s (fun t => (t.axis n).req.mode = some (fld v 0 3))) ∧
  (∀ (s : State) (k : Fin 4) (n : Ax) (v : Word),
      s.portLive = true →
      s.spi.waiting = [] →
      s.nvs.image = none →
      s.served 0x1C = true →
      brPage n ∈ s.members [1, 2, 4, 8][k.val]! brPage →
      s.unitBusy (brPage n) = false →
      Runs (.groupPageWrite (BitVec.ofNat 6 (0x2C + k.val)) 0x08#8 v) s (fun t => t.reg (brPage n) 0x08 = v &&& 0x03FF#16)) ∧
  (∀ (s : State) (br : Bool) (k : Fin 4) (n : Ax) (v : Word),
      s.portLive = true →
      s.spi.waiting = [] →
      s.nvs.image = none →
      s.served 0x1C = true →
      ((if br then brPage n else axPage n) ∉ s.members [1, 2, 4, 8][k.val]! (if br then brPage else axPage)) →
      (Runs (.groupPageWrite (BitVec.ofNat 6 ((if br then 0x2C else 0x1C) + k.val)) 0x04#8 v) s (fun t => t.reg (if br then brPage n else axPage n) 0x04 = s.reg (if br then brPage n else axPage n) 0x04) ∧
        Runs (.groupPageWrite (BitVec.ofNat 6 ((if br then 0x2C else 0x1C) + k.val)) 0x09#8 v) s (fun t => (t.axis n).req = (s.axis n).req ∧ t.reg (if br then brPage n else axPage n) 0x09 = s.reg (if br then brPage n else axPage n) 0x09))) ∧
  (∀ (s : State) (k : Fin 4) (n : Ax) (v w : Word),
      s.portLive = true →
      s.spi.waiting = [] →
      s.nvs.image = none →
      s.served 0x1C = true →
      axPage n ∈ s.members [1, 2, 4, 8][k.val]! axPage →
      s.unitBusy (axPage n) = false →
      Runs (.spiBurstWrite (BitVec.ofNat 6 (0x1C + k.val)) 0x08#8 [v, w]) s (fun t => t.regFld (axPage n) 0x08 0 3 = fld v 0 3 ∧ (t.axis n).req.mode = some (fld w 0 3))) ∧
  (∀ (s : State) (br : Bool) (k : Fin 4) (off : Offset),
      s.portLive = true →
      s.spi.waiting = [] →
      s.nvs.image = none →
      s.served 0x1C = true →
      Runs (.groupPageRead (BitVec.ofNat 6 ((if br then 0x2C else 0x1C) + k.val)) off) s (fun t => t.spi.bcast = true ∧ t.spi.absent = false ∧ t.regs = s.regs ∧
        t.spi.data = (if off = 0x02#8 ∨ off = 0x03#8 then (s.members [1, 2, 4, 8][k.val]! (if br then brPage else axPage)).foldl (fun w p => w ||| s.peek false p off.toNat) 0#16 else 0#16))) ∧
  (∀ (s : State) (br : Bool) (k : Fin 4) (off : Offset) (n : Nat),
      s.portLive = true →
      s.spi.waiting = [] →
      s.nvs.image = none →
      s.served 0x1C = true →
      1 ≤ n →
      n ≤ 64 →
      Runs (.spiBurstRead (BitVec.ofNat 6 ((if br then 0x2C else 0x1C) + k.val)) off n true) s (fun t => t.spi.bcast = true ∧ t.regs = s.regs ∧
        t.spi.miso = s.readMiso ((List.range n).map (fun i => if (off.toNat + i) % 256 = 2 ∨ (off.toNat + i) % 256 = 3 then
          (s.members [1, 2, 4, 8][k.val]! (if br then brPage else axPage)).foldl (fun w p => w ||| s.peek false p ((off.toNat + i) % 256)) 0#16 else 0#16)))) ∧
  (∀ (s : State) (page : PageNo) (off : Offset) (v : Word),
      s.portLive = true →
      s.spi.waiting = [] →
      s.nvs.image = none →
      s.target page.toNat = .absent →
      page.toNat ≠ memPage →
      Runs (.absentPageWrite page off v) s (fun t => t.spi.absent = true ∧ t.reg devPage 0x17 = satInc (s.reg devPage 0x17) ∧
        SameRegsBut [(devPage, 0x17)] s t ∧ t.unlock = s.unlock ∧ t.axes = s.axes))

/-- With DEV ready, TEST_EN not holding the device and no change of power state or clock recovery in progress: from RUN, DOZE is granted where canDoze holds (every present axis PARKED or in HOLD, the gate port in IDLE), STANDBY where canStandby holds (every present axis PARKED, the gate port in IDLE, the store idle); one that is not granted sets STATE_REFUSED and starts nothing. A grant changes no register but WAKE_CAUSE, which STANDBY clears. RUN asked for in STANDBY with no bring-up under way starts one at step 1, is recorded in WAKE_CAUSE and clears XO_FAIL and PLL_FAIL; asked for in DOZE without PLL_FAIL it starts the relock, and with it the state is RUN at once, on HSRC, and machine time undisciplined, which is the model's reading (DEDUCED, log entry 32). In SAFE each of the three sets STATE_REFUSED and changes no power state. The slow crystal, once qualified in its start, drives the AO domain; a start that times out sets XS_FAIL and its event. An unlocked write of CLKCTRL that sets XS_DISABLE stops the crystal, one that clears it starts it afresh, and either ends XS_FAIL; a locked one changes no register, no clock and no power state. In RUN a loss of the PLL on which the core runs, or of a running XI with neither XO_FAIL nor PLL_FAIL, takes the core off the PLL, sets CLK_CHANGE and begins a recovery; XI lost with PLL_FAIL sets XO_FAIL and CLK_CHANGE and begins none (DEDUCED, log entry 43). With no request held, lock regained puts the core back on the PLL; lock not regained sets PLL_FAIL and ends discipline; either sets XO_FAIL where XI was lost, and ends the recovery. So that exec answers a next state for: pstateReqDoze, pstateReqStandby, pstateReqRun, xsQualified, xsStartTimeout, xsDisableWrite, clockLoss, clockRelock, clockRelockTimeout. -/
def Obligations.PowerStatesAndClocksAreJudged : Prop :=
  (∀ (s : State),
      PortReady s devPage →
      s.pwr.pstate = .run →
      s.pwr.change = .none →
      s.pwr.relock = none →
      s.pwr.testHold = false →
      Runs .pstateReqDoze s (fun t =>
        (if s.canDoze = true then t.pwr = { s.pwr with change := .dozeEntry } ∧ SameRegsBut [] s t
         else t.pwr = s.pwr ∧ HasEvent t devPage 3 ∧ SameRegsBut [(devPage, 0x03)] s t) ∧
        t.axes = s.axes ∧ t.mem = s.mem ∧ t.nvs = s.nvs ∧ t.clk = s.clk)) ∧
  (∀ (s : State),
      PortReady s devPage →
      s.pwr.pstate = .run →
      s.pwr.change = .none →
      s.pwr.relock = none →
      s.pwr.testHold = false →
      Runs .pstateReqStandby s (fun t =>
        (if s.canStandby = true then
           t.pwr = { s.pwr with change := .standbyEntry, fromReset := false, heldWake := 0#16 } ∧
           t.reg devPage 0x0F = 0#16 ∧ SameRegsBut [(devPage, 0x0F)] s t
         else t.pwr = s.pwr ∧ HasEvent t devPage 3 ∧ SameRegsBut [(devPage, 0x03)] s t) ∧
        t.axes = s.axes ∧ t.mem = s.mem ∧ t.nvs = s.nvs ∧ t.clk = s.clk)) ∧
  (∀ (s : State),
      PortReady s devPage →
      s.pwr.pstate = .standby →
      s.pwr.bring = 0 →
      s.pwr.change = .none →
      s.pwr.relock = none →
      s.pwr.testHold = false →
      Runs .pstateReqRun s (fun t => t.pwr.bring = 1 ∧ t.pwr.attempts = 1 ∧ t.pwr.pstate = .standby ∧
        t.reg devPage 0x0F = s.reg devPage 0x0F ||| bitWord 6 ∧ SameRegsBut [(devPage, 0x0F)] s t ∧
        t.clk.xoFail = false ∧ t.clk.pllFail = false ∧ t.mem = s.mem ∧ t.nvs = s.nvs)) ∧
  (∀ (s : State),
      PortReady s devPage →
      s.pwr.pstate = .doze →
      s.pwr.change = .none →
      s.pwr.relock = none →
      s.pwr.testHold = false →
      s.clk.pllFail = false →
      Runs .pstateReqRun s (fun t => t.pwr = { s.pwr with change := .dozeExit } ∧ SameRegsBut [] s t ∧ t.axes = s.axes)) ∧
  (∀ (s : State),
      PortReady s devPage →
      s.pwr.pstate = .doze →
      s.pwr.change = .none →
      s.pwr.relock = none →
      s.pwr.testHold = false →
      s.clk.pllFail = true →
      Runs .pstateReqRun s (fun t => t.pwr = { s.pwr with pstate := .run } ∧ t.time.undisc = true ∧ t.axes = s.axes ∧ t.mem = s.mem)) ∧
  (∀ (s : State),
      PortReady s devPage →
      s.pwr.pstate = .safe →
      s.pwr.testHold = false →
      (Runs .pstateReqRun s (fun t => t.pwr = s.pwr ∧ HasEvent t devPage 3 ∧ SameRegsBut [(devPage, 0x03)] s t) ∧
        Runs .pstateReqDoze s (fun t => t.pwr = s.pwr ∧ HasEvent t devPage 3 ∧ SameRegsBut [(devPage, 0x03)] s t) ∧
        Runs .pstateReqStandby s (fun t => t.pwr = s.pwr ∧ HasEvent t devPage 3 ∧ SameRegsBut [(devPage, 0x03)] s t))) ∧
  (∀ (s : State),
      s.clk.xs = .starting →
      Runs .xsQualified s (fun t => t = { s with clk := { s.clk with xs := .good, slowXtal := true } })) ∧
  (∀ (s : State),
      s.clk.xs = .starting →
      Runs .xsStartTimeout s (fun t => t.clk = { s.clk with xs := .failed, xsFail := true } ∧ HasEvent t devPage 7 ∧
        SameRegsBut [(devPage, 0x03)] s t ∧ t.pwr = s.pwr)) ∧
  (∀ (s : State) (v : Word),
      PortReady s devPage →
      s.unlocked devPage = true →
      s.regBit devPage 0x0D 1 = false →
      v.getLsbD 1 = true →
      Runs (.xsDisableWrite v) s (fun t => t.reg devPage 0x0D = v &&& 0x0003#16 ∧
        t.clk = { s.clk with xs := .off, slowXtal := false, xsFail := false } ∧ SameRegsBut [(devPage, 0x0D)] s t ∧ t.pwr = s.pwr)) ∧
  (∀ (s : State) (v : Word),
      PortReady s devPage →
      s.unlocked devPage = true →
      s.regBit devPage 0x0D 1 = true →
      v.getLsbD 1 = false →
      Runs (.xsDisableWrite v) s (fun t => t.clk = { s.clk with xs := .starting, xsFail := false } ∧ t.reg devPage 0x0D = v &&& 0x0003#16 ∧
        SameRegsBut [(devPage, 0x0D)] s t ∧ t.pwr = s.pwr)) ∧
  (∀ (s : State) (v : Word),
      PortReady s devPage →
      s.unlocked devPage = false →
      Runs (.xsDisableWrite v) s (fun t => t.regs = s.regs ∧ t.clk = s.clk ∧ t.pwr = s.pwr)) ∧
  (∀ (s : State) (cy : Nat),
      s.effState = .run →
      s.clk.xoRun = true →
      s.clk.xoFail = false →
      s.clk.pllFail = false →
      Runs (.clockLoss .xi cy) s (fun t => t.clk = { s.clk with onPll := false, pllLock := false, xoRun := false } ∧ HasEvent t devPage 2 ∧
        t.pwr = { s.pwr with relock := some true } ∧ SameRegsBut [(devPage, 0x03)] s t ∧ t.axes = s.axes)) ∧
  (∀ (s : State) (cy : Nat),
      s.effState = .run →
      s.clk.xoRun = true →
      s.clk.xoFail = false →
      s.clk.pllFail = true →
      Runs (.clockLoss .xi cy) s (fun t => t.clk = { s.clk with xoRun := false, xoFail := true, xoAmp := false } ∧ HasEvent t devPage 2 ∧
        t.pwr = s.pwr ∧ SameRegsBut [(devPage, 0x03)] s t ∧ t.axes = s.axes)) ∧
  (∀ (s : State) (cy : Nat),
      s.effState = .run →
      s.clk.onPll = true →
      Runs (.clockLoss .pll cy) s (fun t => t.clk = { s.clk with onPll := false, pllLock := false } ∧ HasEvent t devPage 2 ∧
        t.pwr = { s.pwr with relock := some false } ∧ SameRegsBut [(devPage, 0x03)] s t ∧ t.axes = s.axes)) ∧
  (∀ (s : State) (xi : Bool) (cy : Nat),
      s.pwr.relock = some xi →
      s.pwr.held = none →
      Runs (.clockRelock cy) s (fun t => t.clk = { s.clk with onPll := true, pllLock := true, xoFail := s.clk.xoFail || xi } ∧
        t.pwr = { s.pwr with relock := none } ∧ t = { s with clk := t.clk, pwr := t.pwr, time := (s.timeAt cy).time.rebase s.coreCycle })) ∧
  (∀ (s : State) (xi : Bool),
      s.pwr.relock = some xi →
      s.pwr.held = none →
      Runs .clockRelockTimeout s (fun t => t.clk = { s.clk with pllFail := true, xoFail := s.clk.xoFail || xi } ∧
        t.pwr = { s.pwr with relock := none } ∧ t.time.undisc = true ∧ t.axes = s.axes ∧ t.mem = s.mem))

/-- DOZE_ENTRY_COMPLETE of an entry whose condition still holds, with no request held: the state is DOZE, the core is off the PLL, the PLL and XO stand still, and nothing else changes but a clock recovery, which ends without PLL_FAIL (DEDUCED, log entry 43), and the length that machine time gives the cycles to come, from the cycle told on (as of every command here that tells one). DOZE_EXIT_RELOCK, with no request held: the state is RUN; with lock the core is on the PLL; without it PLL_FAIL and CLK_CHANGE are set and machine time is undisciplined. STANDBY_ENTRY_COMPLETE of an entry whose condition still holds, with no request and no wake held: the state is STANDBY with no bring-up, the core off the PLL and XO stopped; the SRAM lists nothing, nothing waits in the window buffer, the DMA channels and the fabric are at reset, the converters, the strings and the lamp chain are off; the store and the axes are as before. Where the condition no longer holds, either entry ends with STATE_REFUSED in the state it began in (DESIGN CHOICE, log entry 75). With no such change in progress each of the three changes nothing. So that exec answers a next state for: dozeEntryComplete, dozeExitRelock, standbyEntryComplete. -/
def Obligations.DozeAndStandbyAreReached : Prop :=
  (∀ (s : State) (cy : Nat),
      s.pwr.change = .dozeEntry →
      s.canDoze = true →
      s.pwr.held = none →
      Runs (.dozeEntryComplete cy) s (fun t => t.pwr = { s.pwr with pstate := .doze, change := .none, relock := none } ∧
        t.clk.onPll = false ∧ t.clk.pllLock = false ∧ t.clk.xoRun = false ∧ t.clk.xoAmp = false ∧
        t = { s with pwr := t.pwr, clk := t.clk, time := (s.timeAt cy).time.rebase s.coreCycle })) ∧
  (∀ (s : State) (cy : Nat),
      s.pwr.change = .dozeEntry →
      s.canDoze = false →
      s.pwr.held = none →
      Runs (.dozeEntryComplete cy) s (fun t => t.pwr = { s.pwr with change := .none } ∧ HasEvent t devPage 3 ∧
        SameRegsBut [(devPage, 0x03)] s t ∧ t.clk = s.clk ∧ t.axes = s.axes ∧ t.mem = s.mem ∧ t.nvs = s.nvs)) ∧
  (∀ (s : State) (cy : Nat),
      s.pwr.change = .dozeExit →
      s.pwr.held = none →
      Runs (.dozeExitRelock true cy) s (fun t => t.pwr = { s.pwr with pstate := .run, change := .none } ∧ t.clk.onPll = true ∧
        t.clk.pllLock = true ∧ t.clk.xoRun = !s.clk.xoFail ∧ t = { s with pwr := t.pwr, clk := t.clk, time := (s.timeAt cy).time.rebase s.coreCycle })) ∧
  (∀ (s : State) (cy : Nat),
      s.pwr.change = .dozeExit →
      s.pwr.held = none →
      Runs (.dozeExitRelock false cy) s (fun t => t.pwr = { s.pwr with pstate := .run, change := .none } ∧ t.clk.pllFail = true ∧
        HasEvent t devPage 2 ∧ t.time.undisc = true ∧ t.mem = s.mem ∧ t.nvs = s.nvs ∧ t.axes = s.axes)) ∧
  (∀ (s : State),
      s.pwr.change = .standbyEntry →
      s.canStandby = true →
      s.pwr.held = none →
      s.pwr.heldWake = 0#16 →
      Runs .standbyEntryComplete s (fun t => t.pwr = { s.pwr with pstate := .standby, bring := 0, change := .none, relock := none } ∧
        t.clk.onPll = false ∧ t.clk.xoRun = false ∧ t.mem.sram = [] ∧ t.mem.winBuf = [] ∧ t.dma = State.reset.dma ∧
        t.fab = State.reset.fab ∧ t.cnvs = State.reset.cnvs ∧ t.chand = State.reset.chand ∧ t.lchain = State.reset.lchain ∧
        t.nvs = s.nvs ∧ t.axes = s.axes)) ∧
  (∀ (s : State),
      s.pwr.change = .standbyEntry →
      s.canStandby = false →
      s.pwr.held = none →
      Runs .standbyEntryComplete s (fun t => t.pwr = { s.pwr with change := .none } ∧ HasEvent t devPage 3 ∧
        SameRegsBut [(devPage, 0x03)] s t ∧ t.clk = s.clk ∧ t.axes = s.axes ∧ t.mem = s.mem ∧ t.nvs = s.nvs)) ∧
  (∀ (s : State) (locked : Bool) (cy : Nat),
      s.pwr.change = .none →
      (Runs (.dozeEntryComplete cy) s (fun t => t = s.timeAt cy) ∧ Runs (.dozeExitRelock locked cy) s (fun t => t = s.timeAt cy) ∧ Runs .standbyEntryComplete s (fun t => t = s)))

/-- Each of steps 1 to 5 ends by its own command and leads to the next: step 1, with no retry awaited, to 2; step 2, with no enabled cause active or latched in SAFE_CAUSE, to WAKING and step 3, with the axes and ledgers at reset, the SRAM being initialised, and the crystal amplifier on unless CLKCTRL selects an external clock; step 2 with an enabled cause latched in SAFE_CAUSE to SAFE, returning to WAKING; step 3 to 4 with XO running; step 4 to 5 with lock; step 5, with no request held, to RUN on the PLL with RUN_REACHED, or, in SAFE, to the return state RUN; with an idle store that holds no AUTO image nothing is left to apply, and with a busy one an AUTO image waits (DEDUCED, log entry 77). A timeout of step 1 or 2 waits for a further attempt while fewer than four were made, and after the fourth ends the bring-up with WAKE_FAIL; one of step 3 sets XO_FAIL and CLK_CHANGE and goes on to step 4; one of step 4, with no request held, sets PLL_FAIL and CLK_CHANGE and goes to RUN. The next attempt of step 1 counts. In STANDBY with no bring-up in progress: a source that reaches the device and whose WAKE_EN bit is set is recorded in WAKE_CAUSE and starts a bring-up at step 1; while STANDBY is being entered from RUN it is recorded and held; one whose bit is clear changes nothing. WAKE_TIMER counts down by the FSLOW ticks that have passed; when it reaches 0 in STANDBY with its bit enabled, bit 5 of WAKE_CAUSE is set and a bring-up starts. So that exec answers a next state for: vcoreReady, hsrcReady, xoQualified, pllLock, coreSwitchRun, bringupStepTimeout, step1Retry, wakeSourceQualify, wakeTimerExpiry. -/
def Obligations.WakesStartBringUpWhichStepsInOrder : Prop :=
  (∀ (s : State),
      s.pwr.bring = 1 →
      s.pwr.retryWait = false →
      s.pwr.testHold = false →
      Runs .vcoreReady s (fun t => t = { s with pwr := { s.pwr with bring := 2 } })) ∧
  (∀ (s : State) (n : Nat),
      s.pwr.bring = 2 →
      s.pwr.testHold = false →
      (s.reg devPage 0x19 ||| s.activeCauses) &&& s.reg devPage 0x1A = 0#16 →
      Runs (.hsrcReady n) s (fun t => t.pwr = { s.pwr with pstate := .waking, bring := 3 } ∧
        t.axes = State.reset.axes ∧ t.ledgers = State.reset.ledgers ∧ t.nvs.mram = s.nvs.mram ∧ t.mem.init = true ∧
        t.reg devPage 0x0E = s.reg devPage 0x0E ∧ t.pins = s.pins ∧
        t.clk = { s.clk with xoAmp := !s.regBit devPage 0x0D 0, xiExt := s.regBit devPage 0x0D 0 })) ∧
  (∀ (s : State) (n : Nat),
      s.pwr.bring = 2 →
      s.pwr.testHold = false →
      s.reg devPage 0x19 &&& s.reg devPage 0x1A ≠ 0#16 →
      Runs (.hsrcReady n) s (fun t => t.pwr.pstate = .safe ∧ t.pwr.ret = .waking ∧ t.pwr.bring = 3 ∧ HasEvent t devPage 4)) ∧
  (∀ (s : State),
      s.pwr.bring = 3 →
      Runs .xoQualified s (fun t => t = { s with pwr := { s.pwr with bring := 4 }, clk := { s.clk with xoRun := true } })) ∧
  (∀ (s : State),
      s.pwr.bring = 4 →
      Runs .pllLock s (fun t => t = { s with pwr := { s.pwr with bring := 5 }, clk := { s.clk with pllLock := true } })) ∧
  (∀ (s : State) (cy : Nat),
      s.pwr.bring = 5 →
      s.pwr.held = none →
      s.nvsIdle = false →
      s.nvs.image = none →
      Runs (.coreSwitchRun cy) s (fun t => t.pwr = (if s.pwr.pstate = .safe then { s.pwr with bring := 0, ret := .run } else { s.pwr with bring := 0, pstate := .run }) ∧
        t.clk = { s.clk with onPll := true } ∧ HasEvent t devPage 1 ∧ SameRegsBut [(devPage, 0x03)] s t ∧
        t.nvs = { s.nvs with autoWait := true } ∧ t.axes = s.axes ∧ t.mem = s.mem)) ∧
  (∀ (s : State) (cy : Nat),
      s.pwr.bring = 5 →
      s.pwr.held = none →
      s.nvsIdle = true →
      ((s.currentRec 1 0).1.all (fun r => !r.flags.getLsbD 0) = true) →
      Runs (.coreSwitchRun cy) s (fun t => t.pwr = (if s.pwr.pstate = .safe then { s.pwr with bring := 0, ret := .run } else { s.pwr with bring := 0, pstate := .run }) ∧
        t.clk = { s.clk with onPll := true } ∧ HasEvent t devPage 1 ∧ t.nvs.image = none ∧ t.nvs.autoWait = false ∧ t.nvs.mram = s.nvs.mram ∧
        t.axes = s.axes ∧ t.mem = s.mem ∧ SameRegsBut [(devPage, 0x03)] (s.currentRec 1 0).2.2 t)) ∧
  (∀ (s : State),
      (s.pwr.bring = 1 ∨ s.pwr.bring = 2) →
      s.pwr.testHold = false →
      s.pwr.retryWait = false →
      s.pwr.attempts < 4 →
      s.nvs.image = none →
      Runs .bringupStepTimeout s (fun t => t.pwr = { s.pwr with bring := 1, retryWait := true } ∧
        SameRegsBut [(devPage, 0x10)] s t ∧ t.mem = s.mem)) ∧
  (∀ (s : State),
      (s.pwr.bring = 1 ∨ s.pwr.bring = 2) →
      s.pwr.testHold = false →
      s.pwr.retryWait = false →
      4 ≤ s.pwr.attempts →
      s.nvs.image = none →
      Runs .bringupStepTimeout s (fun t => t.pwr = { s.pwr with bring := 0 } ∧ t.wakeFail = s.pwr.bring ∧ HasEvent t devPage 6 ∧
        SameRegsBut [(devPage, 0x03), (devPage, 0x10)] s t)) ∧
  (∀ (s : State),
      s.pwr.bring = 3 →
      s.pwr.testHold = false →
      s.pwr.retryWait = false →
      s.nvs.image = none →
      Runs .bringupStepTimeout s (fun t => t.pwr = { s.pwr with bring := 4 } ∧ t.clk = { s.clk with xoFail := true, xoAmp := false } ∧ HasEvent t devPage 2)) ∧
  (∀ (s : State),
      s.pwr.bring = 4 →
      s.pwr.testHold = false →
      s.pwr.retryWait = false →
      s.pwr.pstate = .waking →
      s.pwr.held = none →
      s.nvsIdle = false →
      s.nvs.image = none →
      Runs .bringupStepTimeout s (fun t => t.pwr = { s.pwr with bring := 0, pstate := .run } ∧ t.clk = { s.clk with pllFail := true } ∧ HasEvent t devPage 2 ∧ HasEvent t devPage 1)) ∧
  (∀ (s : State),
      s.pwr.bring = 4 →
      s.pwr.testHold = false →
      s.pwr.retryWait = false →
      s.pwr.pstate = .waking →
      s.pwr.held = none →
      s.nvsIdle = true →
      ((s.currentRec 1 0).1.all (fun r => !r.flags.getLsbD 0) = true) →
      Runs .bringupStepTimeout s (fun t => t.pwr = { s.pwr with bring := 0, pstate := .run } ∧ t.clk = { s.clk with pllFail := true } ∧ HasEvent t devPage 2 ∧ HasEvent t devPage 1 ∧
        t.nvs.image = none ∧ t.nvs.autoWait = false ∧ t.mem = s.mem)) ∧
  (∀ (s : State),
      s.pwr.bring = 1 →
      s.pwr.retryWait = true →
      Runs .step1Retry s (fun t => t = { s with pwr := { s.pwr with retryWait := false, attempts := s.pwr.attempts + 1 } })) ∧
  (∀ (s : State) (w : WakeSrc),
      s.pwr.pstate = .standby →
      s.pwr.bring = 0 →
      s.pwr.testHold = false →
      s.wakeReaches w = true →
      s.regBit devPage 0x0E w.bit = true →
      Runs (.wakeSourceQualify w) s (fun t => t.pwr.bring = 1 ∧ t.pwr.attempts = 1 ∧ t.pwr.pstate = .standby ∧
        t.reg devPage 0x0F = s.reg devPage 0x0F ||| bitWord w.bit ∧ SameRegsBut [(devPage, 0x0F)] s t ∧ t.nvs = s.nvs ∧ t.mem = s.mem)) ∧
  (∀ (s : State) (w : WakeSrc),
      s.regBit devPage 0x0E w.bit = false →
      Runs (.wakeSourceQualify w) s (fun t => t = s)) ∧
  (∀ (s : State) (w : WakeSrc),
      s.pwr.pstate = .run →
      s.pwr.change = .standbyEntry →
      s.pwr.testHold = false →
      s.wakeReaches w = true →
      s.regBit devPage 0x0E w.bit = true →
      Runs (.wakeSourceQualify w) s (fun t => t.pwr = { s.pwr with heldWake := s.pwr.heldWake ||| bitWord w.bit } ∧
        t.reg devPage 0x0F = s.reg devPage 0x0F ||| bitWord w.bit ∧ SameRegsBut [(devPage, 0x0F)] s t)) ∧
  (∀ (s : State) (ticks : Nat),
      ticks < (s.wide devPage 0x11).toNat →
      Runs (.wakeTimerExpiry ticks) s (fun t => (t.wide devPage 0x11).toNat = (s.wide devPage 0x11).toNat - ticks ∧
        SameRegsBut [(devPage, 0x11), (devPage, 0x12)] s t ∧ t.pwr = s.pwr)) ∧
  (∀ (s : State) (ticks : Nat),
      (s.wide devPage 0x11).toNat ≤ ticks →
      s.wide devPage 0x11 ≠ 0#32 →
      s.pwr.pstate = .standby →
      s.pwr.bring = 0 →
      s.pwr.testHold = false →
      s.regBit devPage 0x0E 5 = true →
      Runs (.wakeTimerExpiry ticks) s (fun t => t.wide devPage 0x11 = 0#32 ∧ t.pwr.bring = 1 ∧
        t.reg devPage 0x0F = s.reg devPage 0x0F ||| bitWord 5))

/-- In WAKING, RUN or DOZE, TEST_EN not holding: a cause that is active, the software cause, or the controller's temperature, whose SAFE_EN bit is set enters SAFE when it arises: SAFE_CAUSE latches it, SAFE_ENTERED is set, the return state is the one left, no request stays held, and each present axis neither stops nor is frozen, has no record running, and is at once PARKED where it was or its policy is PARK and in HOLD otherwise (log entry 49), but for one that characterises, whose run is to end so. In STANDBY the cause is latched alone, where it is enabled; a cause arises only where it is active (log entry 65); one whose bit is clear changes no register and no power state. ENTER_SAFE is the software cause. SAFE_EN takes an unlocked write, and enters SAFE where a bit it sets names an active cause. An unlocked release in SAFE, with what the thermal comparator shows, returns to the return state and clears SAFE_CAUSE where no latched cause is active, and only sets RELEASE_REJECTED where one is. ACK_WAKE_FAIL clears WAKE_FAIL, CLR_ABSENT_WR clears ABSENT_WR, and neither changes anything else. So that exec answers a next state for: safeCauseArises, enterSafe, safeEnWrite, safeRelease, ackWakeFail, clrAbsentWr. -/
def Obligations.SafeIsEnteredAndReleased : Prop :=
  (∀ (s : State) (c : SafeCause) (cy : Nat),
      (s.pwr.pstate = .run ∨ s.pwr.pstate = .doze ∨ s.pwr.pstate = .waking) →
      s.pwr.testHold = false →
      s.regBit devPage 0x1A c.bit = true →
      (s.safeActive c = true ∨ c = .software ∨ c = .ctrlThermal) →
      Runs (.safeCauseArises c cy) s (fun t => t.pwr.pstate = .safe ∧ t.pwr.ret = s.pwr.pstate ∧ t.pwr.held = none ∧ HasEvent t devPage 4 ∧
        t.reg devPage 0x19 = s.reg devPage 0x19 ||| bitWord c.bit ∧ t.nvs = s.nvs ∧
        ∀ n : Ax, s.hasAxis n = true → (t.axis n).stopping = none ∧ (t.axis n).frozen = none ∧ (t.ledger n).run = none ∧
          (if (s.axis n).mode = .characterise then (t.axis n).mode = .characterise ∧ (t.axis n).char.ending.isSome = true
           else if (s.axis n).mode = .parked ∨ s.parkPolicy n = true then (t.axis n).mode = .parked
           else (t.axis n).mode = .hold))) ∧
  (∀ (s : State) (c : SafeCause) (cy : Nat),
      s.pwr.pstate = .standby →
      s.pwr.testHold = false →
      s.regBit devPage 0x1A c.bit = true →
      (s.safeActive c = true ∨ c = .software ∨ c = .ctrlThermal) →
      Runs (.safeCauseArises c cy) s (fun t => t.reg devPage 0x19 = s.reg devPage 0x19 ||| bitWord c.bit ∧
        SameRegsBut [(devPage, 0x19)] s t ∧ t.pwr = s.pwr ∧ t.axes = s.axes)) ∧
  (∀ (s : State) (c : SafeCause) (cy : Nat),
      s.regBit devPage 0x1A c.bit = false →
      Runs (.safeCauseArises c cy) s (fun t => t = { s with sup := t.sup, time := (s.timeAt cy).time })) ∧
  (∀ (s : State),
      PortReady s devPage →
      (s.pwr.pstate = .run ∨ s.pwr.pstate = .doze ∨ s.pwr.pstate = .waking) →
      s.pwr.testHold = false →
      s.regBit devPage 0x1A 5 = true →
      Runs .enterSafe s (fun t => t.pwr.pstate = .safe ∧ t.pwr.ret = s.pwr.pstate ∧ HasEvent t devPage 4 ∧
        t.reg devPage 0x19 = s.reg devPage 0x19 ||| bitWord 5)) ∧
  (∀ (s : State) (v : Word),
      PortReady s devPage →
      s.unlocked devPage = true →
      s.activeCauses = 0#16 →
      Runs (.safeEnWrite v) s (fun t => t.reg devPage 0x1A = v &&& 0x003F#16 ∧ SameRegsBut [(devPage, 0x1A)] s t ∧ OnlyRegs s t)) ∧
  (∀ (s : State) (v : Word),
      PortReady s devPage →
      s.unlocked devPage = true →
      (s.pwr.pstate = .run ∨ s.pwr.pstate = .doze ∨ s.pwr.pstate = .waking) →
      s.pwr.testHold = false →
      v &&& ~~~s.reg devPage 0x1A &&& 0x003F#16 &&& s.activeCauses ≠ 0#16 →
      Runs (.safeEnWrite v) s (fun t => t.pwr.pstate = .safe ∧ t.pwr.ret = s.pwr.pstate ∧ HasEvent t devPage 4 ∧ t.reg devPage 0x1A = v &&& 0x003F#16)) ∧
  (∀ (s : State) (hot : Bool),
      PortReady s devPage →
      s.unlocked devPage = true →
      s.pwr.pstate = .safe →
      (s.reg devPage 0x19 &&& (s.modSup (fun u => { u with ctrlHot := hot })).activeCauses = 0#16) →
      Runs (.safeRelease hot) s (fun t => t.pwr = { s.pwr with pstate := s.pwr.ret } ∧ t.reg devPage 0x19 = 0#16 ∧
        SameRegsBut [(devPage, 0x19)] s t ∧ t.axes = s.axes)) ∧
  (∀ (s : State) (hot : Bool),
      PortReady s devPage →
      s.unlocked devPage = true →
      s.pwr.pstate = .safe →
      (s.reg devPage 0x19 &&& (s.modSup (fun u => { u with ctrlHot := hot })).activeCauses ≠ 0#16) →
      Runs (.safeRelease hot) s (fun t => t.pwr = s.pwr ∧ HasEvent t devPage 5 ∧ SameRegsBut [(devPage, 0x03)] s t ∧ t.axes = s.axes)) ∧
  (∀ (s : State),
      PortReady s devPage →
      Runs .ackWakeFail s (fun t => t.wakeFail = 0 ∧ SameRegsBut [(devPage, 0x10)] s t ∧ OnlyRegs s t)) ∧
  (∀ (s : State),
      PortReady s devPage →
      Runs .clrAbsentWr s (fun t => t.reg devPage 0x17 = 0#16 ∧ SameRegsBut [(devPage, 0x17)] s t ∧ OnlyRegs s t))

/-- With no store work and no snapshot in progress, TEST_EN low and not holding the device: an unlocked SWRESET of 0x5AC3, an RST_N pulse of 1 us or more with VIO present, and an accepted TEST_EN rise put every register but CLKCTRL, RESET_CAUSE and the scratch words at its Reset value, and the axes, the ledgers and the SRAM at reset, show their one source in RESET_CAUSE, and leave CLKCTRL, the scratch words, SLOW_SRC and XS_FAIL, the store's bytes, the queue of waiting commands and what the supply comparators and VIO show as they are (the comparators by the model's choice, log entry 33); a power-on reset does the same to every register but RESET_CAUSE, and keeps none of them. The power state is that of reset, so that bring-up starts at step 1, or, with TEST_EN high, waits until it falls. While a snapshot is in progress an RST_N pulse is kept until it ends. A SWRESET that is locked or has another value only consumes the unlock; a pulse under 200 ns does nothing. So that exec answers a next state for: swReset, rstNReset, testEnRise, testEnFall, powerOnReset. -/
def Obligations.ResetsStartBringUpAndNameTheirSource : Prop :=
  (∀ (s : State),
      PortReady s devPage →
      s.unlocked devPage = true →
      s.nvs.snap = none →
      s.nvs.job = .idle →
      s.pwr.testHold = false →
      s.pins.testEn = false →
      Runs (.swReset 0x5AC3#16) s (fun t => t.reg devPage 0x13 = bitWord 3 ∧ (∀ o : Fin 256, o.val = 0x0D ∨ (0x20 ≤ o.val ∧ o.val ≤ 0x23) → t.reg devPage o.val = s.reg devPage o.val) ∧ t.clk.slowXtal = s.clk.slowXtal ∧ t.clk.xsFail = s.clk.xsFail ∧ SameRegsBut [(devPage, 0x0D), (devPage, 0x13), (devPage, 0x20), (devPage, 0x21), (devPage, 0x22), (devPage, 0x23)] State.reset t ∧ t.pwr = {} ∧
        t.axes = State.reset.axes ∧ t.ledgers = State.reset.ledgers ∧ t.mem = State.reset.mem ∧ t.nvs.mram = s.nvs.mram ∧
        t.pending = s.pending ∧ t.sup = s.sup)) ∧
  (∀ (s : State) (v : Word),
      PortReady s devPage →
      (s.unlocked devPage = false ∨ v ≠ 0x5AC3#16) →
      Runs (.swReset v) s (fun t => t = { s with unlock := t.unlock } ∧ t.unlocked devPage = false)) ∧
  (∀ (s : State) (ns : Nat),
      1000 ≤ ns →
      s.sup.vio = true →
      s.nvs.snap = none →
      s.nvs.job = .idle →
      s.pwr.testHold = false →
      s.pins.testEn = false →
      Runs (.rstNReset ns) s (fun t => t.reg devPage 0x13 = bitWord 1 ∧ (∀ o : Fin 256, o.val = 0x0D ∨ (0x20 ≤ o.val ∧ o.val ≤ 0x23) → t.reg devPage o.val = s.reg devPage o.val) ∧ t.clk.slowXtal = s.clk.slowXtal ∧ t.clk.xsFail = s.clk.xsFail ∧ SameRegsBut [(devPage, 0x0D), (devPage, 0x13), (devPage, 0x20), (devPage, 0x21), (devPage, 0x22), (devPage, 0x23)] State.reset t ∧ t.pwr = {} ∧
        t.axes = State.reset.axes ∧ t.ledgers = State.reset.ledgers ∧ t.mem = State.reset.mem ∧ t.nvs.mram = s.nvs.mram ∧
        t.pending = s.pending ∧ t.sup = s.sup)) ∧
  (∀ (s : State) (ns : Nat),
      1000 ≤ ns →
      s.sup.vio = true →
      s.nvs.snap.isSome = true →
      Runs (.rstNReset ns) s (fun t => t = { s with pwr := { s.pwr with rstWait := some (s.pwr.rstWait.getD 0#16 ||| bitWord 1) } })) ∧
  (∀ (s : State) (ns : Nat),
      ns < 200 →
      Runs (.rstNReset ns) s (fun t => t = s)) ∧
  (∀ (s : State) (ns : Nat),
      1000 ≤ ns →
      s.sup.vio = true →
      s.pins.testEn = false →
      s.nvs.snap = none →
      s.nvs.job = .idle →
      s.pwr.testHold = false →
      Runs (.testEnRise ns) s (fun t => t.reg devPage 0x13 = bitWord 5 ∧ (∀ o : Fin 256, o.val = 0x0D ∨ (0x20 ≤ o.val ∧ o.val ≤ 0x23) → t.reg devPage o.val = s.reg devPage o.val) ∧ t.clk.slowXtal = s.clk.slowXtal ∧ t.clk.xsFail = s.clk.xsFail ∧ SameRegsBut [(devPage, 0x0D), (devPage, 0x13), (devPage, 0x20), (devPage, 0x21), (devPage, 0x22), (devPage, 0x23)] State.reset t ∧ t.pwr = { testHold := true, bring := 0 } ∧
        t.pins.testEn = true ∧ t.axes = State.reset.axes ∧ t.ledgers = State.reset.ledgers ∧ t.mem = State.reset.mem ∧
        t.nvs.mram = s.nvs.mram ∧ t.pending = s.pending ∧ t.sup = s.sup)) ∧
  (∀ (s : State),
      s.pwr.testHold = true →
      Runs .testEnFall s (fun t => t.pwr = { s.pwr with testHold := false, bring := 1, attempts := 1 } ∧ t.pins.testEn = false ∧ t.regs = s.regs)) ∧
  (∀ (s : State),
      s.nvs.snap = none →
      s.nvs.job = .idle →
      s.pins.testEn = false →
      Runs .powerOnReset s (fun t => t.reg devPage 0x13 = bitWord 0 ∧ SameRegsBut [(devPage, 0x13)] State.reset t ∧ t.pwr = {} ∧ t.clk = {} ∧
        t.axes = State.reset.axes ∧ t.ledgers = State.reset.ledgers ∧ t.mem = State.reset.mem ∧ t.nvs.mram = s.nvs.mram ∧
        t.pending = s.pending ∧ t.sup = s.sup))

/-- A change of VM_OK, VGP_OK or VDD_LOW shows in the supply state and sets its event (VDD above 3.1 V has none), and the same level again changes nothing; when VM_OK falls every present axis is PARKED. VM rising through BRAKE_ON turns BRK on, with BRAKE_START where it was off, and makes the OV cause active; falling through BRAKE_OFF it turns BRK and the OV cause off. VM reaching OV_TRIP sets STATUS.OV, its event and the OV latch of every present bridge and of a present gate port; falling below OV_TRIP it clears STATUS.OV alone, and below BRAKE_ON the OV cause too. BRAKE_ON, BRAKE_OFF and OV_TRIP take an unlocked write whose ten bits keep the register's range and the order of the three; another unlocked write sets THR_REJECTED alone, and a locked one writes no register. A bridge die whose logic supply falls is as after its own reset. So that exec answers a next state for: vmOkChange, vgpOkChange, vddLowChange, brakeThresholdCrossing, ovTrip, vmBelowBrakeOn, bridgeLogicSupplyChange, supplyThresholdWrite. -/
def Obligations.SupplyChangesAreReported : Prop :=
  (∀ (s : State) (x : Bool),
      s.sup.vmOk ≠ x →
      Runs (.vmOkChange x) s (fun t => t.sup = { s.sup with vmOk := x } ∧ HasEvent t supplyPage (if x then 1 else 0) ∧
        (x = false → ∀ n : Ax, s.hasAxis n = true → (t.axis n).mode = .parked) ∧ t.mem = s.mem ∧ t.nvs = s.nvs)) ∧
  (∀ (s : State) (x : Bool),
      s.sup.vgpOk ≠ x →
      Runs (.vgpOkChange x) s (fun t => t.sup = { s.sup with vgpOk := x } ∧ HasEvent t supplyPage (if x then 3 else 2) ∧
        SameRegsBut [(supplyPage, 0x03)] s t ∧ t.gate = s.gate)) ∧
  (∀ (s : State),
      s.sup.vddLow = false →
      Runs (.vddLowChange true) s (fun t => t.sup = { s.sup with vddLow := true } ∧ HasEvent t supplyPage 4 ∧ t.nvs = s.nvs)) ∧
  (∀ (s : State),
      s.sup.vddLow = true →
      Runs (.vddLowChange false) s (fun t => t.sup = { s.sup with vddLow := false } ∧ t.regs = s.regs ∧
        t.nvs = { s.nvs with armed := s.nvs.armed || (s.pins.pfailN && s.nvs.snap.isNone) })) ∧
  (∀ (s : State),
      (Runs (.vmOkChange s.sup.vmOk) s (fun t => t = s) ∧ Runs (.vgpOkChange s.sup.vgpOk) s (fun t => t = s) ∧ Runs (.vddLowChange s.sup.vddLow) s (fun t => t = s))) ∧
  (∀ (s : State),
      Runs (.brakeThresholdCrossing true) s (fun t => t.sup = { s.sup with brk := true, ovCause := true } ∧
        (s.sup.brk = false → HasEvent t supplyPage 6) ∧ SameRegsBut [(supplyPage, 0x03)] s t)) ∧
  (∀ (s : State),
      Runs (.brakeThresholdCrossing false) s (fun t => t = { s with sup := { s.sup with brk := false, ovCause := false, ovNow := false } })) ∧
  (∀ (s : State),
      Runs (.ovTrip true) s (fun t => t.sup = { s.sup with ovNow := true, ovCause := true } ∧ HasEvent t supplyPage 7 ∧
        (s.part.hasGate = true → t.gate.prot.ov = true) ∧ ∀ n : Ax, s.hasAxis n = true → (t.brg n).prot.ov = true)) ∧
  (∀ (s : State),
      Runs (.ovTrip false) s (fun t => t = { s with sup := { s.sup with ovNow := false } })) ∧
  (∀ (s : State),
      Runs .vmBelowBrakeOn s (fun t => t = { s with sup := { s.sup with ovNow := false, ovCause := false } })) ∧
  (∀ (s : State) (d : Die),
      s.hasDie d = true →
      Runs (.bridgeLogicSupplyChange d false) s (fun t => t.sup = { s.sup with logic := s.sup.logic.set d false } ∧ t.dies[d] = { vcpLow := s.dies[d].vcpLow } ∧ t.regs = s.regs ∧ t.axes = s.axes)) ∧
  (∀ (s : State) (d : Die),
      s.hasDie d = true →
      Runs (.bridgeLogicSupplyChange d true) s (fun t => t = { s with sup := { s.sup with logic := s.sup.logic.set d true } })) ∧
  (∀ (s : State) (v : Word),
      PortReady s supplyPage →
      s.unlocked supplyPage = true →
      Runs (.supplyThresholdWrite .brakeOn v) s (fun t => OnlyRegs s t ∧
        if 200 ≤ fld v 0 10 ∧ fld v 0 10 ≤ 570 ∧ (s.reg supplyPage 0x09).toNat + 10 ≤ fld v 0 10 ∧ fld v 0 10 < (s.reg supplyPage 0x0A).toNat then
          t.reg supplyPage 0x08 = v &&& 0x03FF#16 ∧ SameRegsBut [(supplyPage, 0x08)] s t
        else HasEvent t supplyPage 8 ∧ SameRegsBut [(supplyPage, 0x03)] s t)) ∧
  (∀ (s : State) (v : Word),
      PortReady s supplyPage →
      s.unlocked supplyPage = true →
      Runs (.supplyThresholdWrite .brakeOff v) s (fun t => OnlyRegs s t ∧
        if 120 ≤ fld v 0 10 ∧ fld v 0 10 ≤ 560 ∧ fld v 0 10 + 10 ≤ (s.reg supplyPage 0x08).toNat ∧ (s.reg supplyPage 0x08).toNat < (s.reg supplyPage 0x0A).toNat then
          t.reg supplyPage 0x09 = v &&& 0x03FF#16 ∧ SameRegsBut [(supplyPage, 0x09)] s t
        else HasEvent t supplyPage 8 ∧ SameRegsBut [(supplyPage, 0x03)] s t)) ∧
  (∀ (s : State) (v : Word),
      PortReady s supplyPage →
      s.unlocked supplyPage = true →
      Runs (.supplyThresholdWrite .ovTrip v) s (fun t => OnlyRegs s t ∧
        if 300 ≤ fld v 0 10 ∧ fld v 0 10 ≤ 590 ∧ (s.reg supplyPage 0x09).toNat + 10 ≤ (s.reg supplyPage 0x08).toNat ∧ (s.reg supplyPage 0x08).toNat < fld v 0 10 then
          t.reg supplyPage 0x0A = v &&& 0x03FF#16 ∧ SameRegsBut [(supplyPage, 0x0A)] s t
        else HasEvent t supplyPage 8 ∧ SameRegsBut [(supplyPage, 0x03)] s t)) ∧
  (∀ (s : State) (r : SupplyReg) (v : Word),
      PortReady s supplyPage →
      s.unlocked supplyPage = false →
      Runs (.supplyThresholdWrite r v) s (fun t => t.regs = s.regs ∧ OnlyRegs s t))

/-- An armed trigger by VDD, or by PFAIL_N with VIO present, in whichever core clock cycle, 120 us or more after the last one, TEST_EN not holding and no snapshot in progress, sets PFAIL, begins a snapshot and disarms; one within 120 us only disarms, and PFAIL_N does nothing without VIO; a store job in progress is abandoned with ABORTED, and without one no byte of the store, no axis and no byte of the SRAM changes. While disarmed, or while a snapshot is in progress, a trigger changes nothing. The end of the snapshot, with no image to apply, writes its words to its slot, sets SNAPSHOT_TAKEN and arms the trigger where PFAIL_N is high and VDD not low; where a reset waits, the reset follows with its sources in RESET_CAUSE. PFAIL_N high arms the trigger where VDD is not low and no snapshot is in progress. VIO's presence follows its command: without VIO the host port is dead and the store unchanged; its return changes nothing else. So that exec answers a next state for: powerFailTrigger, snapshotComplete, pfailNRelease, vioPresentChange. -/
def Obligations.PowerFailTakesOneSnapshot : Prop :=
  (∀ (s : State) (cy us : Nat),
      s.nvs.armed = true →
      s.nvs.snap = none →
      s.pwr.testHold = false →
      s.sup.vio = true →
      120 ≤ us →
      Runs (.powerFailTrigger true cy us) s (fun t => HasEvent t supplyPage 5 ∧ t.nvs.armed = false ∧ t.nvs.snap.isSome = true ∧ t.pins = { s.pins with pfailN := false } ∧
        t.time = (s.timeAt cy).time)) ∧
  (∀ (s : State) (cy us : Nat),
      s.sup.vio = false →
      Runs (.powerFailTrigger true cy us) s (fun t => t = s.timeAt cy)) ∧
  (∀ (s : State) (cy us : Nat),
      us < 120 →
      Runs (.powerFailTrigger false cy us) s (fun t => t = { s.timeAt cy with nvs := { s.nvs with armed := false } })) ∧
  (∀ (s : State) (cy us : Nat),
      s.nvs.armed = true →
      s.nvs.snap = none →
      s.pwr.testHold = false →
      120 ≤ us →
      Runs (.powerFailTrigger false cy us) s (fun t => HasEvent t supplyPage 5 ∧ t.nvs.armed = false ∧ t.nvs.snap.isSome = true ∧
        (if s.nvs.job = .idle then t.nvs.mram = s.nvs.mram ∧ t.axes = s.axes ∧ t.mem = s.mem else HasEvent t nvsPage 2))) ∧
  (∀ (s : State) (cy us : Nat),
      (s.nvs.armed = false ∨ s.nvs.snap.isSome = true) →
      120 ≤ us →
      Runs (.powerFailTrigger false cy us) s (fun t => t = s.timeAt cy)) ∧
  (∀ (s : State),
      s.nvs.snap.isSome = true →
      s.pwr.rstWait = none →
      s.nvs.autoWait = false →
      Runs .snapshotComplete s (fun t => t.nvs.snap = none ∧ HasEvent t nvsPage 3 ∧ t.nvs.mram = (match s.nvs.snap with | some (slot, ws) => writeWords mramDefault s.nvs.mram slot ws | none => []) ∧
        t.nvs.armed = (s.nvs.armed || (s.pins.pfailN && !s.sup.vddLow)) ∧
        t.axes = s.axes ∧ t.mem = s.mem ∧ SameRegsBut [(nvsPage, 0x03)] s t)) ∧
  (∀ (s : State),
      s.nvs.snap.isSome = true →
      s.pwr.rstWait.isSome = true →
      Runs .snapshotComplete s (fun t => t.reg devPage 0x13 = s.pwr.rstWait.getD 0#16 ∧ t.axes = State.reset.axes ∧ t.nvs.snap = none)) ∧
  (∀ (s : State),
      Runs .pfailNRelease s (fun t => t.pins = { s.pins with pfailN := true } ∧
        t.nvs = { s.nvs with armed := s.nvs.armed || (!s.sup.vddLow && s.nvs.snap.isNone) } ∧ t = { s with pins := t.pins, nvs := t.nvs })) ∧
  (∀ (s : State),
      Runs (.vioPresentChange true) s (fun t => t = { s with sup := { s.sup with vio := true } })) ∧
  (∀ (s : State),
      Runs (.vioPresentChange false) s (fun t => t.sup.vio = false ∧ t.portLive = false ∧ t.nvs.mram = s.nvs.mram))

/-- With the fabric on: a write of SWPULSE leaves the named lines owing a pulse, in one FBUS cycle of their own or joined to the last one that waits, and changes nothing else but the unlock. When a line that owes a pulse is presented, every line of its FBUS cycle pulses with it, in the command that first names one of them (log entry 28): those of its own word, those of the words that the lines of ALSO take with it, and the pending delayed outputs of DELAYED, which are free; the LINE_SEEN bits of the lines set, a line with a delayed pulse pending sets DLY_OVR and keeps that pulse, and one with DELAY other than 0 has a pulse pending; memory and store are unchanged. A line that owes none changes nothing but the time told. Delayed outputs with a pulse pending pulse and are free; the others named do not. An ARMED channel of an enabled DMA without a freeze, whose enabled trigger selects an output that pulses, becomes ACTIVE and changes in nothing else. So that exec answers a next state for: swPulse, fabricLinePulse, fabricDelayedPulse. -/
def Obligations.FabricLinesPulse : Prop :=
  (∀ (s : State) (v : Word),
      PortReady s fabricPage →
      s.regBit fabricPage 0x01 0 = true →
      s.awake = true →
      v ≠ 0#16 →
      Runs (.swPulse v false) s (fun t => t = { s with fab := t.fab, unlock := t.unlock } ∧ t.fab.pend = s.fab.pend ∧
        t.fab.due = s.fab.due ++ [v] ∧ t.unlocked fabricPage = false)) ∧
  (∀ (s : State) (v : Word),
      PortReady s fabricPage →
      s.regBit fabricPage 0x01 0 = true →
      s.awake = true →
      v ≠ 0#16 →
      s.fab.due.length = 1 →
      Runs (.swPulse v true) s (fun t => t = { s with fab := t.fab, unlock := t.unlock } ∧ t.fab.pend = s.fab.pend ∧
        t.fab.due = s.fab.due.map (fun w => w ||| v) ∧ t.unlocked fabricPage = false)) ∧
  (∀ (s : State) (l : Fin 16) (also delayed : Word) (cy : Nat),
      s.fabricOn = true →
      ((s.fab.due.find? (fun w => w.getLsbD l.val)).isSome = true) →
      Runs (.fabricLinePulse l also delayed cy) s (fun t => t.reg fabricPage 0x29 = s.reg fabricPage 0x29 ||| (dueTake (linesIn also) ((s.fab.due.find? (fun w => w.getLsbD l.val)).getD 0#16, s.fab.due.erase ((s.fab.due.find? (fun w => w.getLsbD l.val)).getD 0#16))).1 ∧
        t.reg fabricPage 0x03 = s.reg fabricPage 0x03 ||| ((dueTake (linesIn also) ((s.fab.due.find? (fun w => w.getLsbD l.val)).getD 0#16, s.fab.due.erase ((s.fab.due.find? (fun w => w.getLsbD l.val)).getD 0#16))).1 &&& s.fab.pend &&& ~~~delayed) ∧
        (∀ k : Fin 16, t.fab.pend.getLsbD k.val =
          ((s.fab.pend &&& ~~~delayed).getLsbD k.val || (((dueTake (linesIn also) ((s.fab.due.find? (fun w => w.getLsbD l.val)).getD 0#16, s.fab.due.erase ((s.fab.due.find? (fun w => w.getLsbD l.val)).getD 0#16))).1).getLsbD k.val && decide (s.reg fabricPage (0x18 + k.val) ≠ 0#16)))) ∧
        t.mem = s.mem ∧ t.nvs = s.nvs)) ∧
  (∀ (s : State) (l : Fin 16) (also delayed : Word) (cy : Nat),
      (s.fab.due.find? (fun w => w.getLsbD l.val) = none) →
      Runs (.fabricLinePulse l also delayed cy) s (fun t => t = s.timeAt cy)) ∧
  (∀ (s : State) (l : Fin 16) (also : Word) (cy : Nat),
      s.fabricOn = true →
      Runs (.fabricDelayedPulse l also cy) s (fun t => t.fab.pend = s.fab.pend &&& ~~~(bitWord l.val ||| also) ∧
        t.reg fabricPage 0x29 = s.reg fabricPage 0x29 ∧ t.reg fabricPage 0x03 = s.reg fabricPage 0x03 ∧ t.mem = s.mem ∧ t.nvs = s.nvs)) ∧
  (∀ (s : State) (l k : Fin 16) (also delayed : Word) (cy : Nat) (c : Fin 8),
      s.fabricOn = true →
      ((s.fab.due.find? (fun w => w.getLsbD l.val)).isSome = true) →
      (((dueTake (linesIn also) ((s.fab.due.find? (fun w => w.getLsbD l.val)).getD 0#16, s.fab.due.erase ((s.fab.due.find? (fun w => w.getLsbD l.val)).getD 0#16))).1).getLsbD k.val = true) →
      s.regBit dmaPage 0x01 0 = true →
      s.pins.frz = false →
      s.regBit dmaPage (dOff c.val 0) 5 = true →
      s.regFld dmaPage (dOff c.val 0) 0 5 = k.val →
      (s.dmaCh c).st = .armed →
      Runs (.fabricLinePulse l also delayed cy) s (fun t => t.dmaCh c = { s.dmaCh c with st := .active })) ∧
  (∀ (s : State) (l k : Fin 16) (also : Word) (cy : Nat) (c : Fin 8),
      s.fabricOn = true →
      ((bitWord l.val ||| also) &&& s.fab.pend).getLsbD k.val = true →
      s.regBit dmaPage 0x01 0 = true →
      s.pins.frz = false →
      s.regBit dmaPage (dOff c.val 0) 5 = true →
      s.regFld dmaPage (dOff c.val 0) 0 5 = 16 + k.val →
      (s.dmaCh c).st = .armed →
      Runs (.fabricDelayedPulse l also cy) s (fun t => t.dmaCh c = { s.dmaCh c with st := .active }))

/-- With DMA ready: GO on an IDLE channel without a load starts its descriptor load, and changes nothing in another; STOP halts a channel that is ARMED, ACTIVE or loading and not on the engine at once, marks one whose burst is on the engine to stop after its word in flight, and changes nothing in another, that an IDLE channel which loads nothing stays IDLE being the model's choice (log entry 100: R130 is silent on it); CLR_ERR takes a HALTED channel to IDLE with no error and no pending request, and clears the error of any other. Nothing else of the state changes but the unlock: no other channel, no memory and no register. With DMA live, the SRAM initialised and without a flipped bit, and nothing in the window buffer: a load from a 16-byte-aligned SRAM address, with no request queued, takes its fields from the eight words there, high word first, where they are a valid descriptor, and leaves the channel ACTIVE with FREE, ARMED without; an unaligned address or a COUNT of 0 halts the channel with ERR 3 and its ERROR event. With no burst on the engine, the lowest ACTIVE channel's request of one word between even SRAM addresses is granted and, once a word moves, writes that word at the destination, counts it, steps the addresses that INC asks for, and changes no other byte of the SRAM and no other channel. When the last word of a descriptor without CHAIN has moved, and no STOP waits, the channel is IDLE with nothing queued (log entry 86), DONE sets where IRQ asks for it, and the descriptor count goes up by one; where a STOP waits with words left, the channel is HALTED. So that exec answers a next state for: dmaGo, dmaStop, dmaClrErr, dmaDescriptorLoaded, dmaRequestGrant, dmaTransferDone. -/
def Obligations.DmaChannelsLoadAndMove : Prop :=
  (∀ (s : State) (c : Fin 8),
      PortReady s dmaPage →
      Runs (.dmaGo c) s (fun t => t = { s with dma := { s.dma with ch := t.dma.ch }, unlock := t.unlock } ∧
        (∀ d : Fin 8, d ≠ c → t.dmaCh d = s.dmaCh d) ∧
        t.dmaCh c = (if (s.dmaCh c).st = .idle ∧ (s.dmaCh c).loading = false then { s.dmaCh c with loading := true, stopReq := false } else s.dmaCh c))) ∧
  (∀ (s : State) (c : Fin 8),
      PortReady s dmaPage →
      s.dma.granted ≠ some c →
      Runs (.dmaStop c) s (fun t => t = { s with dma := { s.dma with ch := t.dma.ch }, unlock := t.unlock } ∧
        (∀ d : Fin 8, d ≠ c → t.dmaCh d = s.dmaCh d) ∧
        t.dmaCh c = (if (s.dmaCh c).st = .armed ∨ (s.dmaCh c).st = .active ∨ (s.dmaCh c).loading = true
          then { s.dmaCh c with st := .halted, loading := false } else s.dmaCh c))) ∧
  (∀ (s : State) (c : Fin 8),
      PortReady s dmaPage →
      s.dma.granted = some c →
      Runs (.dmaStop c) s (fun t => t = { s with dma := { s.dma with ch := t.dma.ch }, unlock := t.unlock } ∧
        t.dmaCh c = { s.dmaCh c with stopReq := true } ∧ ∀ d : Fin 8, d ≠ c → t.dmaCh d = s.dmaCh d)) ∧
  (∀ (s : State) (c : Fin 8),
      PortReady s dmaPage →
      Runs (.dmaClrErr c) s (fun t => t = { s with dma := { s.dma with ch := t.dma.ch }, unlock := t.unlock } ∧
        (∀ d : Fin 8, d ≠ c → t.dmaCh d = s.dmaCh d) ∧
        t.dmaCh c = (if (s.dmaCh c).st = .halted then { s.dmaCh c with st := .idle, err := 0, pend := 0 } else { s.dmaCh c with err := 0 }))) ∧
  (∀ (s : State) (c : Fin 8),
      s.dmaLive = true →
      (s.dmaCh c).loading = true →
      s.mem.init = false →
      s.mem.sramErr = [] →
      s.mem.winBuf = [] →
      (s.wide dmaPage (dOff c.val 2)).toNat % 16 = 0 →
      (s.wide dmaPage (dOff c.val 2)).toNat < 0x80000 →
      (s.dmaCh c).pend = 0 →
      descBad (readWords sramDefault s.mem.sram (s.wide dmaPage (dOff c.val 2)).toNat 8) = false →
      Runs (.dmaDescriptorLoaded c) s (fun t => t = { s with dma := { s.dma with ch := t.dma.ch } } ∧
        (∀ d : Fin 8, d ≠ c → t.dmaCh d = s.dmaCh d) ∧
        let a := (s.wide dmaPage (dOff c.val 2)).toNat
        let w := fun k => readWord sramDefault s.mem.sram (a + 2 * k)
        t.dmaCh c = { s.dmaCh c with
          loading := false, d0 := w 0, remain := (w 1).toNat, src := (w 2).wide (w 3), dst := (w 4).wide (w 5), next := (w 6).wide (w 7)
          st := if s.regBit dmaPage (dOff c.val 0) 6 then .active else .armed })) ∧
  (∀ (s : State) (c : Fin 8),
      s.dmaLive = true →
      (s.dmaCh c).loading = true →
      s.mem.init = false →
      (s.wide dmaPage (dOff c.val 2)).toNat % 16 ≠ 0 →
      Runs (.dmaDescriptorLoaded c) s (fun t => (t.dmaCh c).st = .halted ∧ (t.dmaCh c).err = 3 ∧ (t.dmaCh c).loading = false ∧
        t.reg dmaPage 0x03 = s.reg dmaPage 0x03 ||| bitWord (8 + c.val) ∧ SameRegsBut [(dmaPage, 0x03)] s t ∧ t.mem = s.mem ∧
        ∀ d : Fin 8, d ≠ c → t.dmaCh d = s.dmaCh d)) ∧
  (∀ (s : State) (c : Fin 8),
      s.dmaLive = true →
      (s.dmaCh c).loading = true →
      s.mem.init = false →
      s.mem.sramErr = [] →
      s.mem.winBuf = [] →
      (s.wide dmaPage (dOff c.val 2)).toNat % 16 = 0 →
      (s.wide dmaPage (dOff c.val 2)).toNat < 0x80000 →
      readWord sramDefault s.mem.sram ((s.wide dmaPage (dOff c.val 2)).toNat + 2) = 0#16 →
      Runs (.dmaDescriptorLoaded c) s (fun t => (t.dmaCh c).st = .halted ∧ (t.dmaCh c).err = 3 ∧
        t.reg dmaPage 0x03 = s.reg dmaPage 0x03 ||| bitWord (8 + c.val) ∧ SameRegsBut [(dmaPage, 0x03)] s t ∧ t.mem = s.mem)) ∧
  (∀ (s : State) (c : Fin 8) (k cy : Nat),
      1 ≤ k →
      s.dmaLive = true →
      s.dma.granted = none →
      (s.dmaCh c).st = .active →
      (s.dmaCh c).loading = false →
      (s.dmaCh c).stopReq = false →
      (∀ d : Fin 8, d < c → (s.dmaCh d).st ≠ .active) →
      s.mem.init = false →
      s.mem.sramErr = [] →
      s.mem.winBuf = [] →
      s.nvs.image = none →
      fld (s.dmaCh c).d0 0 4 = 0 →
      fld (s.dmaCh c).d0 8 4 = 0 →
      1 ≤ (s.dmaCh c).remain →
      (s.dmaCh c).src.toNat % 2 = 0 ∧ (s.dmaCh c).src.toNat < 0x80000 →
      (s.dmaCh c).dst.toNat % 2 = 0 ∧ (s.dmaCh c).dst.toNat < 0x80000 →
      Runs (.dmaRequestGrant k cy) s (fun t => t.dma.granted = some c ∧ (t.dmaCh c).left = 0 ∧ (t.dmaCh c).remain = (s.dmaCh c).remain - 1 ∧
        (t.dmaCh c).src.toNat = (s.dmaCh c).src.toNat + (if (s.dmaCh c).d0.getLsbD 4 then 2 else 0) ∧
        (t.dmaCh c).dst.toNat = (s.dmaCh c).dst.toNat + (if (s.dmaCh c).d0.getLsbD 5 then 2 else 0) ∧
        readWord sramDefault t.mem.sram (s.dmaCh c).dst.toNat = readWord sramDefault s.mem.sram (s.dmaCh c).src.toNat ∧
        SameBytesOutside sramDefault (s.dmaCh c).dst.toNat 2 s.mem.sram t.mem.sram ∧
        t = { s.timeAt cy with dma := t.dma, mem := { s.mem with sram := t.mem.sram } } ∧ ∀ d : Fin 8, d ≠ c → t.dmaCh d = s.dmaCh d)) ∧
  (∀ (s : State) (c : Fin 8),
      s.dmaLive = true →
      s.dma.granted = some c →
      (s.dmaCh c).left = 0 →
      (s.dmaCh c).remain = 0 →
      (s.dmaCh c).stopReq = false →
      (s.dmaCh c).d0.getLsbD 6 = false →
      Runs .dmaTransferDone s (fun t => t.dma.granted = none ∧ t.dmaCh c = { s.dmaCh c with st := .idle, pend := 0 } ∧
        t.reg dmaPage (dOff c.val 6) = s.reg dmaPage (dOff c.val 6) + 1#16 ∧
        t.reg dmaPage 0x03 = s.reg dmaPage 0x03 ||| flag ((s.dmaCh c).d0.getLsbD 7) c.val ∧
        SameRegsBut [(dmaPage, 0x03), (dmaPage, dOff c.val 6)] s t ∧ t.mem = s.mem ∧ ∀ d : Fin 8, d ≠ c → t.dmaCh d = s.dmaCh d)) ∧
  (∀ (s : State) (c : Fin 8),
      s.dmaLive = true →
      s.dma.granted = some c →
      (s.dmaCh c).left = 0 →
      (s.dmaCh c).remain ≠ 0 →
      (s.dmaCh c).stopReq = true →
      Runs .dmaTransferDone s (fun t => t = { s with dma := t.dma } ∧ t.dma.granted = none ∧
        t.dmaCh c = { s.dmaCh c with st := .halted, stopReq := false } ∧ ∀ d : Fin 8, d ≠ c → t.dmaCh d = s.dmaCh d))

/-- SRAM_INIT_DONE ends INIT and sets the scrub to address 0, with the contents as they are. With the scrub on, no flipped bit standing, the window buffer empty and the word not in the source of a WRITE in progress: a visit of a clean word moves the scrub address by 2, or to 0 with SCRUB_PASS after the last word, and changes no byte; a visit before the last word that finds one flipped bit counts it in CE_CNT, records its address, sets CE and leaves the stored word without error; one that finds two counts it in UE_CNT, sets UE, records, where the record is free, the address and the scrub as its source, makes the SRAM cause active and leaves the error; one that comes with flipped bits in a word of the store leaves them standing there; a visit granted by force also sets SCRUB_FORCED. CLR_COUNTS clears CE_CNT, UE_CNT, UE_ADDR, LAST_CE_ADDR and UE_SRC, ends the SRAM cause, frees the record and changes nothing else but the unlock. So that exec answers a next state for: sramInitDone, scrubVisit, scrubForced, clrCounts. -/
def Obligations.SramIsClearedScrubbedAndCounted : Prop :=
  (∀ (s : State),
      Runs .sramInitDone s (fun t => t = { s with mem := { s.mem with init := false, scrub := 0 } })) ∧
  (∀ (s : State),
      s.scrubOn = true →
      s.mem.sramErr = [] →
      s.mem.winBuf = [] →
      Runs (.scrubVisit []) s (fun t => t = { s with regs := t.regs, mem := { s.mem with scrub := t.mem.scrub } } ∧
        (if s.mem.scrub + 2 < 0x80000 then t.mem.scrub = s.mem.scrub + 2 ∧ t.regs = s.regs
         else t.mem.scrub = 0 ∧ HasEvent t memPage 4 ∧ SameRegsBut [(memPage, 0x03)] s t))) ∧
  (∀ (s : State) (k : Fin 22),
      notSource s s.mem.scrub = true →
      s.scrubOn = true →
      s.mem.scrub % 2 = 0 →
      s.mem.scrub + 2 < 0x80000 →
      s.mem.sramErr = [] →
      s.mem.winBuf = [] →
      Runs (.scrubVisit [(s.mem.scrub, 1#22 <<< k.val)]) s (fun t =>
        t = { s with
          regs := t.regs, mem := { s.mem with scrub := s.mem.scrub + 2, sram := t.mem.sram, ecq := s.mem.ecq.filter (fun e => e.1 != s.mem.scrub) } } ∧
        t.reg memPage 0x0E = satInc (s.reg memPage 0x0E) ∧ t.wide memPage 0x12 = BitVec.ofNat 32 s.mem.scrub ∧ HasEvent t memPage 0 ∧
        SameRegsBut [(memPage, 0x03), (memPage, 0x0E), (memPage, 0x12), (memPage, 0x13)] s t ∧
        readWord sramDefault t.mem.sram s.mem.scrub = readWord sramDefault s.mem.sram s.mem.scrub ∧
        SameBytesOutside sramDefault s.mem.scrub 2 s.mem.sram t.mem.sram)) ∧
  (∀ (s : State) (j k : Fin 22),
      j ≠ k →
      notSource s s.mem.scrub = true →
      s.scrubOn = true →
      s.mem.scrub % 2 = 0 →
      s.mem.scrub + 2 < 0x80000 →
      s.mem.ueArmed = true →
      s.mem.sramErr = [] →
      s.mem.winBuf = [] →
      Runs (.scrubVisit [(s.mem.scrub, 1#22 <<< j.val ||| 1#22 <<< k.val)]) s (fun t =>
        t = { s with regs := t.regs, mem := { s.mem with
          scrub := s.mem.scrub + 2, sramErr := [(s.mem.scrub, 1#22 <<< j.val ||| 1#22 <<< k.val)], ueArmed := false, safeUe := true } } ∧
        t.reg memPage 0x0F = satInc (s.reg memPage 0x0F) ∧ t.wide memPage 0x10 = BitVec.ofNat 32 s.mem.scrub ∧
        t.reg memPage 0x14 = 5#16 ∧ HasEvent t memPage 1 ∧
        SameRegsBut [(memPage, 0x03), (memPage, 0x0F), (memPage, 0x10), (memPage, 0x11), (memPage, 0x14)] s t)) ∧
  (∀ (s : State) (k : Fin 65536) (e : BitVec 22),
      s.scrubOn = true →
      s.mem.scrub + 2 < 0x80000 →
      s.nvs.mramErr = [] →
      e ≠ 0#22 →
      s.mem.sramErr = [] →
      s.mem.winBuf = [] →
      Runs (.scrubVisit [(0x100000 + 2 * k.val, e)]) s (fun t => t = { s with
          mem := { s.mem with scrub := s.mem.scrub + 2 }, nvs := { s.nvs with mramErr := [(0x100000 + 2 * k.val, e)] } })) ∧
  (∀ (s : State),
      s.scrubOn = true →
      s.mem.scrub + 2 < 0x80000 →
      s.mem.sramErr = [] →
      s.mem.winBuf = [] →
      Runs .scrubForced s (fun t => t = { s with regs := t.regs, mem := { s.mem with scrub := s.mem.scrub + 2 } } ∧
        HasEvent t memPage 3 ∧ SameRegsBut [(memPage, 0x03)] s t)) ∧
  (∀ (s : State),
      PortReady s memPage →
      Runs .clrCounts s (fun t => t = { s with regs := t.regs, unlock := t.unlock, mem := { s.mem with ueArmed := true, safeUe := false } } ∧
        t.reg memPage 0x0E = 0#16 ∧ t.reg memPage 0x0F = 0#16 ∧ t.wide memPage 0x10 = 0#32 ∧ t.wide memPage 0x12 = 0#32 ∧ t.reg memPage 0x14 = 0#16 ∧
        SameRegsBut [(memPage, 0x0E), (memPage, 0x0F), (memPage, 0x10), (memPage, 0x11), (memPage, 0x12), (memPage, 0x13), (memPage, 0x14)] s t))

/-- For every master and address, with the window buffer empty: a foreground read of an SRAM word with one flipped bit returns the stored data and no uncorrectable error, queues the corrected word, increments CE_CNT below its last value, records the address in LAST_CE_ADDR and sets CE; nothing else changes. A read of WIN_DATA at such a word returns it, queues it, counts it up to the last value, records it and sets CE. The write-back of the oldest queued word whose error still stands leaves the word as queued and without error, keeps the rest of the queue (which names other words), and changes nothing else. So that exec answers a next state for: winDataRead, eccWriteback. -/
def Obligations.CorrectableErrorIsReturnedCorrected : Prop :=
  (∀ (s : State) (a : Nat) (m : Master),
      popcount22 (errMask s.mem.sramErr a) = 1 →
      s.mem.winBuf = [] →
      s.reg memPage 0x0E ≠ 0xFFFF#16 →
      let t := (s.sramRead a m).2.2;
        (s.sramRead a m).1 = readWord sramDefault s.mem.sram a ∧ (s.sramRead a m).2.1 = false ∧
        t = { s with regs := t.regs, mem := { s.mem with ecq := s.mem.ecq ++ [(a, readWord sramDefault s.mem.sram a)] } } ∧
        t.reg memPage 0x0E = s.reg memPage 0x0E + 1#16 ∧ t.wide memPage 0x12 = BitVec.ofNat 32 a ∧ HasEvent t memPage 0 ∧
        SameRegsBut [(memPage, 0x03), (memPage, 0x0E), (memPage, 0x12), (memPage, 0x13)] s t) ∧
  (∀ (s : State),
      PortReady s memPage →
      s.mem.winBuf = [] →
      s.winAddr < 0x80000 →
      popcount22 (errMask s.mem.sramErr s.winAddr) = 1 →
      Runs .winDataRead s (fun t => t.rdata = readWord sramDefault s.mem.sram s.winAddr ∧ HasEvent t memPage 0 ∧
        t.mem = { s.mem with ecq := s.mem.ecq ++ [(s.winAddr, readWord sramDefault s.mem.sram s.winAddr)] } ∧
        t.reg memPage 0x0E = satInc (s.reg memPage 0x0E) ∧ t.wide memPage 0x12 = BitVec.ofNat 32 s.winAddr)) ∧
  (∀ (s : State) (a : Nat) (w : Word) (q : List (Nat × Word)) (e : BitVec 22),
      e ≠ 0#22 →
      (∀ p ∈ q, p.1 ≠ a) →
      Runs .eccWriteback { s with mem := { s.mem with ecq := (a, w) :: q, sramErr := [(a, e)] } } (fun t =>
        t = { s with mem := { s.mem with ecq := q, sramErr := [], sram := t.mem.sram } } ∧
        readWord sramDefault t.mem.sram a = w ∧ SameBytesOutside sramDefault a 2 s.mem.sram t.mem.sram))

/-- With MEM ready and the address in the SRAM: WIN_ADDR_WRITE leaves the whole address, an odd one as written and so kept by a read without INC (the model's choice, log entry 107), and changes no other register. With nothing buffered and no flipped bit standing, a read of WIN_DATA returns the word; where the last word buffered is for the address, it returns that word; with INC the address then advances by 2, from the last word to 0. A write with room appends the word to the buffer and changes no byte of the SRAM or the store yet; where the word is not in the source of a WRITE in progress, it advances the address likewise and changes nothing else; one that finds 64 words buffered waits and changes nothing else, and goes on once there is room. A drain, the SRAM initialised, puts the oldest word into the SRAM without error, changes no byte outside it, and leaves no corrected word queued for it; nor does a write-back (log entry 80). So that exec answers a next state for: winAddrWrite, winDataRead, winDataWrite, winDataWriteResume, winBufferDrain, eccWriteback. -/
def Obligations.WindowReachesTheSramInOrder : Prop :=
  (∀ (s : State) (a : Wide),
      PortReady s memPage →
      Runs (.winAddrWrite a) s (fun t => t = { s with regs := t.regs, unlock := t.unlock, lows := t.lows } ∧ t.wide memPage 0x08 = a ∧
        SameRegsBut [(memPage, 0x08), (memPage, 0x09)] s t)) ∧
  (∀ (s : State),
      PortReady s memPage →
      s.winAddr < 0x80000 →
      s.mem.sramErr = [] →
      s.mem.winBuf = [] →
      Runs .winDataRead s (fun t => t = { s with regs := t.regs, rdata := readWord sramDefault s.mem.sram s.winAddr } ∧
        t.wide memPage 0x08 = (if s.regBit memPage 0x0B 0 then BitVec.ofNat 32 (if s.winAddr = 0x7FFFE then 0 else s.winAddr + 2) else s.wide memPage 0x08) ∧
        SameRegsBut [(memPage, 0x08), (memPage, 0x09)] s t)) ∧
  (∀ (s : State),
      PortReady s memPage →
      s.winAddr < 0x80000 →
      (s.mem.winBuf.getLast?).map Prod.fst = some s.winAddr →
      Runs .winDataRead s (fun t => some t.rdata = (s.mem.winBuf.getLast?).map Prod.snd ∧ t.mem = s.mem)) ∧
  (∀ (s : State) (v : Word),
      PortReady s memPage →
      s.winAddr < 0x80000 →
      s.mem.winBuf.length < 64 →
      Runs (.winDataWrite v) s (fun t => t.mem.winBuf = s.mem.winBuf ++ [(s.winAddr, v)] ∧ t.mem.sram = s.mem.sram ∧ t.nvs.mram = s.nvs.mram ∧ t.axes = s.axes)) ∧
  (∀ (s : State) (v : Word),
      PortReady s memPage →
      s.winAddr < 0x80000 →
      s.mem.winBuf.length < 64 →
      notSource s s.winAddr = true →
      Runs (.winDataWrite v) s (fun t => t = { s with
          regs := t.regs, unlock := t.unlock, mem := { s.mem with winBuf := s.mem.winBuf ++ [(s.winAddr, v)] } } ∧
        t.wide memPage 0x08 = (if s.regBit memPage 0x0B 0 then BitVec.ofNat 32 (if s.winAddr = 0x7FFFE then 0 else s.winAddr + 2) else s.wide memPage 0x08) ∧
        SameRegsBut [(memPage, 0x08), (memPage, 0x09)] s t)) ∧
  (∀ (s : State) (v : Word),
      PortReady s memPage →
      s.winAddr < 0x80000 →
      64 ≤ s.mem.winBuf.length →
      Runs (.winDataWrite v) s (fun t => t = { s with spi := { s.spi with waiting := [.write memPage 0x0A v] } })) ∧
  (∀ (s : State) (v : Word),
      PortReady s memPage →
      s.winAddr < 0x80000 →
      s.mem.winBuf.length < 64 →
      notSource s s.winAddr = true →
      Runs .winDataWriteResume { s with spi := { s.spi with waiting := [.write memPage 0x0A v] } } (fun t =>
        t.mem = { s.mem with winBuf := s.mem.winBuf ++ [(s.winAddr, v)] } ∧ t.spi = s.spi ∧ SameRegsBut [(memPage, 0x08), (memPage, 0x09)] s t)) ∧
  (∀ (s : State) (a : Nat) (v : Word) (l : List (Nat × Word)),
      s.mem.init = false →
      Runs .winBufferDrain { s with mem := { s.mem with winBuf := (a, v) :: l } } (fun t =>
        t = { s with mem := { s.mem with winBuf := l, sram := t.mem.sram, sramErr := t.mem.sramErr, ecq := t.mem.ecq } } ∧
        (∀ e ∈ t.mem.ecq, e ∈ s.mem.ecq ∧ e.1 ≠ a) ∧
        readWord sramDefault t.mem.sram a = v ∧ errMask t.mem.sramErr a = 0#22 ∧ SameBytesOutside sramDefault a 2 s.mem.sram t.mem.sram)) ∧
  (∀ (s : State) (a : Nat) (w : Word) (q : List (Nat × Word)) (e : BitVec 22),
      e ≠ 0#22 →
      Runs .eccWriteback { s with mem := { s.mem with ecq := (a, w) :: q, sramErr := [(a, e)] } } (fun t =>
        t.mem.ecq = q.filter (fun p => p.1 != a) ∧ readWord sramDefault t.mem.sram a = w ∧ t.nvs = s.nvs ∧ t.regs = s.regs))

/-- On a ready MEM page with no error in the store: a read of WIN_DATA at an address of the NV mapping returns the word of the store there and sets no WIN_ERR; a write there, or at an address outside the SRAM and the NV mapping, changes no memory and sets WIN_ERR, while the window's buffer has a place (R142); a read outside both returns 0x0000, changes no memory and sets WIN_ERR. So that exec answers a next state for: winDataRead, winDataWrite. -/
def Obligations.WindowOnlyReadsTheStore : Prop :=
  (∀ (s : State),
      PortReady s memPage →
      inStore s.winAddr = true →
      s.nvs.mramErr = [] →
      Runs .winDataRead s (fun t => t.rdata = readWord mramDefault s.nvs.mram s.winAddr ∧ t.mem = s.mem ∧ t.nvs = s.nvs ∧
        t.reg memPage 0x03 = s.reg memPage 0x03)) ∧
  (∀ (s : State) (v : Word),
      PortReady s memPage →
      inSram s.winAddr = false →
      s.mem.winBuf.length < 64 →
      Runs (.winDataWrite v) s (fun t => t = { s with regs := t.regs, unlock := t.unlock } ∧ HasEvent t memPage 2 ∧
        SameRegsBut [(memPage, 0x03), (memPage, 0x08), (memPage, 0x09)] s t)) ∧
  (∀ (s : State),
      PortReady s memPage →
      inSram s.winAddr = false →
      inStore s.winAddr = false →
      Runs .winDataRead s (fun t => t = { s with regs := t.regs, rdata := 0#16 } ∧ HasEvent t memPage 2 ∧
        SameRegsBut [(memPage, 0x03), (memPage, 0x08), (memPage, 0x09)] s t))

/-- With NVS ready and unlocked and no error in the store: a WRITE or an undefined operation with a reason to refuse it sets RESULT to the lowest code and REFUSED, and changes nothing else (1, not idle, also where only an orphan waits to be written: log entry 31); an undefined operation is refused with 7 where the engine is idle and with 1 where it is not. A WRITE accepted with the SRAM initialised and error-free has RESULT 0 and its whole record formed from the words of its source, and the store is not written yet; an INVALIDATE accepted has RESULT 0 and makes the engine busy, with no other change but its job. A QUERY of a type without a record has RESULT, Q_SLOT, Q_SEQ, Q_ADDR and Q_LENGTH 0; with one it shows the record's SEQ, address and LENGTH and a slot other than 0. APPLY_IMAGE of an image whose first entry is a WAIT has RESULT and IMG_SKIPPED 0 and waits with the entries after it; without an image that may be applied it sets IMG_REJECTED and changes registers alone; for no record (log entry 42), and for a RUN entry with k 0 or above 64 (log entry 83), that rejection is the model's choice, which R155 does not list. While an image waits and its one entry left is a WRITE of EVT.LINE_MASK, the page being served, IMAGE_WAIT_END writes that register as a host would, and the image stands at its end; where that entry names a register of the NVS page, it is skipped and counted in IMG_SKIPPED. A RUN entry of SCRATCH0 and SCRATCH1 writes both; a KEYED entry of POLICY of DEV writes it, and leaves DEV locked; at a further WAIT the image waits again, with the entries behind it, and nothing else changes. When no entry is left, and no AUTO image waits, IMAGE_APPLY_DONE ends the image and sets IMG_APPLIED. So that exec answers a next state for: nvsUndefinedOp, nvsWrite, nvsInvalidate, nvsQuery, nvsApplyImage, imageWaitEnd, imageApplyDone. -/
def Obligations.StoreCommandsAndImagesAreJudged : Prop :=
  (∀ (s : State) (op : BitVec 3),
      PortReady s nvsPage →
      s.unlocked nvsPage = true →
      s.nvs.mramErr = [] →
      (s.nvsRefusal op.toNat).isSome = true →
      op ∉ [1#3, 2#3, 3#3, 4#3] →
      Runs (.nvsUndefinedOp op) s (fun t => OnlyRegs s t ∧ HasEvent t nvsPage 1 ∧ some (t.reg nvsPage 0x0D).toNat = s.nvsRefusal op.toNat ∧
        SameRegsBut [(nvsPage, 0x03), (nvsPage, 0x0D)] s t)) ∧
  (∀ (s : State) (op : BitVec 3),
      PortReady s nvsPage →
      s.unlocked nvsPage = true →
      s.nvs.mramErr = [] →
      op ∉ [1#3, 2#3, 3#3, 4#3] →
      Runs (.nvsUndefinedOp op) s (fun t => t.reg nvsPage 0x0D = (if s.nvsIdle then 7#16 else 1#16) ∧ t.nvs = s.nvs ∧ t.mem = s.mem)) ∧
  (∀ (s : State),
      PortReady s nvsPage →
      s.unlocked nvsPage = true →
      s.nvs.mramErr = [] →
      (s.nvsRefusal 1).isSome = true →
      Runs .nvsWrite s (fun t => OnlyRegs s t ∧ HasEvent t nvsPage 1 ∧ some (t.reg nvsPage 0x0D).toNat = s.nvsRefusal 1 ∧
        SameRegsBut [(nvsPage, 0x03), (nvsPage, 0x0D)] s t)) ∧
  (∀ (s : State),
      PortReady s nvsPage →
      s.unlocked nvsPage = true →
      s.nvs.mramErr = [] →
      s.nvsRefusal 1 = none →
      s.mem.init = false →
      s.mem.sramErr = [] →
      s.mem.winBuf = [] →
      Runs .nvsWrite s (fun t => t.reg nvsPage 0x0D = 0#16 ∧ SameRegsBut [(nvsPage, 0x0D)] s t ∧ t.nvs.mram = s.nvs.mram ∧ t.mem = s.mem ∧
        let len := (s.reg nvsPage 0x09).toNat
        let src := (s.wide nvsPage 0x0A).toNat
        let cur := s.currentRec s.nvsType s.nvsInst
        let ws := recordWords s.nvsType s.nvsInst (nextSeq cur.1) s.nvsFlags s.mtUs (readWords sramDefault s.mem.sram src (len / 2))
        t.nvs = { s.nvs with job := .write cur.2.1 [s.reg nvsPage 0x08, s.nvsFlags] src len ws none })) ∧
  (∀ (s : State),
      PortReady s nvsPage →
      s.unlocked nvsPage = true →
      s.nvs.mramErr = [] →
      s.nvsRefusal 2 = none →
      Runs .nvsInvalidate s (fun t => t.reg nvsPage 0x0D = 0#16 ∧ SameRegsBut [(nvsPage, 0x0D)] s t ∧ t.mem = s.mem ∧ t.nvsBusy = true ∧
        t.nvs = { s.nvs with job := t.nvs.job })) ∧
  (∀ (s : State),
      PortReady s nvsPage →
      s.unlocked nvsPage = true →
      s.nvs.mramErr = [] →
      s.nvsRefusal 4 = none →
      (s.currentRec s.nvsType s.nvsInst).1 = none →
      Runs .nvsQuery s (fun t => OnlyRegs s t ∧ t.reg nvsPage 0x0D = 0#16 ∧ t.reg nvsPage 0x0E = 0#16 ∧ t.wide nvsPage 0x0F = 0#32 ∧
        t.wide nvsPage 0x11 = 0#32 ∧ t.reg nvsPage 0x13 = 0#16)) ∧
  (∀ (s : State),
      PortReady s nvsPage →
      s.unlocked nvsPage = true →
      s.nvs.mramErr = [] →
      s.nvsRefusal 4 = none →
      (s.currentRec s.nvsType s.nvsInst).1.isSome = true →
      Runs .nvsQuery s (fun t => OnlyRegs s t ∧ t.reg nvsPage 0x0D = 0#16 ∧ t.reg nvsPage 0x0E ≠ 0#16 ∧
        some (t.wide nvsPage 0x0F) = (s.currentRec s.nvsType s.nvsInst).1.map SlotRec.seq ∧
        some (t.wide nvsPage 0x11) = (s.currentRec s.nvsType s.nvsInst).1.map (fun r => BitVec.ofNat 32 r.addr) ∧
        some (t.reg nvsPage 0x13) = (s.currentRec s.nvsType s.nvsInst).1.map (fun r => BitVec.ofNat 16 r.len))) ∧
  (∀ (s : State),
      PortReady s nvsPage →
      s.unlocked nvsPage = true →
      s.nvs.mramErr = [] →
      s.nvsRefusal 3 = none →
      (((configImage s).bind List.head?).map (fun h => fld h 14 2) = some 3) →
      Runs .nvsApplyImage s (fun t => t.reg nvsPage 0x0D = 0#16 ∧ t.reg nvsPage 0x14 = 0#16 ∧ t.nvs.image = (configImage s).map List.tail ∧
        t.nvs.imgWait = true ∧ SameRegsBut [(nvsPage, 0x0D), (nvsPage, 0x14)] s t ∧ t.mem = s.mem)) ∧
  (∀ (s : State),
      PortReady s nvsPage →
      s.unlocked nvsPage = true →
      s.nvs.mramErr = [] →
      s.nvsRefusal 3 = none →
      configImage s = none →
      Runs .nvsApplyImage s (fun t => OnlyRegs s t ∧ t.reg nvsPage 0x0D = 0#16 ∧ HasEvent t nvsPage 6)) ∧
  (∀ (s : State) (v : Word),
      s.target evtPage = .unit →
      Runs .imageWaitEnd { s with nvs := { s.nvs with image := some [0x0110#16, v], imgWait := true } } (fun t =>
        t = { s with regs := t.regs, unlock := t.unlock, nvs := { s.nvs with image := some [], imgWait := false } } ∧
        t.reg evtPage 0x10 = v &&& 0x000F#16 ∧ SameRegsBut [(evtPage, 0x10)] s t)) ∧
  (∀ (s : State) (v : Word) (off : Offset),
      Runs .imageWaitEnd { s with nvs := { s.nvs with image := some [0x0400#16 ||| off.setWidth 16, v], imgWait := true } } (fun t =>
        t = { s with regs := t.regs, nvs := { s.nvs with image := some [], imgWait := false } } ∧
        t.reg nvsPage 0x14 = satInc (s.reg nvsPage 0x14) ∧ SameRegsBut [(nvsPage, 0x14)] s t)) ∧
  (∀ (s : State) (v w : Word),
      s.target devPage = .unit →
      Runs .imageWaitEnd { s with nvs := { s.nvs with image := some [0x4020#16, 2#16, v, w], imgWait := true } } (fun t =>
        t = { s with regs := t.regs, unlock := t.unlock, nvs := { s.nvs with image := some [], imgWait := false } } ∧
        t.reg devPage 0x20 = v ∧ t.reg devPage 0x21 = w ∧ SameRegsBut [(devPage, 0x20), (devPage, 0x21)] s t)) ∧
  (∀ (s : State) (v : Word),
      s.target devPage = .unit →
      Runs .imageWaitEnd { s with nvs := { s.nvs with image := some [0x8014#16, v], imgWait := true } } (fun t =>
        t = { s with regs := t.regs, unlock := t.unlock, nvs := { s.nvs with image := some [], imgWait := false } } ∧
        t.reg devPage 0x14 = v &&& 0x0003#16 ∧ t.unlocked devPage = false ∧ SameRegsBut [(devPage, 0x14)] s t)) ∧
  (∀ (s : State) (us : Fin 16384) (l : List Word),
      Runs .imageWaitEnd { s with nvs := { s.nvs with image := some (BitVec.ofNat 16 (0xC000 + us.val) :: l), imgWait := true } } (fun t =>
        t = { s with nvs := { s.nvs with image := some l, imgWait := true } })) ∧
  (∀ (s : State),
      s.nvs.autoWait = false →
      Runs .imageApplyDone { s with nvs := { s.nvs with image := some [], imgWait := false } } (fun t =>
        t = { s with regs := t.regs, nvs := { s.nvs with image := none, imgWait := false } } ∧ HasEvent t nvsPage 5 ∧ SameRegsBut [(nvsPage, 0x03)] s t))

/-- A waiting WRITE takes the words of its source and forms its record once the SRAM is initialised (no error in SRAM or store, window buffer empty). With no image and no AUTO image waiting: when a write of a host, of an axis, or of the orphan ends, its slot holds exactly the record's words, and its event is set (DONE; DONE and SAVE_DONE; ORPHAN_WRITTEN); for host and orphan every byte outside the record is as before and the engine is idle; the words of a host's source that have changed before the engine reached them (how far it has come is a free value) are in the record as they are then. An INVALIDATE of two COMMIT fields leaves both words of each 0 and sets DONE. A waiting orphan record starts once the engine is free, in the slot that is not current; without an orphan the request ends (log entry 94). NV_LOAD_DONE outside STANDBY and bring-up's first steps, not made yet, sets LOAD_DONE, and with no error in the store: an AXISPARAM record of a present axis of 16 bytes and version 1 loads R_LOOP and KE, with BANK 0 A3 and A5 too, and with BANK 1 to 4 leaves that bank VALID; a CAL record of 66 bytes and version 1 loads the slots of its present converter; one missing, or of another form, sets LOAD_DEFAULT and loads none of that; an ORPHAN record of 156 bytes is the held orphan, where the part has the link; every byte of the store is as before. So that exec answers a next state for: nvsWriteStart, nvsWriteDone, nvsInvalidateDone, orphanWriteStart, orphanWriteDone, nvLoadDone. -/
def Obligations.StoreJobsWriteTheirRecords : Prop :=
  (∀ (s : State) (ty inst : Fin 16) (len : Fin 500) (src : Nat),
      s.mem.init = false →
      s.nvs.mramErr = [] →
      s.mem.sramErr = [] →
      s.mem.winBuf = [] →
      Runs .nvsWriteStart { s with nvs := { s.nvs with job := .write 0 [place ty.val 0 ||| place inst.val 4, 1#16] src (2 * len.val) [] none } } (fun t =>
        let cur := s.currentRec ty.val inst.val
        let ws := recordWords ty.val inst.val (nextSeq cur.1) 1#16 s.mtUs (readWords sramDefault s.mem.sram src len.val)
        t = { s with nvs := { s.nvs with job := .write cur.2.1 [place ty.val 0 ||| place inst.val 4, 1#16] src (2 * len.val) ws none } })) ∧
  (∀ (s : State) (slot src len got : Nat) (head : List Word) (w : Word) (l : List Word),
      s.nvs.autoWait = false →
      s.nvs.image = none →
      Runs .nvsWriteDone { s with nvs := { s.nvs with job := .write slot head src len (w :: l) none got [] } } (fun t =>
        t = { s with regs := t.regs, nvs := { s.nvs with job := .idle, mram := t.nvs.mram, mramErr := t.nvs.mramErr } } ∧
        readWords mramDefault t.nvs.mram slot (l.length + 1) = w :: l ∧ SameBytesOutside mramDefault slot (2 * (l.length + 1)) s.nvs.mram t.nvs.mram ∧
        HasEvent t nvsPage 0 ∧ SameRegsBut [(nvsPage, 0x03)] s t)) ∧
  (∀ (s : State) (slot src got : Nat) (head : List Word) (again : List Nat) (ty inst : Fin 16) (seq us : Wide) (flags : Word) (p : List Word),
      s.nvs.autoWait = false →
      s.nvs.image = none →
      s.mem.sramErr = [] →
      s.mem.winBuf = [] →
      Runs .nvsWriteDone { s with nvs := { s.nvs with job := .write slot head src (2 * p.length) (recordWords ty.val inst.val seq flags us p) none got again } } (fun t =>
        let ws := recordWords ty.val inst.val seq flags us
          (p.mapIdx (fun k w => if k ∈ again then readWord sramDefault s.mem.sram (src + 2 * k) else w))
        readWords mramDefault t.nvs.mram slot ws.length = ws ∧ SameBytesOutside mramDefault slot (2 * ws.length) s.nvs.mram t.nvs.mram ∧
        t.nvs.job = .idle ∧ HasEvent t nvsPage 0)) ∧
  (∀ (s : State) (slot src len got : Nat) (head : List Word) (again : List Nat) (w : Word) (l : List Word) (n : Ax),
      s.nvs.autoWait = false →
      s.nvs.image = none →
      Runs .nvsWriteDone { s with nvs := { s.nvs with job := .write slot head src len (w :: l) (some n) got again } } (fun t =>
        readWords mramDefault t.nvs.mram slot (l.length + 1) = w :: l ∧ HasEvent t nvsPage 0 ∧ HasEvent t (axPage n) 15 ∧
        (t.axis n).char = { (s.axis n).char with saving := false } ∧ SameRegsBut [(nvsPage, 0x03), (axPage n, 0x03)] s t)) ∧
  (∀ (s : State) (a b : Nat),
      s.nvs.autoWait = false →
      s.nvs.image = none →
      Runs .nvsInvalidateDone { s with nvs := { s.nvs with job := .invalidate [a, b] } } (fun t =>
        t = { s with regs := t.regs, nvs := { s.nvs with job := .idle, mram := t.nvs.mram, mramErr := t.nvs.mramErr } } ∧
        readWords mramDefault t.nvs.mram a 2 = [0#16, 0#16] ∧ readWords mramDefault t.nvs.mram b 2 = [0#16, 0#16] ∧
        HasEvent t nvsPage 0 ∧ SameRegsBut [(nvsPage, 0x03)] s t)) ∧
  (∀ (s : State),
      s.nvs.orphanReq = true →
      s.nvsFree = true →
      s.twin.orphan = [] →
      Runs .orphanWriteStart s (fun t => t = { s with nvs := { s.nvs with orphanReq := false } })) ∧
  (∀ (s : State),
      s.nvs.orphanReq = true →
      s.nvsFree = true →
      s.nvs.mramErr = [] →
      s.twin.orphan ≠ [] →
      Runs .orphanWriteStart s (fun t => t = { s with nvs := { s.nvs with
          orphanReq := false, job := .orphan (s.currentRec 5 0).2.1 (recordWords 5 0 (nextSeq (s.currentRec 5 0).1) 0#16 s.mtUs s.twin.orphan) } })) ∧
  (∀ (s : State) (slot : Nat) (l : List Word),
      s.nvs.autoWait = false →
      s.nvs.image = none →
      Runs .orphanWriteDone { s with nvs := { s.nvs with job := .orphan slot l } } (fun t =>
        t = { s with regs := t.regs, nvs := { s.nvs with job := .idle, mram := t.nvs.mram, mramErr := t.nvs.mramErr } } ∧
        readWords mramDefault t.nvs.mram slot l.length = l ∧ SameBytesOutside mramDefault slot (2 * l.length) s.nvs.mram t.nvs.mram ∧
        HasEvent t nvsPage 4 ∧ SameRegsBut [(nvsPage, 0x03)] s t)) ∧
  (∀ (s : State),
      s.awake = true →
      s.nvs.loaded = false →
      s.nvs.mramErr = [] →
      s.nvs.mram = [] →
      Runs .nvLoadDone s (fun t => t = { s with regs := t.regs, nvs := { s.nvs with loadDone := true, loaded := true } } ∧ HasEvent t nvsPage 8 ∧
        SameRegsBut [(nvsPage, 0x03)] s t)) ∧
  (∀ (s : State) (n : Ax),
      s.awake = true →
      s.nvs.loaded = false →
      s.nvs.mramErr = [] →
      s.hasAxis n = true →
      Runs .nvLoadDone s (fun t => t.nvs.loadDone = true ∧ t.nvs.mram = s.nvs.mram ∧ t.mem = s.mem ∧
        let p := (storedV1 s 2 n.val 16).getD []
        if (storedV1 s 2 n.val 16).isSome then t.reg (brPage n) 0x18 = wordAt p 1 ∧ t.reg (axPage n) 0x48 = wordAt p 3 ∧
            (wordAt p 6 = 0#16 → t.reg (axPage n) 0x49 = wordAt p 4 ∧ t.reg (axPage n) 0x4A = wordAt p 5) ∧
            (1 ≤ (wordAt p 6).toNat ∧ (wordAt p 6).toNat ≤ 4 ∧ s.table.shape = Vector.replicate 5 none → t.bankValid (wordAt p 6).toNat = true)
        else HasEvent t nvsPage 8 ∧ t.reg (brPage n) 0x18 = s.reg (brPage n) 0x18 ∧ t.reg (axPage n) 0x48 = s.reg (axPage n) 0x48)) ∧
  (∀ (s : State) (i : Fin 3),
      s.awake = true →
      s.nvs.loaded = false →
      s.nvs.mramErr = [] →
      (i ≠ 1 ∨ s.part.hasCnvB = true) →
      Runs .nvLoadDone s (fun t =>
        let p := (storedV1 s 3 i.val 66).getD []
        if (storedV1 s 3 i.val 66).isSome then ∀ k : Fin 32, t.reg (cnvPage i) (0x80 + k.val) = wordAt p (k.val + 1)
        else HasEvent t nvsPage 8 ∧ ∀ k : Fin 32, t.reg (cnvPage i) (0x80 + k.val) = s.reg (cnvPage i) (0x80 + k.val))) ∧
  (∀ (s : State),
      s.awake = true →
      s.nvs.loaded = false →
      s.nvs.mramErr = [] →
      s.part.hasTwin = true →
      Runs .nvLoadDone s (fun t => t.twin = if (storedAs s 5 0 156).isSome then { s.twin with orphan := (storedAs s 5 0 156).getD [], held := true } else s.twin))

/-- With TIME ready, and machine time brought to the read's instant: a read of SEC_H stores the second, the nanoseconds truncated to a multiple of 5, and the microsecond count of the present machine time in the snapshot, and returns the high word of the seconds. A read of MT_US_H outside such a burst replaces MT_US of the snapshot alone and returns its high word; within a burst that has read SEC_H it replaces nothing and returns the high word of the snapshot. No register and nothing else changes. With TIME ready, and machine time brought to the write's instant: an APPLY of a staged NS below 10^9 and of a time not earlier than now makes it the machine time, ends every correction in force, decided or waiting, and sets UNDISCIPLINED with the lock count at 0; of a staged NS of 10^9 or more it sets SET_INVALID; of an earlier time without ALLOW_STEP it sets STEP_REFUSED; both leave machine time and every other register alone. Of an earlier time with ALLOW_STEP it leaves the backward step waiting, ends every correction and sets UNDISCIPLINED. A write of NEXT_SEC_H captures the four words as the armed time, or, with NEXT_NS of 10^9 or more, sets SET_INVALID and leaves what is armed. Clearing TSYNC_EN sets UNDISCIPLINED with the lock count at 0; setting it where it was clear waits for a first pulse. So that exec answers a next state for: secHRead, mtUsHRead, timeApply, nextSecHWrite, tsyncEnWrite. -/
def Obligations.TimeIsReadSetAndArmed : Prop :=
  (∀ (s : State) (ph : Nat),
      PortReady s timePage →
      Runs (.secHRead ph) s (fun t =>
        let now := (s.timeAt ph).time.now
        t = { s with rdata := t.rdata, time := { (s.timeAt ph).time with snap := t.time.snap } } ∧
        t.time.snap.sec = BitVec.ofNat 32 (now / 1000000000) ∧ t.time.snap.ns = BitVec.ofNat 32 (now % 1000000000 / 5 * 5) ∧
        t.time.snap.us = BitVec.ofNat 32 (now / 1000) ∧ t.rdata = t.time.snap.sec.hi)) ∧
  (∀ (s : State) (ph : Nat),
      PortReady s timePage →
      Runs (.mtUsHRead false ph) s (fun t =>
        t = { s with rdata := t.rdata, time := { (s.timeAt ph).time with snap := t.time.snap } } ∧
        t.time.snap = { s.time.snap with us := BitVec.ofNat 32 ((s.timeAt ph).time.now / 1000) } ∧ t.rdata = t.time.snap.us.hi)) ∧
  (∀ (s : State) (ph : Nat),
      PortReady s timePage →
      Runs (.mtUsHRead true ph) s (fun t => t = { s with rdata := s.time.snap.us.hi, time := (s.timeAt ph).time })) ∧
  (∀ (s : State) (ph : Nat),
      PortReady s timePage →
      (s.wide timePage 0x12).toNat < 1000000000 →
      (s.timeAt ph).time.cur ≤ timeOf (s.wide timePage 0x10) (s.wide timePage 0x12) * nsUnit →
      Runs (.timeApply ph) s (fun t => t = { s with regs := t.regs, unlock := t.unlock, time := t.time } ∧ SameRegsBut [(timePage, 0x03)] s t ∧
        t.time.cur = timeOf (s.wide timePage 0x10) (s.wide timePage 0x12) * nsUnit ∧ t.time.corr = .none ∧ t.time.due = .none ∧
        t.time.step = none ∧ t.time.undisc = true ∧ t.time.lock = 0 ∧ t.time.armed = s.time.armed ∧ t.time.rate = s.time.rate)) ∧
  (∀ (s : State) (ph : Nat),
      PortReady s timePage →
      1000000000 ≤ (s.wide timePage 0x12).toNat →
      Runs (.timeApply ph) s (fun t => t = { s with regs := t.regs, unlock := t.unlock, time := (s.timeAt ph).time } ∧ HasEvent t timePage 0 ∧
        SameRegsBut [(timePage, 0x03)] s t)) ∧
  (∀ (s : State) (ph : Nat),
      PortReady s timePage →
      (s.wide timePage 0x12).toNat < 1000000000 →
      s.regBit timePage 0x01 3 = false →
      timeOf (s.wide timePage 0x10) (s.wide timePage 0x12) * nsUnit < (s.timeAt ph).time.cur →
      Runs (.timeApply ph) s (fun t => t = { s with regs := t.regs, unlock := t.unlock, time := (s.timeAt ph).time } ∧ HasEvent t timePage 1 ∧
        SameRegsBut [(timePage, 0x03)] s t)) ∧
  (∀ (s : State) (ph : Nat),
      PortReady s timePage →
      (s.wide timePage 0x12).toNat < 1000000000 →
      s.regBit timePage 0x01 3 = true →
      timeOf (s.wide timePage 0x10) (s.wide timePage 0x12) * nsUnit < (s.timeAt ph).time.cur →
      Runs (.timeApply ph) s (fun t => t.time.undisc = true ∧ t.time.lock = 0 ∧ t.time.corr = .none ∧ t.time.due = .none ∧
        t.time.cur = (s.timeAt ph).time.cur ∧ t.time.step = some ((timeOf (s.wide timePage 0x10) (s.wide timePage 0x12) * nsUnit : Nat) - ((s.timeAt ph).time.cur : Int)))) ∧
  (∀ (s : State) (v : Word),
      PortReady s timePage →
      Runs (.nextSecHWrite v) s (fun t => t.reg timePage 0x14 = v ∧
        (if (s.wide timePage 0x16).toNat < 1000000000 then
           t.time = { s.time with armed := some (timeOf (v.wide (s.reg timePage 0x15)) (s.wide timePage 0x16)) } ∧ SameRegsBut [(timePage, 0x14)] s t
         else t.time = s.time ∧ HasEvent t timePage 0 ∧ SameRegsBut [(timePage, 0x03), (timePage, 0x14)] s t))) ∧
  (∀ (s : State),
      PortReady s timePage →
      Runs (.tsyncEnWrite false) s (fun t => t.regBit timePage 0x18 0 = false ∧ t.time = { s.time with undisc := true, lock := 0 } ∧
        SameRegsBut [(timePage, 0x03), (timePage, 0x18)] s t)) ∧
  (∀ (s : State),
      PortReady s timePage →
      s.regBit timePage 0x18 0 = false →
      Runs (.tsyncEnWrite true) s (fun t => t.regBit timePage 0x18 0 = true ∧ t.time = { s.time with seen := false, missed := 0 } ∧
        SameRegsBut [(timePage, 0x18)] s t))

/-- Awake, with VIO, machine time brought to the edge: a high shorter than 10 ns is no pulse. With TSYNC_EN set and a high of 20 ns or more, an edge earlier than half a PERIOD after the last accepted pulse only counts in SPUR_CNT and sets TSYNC_SPURIOUS. Any other is accepted: with NEXT unarmed it sets NEXT_MISSING and UNDISCIPLINED; with NEXT armed it consumes it, stores E in ERR, clamped to 32 bits, and decides, with no correction in force: for E within PHASE_WIN no step, slew or hold, and UNDISCIPLINED above 100 ns; a step for E above it or, below it, with ALLOW_STEP; else a slew down to -1 ms and a hold below. Within a slew or a hold, E replaces the remaining error at once: it ends, gives way to a step, or goes on from E with its flags (R171; the model's reading, log entries 25 and 48). Where the backward step of an accepted APPLY still waits for its tick, the pulse consumes NEXT and replaces nothing (the model's reading, log entry 113). At a pulse within PHASE_WIN with a previous one, RATE ends within 500 ppm, or 3 % in the wide range. With a valid APPLY of a time not earlier in its cycle an accepted pulse with NEXT armed only consumes it, and the staged time is the machine time. A missing pulse counts in MISS_CNT and sets TSYNC_MISSED; from the second in succession on it sets UNDISCIPLINED. So that exec answers a next state for: tsyncEdge, tsyncMissing. -/
def Obligations.TsyncPulseIsJudged : Prop :=
  (∀ (s : State) (hi ph iv : Nat),
      s.awake = true →
      s.sup.vio = true →
      hi < 10 →
      Runs (.tsyncEdge hi ph iv false) s (fun t => t = { s with time := { (s.timeAt ph).time with high := hi * nsUnit } })) ∧
  (∀ (s : State) (hi ph iv : Nat),
      s.awake = true →
      s.sup.vio = true →
      s.regBit timePage 0x18 0 = true →
      20 ≤ hi →
      s.time.seen = true →
      iv < (s.reg timePage 0x19).toNat * 500000 →
      Runs (.tsyncEdge hi ph iv false) s (fun t => t = { s with regs := t.regs, time := { (s.timeAt ph).time with high := hi * nsUnit } } ∧ HasEvent t timePage 10 ∧
        t.reg timePage 0x23 = satInc (s.reg timePage 0x23) ∧ SameRegsBut [(timePage, 0x03), (timePage, 0x23)] s t)) ∧
  (∀ (s : State) (hi ph iv : Nat),
      s.awake = true →
      s.sup.vio = true →
      s.regBit timePage 0x18 0 = true →
      20 ≤ hi →
      (s.time.seen = false ∨ (s.reg timePage 0x19).toNat * 500000 ≤ iv) →
      s.time.armed = none →
      Runs (.tsyncEdge hi ph iv false) s (fun t => t = { s with regs := t.regs, fab := t.fab, time := { (s.timeAt ph).time with
          high := hi * nsUnit, seen := true, missed := 0, undisc := true, lock := 0 } } ∧ HasEvent t timePage 11 ∧ SameRegsBut [(timePage, 0x03)] s t)) ∧
  (∀ (s : State) (hi ph iv nx : Nat),
      s.awake = true →
      s.sup.vio = true →
      s.regBit timePage 0x18 0 = true →
      20 ≤ hi →
      (s.time.seen = false ∨ (s.reg timePage 0x19).toNat * 500000 ≤ iv) →
      s.time.corr = .none →
      s.time.applied = false →
      Runs (.tsyncEdge hi ph iv false) { s with time := { s.time with armed := some nx } } (fun t =>
        let e : Int := nx - (s.timeAt ph).capture
        let win : Int := (s.reg timePage 0x1A).toNat * 10
        t.time.armed = none ∧ t.wide timePage 0x1C = satInt32 e ∧ SameRegsBut [(timePage, 0x03), (timePage, 0x1C), (timePage, 0x1D)] s t ∧
        (if -win ≤ e ∧ e ≤ win then t.time.corr = .none ∧ t.time.due = .none ∧ t.time.step = none ∧ (100 < e.natAbs → t.time.undisc = true)
         else if 0 < e ∨ s.regBit timePage 0x01 3 then t.time.step = some (e * nsUnit) ∧ t.time.due = .none ∧ t.time.undisc = true
         else t.time.step = none ∧ t.time.due = if -1000000 ≤ e then .slew (e.natAbs * nsUnit) else .hold (e.natAbs * nsUnit)))) ∧
  (∀ (s : State) (hi ph iv nx : Nat),
      s.awake = true →
      s.sup.vio = true →
      s.regBit timePage 0x18 0 = true →
      20 ≤ hi →
      (s.time.seen = false ∨ (s.reg timePage 0x19).toNat * 500000 ≤ iv) →
      s.time.corr ≠ .none →
      s.time.applied = false →
      Runs (.tsyncEdge hi ph iv false) { s with time := { s.time with armed := some nx } } (fun t =>
        let e : Int := nx - (s.timeAt ph).capture
        let win : Int := (s.reg timePage 0x1A).toNat * 10
        t.time.armed = none ∧ t.wide timePage 0x1C = satInt32 e ∧ SameRegsBut [(timePage, 0x03), (timePage, 0x1C), (timePage, 0x1D)] s t ∧
        t.time.due = .none ∧
        (if -win ≤ e ∧ e ≤ win then t.time.corr = .none ∧ t.time.step = none ∧ t.time.realign = true
         else if 0 < e ∨ s.regBit timePage 0x01 3 then t.time.step = some (e * nsUnit) ∧ t.time.corr = .none ∧ t.time.undisc = true
         else t.time.step = none ∧ t.time.undisc = true ∧ HasEvent t timePage (if -1000000 ≤ e then 4 else 5) ∧
           t.time.corr = if -1000000 ≤ e then .slew (e.natAbs * nsUnit) else .hold (e.natAbs * nsUnit)))) ∧
  (∀ (s : State) (hi ph iv nx : Nat),
      s.awake = true →
      s.sup.vio = true →
      s.regBit timePage 0x18 0 = true →
      20 ≤ hi →
      (s.time.seen = false ∨ (s.reg timePage 0x19).toNat * 500000 ≤ iv) →
      s.time.applied = true →
      Runs (.tsyncEdge hi ph iv false) { s with time := { s.time with armed := some nx } } (fun t =>
        t = { s with fab := t.fab, time := { (s.timeAt ph).time with high := hi * nsUnit, seen := true, missed := 0, armed := none } })) ∧
  (∀ (s : State) (hi ph iv nx : Nat),
      s.awake = true →
      s.sup.vio = true →
      s.regBit timePage 0x18 0 = true →
      20 ≤ hi →
      s.time.seen = true →
      s.time.applied = false →
      (s.reg timePage 0x19).toNat * 500000 ≤ iv →
      0 < iv →
      ((nx : Int) - (s.timeAt ph).capture).natAbs ≤ (s.reg timePage 0x1A).toNat * 10 →
      Runs (.tsyncEdge hi ph iv false) { s with time := { s.time with armed := some nx } } (fun t =>
        t.time.rate.natAbs ≤ (if s.wideRange then 128849018 else 2147483))) ∧
  (∀ (s : State) (hi ph iv nx : Nat),
      s.awake = true →
      s.sup.vio = true →
      s.regBit timePage 0x18 0 = true →
      20 ≤ hi →
      (s.time.seen = false ∨ (s.reg timePage 0x19).toNat * 500000 ≤ iv) →
      (s.wide timePage 0x12).toNat < 1000000000 →
      (s.timeAt ph).time.cur ≤ timeOf (s.wide timePage 0x10) (s.wide timePage 0x12) * nsUnit →
      Runs (.tsyncEdge hi ph iv true) { s with time := { s.time with armed := some nx } } (fun t => t.time.armed = none ∧
        t.time.cur = timeOf (s.wide timePage 0x10) (s.wide timePage 0x12) * nsUnit ∧ t.time.step = none ∧ t.time.due = .none ∧ t.time.seen = true ∧ SameRegsBut [(timePage, 0x03)] s t)) ∧
  (∀ (s : State),
      s.awake = true →
      s.regBit timePage 0x18 0 = true →
      Runs .tsyncMissing s (fun t => t.reg timePage 0x22 = satInc (s.reg timePage 0x22) ∧ HasEvent t timePage 9 ∧
        SameRegsBut [(timePage, 0x03), (timePage, 0x22)] s t ∧ t = { s with regs := t.regs, time := t.time } ∧ t.time.missed = s.time.missed + 1 ∧
        (1 ≤ s.time.missed → t.time.undisc = true ∧ t.time.lock = 0) ∧ t.time.rate = s.time.rate))

/-- With no correction in force and no realignment due, a forward step waiting puts machine time at the next tick of its old course plus E, ends what is decided, sets UNDISCIPLINED and STEPPED_FWD; a backward step does so with its own event and clears ALLOW_STEP. A slew whose remaining error runs out before the tick ends: 8 times the rest passes, and machine time goes on by 7 times it; a hold ends once its rest has passed, and machine time has stood still; the next tick realigns, and a correction that a pulse has decided still begins. One that does not run out before the tick changes nothing. A hold that has lasted 50 ms sets TIMEBASE_FAULT, once, and goes on. Each of them changes no register but those named. So that exec answers a next state for: forwardStep, backwardStep, slewEnd, holdEnd, timebaseFault. -/
def Obligations.CorrectionsOfTimeEnd : Prop :=
  (∀ (s : State) (e : Nat),
      s.time.corr = .none →
      s.time.realign = false →
      s.time.cur + usUnit + e + 1 < timeSpan →
      Runs .forwardStep { s with time := { s.time with step := some (e + 1) } } (fun t =>
        t = { s with regs := t.regs, time := { s.time with
          cur := s.time.cur + (usUnit - s.time.run) + e + 1, run := 0, base := 0, baseCyc := 0, total := s.time.total + (usUnit - s.time.run)
          high := s.time.high - (usUnit - s.time.run), due := .none
          step := none, applied := false, realign := true, ticked := true, undisc := true, lock := 0 } } ∧ HasEvent t timePage 2 ∧ SameRegsBut [(timePage, 0x03)] s t)) ∧
  (∀ (s : State) (e : Nat),
      s.time.corr = .none →
      s.time.realign = false →
      e ≤ s.time.cur →
      s.time.cur + usUnit < timeSpan →
      Runs .backwardStep { s with time := { s.time with step := some (-(e : Int)) } } (fun t =>
        t = { s with regs := t.regs, time := { s.time with
          cur := s.time.cur + (usUnit - s.time.run) - e, run := 0, base := 0, baseCyc := 0, total := s.time.total + (usUnit - s.time.run)
          high := s.time.high - (usUnit - s.time.run), due := .none
          step := none, applied := false, realign := true, ticked := true, undisc := true, lock := 0 } } ∧ HasEvent t timePage 3 ∧ t.regBit timePage 0x01 3 = false ∧
        SameRegsBut [(timePage, 0x01), (timePage, 0x03)] s t)) ∧
  (∀ (s : State) (l : Nat),
      8 * l ≤ usUnit - s.time.run →
      s.time.cur + 7 * l < timeSpan →
      Runs .slewEnd { s with time := { s.time with corr := .slew l } } (fun t =>
        t = { s with time := { s.time with
          corr := .none, realign := true, cur := s.time.cur + 7 * l, run := s.time.run + 8 * l, total := s.time.total + 8 * l, high := s.time.high - 8 * l } })) ∧
  (∀ (s : State) (l : Nat),
      l ≤ usUnit - s.time.run →
      s.time.cur < timeSpan →
      Runs .holdEnd { s with time := { s.time with corr := .hold l } } (fun t =>
        t = { s with time := { s.time with
          corr := .none, realign := true, run := s.time.run + l, total := s.time.total + l, high := s.time.high - l } })) ∧
  (∀ (s : State) (l : Nat),
      usUnit - s.time.run < 8 * l →
      Runs .slewEnd { s with time := { s.time with corr := .slew l } } (fun t => t = { s with time := { s.time with corr := .slew l } })) ∧
  (∀ (s : State) (l : Nat),
      usUnit - s.time.run < l →
      Runs .holdEnd { s with time := { s.time with corr := .hold l } } (fun t => t = { s with time := { s.time with corr := .hold l } })) ∧
  (∀ (s : State) (l : Nat),
      50000 ≤ s.time.holdTicks →
      s.time.tbDone = false →
      Runs .timebaseFault { s with time := { s.time with corr := .hold l } } (fun t =>
        t = { s with regs := t.regs, time := { s.time with corr := .hold l, tbDone := true } } ∧ HasEvent t timePage 6 ∧ SameRegsBut [(timePage, 0x03)] s t))

/-- With the page ready, each of the four only leaves its request with the axis (a mode request by the low three bits, in place of an earlier one), and changes nothing else but the page's unlock. Where the block is not awake a tick changes nothing. Where it is: with no correction in force or decided, machine time goes on to the end of the 1000 ns of the tick, and the queue, the store, the power state and the clocks are as before; every present axis without an interrupted mode has no request left; an axis at rest in PARKED or HOLD with no request, no following-error limit and no settle check keeps its mode, its channel and ANGLE_OFS. An enabled axis that jogs in VELOCITY without soft limits, requests, a stop, a STOP_N latch, stall detection or a following-error limit has its position moved by its new velocity, truncated toward minus infinity (log entry 12), modulo 2^32. A PARKED axis whose SET_POS is judged shows SET_POS as its position, and one whose change of DIR_INV takes effect shows the new direction; its electrical angle stays in both. So that exec answers a next state for: modeCmd, applyRt, setPos, encAlign, rampTick. -/
def Obligations.RequestsAreJudgedOnTheTick : Prop :=
  (∀ (s : State) (n : Ax) (v : Word),
      PortReady s (axPage n) →
      Runs (.modeCmd n v) s (fun t => t = { s.modAxis n (fun a => { a with req := { a.req with mode := some (v.toNat % 8) } }) with unlock := t.unlock } ∧
        t.unlocked (axPage n) = false)) ∧
  (∀ (s : State) (n : Ax),
      PortReady s (axPage n) →
      Runs (.applyRt n) s (fun t => t = { s.modAxis n (fun a => { a with req := { a.req with rt := true } }) with unlock := t.unlock })) ∧
  (∀ (s : State) (n : Ax),
      PortReady s (axPage n) →
      Runs (.setPos n) s (fun t => t = { s.modAxis n (fun a => { a with req := { a.req with setPos := true } }) with unlock := t.unlock })) ∧
  (∀ (s : State) (n : Ax),
      PortReady s (axPage n) →
      Runs (.encAlign n) s (fun t => t = { s.modAxis n (fun a => { a with req := { a.req with align := true } }) with unlock := t.unlock })) ∧
  (∀ (s : State) (b : Bool),
      s.awake = false →
      Runs (.rampTick b) s (fun t => t = s)) ∧
  (∀ (s : State) (b : Bool),
      s.awake = true →
      s.time.corr = .none →
      s.time.due = .none →
      s.time.ticked = false →
      s.time.realign = false →
      Runs (.rampTick b) s (fun t => t.time = { s.time with
          cur := (s.time.cur + (usUnit - s.time.run)) % timeSpan, run := 0, base := 0, baseCyc := 0,
          total := s.time.total + (usUnit - s.time.run), high := s.time.high - (usUnit - s.time.run) } ∧
        t.pending = s.pending ∧
        t.nvs.mram = s.nvs.mram ∧ t.pwr = s.pwr ∧ t.clk = s.clk)) ∧
  (∀ (s : State) (b : Bool) (n : Ax),
      s.awake = true →
      s.hasAxis n = true →
      (s.axis n).frozen = none →
      Runs (.rampTick b) s (fun t => (t.axis n).req = {})) ∧
  (∀ (s : State) (b : Bool) (n : Ax),
      s.awake = true →
      ((s.axis n).mode = .parked ∨ (s.axis n).mode = .hold) →
      (s.axis n).stopping = none →
      (s.axis n).chan.v = 0 →
      (s.axis n).req = {} →
      (s.axis n).invReq = none →
      s.reg (axPage n) 0x3C = 0#16 →
      (s.axis n).settleLeft = none →
      Runs (.rampTick b) s (fun t => (t.axis n).mode = (s.axis n).mode ∧ (t.axis n).chan = (s.axis n).chan ∧ (t.axis n).ofs = (s.axis n).ofs)) ∧
  (∀ (s : State) (b : Bool) (n : Ax),
      s.awake = true →
      s.hasAxis n = true →
      s.regBit (axPage n) 0x01 0 = true →
      (s.axis n).mode = .velocity →
      (s.axis n).stopping = none →
      (s.axis n).req = {} →
      s.stopN = false →
      s.reg (axPage n) 0x3C = 0#16 →
      s.regBit (axPage n) 0x40 0 = false →
      s.softLimits n = none →
      Runs (.rampTick b) s (fun t => (t.axis n).mode = .velocity ∧
        (t.axis n).chan.p = (BitVec.ofInt 64 ((s.axis n).chan.p + (t.axis n).chan.v / 65536)).toInt)) ∧
  (∀ (s : State) (b : Bool) (n : Ax),
      s.awake = true →
      s.hasAxis n = true →
      (s.axis n).mode = .parked →
      s.reg (axPage n) 0x3C = 0#16 →
      Runs (.rampTick b) (s.modAxis n (fun a => { a with stopping := none, frozen := none, req := { setPos := true } })) (fun t =>
        t.position n = (s.wide (axPage n) 0x12).toInt ∧ t.angle n = s.angle n ∧ (t.axis n).mode = .parked ∧ (t.axis n).uncertain = false)) ∧
  (∀ (s : State) (b inv : Bool) (n : Ax),
      s.awake = true →
      s.hasAxis n = true →
      (s.axis n).mode = .parked →
      s.reg (axPage n) 0x3C = 0#16 →
      Runs (.rampTick b) (s.modAxis n (fun a => { a with stopping := none, frozen := none, settleLeft := none, req := {}, invReq := some inv })) (fun t =>
        t.dirInv n = inv ∧ t.angle n = s.angle n ∧ t.position n = s.position n ∧ (t.axis n).mode = .parked ∧ (t.axis n).invReq = none))

/-- With the page ready: CMD.STOP of an axis in a moving mode that does not stop yet begins a STOP under STOP_DECEL and STOP_JERK that ends in HOLD, and changes no register, no position, velocity or mode, and no other axis or ledger; at velocity 0 the axis is in HOLD at once with STOPPED and MODE_CHANGED; in PARKED, HOLD or CHARACTERISE it changes nothing but the unlock (both log entry 24). CLR_OVERSHOOT clears OVERSHOOT alone. CFG, with FRZ low, stores its low eight bits at once; in PARKED or HOLD without a STOP a change of DIR_INV is kept for the next tick, and mode, position and electrical angle stay; elsewhere DIR_INV keeps its value, ANGLE_OFS stays, and PARAM_CLAMPED is set. ENABLE is set at once, which makes the axis live, so that a PARKED brake may act on its switches; it is cleared only in PARKED, and otherwise PARAM_CLAMPED is set. With the page ready: VCMD and VMAX beyond the largest velocity are stored as it, VCMD with its sign, with PARAM_CLAMPED; in range they are stored as written without it. VCMD during a STOP is refused with code 2. The other limits take a value other than 0 as written; VMAX, AMAX or DMAX written 0 in VELOCITY or FOLLOW is ignored with PARAM_CLAMPED and elsewhere stored, STOP_DECEL written 0 is ignored, JMAX and STOP_JERK written 0 are stored, no jerk limit. A soft limit is stored where LO stays below HI, with LIMIT_ACTIVE set where the axis then stands outside (the model's reading of R193, log entry 18), and otherwise ignored with PARAM_CLAMPED. No other register changes, and no other axis. So that exec answers a next state for: axisStop, clrOvershoot, axisCfgWrite, axisEnableWrite, vcmdWrite, jogLimitWrite, posLimitWrite. -/
def Obligations.AxisCommandsLimitsAndConfiguration : Prop :=
  (∀ (s : State) (n : Ax),
      PortReady s (axPage n) →
      (s.axis n).mode.moving = true →
      (s.axis n).stopping = none →
      (s.axis n).chan.v ≠ 0 →
      Runs (.axisStop n) s (fun t => (t.axis n).stopping = some .hold ∧ (t.axis n).goal = .stop ∧ (t.axis n).mode = (s.axis n).mode ∧
        (t.axis n).chan = (s.axis n).chan ∧ (t.axis n).lim.dmax = (s.wide (axPage n) 0x26).toNat ∧ (t.axis n).lim.jmax = (s.wide (axPage n) 0x28).toNat ∧
        t.regs = s.regs ∧ ∀ m : Ax, m ≠ n → t.axis m = s.axis m ∧ t.ledger m = s.ledger m)) ∧
  (∀ (s : State) (n : Ax),
      PortReady s (axPage n) →
      (s.axis n).mode.moving = true →
      (s.axis n).stopping = none →
      (s.axis n).chan.v = 0 →
      Runs (.axisStop n) s (fun t => (t.axis n).mode = .hold ∧ HasEvent t (axPage n) 6 ∧ HasEvent t (axPage n) 1 ∧ (t.axis n).chan.p = (s.axis n).chan.p ∧
        SameRegsBut [(axPage n, 0x03)] s t ∧ ∀ m : Ax, m ≠ n → t.axis m = s.axis m)) ∧
  (∀ (s : State) (n : Ax),
      PortReady s (axPage n) →
      (s.axis n).mode.moving = false →
      Runs (.axisStop n) s (fun t => t = { s with unlock := t.unlock })) ∧
  (∀ (s : State) (n : Ax),
      PortReady s (axPage n) →
      Runs (.clrOvershoot n) s (fun t => OnlyRegs s t ∧ t.wide (axPage n) 0x2E = 0#32 ∧ SameRegsBut [(axPage n, 0x2E), (axPage n, 0x2F)] s t)) ∧
  (∀ (s : State) (n : Ax) (v : Word),
      PortReady s (axPage n) →
      s.pins.frz = false →
      ((s.axis n).mode = .parked ∨ (s.axis n).mode = .hold) →
      (s.axis n).stopping = none →
      Runs (.axisCfgWrite n v) s (fun t => t.reg (axPage n) 0x0B = (v &&& 0x00FF#16) ||| flag (s.dirInv n) 8 ∧
        (t.axis n).invReq = (if v.getLsbD 8 = s.dirInv n then none else some (v.getLsbD 8)) ∧ t.angle n = s.angle n ∧ t.position n = s.position n ∧
        SameRegsBut [(axPage n, 0x0B)] s t ∧ (t.axis n).mode = (s.axis n).mode ∧ ∀ m : Ax, m ≠ n → t.axis m = s.axis m)) ∧
  (∀ (s : State) (n : Ax) (v : Word),
      PortReady s (axPage n) →
      s.pins.frz = false →
      (s.axis n).mode ≠ .parked ∧ (s.axis n).mode ≠ .hold →
      v.getLsbD 8 ≠ s.dirInv n →
      Runs (.axisCfgWrite n v) s (fun t => t.dirInv n = s.dirInv n ∧ t.reg (axPage n) 0x0B &&& 0x00FF#16 = v &&& 0x00FF#16 ∧
        HasEvent t (axPage n) 9 ∧ (t.axis n).ofs = (s.axis n).ofs ∧ SameRegsBut [(axPage n, 0x03), (axPage n, 0x0B)] s t)) ∧
  (∀ (s : State) (n : Ax),
      PortReady s (axPage n) →
      Runs (.axisEnableWrite n true) s (fun t => OnlyRegs s { t with live := s.live, brgs := s.brgs } ∧ t.brg n = { s.brg n with
          sw := (t.brg n).sw, phA := { (s.brg n).phA with edge := (t.brg n).phA.edge, clean := (t.brg n).phA.clean }
          phB := { (s.brg n).phB with edge := (t.brg n).phB.edge, clean := (t.brg n).phB.clean } } ∧ (∀ m : Ax, m ≠ n → t.brg m = s.brg m) ∧
        t.live = s.live ||| (1#10 <<< n.val) ∧ t.regBit (axPage n) 0x01 0 = true ∧ SameRegsBut [(axPage n, 0x01)] s t)) ∧
  (∀ (s : State) (n : Ax),
      PortReady s (axPage n) →
      Runs (.axisEnableWrite n false) s (fun t => OnlyRegs s t ∧
        (if (s.axis n).mode = .parked then t.regBit (axPage n) 0x01 0 = false ∧ SameRegsBut [(axPage n, 0x01)] s t
         else HasEvent t (axPage n) 9 ∧ SameRegsBut [(axPage n, 0x03)] s t))) ∧
  (∀ (s : State) (n : Ax) (v : Wide),
      PortReady s (axPage n) →
      (s.axis n).stopping = none →
      Runs (.vcmdWrite n v) s (fun t => OnlyRegs s { t with lows := s.lows } ∧
        (t.wide (axPage n) 0x24).toInt = max (-0x147AE1) (min 0x147AE1 v.toInt) ∧ SameRegsBut [(axPage n, 0x03), (axPage n, 0x24), (axPage n, 0x25)] s t ∧
        t.reg (axPage n) 0x03 = (if v.toInt.natAbs ≤ 0x147AE1 then s.reg (axPage n) 0x03 else s.reg (axPage n) 0x03 ||| bitWord 9))) ∧
  (∀ (s : State) (n : Ax) (v : Wide),
      PortReady s (axPage n) →
      (s.axis n).stopping ≠ none →
      Runs (.vcmdWrite n v) s (fun t => OnlyRegs s { t with lows := s.lows } ∧ HasEvent t (axPage n) 0 ∧ t.reg (axPage n) 0x0C = 2#16 ∧
        SameRegsBut [(axPage n, 0x03), (axPage n, 0x0C)] s t)) ∧
  (∀ (s : State) (n : Ax) (v : Wide),
      PortReady s (axPage n) →
      (v ≠ 0#32 ∨ ((s.axis n).mode ≠ .velocity ∧ (s.axis n).mode ≠ .follow)) →
      Runs (.jogLimitWrite n .vmax v) s (fun t => OnlyRegs s { t with lows := s.lows } ∧ (t.wide (axPage n) 0x1C).toNat = min 0x147AE1 v.toNat ∧
        SameRegsBut [(axPage n, 0x03), (axPage n, 0x1C), (axPage n, 0x1D)] s t ∧
        t.reg (axPage n) 0x03 = (if v.toNat ≤ 0x147AE1 then s.reg (axPage n) 0x03 else s.reg (axPage n) 0x03 ||| bitWord 9))) ∧
  (∀ (s : State) (n : Ax) (r : JogReg) (v : Wide),
      PortReady s (axPage n) →
      v ≠ 0#32 →
      r ≠ .vmax →
      Runs (.jogLimitWrite n r v) s (fun t => OnlyRegs s { t with lows := s.lows } ∧ t.wide (axPage n) r.off = v ∧
        SameRegsBut [(axPage n, r.off), (axPage n, r.off + 1)] s t)) ∧
  (∀ (s : State) (n : Ax) (r : JogReg),
      PortReady s (axPage n) →
      ((s.axis n).mode = .velocity ∨ (s.axis n).mode = .follow) →
      (r = .vmax ∨ r = .amax ∨ r = .dmax) →
      Runs (.jogLimitWrite n r 0#32) s (fun t => OnlyRegs s { t with lows := s.lows } ∧ HasEvent t (axPage n) 9 ∧ SameRegsBut [(axPage n, 0x03)] s t)) ∧
  (∀ (s : State) (n : Ax),
      PortReady s (axPage n) →
      Runs (.jogLimitWrite n .stopDecel 0#32) s (fun t => OnlyRegs s { t with lows := s.lows } ∧ SameRegsBut [] s t)) ∧
  (∀ (s : State) (n : Ax) (r : JogReg),
      PortReady s (axPage n) →
      (r = .jmax ∨ r = .stopJerk ∨ ((r = .amax ∨ r = .dmax ∨ r = .vmax) ∧ (s.axis n).mode ≠ .velocity ∧ (s.axis n).mode ≠ .follow)) →
      Runs (.jogLimitWrite n r 0#32) s (fun t => OnlyRegs s { t with lows := s.lows } ∧ t.wide (axPage n) r.off = 0#32 ∧
        SameRegsBut [(axPage n, r.off), (axPage n, r.off + 1)] s t)) ∧
  (∀ (s : State) (n : Ax) (hi : Bool) (v : Wide),
      PortReady s (axPage n) →
      (if hi then (s.wide (axPage n) 0x2A).toInt < v.toInt else v.toInt < (s.wide (axPage n) 0x2C).toInt) →
      Runs (.posLimitWrite n hi v) s (fun t => t.wide (axPage n) (if hi then 0x2C else 0x2A) = v ∧
        SameRegsBut [(axPage n, if hi then 0x2C else 0x2A), (axPage n, if hi then 0x2D else 0x2B)] s t ∧ t.position n = s.position n ∧
        (t.axis n).limitActive = ((s.axis n).limitActive || t.outsideLimits n) ∧ ∀ m : Ax, m ≠ n → t.axis m = s.axis m)) ∧
  (∀ (s : State) (n : Ax) (hi : Bool) (v : Wide),
      PortReady s (axPage n) →
      (¬(if hi then (s.wide (axPage n) 0x2A).toInt < v.toInt else v.toInt < (s.wide (axPage n) 0x2C).toInt)) →
      Runs (.posLimitWrite n hi v) s (fun t => OnlyRegs s { t with lows := s.lows } ∧ HasEvent t (axPage n) 9 ∧ SameRegsBut [(axPage n, 0x03)] s t))

/-- While awake with VIO: a STOP_N low of at least 50 ns latches, takes the resumption from a frozen axis, and changes no register, mode or channel; one shorter than 20 ns changes nothing. A rise of FRZ begins a STOP of a present axis with FRZ_EN in a moving mode at a velocity other than 0, which reads FROZEN with its mode kept for later, and pauses its ledger; an axis without FRZ_EN is not affected. Its fall leaves the interrupted mode of a present axis with FRZ_RESUME that has come to rest as a request for the next tick, unless STOP_N latched, and changes no register. A settle check that is due sets SETTLED, and SETTLE_OUT where DEVIATION exceeds the window; within it, mode 1 takes DEVIATION off POSITION without moving the electrical angle, and DEVIATION reads 0; mode 2, in LEDGER without a STOP and with jog limits other than 0, begins a move by DEVIATION under the jog limits, up to a soft limit, and elsewhere corrects nothing (DEDUCED, log entry 27). While the watchdog counts: its first expiry sets HOST_TIMEOUT, and every present axis that moves at a velocity other than 0, and is not stopping already, begins a STOP that ends in HOLD. The second expiry, with WDOG_ESCALATE set and no snapshot in progress, resets the device: RESET_CAUSE shows the watchdog, and bring-up starts at step 1. So that exec answers a next state for: stopNLatch, frzRise, frzFall, settleCheck, hostWatchdogExpiry, wdogEscalationReset. -/
def Obligations.WatchdogAndPinsStopMotion : Prop :=
  (∀ (s : State) (ns : Nat),
      s.awake = true →
      s.sup.vio = true →
      50 ≤ ns →
      Runs (.stopNLatch ns) s (fun t => t.stopN = true ∧ t.pins = { s.pins with stopN := false } ∧ t.regs = s.regs ∧
        ∀ n : Ax, (t.axis n).mode = (s.axis n).mode ∧ (t.axis n).chan = (s.axis n).chan ∧
          (s.hasAxis n = true → (s.axis n).frozen.isSome = true → (t.axis n).noResume = true))) ∧
  (∀ (s : State) (ns : Nat),
      ns < 20 →
      Runs (.stopNLatch ns) s (fun t => t = s)) ∧
  (∀ (s : State) (n : Ax),
      s.awake = true →
      s.sup.vio = true →
      s.pins.frz = false →
      s.hasAxis n = true →
      s.regBit (axPage n) 0x0B 2 = true →
      (s.axis n).mode.moving = true →
      (s.axis n).stopping = none →
      (s.axis n).chan.v ≠ 0 →
      Runs .frzRise s (fun t => t.pins.frz = true ∧ (t.axis n).frozen = some (s.axis n).mode ∧ (t.axis n).stopping = some .hold ∧
        (t.axis n).chan = (s.axis n).chan ∧ t.ledger n = (s.ledger n).pause ∧ (t.axisStatus n).getLsbD 6 = true)) ∧
  (∀ (s : State) (n : Ax),
      s.regBit (axPage n) 0x0B 2 = false →
      Runs .frzRise s (fun t => t.axis n = s.axis n ∧ t.ledger n = s.ledger n)) ∧
  (∀ (s : State) (n : Ax),
      s.pins.frz = true →
      s.hasAxis n = true →
      s.regBit (axPage n) 0x0B 3 = true →
      (s.axis n).frozen.isSome = true →
      (s.axis n).noResume = false →
      (s.axis n).stopping = none →
      Runs .frzFall s (fun t => t.pins = { s.pins with frz := false } ∧ t.regs = s.regs ∧ (t.axis n).frozen = none ∧
        (t.axis n).req.mode = (s.axis n).frozen.map Mode.code ∧ (t.axis n).mode = (s.axis n).mode)) ∧
  (∀ (s : State) (n : Ax),
      (s.axis n).settleLeft = some 0 →
      (s.reg (axPage n) 0x3E).toNat < (s.wide (axPage n) 0x3A).toInt.natAbs →
      Runs (.settleCheck n) s (fun t => HasEvent t (axPage n) 8 ∧ SameRegsBut [(axPage n, 0x03)] s t ∧
        t.axis n = { s.axis n with settleLeft := none, settleOut := true } ∧ ∀ m : Ax, m ≠ n → t.axis m = s.axis m)) ∧
  (∀ (s : State) (n : Ax),
      (s.axis n).settleLeft = some 0 →
      (s.wide (axPage n) 0x3A).toInt.natAbs ≤ (s.reg (axPage n) 0x3E).toNat →
      s.regFld (axPage n) 0x0B 6 2 = 1 →
      Runs (.settleCheck n) s (fun t => HasEvent t (axPage n) 8 ∧ t.angle n = s.angle n ∧ t.wide (axPage n) 0x3A = 0#32 ∧
        t.position n = (BitVec.ofInt 32 (s.position n - (s.wide (axPage n) 0x3A).toInt)).toInt ∧ (t.axis n).settleLeft = none ∧
        SameRegsBut [(axPage n, 0x03), (axPage n, 0x3A), (axPage n, 0x3B)] s t)) ∧
  (∀ (s : State) (n : Ax),
      (s.axis n).settleLeft = some 0 →
      (s.wide (axPage n) 0x3A).toInt ≠ 0 →
      (s.wide (axPage n) 0x3A).toInt.natAbs ≤ (s.reg (axPage n) 0x3E).toNat →
      s.regFld (axPage n) 0x0B 6 2 = 2 →
      (s.axis n).mode = .ledger →
      (s.axis n).stopping = none →
      (s.jogLimits n).vmax ≠ 0 →
      (s.jogLimits n).amax ≠ 0 →
      (s.jogLimits n).dmax ≠ 0 →
      Runs (.settleCheck n) s (fun t => HasEvent t (axPage n) 8 ∧ (t.axis n).correcting = true ∧ (t.axis n).settleLeft = none ∧ (t.axis n).mode = .ledger ∧
        (t.axis n).goal = .pos (s.clampTarget n (s.position n + (s.wide (axPage n) 0x3A).toInt)).1 ∧ (t.axis n).lim = s.jogLimits n ∧
        t.position n = s.position n ∧ SameRegsBut [(axPage n, 0x03)] s t ∧ ∀ m : Ax, m ≠ n → t.axis m = s.axis m)) ∧
  (∀ (s : State) (n : Ax),
      (s.axis n).settleLeft = some 0 →
      (s.wide (axPage n) 0x3A).toInt.natAbs ≤ (s.reg (axPage n) 0x3E).toNat →
      (s.regFld (axPage n) 0x0B 6 2 = 0 ∨ s.regFld (axPage n) 0x0B 6 2 = 3 ∨ (s.regFld (axPage n) 0x0B 6 2 = 2 ∧ ((s.axis n).mode ≠ .ledger ∨ (s.axis n).stopping ≠ none ∨ (s.wide (axPage n) 0x3A).toInt = 0))) →
      Runs (.settleCheck n) s (fun t => HasEvent t (axPage n) 8 ∧ SameRegsBut [(axPage n, 0x03)] s t ∧
        t.axis n = { s.axis n with settleLeft := none } ∧ ∀ m : Ax, m ≠ n → t.axis m = s.axis m)) ∧
  (∀ (s : State),
      s.watchCounts = true →
      s.pwr.hostExpired = false →
      Runs .hostWatchdogExpiry s (fun t => HasEvent t devPage 0 ∧ t.pwr = { s.pwr with hostExpired := true } ∧ t.mem = s.mem ∧ t.nvs = s.nvs ∧
        ∀ n : Ax, s.hasAxis n = true → (s.axis n).mode.moving = true → (s.axis n).chan.v ≠ 0 → (s.axis n).stopping = none →
          (t.axis n).stopping = some .hold ∧ (t.axis n).mode = (s.axis n).mode)) ∧
  (∀ (s : State),
      s.watchCounts = true →
      s.pwr.hostExpired = true →
      s.regBit devPage 0x14 1 = true →
      s.nvs.snap = none →
      s.pwr.testHold = false →
      s.pins.testEn = false →
      Runs .wdogEscalationReset s (fun t => t.reg devPage 0x13 = bitWord 2 ∧ t.pwr.pstate = .standby ∧ t.pwr.bring = 1 ∧ t.pwr.fromReset = true ∧
        t.axes = State.reset.axes ∧ t.mem = State.reset.mem ∧ t.pins = s.pins ∧ t.pending = s.pending))

/-- For an axis whose tick nothing but its request touches, on the tick: a request that no code of R179 refuses is granted: from PARKED, HOLD or a moving mode at v = 0 the axis is in PARKED, HOLD, VELOCITY or CHARACTERISE with MODE_CHANGED and STALLED clear, in LEDGER with an empty queue STARVED with its flag; from a moving mode at v not 0 it stops toward PARKED or HOLD, or has come to it. A request that a code refuses leaves an axis in PARKED, HOLD or VELOCITY in its mode, with MODE_REFUSED and the lowest code in REFUSE. During a STOP, PARKED and HOLD are recorded as its end, any other is refused with code 2. APPLY_RT of a running MOVE gives it RT_TARGET, clamped to the soft limits, as its target; without one it is refused with code 10 and RT_REFUSED, in a STOP with code 2. ENC_ALIGN of a bound axis makes DEVIATION read 0; without a binding it leaves ENC_OFFSET. So that exec answers a next state for: rampTick. -/
def Obligations.ModeRequestsAreGrantedOrRefused : Prop :=
  (∀ (s : State) (b : Bool) (n : Ax) (k : Nat),
      tickQuiet s n →
      ((s.axis n).mode = .parked ∨ (s.axis n).mode = .hold ∨ ((s.axis n).mode.moving = true ∧ (s.axis n).chan.v = 0)) →
      (k = 0 ∨ k = 1 ∨ k = 3) →
      some (s.axis n).mode ≠ Mode.ofCode k →
      s.modeRefusal n (Mode.ofCode k) = none →
      Runs (.rampTick b) (s.modAxis n (fun a => { a with req := { mode := some k } })) (fun t => some (t.axis n).mode = Mode.ofCode k ∧ HasEvent t (axPage n) 1 ∧ (t.axis n).req = {} ∧ (t.axis n).stall.stalled = false)) ∧
  (∀ (s : State) (b : Bool) (n : Ax),
      tickQuiet s n →
      (s.axis n).mode ≠ .characterise →
      s.modeRefusal n (some .characterise) = none →
      Runs (.rampTick b) (s.modAxis n (fun a => { a with req := { mode := some 5 } })) (fun t => HasEvent t (axPage n) 1 ∧ ((t.axis n).mode = .characterise ∨ t.regFld (axPage n) 0x53 3 4 = 7))) ∧
  (∀ (s : State) (b : Bool) (n : Ax),
      tickQuiet s n →
      (s.axis n).mode ≠ .ledger →
      (s.axis n).chan.v = 0 →
      (s.ledger n).run = none →
      s.fill n = 0 →
      s.modeRefusal n (some .ledger) = none →
      Runs (.rampTick b) (s.modAxis n (fun a => { a with req := { mode := some 2 } })) (fun t => (t.axis n).mode = .ledger ∧ HasEvent t (axPage n) 1 ∧
        (t.ledger n).st = .starved ∧ ledgFlagSet t n 1)) ∧
  (∀ (s : State) (b : Bool) (n : Ax) (k : Fin 2),
      tickQuiet s n →
      (s.axis n).mode.moving = true →
      (s.axis n).chan.v ≠ 0 →
      s.modeRefusal n (Mode.ofCode k.val) = none →
      Runs (.rampTick b) (s.modAxis n (fun a => { a with req := { mode := some k.val } })) (fun t =>
        if (t.axis n).stopping = none then some (t.axis n).mode = Mode.ofCode k.val ∧ HasEvent t (axPage n) 6 ∧ HasEvent t (axPage n) 1
        else (t.axis n).stopping = Mode.ofCode k.val ∧ (t.axis n).mode = (s.axis n).mode)) ∧
  (∀ (s : State) (b : Bool) (n : Ax) (k : Nat),
      tickQuiet s n →
      ((s.axis n).mode = .parked ∨ (s.axis n).mode = .hold ∨ (s.axis n).mode = .velocity) →
      some (s.axis n).mode ≠ Mode.ofCode k →
      (s.modeRefusal n (Mode.ofCode k)).isSome = true →
      Runs (.rampTick b) (s.modAxis n (fun a => { a with req := { mode := some k } })) (fun t => (t.axis n).mode = (s.axis n).mode ∧ HasEvent t (axPage n) 0 ∧
        some (t.reg (axPage n) 0x0C).toNat = s.modeRefusal n (Mode.ofCode k))) ∧
  (∀ (s : State) (b : Bool) (n : Ax) (k : Nat) (m : Mode),
      tickQuiet s n →
      (s.axis n).mode.moving = true →
      (m = .parked ∨ m = .hold) →
      Runs (.rampTick b) (s.modAxis n (fun a => { a with stopping := some m, req := { mode := some k } })) (fun t =>
        let e := if k = 0 then Mode.parked else if k = 1 then Mode.hold else m
        ((t.axis n).stopping = some e ∨ ((t.axis n).stopping = none ∧ (t.axis n).mode = e)) ∧
        (2 ≤ k → HasEvent t (axPage n) 0 ∧ t.reg (axPage n) 0x0C = 2#16))) ∧
  (∀ (s : State) (b : Bool) (n : Ax),
      runsQuiet s n →
      (headRec s n).type = 1 →
      Runs (.rampTick b) (s.modAxis n (fun a => { a with req := { rt := true } })) (fun t => (t.axis n).target = (s.clampTarget n (s.wide (axPage n) 0x1A).toInt).1 ∧
        ((s.clampTarget n (s.wide (axPage n) 0x1A).toInt).2 = true → HasEvent t (axPage n) 3))) ∧
  (∀ (s : State) (b : Bool) (n : Ax),
      tickQuiet s n →
      ((s.axis n).mode = .parked ∨ (s.axis n).mode = .hold ∨ (s.axis n).mode = .velocity) →
      Runs (.rampTick b) (s.modAxis n (fun a => { a with req := { rt := true } })) (fun t => HasEvent t (axPage n) 0 ∧ HasEvent t (axPage n) 5 ∧ t.reg (axPage n) 0x0C = 10#16 ∧
        (t.axis n).mode = (s.axis n).mode)) ∧
  (∀ (s : State) (b : Bool) (n : Ax) (m : Mode),
      tickQuiet s n →
      (s.axis n).mode.moving = true →
      Runs (.rampTick b) (s.modAxis n (fun a => { a with stopping := some m, req := { rt := true } })) (fun t => HasEvent t (axPage n) 0 ∧ t.reg (axPage n) 0x0C = 2#16)) ∧
  (∀ (s : State) (b : Bool) (n : Ax),
      s.awake = true →
      s.hasAxis n = true →
      (s.axis n).frozen = none →
      Runs (.rampTick b) (s.modAxis n (fun a => { a with req := { align := true } })) (fun t =>
        if s.bound n then t.wide (axPage n) 0x3A = 0#32 else t.wide (axPage n) 0x38 = s.wide (axPage n) 0x38))

/-- On a tick of an awake block: DEVIATION of a present axis is POSITION - Q, with Q the count of the bound channel times ENC_NUM / ENC_DEN, to 48 bits and rounded toward zero, plus ENC_OFFSET; STATUS.FERR reads 1 where |DEVIATION| exceeds a FERR_LIMIT other than 0, with FERR set where it read 0; under FERR_POLICY 2 the axis is then PARKED, under 1 one in a moving mode stops or is in HOLD, under 0 it goes on. An axis in FOLLOW with its channel in order and no soft limits: of the gear kind has D = P0 + (count - C0) * GEAR_NUM / GEAR_DEN, to 48 bits and rounded toward zero, modulo 2^32, and of the step kind keeps D; it shows D as TARGET and tracks it as a retarget under the jog limits with no jerk limit; FOLLOW_LAG is set where |D - POSITION| exceeds LAG_LIMIT and did not before. Where the channel is lost, it stops, or is in HOLD from v = 0, with REFUSE 7 and MODE_REFUSED (the event: the model's choice, log entry 115). An accepted step moves D by STEP_MULT in its direction, or, held by a soft limit, counts in FOLLOW_DROP. So that exec answers a next state for: rampTick. -/
def Obligations.FollowAndBindingOnATick : Prop :=
  (∀ (s : State) (b : Bool) (n : Ax),
      s.awake = true →
      s.hasAxis n = true →
      s.bound n = true →
      Runs (.rampTick b) s (fun t => t.wide (axPage n) 0x3A = BitVec.ofInt 32 (t.position n -
          (Int.tdiv (BitVec.ofInt 48 ((t.enc (s.regFld (axPage n) 0x35 0 2)).count.toInt * (s.reg (axPage n) 0x36).toInt)).toInt (s.reg (axPage n) 0x37).toNat +
           (t.wide (axPage n) 0x38).toInt)) ∧
        (t.enc (s.regFld (axPage n) 0x35 0 2)).count = (s.enc (s.regFld (axPage n) 0x35 0 2)).count)) ∧
  (∀ (s : State) (b : Bool) (n : Ax),
      s.awake = true →
      s.hasAxis n = true →
      Runs (.rampTick b) s (fun t => ((t.axis n).ferr = true ↔ s.reg (axPage n) 0x3C ≠ 0#16 ∧ (s.reg (axPage n) 0x3C).toNat < (t.wide (axPage n) 0x3A).toInt.natAbs) ∧
        ((t.axis n).ferr = true ∧ (s.axis n).ferr = false → HasEvent t (axPage n) 7 ∧ (s.regFld (axPage n) 0x0B 4 2 = 2 → (t.axis n).mode = .parked)))) ∧
  (∀ (s : State) (b : Bool) (n : Ax),
      tickCalm s n →
      (s.axis n).mode.moving = true →
      (s.axis n).ferr = false →
      s.regBit (axPage n) 0x40 0 = false →
      s.regFld (axPage n) 0x0B 4 2 = 1 →
      Runs (.rampTick b) s (fun t => (t.axis n).ferr = true → (t.axis n).mode = .hold ∨ (t.axis n).stopping = some .hold)) ∧
  (∀ (s : State) (b : Bool) (n : Ax),
      tickCalm s n →
      (s.axis n).mode = .velocity →
      s.regBit (axPage n) 0x40 0 = false →
      s.regFld (axPage n) 0x0B 4 2 = 0 →
      Runs (.rampTick b) s (fun t => (t.axis n).mode = .velocity ∧ (t.axis n).stopping = none)) ∧
  (∀ (s : State) (b : Bool) (n : Ax),
      tickQuiet s n →
      (s.axis n).mode = .follow →
      s.softLimits n = none →
      (if s.regBit (axPage n) 0x31 2 then s.encQuadOk (s.regFld (axPage n) 0x31 0 2) = true else s.encStepOk (s.regFld (axPage n) 0x31 0 2) = true) →
      Runs (.rampTick b) s (fun t => (t.axis n).mode = .follow ∧ (t.axis n).target = (t.axis n).fol.d ∧
        (t.axis n).fol.d = (BitVec.ofInt 32 (if s.regBit (axPage n) 0x31 2 then (s.axis n).fol.p0 +
          Int.tdiv (BitVec.ofInt 48 ((BitVec.ofInt 32 ((s.enc (s.regFld (axPage n) 0x31 0 2)).count.toInt - (s.axis n).fol.c0)).toInt * (s.reg (axPage n) 0x33).toInt)).toInt (s.reg (axPage n) 0x34).toNat
         else (s.axis n).fol.d)).toInt ∧
        (t.axis n).fol.lag = decide ((s.reg (axPage n) 0x3F).toNat < (BitVec.ofInt 32 ((t.axis n).fol.d - t.position n)).toInt.natAbs) ∧
        ((t.axis n).fol.lag = true ∧ (s.axis n).fol.lag = false → HasEvent t (axPage n) 10))) ∧
  (∀ (s : State) (b : Bool) (n : Ax),
      tickQuiet s n →
      (s.axis n).mode = .follow →
      s.softLimits n = none →
      s.reduced = false →
      s.regBit (axPage n) 0x31 2 = false →
      s.encStepOk (s.regFld (axPage n) 0x31 0 2) = true →
      Runs (.rampTick b) s (fun t =>
        let c := (s.axis n).chan
        let g := c.p / Ramp.microstep + (BitVec.ofInt 32 ((BitVec.ofInt 32 (s.axis n).fol.d).toInt - s.position n)).toInt
        let l : Limits := { s.jogLimits n with jmax := 0 }
        (t.axis n).chan = (Ramp.moveTickAt c g l (s.jogLimits n).amax (Ramp.mustReverse c g l)).1.wrapped)) ∧
  (∀ (s : State) (b : Bool) (n : Ax),
      tickQuiet s n →
      (s.axis n).mode = .follow →
      (if s.regBit (axPage n) 0x31 2 then s.encQuadOk (s.regFld (axPage n) 0x31 0 2) = false else s.encStepOk (s.regFld (axPage n) 0x31 0 2) = false) →
      Runs (.rampTick b) s (fun t => t.reg (axPage n) 0x0C = 7#16 ∧ HasEvent t (axPage n) 0 ∧ ((t.axis n).mode = .hold ∨ (t.axis n).stopping = some .hold))) ∧
  (∀ (s : State) (n : Ax) (ch : Nat) (up : Bool),
      (s.axis n).mode = .follow →
      (s.axis n).stopping = none →
      s.regBit (axPage n) 0x31 2 = false →
      s.regFld (axPage n) 0x31 0 2 = ch →
      s.hasAxis n = true →
      let d := (s.axis n).fol.d + (if up then 1 else -1) * ((s.reg (axPage n) 0x32).toNat : Int);
        let t := s.followStep ch up n;
        if (s.clampTarget n d).2 then t.reg (axPage n) 0x60 = satInc (s.reg (axPage n) 0x60) ∧ (t.axis n).fol.d = (BitVec.ofInt 32 (s.clampTarget n d).1).toInt
        else t.regs = s.regs ∧ (t.axis n).fol.d = (BitVec.ofInt 32 d).toInt)

/-- On a tick of an axis that nothing else touches: at rest in HOLD with its rest timer at k ticks the timer goes on, and the level is SS_CURRENT with LEVEL 3 from SS_DELAY ms on, where SS_DELAY is not 0, and HOLD_CURRENT with LEVEL 2 before; an axis that moves in VELOCITY after the tick is at RUN_CURRENT with LEVEL 1 and its rest timer stopped. I_EFF is the level, at most CUR_LIMIT, with CUR_SLEW = 0, and else has moved toward that by at most CUR_SLEW codes, never above CUR_LIMIT; a level above CUR_LIMIT sets CUR_CLAMPED where it had not. Where the axis is not PARKED, the setpoints formed are I_EFF * S(theta) / 65535 and I_EFF * S(theta + 1024) / 65535, rounded half away from zero, for the angle after the tick and the bank of TABLE_SEL, and those formed on the tick before are in SET_A and SET_B. A PARKED axis keeps LEVEL and I_EFF and forms none. So that exec answers a next state for: rampTick. -/
def Obligations.CurrentsFollowTheAxis : Prop :=
  (∀ (s : State) (b : Bool) (n : Ax) (k : Nat),
      tickQuiet s n →
      (s.axis n).mode = .hold →
      (s.axis n).goal = .none →
      (s.axis n).chan.v = 0 →
      (s.axis n).chan.a = 0 →
      Runs (.rampTick b) (s.modBrg n (fun b => { b with rest := some k })) (fun t =>
        let d := (s.reg (brPage n) 0x0B).toNat
        let lvl := if d ≠ 0 ∧ 1000 * d ≤ k + 1 then (s.reg (brPage n) 0x0A).toNat else (s.reg (brPage n) 0x09).toNat
        let lim := (s.reg (brPage n) 0x0D).toNat
        (t.brg n).rest = some (k + 1) ∧ (t.brg n).level = (if d ≠ 0 ∧ 1000 * d ≤ k + 1 then 3 else 2) ∧
        (s.reg (brPage n) 0x0C = 0#16 → (t.brg n).iEff = min lvl lim) ∧ (t.brg n).iEff ≤ lim ∧
        ((s.brg n).iEff ≤ lim ∧ s.reg (brPage n) 0x0C ≠ 0#16 →
          (t.brg n).iEff = max ((s.brg n).iEff - (s.reg (brPage n) 0x0C).toNat) (min (min lvl lim) ((s.brg n).iEff + (s.reg (brPage n) 0x0C).toNat))) ∧
        (lim < lvl ∧ (s.brg n).clamped.getLsbD (if d ≠ 0 ∧ 1000 * d ≤ k + 1 then 2 else 1) = false → HasEvent t (brPage n) 2))) ∧
  (∀ (s : State) (b : Bool) (n : Ax),
      cruises s n →
      s.regBit (axPage n) 0x40 0 = false →
      (s.axis n).chan.v ≠ 0 →
      Runs (.rampTick b) s (fun t =>
        let lim := (s.reg (brPage n) 0x0D).toNat
        (t.brg n).rest = none ∧ (t.brg n).level = 1 ∧ (t.brg n).iEff ≤ lim ∧
        (s.reg (brPage n) 0x0C = 0#16 → (t.brg n).iEff = min (s.reg (brPage n) 0x08).toNat lim) ∧
        (lim < (s.reg (brPage n) 0x08).toNat ∧ (s.brg n).clamped.getLsbD 0 = false → HasEvent t (brPage n) 2))) ∧
  (∀ (s : State) (b : Bool) (n : Ax),
      tickQuiet s n →
      (s.axis n).mode ≠ .parked →
      Runs (.rampTick b) s (fun t => (t.axis n).mode ≠ .parked ∧ (t.axis n).mode ≠ .characterise →
        (t.brg n).next = some (BitVec.ofInt 16 (roundDiv (((t.brg n).iEff : Int) * s.tableSin (s.tableSel n) (t.angle n)) 65535),
          BitVec.ofInt 16 (roundDiv (((t.brg n).iEff : Int) * s.tableSin (s.tableSel n) (t.angle n + 1024)) 65535)))) ∧
  (∀ (s : State) (b : Bool) (n : Ax) (x y : Word),
      tickQuiet s n →
      ((s.axis n).mode = .hold ∨ (s.axis n).mode = .velocity) →
      Runs (.rampTick b) (s.modBrg n (fun b => { b with next := some (x, y) })) (fun t => t.reg (brPage n) 0x23 = x ∧ t.reg (brPage n) 0x24 = y)) ∧
  (∀ (s : State) (b : Bool) (n : Ax),
      tickQuiet s n →
      (s.axis n).mode = .parked →
      Runs (.rampTick b) s (fun t => (t.brg n).level = (s.brg n).level ∧ (t.brg n).iEff = (s.brg n).iEff ∧ (t.brg n).next = none))

/-- For an axis that cruises in VELOCITY at VCMD: its position moves by its velocity, and, on a tick whose position reaches a multiple of 1024 of the electrical angle, at or above STALL_VMIN, with a sample of both phases since the estimate before: LOAD_ANGLE, EMF_AMP and EMF_EXP hold the formulas of R252 for EMF_A and EMF_B of that tick (truncated and rounded as log entry 16 says, the model's choice). Where the condition of R254 is not met STALL_CNT reads 0; where it is met and STALL_N is not reached it counts; where STALL_N is reached the stall is declared: STALL, STALLED, STALL_TOTAL one more, STALL_CNT 0, and under POLICY 0 the axis cruises on, under 1 it stops toward HOLD, under 2 it is PARKED. On a tick that reaches no such multiple, or without a sample of a phase whose setpoint reached HYST, none of them changes; below STALL_VMIN, in PARKED and in CHARACTERISE no estimate is formed and STALL_CNT is 0. So that exec answers a next state for: rampTick. -/
def Obligations.LoadAngleAndStallAreJudged : Prop :=
  (∀ (s : State) (b : Bool) (n : Ax),
      cruises s n →
      s.regBit (axPage n) 0x40 0 = false →
      Runs (.rampTick b) s (fun t => t.position n = cruisePos s n ∧ (t.axis n).chan.v = (s.axis n).chan.v)) ∧
  (∀ (s : State) (b : Bool) (n : Ax),
      cruises s n →
      (s.axis n).stall.smpA = true →
      (s.axis n).stall.smpB = true →
      slowerThan (s.axis n).chan.v (s.reg (axPage n) 0x41).toNat = false →
      fullStep (s.dirInv n) (s.axis n).ofs (s.position n) (cruisePos s n) = true →
      ¬stallMet (cruised s n) n (s.axis n).chan.v →
      Runs (.rampTick b) s (fun t => t.reg (axPage n) 0x43 = BitVec.ofInt 16 (loadAngleOf (cruised s n) n (s.axis n).chan.v) ∧ t.reg (axPage n) 0x44 = satWord (emfAmp s n) ∧
        t.reg (axPage n) 0x45 = satWord (emfExp s n (s.axis n).chan.v) ∧ (t.axis n).stall.cnt = 0 ∧ t.reg (axPage n) 0x47 = s.reg (axPage n) 0x47 ∧
        (t.axis n).stall.smpA = false ∧ (t.axis n).stall.smpB = false)) ∧
  (∀ (s : State) (b : Bool) (n : Ax),
      cruises s n →
      (s.axis n).stall.smpA = true →
      (s.axis n).stall.smpB = true →
      slowerThan (s.axis n).chan.v (s.reg (axPage n) 0x41).toNat = false →
      fullStep (s.dirInv n) (s.axis n).ofs (s.position n) (cruisePos s n) = true →
      stallMet (cruised s n) n (s.axis n).chan.v →
      (s.axis n).stall.cnt + 1 < s.regFld (axPage n) 0x40 1 4 →
      Runs (.rampTick b) s (fun t => t.reg (axPage n) 0x43 = BitVec.ofInt 16 (loadAngleOf (cruised s n) n (s.axis n).chan.v) ∧
        (t.axis n).stall.cnt = (s.axis n).stall.cnt + 1 ∧ t.reg (axPage n) 0x47 = s.reg (axPage n) 0x47 ∧ (t.axis n).mode = .velocity ∧ (t.axis n).stopping = none)) ∧
  (∀ (s : State) (b : Bool) (n : Ax),
      cruises s n →
      (s.axis n).stall.smpA = true →
      (s.axis n).stall.smpB = true →
      slowerThan (s.axis n).chan.v (s.reg (axPage n) 0x41).toNat = false →
      fullStep (s.dirInv n) (s.axis n).ofs (s.position n) (cruisePos s n) = true →
      stallMet (cruised s n) n (s.axis n).chan.v →
      s.regFld (axPage n) 0x40 1 4 ≤ (s.axis n).stall.cnt + 1 →
      Runs (.rampTick b) s (fun t => t.reg (axPage n) 0x43 = BitVec.ofInt 16 (loadAngleOf (cruised s n) n (s.axis n).chan.v) ∧ HasEvent t (axPage n) 11 ∧ (t.axis n).stall.stalled = true ∧
        (t.axis n).stall.cnt = 0 ∧ t.reg (axPage n) 0x47 = satInc (s.reg (axPage n) 0x47) ∧
        (s.regFld (axPage n) 0x40 5 2 = 0 → (t.axis n).mode = .velocity ∧ (t.axis n).stopping = none) ∧
        (s.regFld (axPage n) 0x40 5 2 = 1 → (t.axis n).stopping = some .hold ∨ (t.axis n).mode = .hold) ∧
        (s.regFld (axPage n) 0x40 5 2 = 2 → (t.axis n).mode = .parked))) ∧
  (∀ (s : State) (b : Bool) (n : Ax),
      cruises s n →
      slowerThan (s.axis n).chan.v (s.reg (axPage n) 0x41).toNat = false →
      (fullStep (s.dirInv n) (s.axis n).ofs (s.position n) (cruisePos s n) = false ∨ ((s.axis n).stall.busyA = true ∧ (s.axis n).stall.smpA = false) ∨ ((s.axis n).stall.busyB = true ∧ (s.axis n).stall.smpB = false)) →
      Runs (.rampTick b) s (fun t => t.reg (axPage n) 0x43 = s.reg (axPage n) 0x43 ∧ t.reg (axPage n) 0x44 = s.reg (axPage n) 0x44 ∧ t.reg (axPage n) 0x45 = s.reg (axPage n) 0x45 ∧
        (t.axis n).stall.cnt = (s.axis n).stall.cnt ∧ t.reg (axPage n) 0x47 = s.reg (axPage n) 0x47 ∧ (t.axis n).mode = .velocity)) ∧
  (∀ (s : State) (b : Bool) (n : Ax),
      tickCalm s n →
      s.reg (axPage n) 0x3C = 0#16 →
      (((s.axis n).mode = .hold ∧ (s.axis n).chan.v = 0 ∧ s.reg (axPage n) 0x41 ≠ 0#16) ∨ (s.axis n).mode = .parked ∨ (s.axis n).mode = .characterise ∨ (cruises s n ∧ slowerThan (s.axis n).chan.v (s.reg (axPage n) 0x41).toNat = true)) →
      Runs (.rampTick b) s (fun t => t.reg (axPage n) 0x43 = s.reg (axPage n) 0x43 ∧ (t.axis n).stall.cnt = 0 ∧ t.reg (axPage n) 0x47 = s.reg (axPage n) 0x47))

/-- With LEDG ready, for a present axis: BASE and LEN are taken outside LEDGER mode where BASE is a multiple of 32, LEN is 2 to 4096 and the queue lies in the SRAM, and HEAD and TAIL then return to 0 with nothing loaded. TAIL is taken below LEN where it withdraws no loaded record. HEAD is taken in STOPPED or FAULT below LEN, and the loaded records are discarded. CLR_FAULT and SKIP take a FAULT to STOPPED, SKIP with HEAD past the record. FLUSH, outside LEDGER mode, leaves TAIL at HEAD with nothing loaded. With LOW_WATER 0 none of these changes another register than those it writes, nor another axis's ledger; with LOW_WATER between 0 and FILL, a FLUSH of a queue of at least two places sets the LOW_WATER flag and ATTN (at once and not on the next tick: the model's choice, log entry 105). Each that is not taken sets its flag and ATTN and changes nothing else. So that exec answers a next state for: queueCfgWrite, tailWrite, headWrite, clrFault, skip, flush. -/
def Obligations.LedgerQueueWritesAreJudged : Prop :=
  (∀ (s : State) (n : Ax) (v : Wide),
      PortReady s ledgPage →
      s.hasAxis n = true →
      s.reg ledgPage (lOff n 8) = 0#16 →
      (s.axis n).mode ≠ .ledger →
      v.toNat % 32 = 0 →
      2 ≤ s.ledgLen n ∧ s.ledgLen n ≤ 4096 →
      v.toNat + 32 * s.ledgLen n ≤ 0x80000 →
      Runs (.queueCfgWrite n .base v) s (fun t => t.ledgBase n = v.toNat ∧ SameRegsBut [(ledgPage, lOff n 0), (ledgPage, lOff n 1), (ledgPage, lOff n 2)] s t ∧
        t.ledgLen n = s.ledgLen n ∧ t.ledger n = { s.ledger n with head := 0, tail := 0, loaded := [], run := none, paused := none } ∧ ∀ m : Ax, m ≠ n → t.ledger m = s.ledger m)) ∧
  (∀ (s : State) (n : Ax) (v : Wide),
      PortReady s ledgPage →
      s.hasAxis n = true →
      ((s.axis n).mode = .ledger ∨ v.toNat % 32 ≠ 0 ∨ 0x80000 < v.toNat + 32 * s.ledgLen n) →
      Runs (.queueCfgWrite n .base v) s (fun t => OnlyRegs s { t with lows := s.lows } ∧ HasEvent t ledgPage n.val ∧
        t.reg ledgPage (lOff n 0xB) = s.reg ledgPage (lOff n 0xB) ||| bitWord 10 ∧ SameRegsBut [(ledgPage, 0x03), (ledgPage, lOff n 0xB)] s t)) ∧
  (∀ (s : State) (n : Ax) (v : Wide),
      PortReady s ledgPage →
      s.hasAxis n = true →
      s.reg ledgPage (lOff n 8) = 0#16 →
      (s.axis n).mode ≠ .ledger →
      s.ledgBase n % 32 = 0 →
      2 ≤ fld v.lo 0 13 ∧ fld v.lo 0 13 ≤ 4096 →
      s.ledgBase n + 32 * fld v.lo 0 13 ≤ 0x80000 →
      Runs (.queueCfgWrite n .len v) s (fun t => t.ledgLen n = fld v.lo 0 13 ∧ t.ledgBase n = s.ledgBase n ∧ SameRegsBut [(ledgPage, lOff n 0), (ledgPage, lOff n 1), (ledgPage, lOff n 2)] s t ∧
        t.ledger n = { s.ledger n with head := 0, tail := 0, loaded := [], run := none, paused := none } ∧ ∀ m : Ax, m ≠ n → t.ledger m = s.ledger m)) ∧
  (∀ (s : State) (n : Ax) (v : Wide),
      PortReady s ledgPage →
      s.hasAxis n = true →
      ((s.axis n).mode = .ledger ∨ fld v.lo 0 13 < 2 ∨ 4096 < fld v.lo 0 13 ∨ 0x80000 < s.ledgBase n + 32 * fld v.lo 0 13) →
      Runs (.queueCfgWrite n .len v) s (fun t => OnlyRegs s { t with lows := s.lows } ∧ HasEvent t ledgPage n.val ∧
        t.reg ledgPage (lOff n 0xB) = s.reg ledgPage (lOff n 0xB) ||| bitWord 10 ∧ SameRegsBut [(ledgPage, 0x03), (ledgPage, lOff n 0xB)] s t)) ∧
  (∀ (s : State) (n : Ax) (v : Word),
      PortReady s ledgPage →
      s.hasAxis n = true →
      fld v 0 12 < s.ledgLen n →
      (s.ledger n).loaded.length ≤ (fld v 0 12 + s.ledgLen n - (s.ledger n).head) % s.ledgLen n →
      s.reg ledgPage (lOff n 8) = 0#16 →
      Runs (.tailWrite n v) s (fun t => OnlyRegs s { t with ledgers := s.ledgers } ∧ SameRegsBut [] s t ∧ (t.ledger n).tail = fld v 0 12 ∧
        (t.ledger n).head = (s.ledger n).head ∧ (t.ledger n).loaded = (s.ledger n).loaded ∧ (t.ledger n).run = (s.ledger n).run ∧ ∀ m : Ax, m ≠ n → t.ledger m = s.ledger m)) ∧
  (∀ (s : State) (n : Ax) (v : Word),
      PortReady s ledgPage →
      s.hasAxis n = true →
      (s.ledgLen n ≤ fld v 0 12 ∨ (fld v 0 12 + s.ledgLen n - (s.ledger n).head) % s.ledgLen n < (s.ledger n).loaded.length) →
      Runs (.tailWrite n v) s (fun t => OnlyRegs s { t with lows := s.lows } ∧ HasEvent t ledgPage n.val ∧
        t.reg ledgPage (lOff n 0xB) = s.reg ledgPage (lOff n 0xB) ||| bitWord 9 ∧ SameRegsBut [(ledgPage, 0x03), (ledgPage, lOff n 0xB)] s t)) ∧
  (∀ (s : State) (n : Ax) (v : Word),
      PortReady s ledgPage →
      s.hasAxis n = true →
      s.reg ledgPage (lOff n 8) = 0#16 →
      ((s.ledger n).st = .stopped ∨ (s.ledger n).st = .fault) →
      fld v 0 12 < s.ledgLen n →
      Runs (.headWrite n v) s (fun t => t = { s.modLedger n (fun l => { l with head := fld v 0 12, loaded := [], paused := none, arrived := false, released := false }) with unlock := t.unlock })) ∧
  (∀ (s : State) (n : Ax) (v : Word),
      PortReady s ledgPage →
      s.hasAxis n = true →
      (((s.ledger n).st ≠ .stopped ∧ (s.ledger n).st ≠ .fault) ∨ s.ledgLen n ≤ fld v 0 12) →
      Runs (.headWrite n v) s (fun t => OnlyRegs s { t with lows := s.lows } ∧ HasEvent t ledgPage n.val ∧
        t.reg ledgPage (lOff n 0xB) = s.reg ledgPage (lOff n 0xB) ||| bitWord 10 ∧ SameRegsBut [(ledgPage, 0x03), (ledgPage, lOff n 0xB)] s t)) ∧
  (∀ (s : State) (n : Ax),
      PortReady s ledgPage →
      s.hasAxis n = true →
      s.reg ledgPage (lOff n 8) = 0#16 →
      (s.ledger n).st = .fault →
      Runs (.clrFault n) s (fun t => t = { s.modLedger n (fun l => { l with st := .stopped, loaded := [], paused := none }) with unlock := t.unlock })) ∧
  (∀ (s : State) (n : Ax),
      PortReady s ledgPage →
      s.hasAxis n = true →
      (s.ledger n).st ≠ .fault →
      Runs (.clrFault n) s (fun t => OnlyRegs s { t with lows := s.lows } ∧ HasEvent t ledgPage n.val ∧
        t.reg ledgPage (lOff n 0xB) = s.reg ledgPage (lOff n 0xB) ||| bitWord 10 ∧ SameRegsBut [(ledgPage, 0x03), (ledgPage, lOff n 0xB)] s t) ∧ Runs (.skip n) s (fun t => OnlyRegs s { t with lows := s.lows } ∧ HasEvent t ledgPage n.val ∧
        t.reg ledgPage (lOff n 0xB) = s.reg ledgPage (lOff n 0xB) ||| bitWord 10 ∧ SameRegsBut [(ledgPage, 0x03), (ledgPage, lOff n 0xB)] s t)) ∧
  (∀ (s : State) (n : Ax),
      PortReady s ledgPage →
      s.hasAxis n = true →
      s.reg ledgPage (lOff n 8) = 0#16 →
      (s.ledger n).st = .fault →
      Runs (.skip n) s (fun t => t = { s.modLedger n (fun l => { l with st := .stopped, loaded := [], paused := none, head := (l.head + 1) % s.ledgLen n }) with unlock := t.unlock })) ∧
  (∀ (s : State) (n : Ax),
      PortReady s ledgPage →
      s.hasAxis n = true →
      (s.axis n).mode ≠ .ledger →
      2 ≤ s.ledgLen n →
      s.reg ledgPage (lOff n 8) ≠ 0#16 →
      (s.reg ledgPage (lOff n 8)).toNat < s.fill n →
      Runs (.flush n) s (fun t => HasEvent t ledgPage n.val ∧ (t.reg ledgPage (lOff n 0xB)).getLsbD 0 = true)) ∧
  (∀ (s : State) (n : Ax),
      PortReady s ledgPage →
      s.hasAxis n = true →
      s.reg ledgPage (lOff n 8) = 0#16 →
      (s.axis n).mode ≠ .ledger →
      Runs (.flush n) s (fun t => t = { s.modLedger n (fun l => { l with tail := l.head, loaded := [], paused := none }) with unlock := t.unlock })) ∧
  (∀ (s : State) (n : Ax),
      PortReady s ledgPage →
      s.hasAxis n = true →
      (s.axis n).mode = .ledger →
      Runs (.flush n) s (fun t => OnlyRegs s { t with lows := s.lows } ∧ HasEvent t ledgPage n.val ∧
        t.reg ledgPage (lOff n 0xB) = s.reg ledgPage (lOff n 0xB) ||| bitWord 10 ∧ SameRegsBut [(ledgPage, 0x03), (ledgPage, lOff n 0xB)] s t))

/-- When the engine has room and a committed record is not yet loaded (axis present and enabled, block awake, ledger not in FAULT, SRAM initialised and error-free, window buffer empty), LEDGER_PREFETCH appends the sixteen words of the record after the loaded ones, at BASE + 32 * its index modulo LEN, and changes nothing else. A record with a cause to fault never starts: the ledger is in FAULT with that cause and its flag, HEAD and the position stay, and no record runs. When the count of a running DWELL is over, or that of a WAIT with a time-out, and the record is neither LAST nor followed by a committed one, the record completes: HEAD reaches TAIL, LAST_TAG shows its tag, the ledger is STARVED, the channel is as before, and a WAIT sets its time-out flag. A DWELL with LAST set completes so too: with v = 0 the axis is in HOLD, its ledger STOPPED, its LAST flag set; with v not 0 it begins to stop toward HOLD. Where a DWELL that may start and is not held is loaded behind the one that ends, it runs from that instant on, RUNNING, with its own count, HEAD at it. So that exec answers a next state for: ledgerPrefetch, dwellEnd, waitTimeout. -/
def Obligations.LedgerFetchesAndCompletesRecords : Prop :=
  (∀ (s : State) (n : Ax),
      s.hasAxis n = true →
      s.awake = true →
      s.regBit (axPage n) 0x01 0 = true →
      s.mem.init = false →
      (s.ledger n).st ≠ .fault →
      (s.ledger n).loaded.length < 3 →
      (s.ledger n).loaded.length < s.fill n →
      s.mem.sramErr = [] →
      s.mem.winBuf = [] →
      Runs (.ledgerPrefetch n) s (fun t =>
        let k := ((s.ledger n).head + (s.ledger n).loaded.length) % s.ledgLen n
        let r : LRec := { words := readWords sramDefault s.mem.sram (s.ledgBase n + 32 * k) 16, ue := false }
        t = s.modLedger n (fun l => { l with loaded := l.loaded ++ [r] }))) ∧
  (∀ (s : State) (n : Ax) (r : LRec),
      (s.recordFault n r (s.ledger n).paused.isSome).isSome = true →
      let t := (s.startRecord n r).2;
        (s.startRecord n r).1 = false ∧ (t.ledger n).st = .fault ∧ some (t.ledger n).cause = s.recordFault n r (s.ledger n).paused.isSome ∧
        (t.ledger n).head = (s.ledger n).head ∧ (t.ledger n).run = none ∧ t.reg ledgPage (lOff n 0xB) = s.reg ledgPage (lOff n 0xB) ||| bitWord 4 ∧
        (t.axis n).chan.p = (s.axis n).chan.p ∧ t.mem = s.mem) ∧
  (∀ (s : State) (n : Ax),
      (s.countOver n 3).isSome = true →
      (s.countOver n 3).map LRec.last = some false →
      s.fill n = 1 →
      (s.ledger n).tail = ((s.ledger n).head + 1) % s.ledgLen n →
      Runs (.dwellEnd n) s (fun t => (t.ledger n).head = (s.ledger n).tail ∧ (t.ledger n).st = .starved ∧ (t.ledger n).run = none ∧
        (t.ledger n).loaded = (s.ledger n).loaded.tail ∧ some (t.reg ledgPage (lOff n 0xA)) = (s.countOver n 3).map LRec.tag ∧
        HasEvent t ledgPage n.val ∧ (t.axis n).chan = (s.axis n).chan ∧ t.mem = s.mem)) ∧
  (∀ (s : State) (n : Ax),
      (s.countOver n 7).isSome = true →
      (s.countOver n 7).map LRec.last = some false →
      (s.countOver n 7).map LRec.target ≠ some 0#32 →
      s.fill n = 1 →
      (s.ledger n).tail = ((s.ledger n).head + 1) % s.ledgLen n →
      Runs (.waitTimeout n) s (fun t => (t.ledger n).head = (s.ledger n).tail ∧ (t.ledger n).st = .starved ∧ (t.ledger n).run = none ∧
        (t.reg ledgPage (lOff n 0xB)).getLsbD 7 = true ∧ some (t.reg ledgPage (lOff n 0xA)) = (s.countOver n 7).map LRec.tag ∧
        (t.axis n).chan = (s.axis n).chan ∧ t.mem = s.mem)) ∧
  (∀ (s : State) (n : Ax),
      (s.countOver n 3).map LRec.last = some true →
      (s.axis n).chan.v = 0 →
      Runs (.dwellEnd n) s (fun t => (t.ledger n).head = ((s.ledger n).head + 1) % s.ledgLen n ∧ (t.axis n).mode = .hold ∧ (t.ledger n).st = .stopped ∧
        (t.ledger n).run = none ∧ (t.reg ledgPage (lOff n 0xB)).getLsbD 2 = true ∧ some (t.reg ledgPage (lOff n 0xA)) = (s.countOver n 3).map LRec.tag ∧
        HasEvent t ledgPage n.val ∧ t.mem = s.mem)) ∧
  (∀ (s : State) (n : Ax),
      (s.countOver n 3).map LRec.last = some true →
      (s.axis n).chan.v ≠ 0 →
      Runs (.dwellEnd n) s (fun t => (t.ledger n).head = ((s.ledger n).head + 1) % s.ledgLen n ∧ (t.axis n).mode = .ledger ∧ (t.axis n).stopping = some .hold ∧
        (t.ledger n).run = none ∧ (t.reg ledgPage (lOff n 0xB)).getLsbD 2 = true ∧ (t.axis n).chan = (s.axis n).chan ∧ t.mem = s.mem)) ∧
  (∀ (s : State) (n : Ax),
      (s.countOver n 3).map LRec.last = some false →
      2 ≤ (s.ledger n).loaded.length →
      2 ≤ s.fill n →
      (s.axis n).correcting = false →
      s.regBit ledgPage 0x01 0 = true →
      (secondRec s n).type = 3 →
      ((secondRec s n).timed = false ∨ 0 ≤ s.lateness (secondRec s n)) →
      (secondRec s n).barrier = false →
      s.recordFault n (secondRec s n) false = none →
      Runs (.dwellEnd n) s (fun t => (t.ledger n).head = ((s.ledger n).head + 1) % s.ledgLen n ∧ (t.ledger n).st = .running ∧ (t.ledger n).loaded = (s.ledger n).loaded.tail ∧
        (t.ledger n).run = some { left := max 1 (secondRec s n).target.toNat } ∧ some (t.reg ledgPage (lOff n 0xA)) = (s.countOver n 3).map LRec.tag ∧ (t.axis n).mode = .ledger ∧
        (t.axis n).chan = (s.axis n).chan ∧ t.mem = s.mem))

/-- For a present axis that is not PARKED and not in a self-test: an upper crossing at least 0.5 us into an on phase, and outside BLANK, begins an off phase then; an earlier one outside BLANK is remembered, and the on phase ends when its minimum time is over; a lower crossing in hysteretic mode, outside BLANK, ends an off phase that may end and begins a cycle, in which a waiting set is in force. One within BLANK of the phase's latest switching edge, whatever made it, only brings machine time and the die's to its instant. A phase with no crossing remembered does not end by its minimum time. A cycle of hysteretic mode that reaches 1/F_MIN switches its phase and sets CHOP_SLOW and its event. In fixed-frequency mode an on phase begins with the period, and one that is on ends before the period does. In none of these does another bridge change, and the two ends of an on phase change no register but the interlock's count and event. PARKED, a crossing only brings machine time and the die's to its instant. With the page ready: APPLY_CHOP of a valid staged set leaves it waiting in both phases and changes no register and no other bridge; of a set out of range it only sets CFG_REJECTED. READBACK takes 0, or a DAC while no other page has one; a DAC chosen while another present axis has one only sets CFG_REJECTED. When SS_DELAY has passed on a present axis at rest with its timer running, neither PARKED nor in CHARACTERISE, the standstill level is the level in force; with SS_DELAY 0, or where a profile runs, nothing changes. So that exec answers a next state for: comparatorCrossing, chopMinTimeEnd, chopSlow, chopPwmPeriod, applyChop, readbackWrite, standstillDelayExpiry. -/
def Obligations.ChopperPhasesAndSettings : Prop :=
  (∀ (s : State) (n : Ax) (p : Phase) (u : Bool) (x c : Nat),
      s.hasAxis n = true →
      (s.axis n).mode = .parked →
      Runs (.comparatorCrossing n p u x c) s (fun t => t = (s.timeAt c).dieTime n x)) ∧
  (∀ (s : State) (n : Ax) (p : Phase) (x c : Nat),
      s.hasAxis n = true →
      (s.axis n).mode ≠ .parked →
      s.selfTesting n = false →
      ((s.brg n).ph p).on = true →
      500 ≤ x →
      (((s.dieTime n (((s.brg n).ph p).t0 + x)).brg n).ph p).blanked (s.chopSet n p) (((s.brg n).ph p).t0 + x) = false →
      Runs (.comparatorCrossing n p true (((s.brg n).ph p).t0 + x) c) s (fun t => ((t.brg n).ph p).on = false ∧ ((t.brg n).ph p).t0 = ((s.brg n).ph p).t0 + x ∧
        ((t.brg n).ph p).cyc0 = ((s.brg n).ph p).cyc0 ∧ ((t.brg n).ph p).set = ((s.brg n).ph p).set ∧ ∀ m : Ax, m ≠ n → t.brg m = s.brg m)) ∧
  (∀ (s : State) (n : Ax) (p : Phase) (x c : Nat),
      s.hasAxis n = true →
      (s.axis n).mode ≠ .parked →
      s.selfTesting n = false →
      ((s.brg n).ph p).on = true →
      x < 500 →
      (((s.dieTime n (((s.brg n).ph p).t0 + x)).brg n).ph p).blanked (s.chopSet n p) (((s.brg n).ph p).t0 + x) = false →
      Runs (.comparatorCrossing n p true (((s.brg n).ph p).t0 + x) c) s (fun t => ((t.brg n).ph p).on = true ∧ ((t.brg n).ph p).t0 = ((s.brg n).ph p).t0 ∧
        ((t.brg n).ph p).passed = true ∧ ∀ m : Ax, m ≠ n → t.brg m = s.brg m)) ∧
  (∀ (s : State) (n : Ax) (p : Phase) (x c : Nat),
      s.hasAxis n = true →
      (s.axis n).mode ≠ .parked →
      s.selfTesting n = false →
      ((s.brg n).ph p).on = false →
      (s.chopSet n p).mode = 0 →
      (((s.dieTime n (((s.brg n).ph p).t0 + x)).brg n).ph p).blanked (s.chopSet n p) (((s.brg n).ph p).t0 + x) = false →
      ((s.brg n).ph p).offMayEnd (s.chopSet n p) (((s.brg n).ph p).t0 + x) = true →
      Runs (.comparatorCrossing n p false (((s.brg n).ph p).t0 + x) c) s (fun t => ((t.brg n).ph p).on = true ∧ ((t.brg n).ph p).t0 = ((s.brg n).ph p).t0 + x ∧
        ((t.brg n).ph p).cyc0 = ((s.brg n).ph p).t0 + x ∧ ((t.brg n).ph p).pend = none ∧ ∀ m : Ax, m ≠ n → t.brg m = s.brg m)) ∧
  (∀ (s : State) (n : Ax) (p : Phase) (x : Nat),
      s.hasAxis n = true →
      (s.axis n).mode ≠ .parked →
      ((s.brg n).ph p).on = true →
      ((s.brg n).ph p).passed = true →
      500 ≤ x →
      Runs (.chopMinTimeEnd n p (((s.brg n).ph p).t0 + x)) s (fun t => ((t.brg n).ph p).on = false ∧ ((t.brg n).ph p).t0 = ((s.brg n).ph p).t0 + x ∧
        SameRegsBut [(brPage n, 0x03), (brPage n, 0x54)] s t ∧ ∀ m : Ax, m ≠ n → t.brg m = s.brg m)) ∧
  (∀ (s : State) (n : Ax) (p : Phase) (u : Bool) (x c : Nat),
      s.hasAxis n = true →
      (s.axis n).mode ≠ .parked →
      s.selfTesting n = false →
      (((s.dieTime n (((s.brg n).ph p).t0 + x)).brg n).ph p).blanked (s.chopSet n p) (((s.brg n).ph p).t0 + x) = true →
      Runs (.comparatorCrossing n p u (((s.brg n).ph p).t0 + x) c) s (fun t => t = (s.timeAt c).dieTime n (((s.brg n).ph p).t0 + x))) ∧
  (∀ (s : State) (n : Ax) (p : Phase) (x : Nat),
      s.hasAxis n = true →
      ((s.brg n).ph p).passed = false →
      Runs (.chopMinTimeEnd n p x) s (fun t => t = s.dieTime n x)) ∧
  (∀ (s : State) (n : Ax) (p : Phase) (x : Nat),
      s.hasAxis n = true →
      (s.axis n).mode ≠ .parked →
      (s.chopSet n p).mode = 0 →
      Runs (.chopSlow n p x) s (fun t => ((t.brg n).ph p).on = !((s.brg n).ph p).on ∧ ((t.brg n).ph p).t0 = x ∧ (t.brg n).chopSlow = true ∧
        HasEvent t (brPage n) 0 ∧ ∀ m : Ax, m ≠ n → t.brg m = s.brg m)) ∧
  (∀ (s : State) (n : Ax) (p : Phase) (x : Nat),
      s.hasAxis n = true →
      (s.axis n).mode ≠ .parked →
      (s.chopSet n p).mode = 1 →
      Runs (.chopPwmPeriod n p false x) s (fun t => ((t.brg n).ph p).on = true ∧ ((t.brg n).ph p).t0 = x ∧ ((t.brg n).ph p).cyc0 = x ∧ ∀ m : Ax, m ≠ n → t.brg m = s.brg m)) ∧
  (∀ (s : State) (n : Ax) (p : Phase) (x : Nat),
      s.hasAxis n = true →
      (s.axis n).mode ≠ .parked →
      (s.chopSet n p).mode = 1 →
      ((s.brg n).ph p).on = true →
      Runs (.chopPwmPeriod n p true x) s (fun t => ((t.brg n).ph p).on = false ∧ ((t.brg n).ph p).t0 = x ∧ SameRegsBut [(brPage n, 0x03), (brPage n, 0x54)] s t ∧ ∀ m : Ax, m ≠ n → t.brg m = s.brg m)) ∧
  (∀ (s : State) (n : Ax),
      PortReady s (brPage n) →
      s.stagedChop n = none →
      Runs (.applyChop n) s (fun t => OnlyRegs s t ∧ HasEvent t (brPage n) 4 ∧ SameRegsBut [(brPage n, 0x03)] s t)) ∧
  (∀ (s : State) (n : Ax),
      PortReady s (brPage n) →
      (s.stagedChop n).isSome = true →
      Runs (.applyChop n) s (fun t => (t.brg n).phA = { (s.brg n).phA with pend := s.stagedChop n } ∧ (t.brg n).phB = { (s.brg n).phB with pend := s.stagedChop n } ∧
        t.regs = s.regs ∧ ∀ m : Ax, m ≠ n → t.brg m = s.brg m)) ∧
  (∀ (s : State) (n : Ax) (v : Word),
      PortReady s (brPage n) →
      (fld v 0 3 = 0 ∨ ∀ m : Ax, m ≠ n → s.reg (brPage m) 0x25 = 0#16) →
      Runs (.readbackWrite n v) s (fun t => OnlyRegs s t ∧ t.reg (brPage n) 0x25 = v &&& 0x0007#16 ∧ SameRegsBut [(brPage n, 0x25)] s t)) ∧
  (∀ (s : State) (n m : Ax) (v : Word),
      PortReady s (brPage n) →
      fld v 0 3 ≠ 0 →
      m ≠ n →
      s.hasAxis m = true →
      s.reg (brPage m) 0x25 ≠ 0#16 →
      Runs (.readbackWrite n v) s (fun t => OnlyRegs s t ∧ HasEvent t (brPage n) 4 ∧ SameRegsBut [(brPage n, 0x03)] s t)) ∧
  (∀ (s : State) (n : Ax),
      s.hasAxis n = true →
      (s.axis n).mode ≠ .parked →
      (s.axis n).mode ≠ .characterise →
      (s.axis n).running = false →
      s.reg (brPage n) 0x0B ≠ 0#16 →
      (s.brg n).rest.isSome = true →
      Runs (.standstillDelayExpiry n) s (fun t => t = s.modBrg n (fun b => { b with rest := (t.brg n).rest }) ∧
        t.currentLevel n (t.brg n).rest = ((s.reg (brPage n) 0x0A).toNat, 3))) ∧
  (∀ (s : State) (n : Ax),
      ((s.axis n).running = true ∨ s.reg (brPage n) 0x0B = 0#16) →
      Runs (.standstillDelayExpiry n) s (fun t => t = s))

/-- While a run is in progress that came from PARKED or HOLD: an R step that ends stores the mean of R over the driven phases; within 100 to 20000, with no step left and AUTO_ACCEPT off, the axis returns to its mode with RESULT 1 and CHAR_DONE, and the results are valid; an L step whose mean is outside 50 to 60000 stores it and ends the run at that step (log entry 23) with RESULT 4 and CHAR_FAIL. A self-test of all eight switches without a failure goes on to a following R or L step and changes no register. The switch under test that fails is recorded in SELFTEST, and the next comes under test. A step over its budget at rest ends the run with RESULT 4 and CHAR_FAIL. With the page ready, valid results and no run: ACCEPT with BANK 0 copies R and KE into force with ACCEPTED; SAVE begins the record of the axis, or gives RESULT 6, CHAR_FAIL and a refused command of the store (log entry 47) where the store is busy; DISCARD makes the results invalid. Without valid results, or in a run, each of the three consumes the unlock alone. With TABLE ready and not BUSY: a DATA write to a bank of 1 to 4 that is not in use stores the entry at INDEX, leaves every other entry, clears the bank's VALID and advances INDEX, which wraps after 1023; INVALIDATE clears VALID alone; COMMIT makes the page BUSY. While BUSY, or to a bank in use or bank 0, each of the three sets WRITE_REFUSED and changes no other register but the unlock; while BUSY a write of KEY does so too, and no unlock changes. A DATA read returns the entry and advances INDEX. When the COMMIT of a bank of 1 to 4 ends, VALID holds the outcome of the check, its event is set and BUSY ends. TABLE_SEL takes a valid bank, refuses an invalid one with an event, and ignores 5 to 7. So that exec answers a next state for: charStepDone, selftestSwitchTimeout, charStepTimeout, accept, save, discard, tableDataWrite, tableDataRead, tableCommit, tableInvalidate, keyWrite, tableCommitDone, tableSelWrite. -/
def Obligations.CharacterisationAndTables : Prop :=
  (∀ (s : State) (n : Ax),
      s.charRunning n = true →
      (s.axis n).char.step = 2 →
      100 ≤ (s.meanOf n (s.drivenPhases n 4) (s.phaseR n)).1 ∧ (s.meanOf n (s.drivenPhases n 4) (s.phaseR n)).1 ≤ 20000 →
      (s.axis n).char.todo = 0#5 →
      s.regBit (axPage n) 0x50 5 = false →
      ((s.axis n).char.from_ = .parked ∨ (s.axis n).char.from_ = .hold) →
      Runs (.charStepDone n .r) s (fun t => (t.reg (axPage n) 0x54).toNat = (s.meanOf n (s.drivenPhases n 4) (s.phaseR n)).1 ∧
        t.regFld (axPage n) 0x53 3 4 = 1 ∧ HasEvent t (axPage n) 12 ∧
        (t.axis n).mode = (s.axis n).char.from_ ∧ (t.axis n).char.valid = true ∧ (t.axis n).char.step = 0 ∧ ∀ m : Ax, m ≠ n → t.axis m = s.axis m)) ∧
  (∀ (s : State) (n : Ax),
      s.charRunning n = true →
      (s.axis n).char.step = 3 →
      ((s.meanOf n (s.drivenPhases n 1) (s.phaseL n)).1 < 50 ∨ 60000 < (s.meanOf n (s.drivenPhases n 1) (s.phaseL n)).1) →
      ((s.axis n).char.from_ = .parked ∨ (s.axis n).char.from_ = .hold) →
      Runs (.charStepDone n .l) s (fun t => t.reg (axPage n) 0x55 = satWord (s.meanOf n (s.drivenPhases n 1) (s.phaseL n)).1 ∧
        t.regFld (axPage n) 0x53 3 4 = 4 ∧ HasEvent t (axPage n) 13 ∧
        (t.axis n).mode = (s.axis n).char.from_ ∧ (t.axis n).char.valid = false)) ∧
  (∀ (s : State) (n : Ax),
      s.charRunning n = true →
      (s.axis n).char.step = 1 →
      (s.axis n).char.selfSw = 8 →
      s.reg (axPage n) 0x59 = 0#16 →
      (nextStep (s.axis n).char.todo = 2 ∨ nextStep (s.axis n).char.todo = 3) →
      Runs (.charStepDone n .selftest) s (fun t => (t.axis n).char.step = nextStep (s.axis n).char.todo ∧ (t.axis n).mode = .characterise ∧ t.regs = s.regs)) ∧
  (∀ (s : State) (n : Ax) (k : Fin 8),
      s.charRunning n = true →
      (s.axis n).char.step = 1 →
      (s.axis n).char.selfSw = k.val →
      Runs (.selftestSwitchTimeout n k) s (fun t => t.reg (axPage n) 0x59 = s.reg (axPage n) 0x59 ||| bitWord k.val ∧
        SameRegsBut [(axPage n, 0x59)] s t ∧ (t.axis n).char.selfSw = k.val + 1 ∧ ∀ m : Ax, m ≠ n → t.axis m = s.axis m)) ∧
  (∀ (s : State) (n : Ax),
      s.charRunning n = true →
      (s.axis n).chan.v = 0 →
      ((s.axis n).char.from_ = .parked ∨ (s.axis n).char.from_ = .hold) →
      Runs (.charStepTimeout n) s (fun t => t.regFld (axPage n) 0x53 3 4 = 4 ∧ HasEvent t (axPage n) 13 ∧ (t.axis n).mode = (s.axis n).char.from_ ∧
        (t.axis n).char.valid = false ∧ (t.axis n).char.step = 0)) ∧
  (∀ (s : State) (n : Ax),
      PortReady s (axPage n) →
      s.resUsable n = true →
      s.regFld (axPage n) 0x50 8 3 = 0 →
      Runs (.accept n) s (fun t => OnlyRegs s t ∧ t.reg (brPage n) 0x18 = s.reg (axPage n) 0x54 ∧ t.reg (axPage n) 0x48 = s.reg (axPage n) 0x56 ∧
        HasEvent t (axPage n) 14 ∧ SameRegsBut [(brPage n, 0x18), (axPage n, 0x48), (axPage n, 0x03)] s t)) ∧
  (∀ (s : State) (n : Ax),
      PortReady s (axPage n) →
      s.resUsable n = true →
      s.nvsIdle = true →
      s.sup.vddLow = false →
      s.nvs.mramErr = [] →
      Runs (.save n) s (fun t => (t.axis n).char = { (s.axis n).char with saving := true } ∧ t.nvs.mram = s.nvs.mram ∧ t.reg nvsPage 0x0D = 0#16 ∧ SameRegsBut [(nvsPage, 0x0D)] s t ∧
        let cur := s.currentRec 2 n.val
        t.nvs.job = .write cur.2.1 [] 0 16 (recordWords 2 n.val (nextSeq cur.1) 0#16 s.mtUs (s.axisPayload n)) (some n))) ∧
  (∀ (s : State) (n : Ax),
      PortReady s (axPage n) →
      s.resUsable n = true →
      s.nvsIdle = false →
      Runs (.save n) s (fun t => OnlyRegs s t ∧ t.regFld (axPage n) 0x53 3 4 = 6 ∧ HasEvent t (axPage n) 13 ∧ t.reg nvsPage 0x0D = 1#16 ∧ HasEvent t nvsPage 1)) ∧
  (∀ (s : State) (n : Ax),
      PortReady s (axPage n) →
      s.resUsable n = true →
      Runs (.discard n) s (fun t => t = { s.modAxis n (fun a => { a with char := { a.char with valid := false } }) with unlock := t.unlock })) ∧
  (∀ (s : State) (n : Ax),
      PortReady s (axPage n) →
      s.resUsable n = false →
      Runs (.accept n) s (fun t => t = { s with unlock := t.unlock }) ∧ Runs (.save n) s (fun t => t = { s with unlock := t.unlock }) ∧
        Runs (.discard n) s (fun t => t = { s with unlock := t.unlock })) ∧
  (∀ (s : State) (v : Word),
      PortReady s tablePage →
      s.table.busy = false →
      s.bankLocked s.tblBank = false →
      s.tblBank < 5 →
      Runs (.tableDataWrite v) s (fun t => t = { s with regs := t.regs, unlock := t.unlock, table := { s.table with bank := t.table.bank, valid := t.table.valid } } ∧
        t.tableEntry s.tblBank s.tblIndex = v.toNat ∧ SameTableBut (1024 * s.tblBank + s.tblIndex) s t ∧
        t.tblIndex = (s.tblIndex + 1) % 1024 ∧ SameRegsBut [(tablePage, 0x09)] s t ∧
        ∀ k : Fin 5, t.bankValid k = (if k.val = s.tblBank then false else s.bankValid k))) ∧
  (∀ (s : State) (v : Word),
      PortReady s tablePage →
      (s.table.busy = true ∨ s.bankLocked s.tblBank = true) →
      Runs (.tableDataWrite v) s (fun t => OnlyRegs s t ∧ HasEvent t tablePage 2 ∧ SameRegsBut [(tablePage, 0x03)] s t)) ∧
  (∀ (s : State),
      PortReady s tablePage →
      Runs .tableDataRead s (fun t => t = { s with regs := t.regs, rdata := BitVec.ofNat 16 (s.tableEntry s.tblBank s.tblIndex) } ∧
        t.tblIndex = (s.tblIndex + 1) % 1024 ∧ SameRegsBut [(tablePage, 0x09)] s t)) ∧
  (∀ (s : State),
      PortReady s tablePage →
      s.table.busy = false →
      s.bankLocked s.tblBank = false →
      Runs .tableCommit s (fun t => t = { s with unlock := t.unlock, table := { s.table with busy := true } })) ∧
  (∀ (s : State),
      PortReady s tablePage →
      (s.table.busy = true ∨ s.bankLocked s.tblBank = true) →
      Runs .tableCommit s (fun t => OnlyRegs s t ∧ HasEvent t tablePage 2 ∧ SameRegsBut [(tablePage, 0x03)] s t)) ∧
  (∀ (s : State),
      PortReady s tablePage →
      (s.table.busy = true ∨ s.bankLocked s.tblBank = true) →
      Runs .tableInvalidate s (fun t => OnlyRegs s t ∧ HasEvent t tablePage 2 ∧ SameRegsBut [(tablePage, 0x03)] s t)) ∧
  (∀ (s : State) (v : Word),
      PortReady s tablePage →
      s.table.busy = true →
      Runs (.keyWrite 0x35#6 v) s (fun t => t = { s with regs := t.regs } ∧ HasEvent t tablePage 2 ∧ SameRegsBut [(tablePage, 0x03)] s t)) ∧
  (∀ (s : State),
      s.table.busy = true →
      1 ≤ s.tblBank →
      s.tblBank < 5 →
      Runs .tableCommitDone s (fun t => t = { s with regs := t.regs, table := { s.table with busy := false, valid := t.table.valid } } ∧
        t.bankValid s.tblBank = Fixed.bankOk (s.bankEntries s.tblBank) ∧ HasEvent t tablePage (if t.bankValid s.tblBank then 0 else 1) ∧
        SameRegsBut [(tablePage, 0x03)] s t ∧ ∀ k : Fin 5, k.val ≠ s.tblBank → t.bankValid k = s.bankValid k)) ∧
  (∀ (s : State),
      PortReady s tablePage →
      s.table.busy = false →
      s.bankLocked s.tblBank = false →
      s.tblBank < 5 →
      Runs .tableInvalidate s (fun t => t = { s with unlock := t.unlock, table := { s.table with valid := t.table.valid } } ∧
        ∀ k : Fin 5, t.bankValid k = (if k.val = s.tblBank then false else s.bankValid k))) ∧
  (∀ (s : State) (n : Ax) (v : Word),
      PortReady s (brPage n) →
      s.bankValid (fld v 0 3) = true →
      fld v 0 3 < 5 →
      Runs (.tableSelWrite n v) s (fun t => OnlyRegs s t ∧ t.tableSel n = fld v 0 3 ∧ SameRegsBut [(brPage n, 0x0E)] s t)) ∧
  (∀ (s : State) (n : Ax) (v : Word),
      PortReady s (brPage n) →
      s.bankValid (fld v 0 3) = false →
      fld v 0 3 < 5 →
      Runs (.tableSelWrite n v) s (fun t => OnlyRegs s t ∧ HasEvent t (brPage n) 1 ∧ SameRegsBut [(brPage n, 0x03)] s t)) ∧
  (∀ (s : State) (n : Ax) (v : Word),
      PortReady s (brPage n) →
      5 ≤ fld v 0 3 →
      Runs (.tableSelWrite n v) s (fun t => OnlyRegs s t ∧ SameRegsBut [] s t))

/-- Where the count of a DWELL that is not LAST is over and a committed record is loaded behind it: a TIMED one whose START is to come, and a participant's with BARRIER, does not start: the ledger is WAITING with HEAD on it, the participant has arrived; one that may not start gives LEDGER_FAULT with its cause, and the axis is in HOLD or stops toward it. One that may start does on that tick, with HEAD on it: with LATE where its START is past, its RUN_CURRENT in force where not 0. A MOVE that is not at its target in rest runs to TARGET, or POSITION + TARGET, clamped to the soft limits, under its own limits; a SEEK to its bound likewise; a VEL that is not at its velocity slews to it; each of the three ends STALLED; CURRENT writes HOLD_CURRENT where not 0; MARK sets its flag; WAIT runs with its time. A MOVE or DWELL that a pause left at HEAD resumes on the tick, to the target, or for the ticks, that it had, with RESUMED and without LATE. So that exec answers a next state for: dwellEnd, rampTick. -/
def Obligations.RecordsStartAsTheirTypesSay : Prop :=
  (∀ (s : State) (n : Ax),
      dwellLeadsOn s n →
      (secondRec s n).timed = true →
      s.lateness (secondRec s n) < 0 →
      Runs (.dwellEnd n) s (fun t => (t.ledger n).head = ((s.ledger n).head + 1) % s.ledgLen n ∧ (t.axis n).chan = (s.axis n).chan ∧ (t.ledger n).st = .waiting ∧ (t.ledger n).run = none ∧ (t.axis n).goal = (s.axis n).goal ∧ (t.axis n).mode = .ledger)) ∧
  (∀ (s : State) (n : Ax),
      dwellLeadsOn s n →
      (secondRec s n).barrier = true →
      s.participates n (secondRec s n).barrierId = true →
      Runs (.dwellEnd n) s (fun t => (t.ledger n).head = ((s.ledger n).head + 1) % s.ledgLen n ∧ (t.axis n).chan = (s.axis n).chan ∧ (t.ledger n).st = .waiting ∧ (t.ledger n).run = none ∧ (t.axis n).goal = (s.axis n).goal ∧ (t.ledger n).arrived = true)) ∧
  (∀ (s : State) (n : Ax),
      dwellLeadsOn s n →
      ((secondRec s n).timed = false ∨ 0 ≤ s.lateness (secondRec s n)) →
      ((secondRec s n).barrier = false ∨ s.participates n (secondRec s n).barrierId = false) →
      (s.recordFault n (secondRec s n) false).isSome = true →
      Runs (.dwellEnd n) s (fun t => (t.ledger n).head = ((s.ledger n).head + 1) % s.ledgLen n ∧ (t.ledger n).st = .fault ∧ some (t.ledger n).cause = s.recordFault n (secondRec s n) false ∧
        (t.ledger n).run = none ∧ ledgFlagSet t n 4 ∧ (if (s.axis n).chan.v = 0 then (t.axis n).mode = .hold else (t.axis n).stopping = some .hold))) ∧
  (∀ (s : State) (n : Ax),
      dwellLeadsOn s n →
      mayStart s n (secondRec s n) →
      (s.ledger n).loaded.length = 2 →
      Runs (.dwellEnd n) s (fun t => ((secondRec s n).timed = true ∧ 0 < s.lateness (secondRec s n) → ledgFlagSet t n 3) ∧
        ((secondRec s n).runCurrent ≠ 0 → (t.reg (brPage n) 0x08).toNat = (secondRec s n).runCurrent))) ∧
  (∀ (s : State) (n : Ax),
      dwellLeadsOn s n →
      mayStart s n (secondRec s n) →
      (secondRec s n).type = 1 →
      ((s.axis n).chan.v ≠ 0 ∨ s.position n ≠ (s.clampTarget n (s.recTarget n (secondRec s n))).1) →
      Runs (.dwellEnd n) s (fun t => (t.ledger n).head = ((s.ledger n).head + 1) % s.ledgLen n ∧ (t.axis n).chan = (s.axis n).chan ∧ (t.ledger n).st = .running ∧ (t.axis n).goal = .pos (s.clampTarget n (s.recTarget n (secondRec s n))).1 ∧
        (t.axis n).target = (s.clampTarget n (s.recTarget n (secondRec s n))).1 ∧ (t.axis n).lim = (secondRec s n).limits ∧
        ((s.clampTarget n (s.recTarget n (secondRec s n))).2 = true → HasEvent t (axPage n) 3) ∧ (t.axis n).stall.stalled = false)) ∧
  (∀ (s : State) (n : Ax),
      dwellLeadsOn s n →
      mayStart s n (secondRec s n) →
      (secondRec s n).type = 4 →
      Runs (.dwellEnd n) s (fun t => (t.ledger n).head = ((s.ledger n).head + 1) % s.ledgLen n ∧ (t.axis n).chan = (s.axis n).chan ∧ (t.ledger n).st = .running ∧ (t.axis n).goal = .pos (s.clampTarget n (s.recTarget n (secondRec s n))).1 ∧
        (t.axis n).lim = (secondRec s n).limits ∧ (t.ledger n).run = some {} ∧ (t.axis n).stall.stalled = false)) ∧
  (∀ (s : State) (n : Ax),
      dwellLeadsOn s n →
      mayStart s n (secondRec s n) →
      (secondRec s n).type = 2 →
      s.reduced = false →
      (s.axis n).chan.v ≠ Ramp.velUnits (secondRec s n).velocity →
      Runs (.dwellEnd n) s (fun t => (t.ledger n).head = ((s.ledger n).head + 1) % s.ledgLen n ∧ (t.axis n).chan = (s.axis n).chan ∧ (t.ledger n).st = .running ∧ (t.axis n).goal = .vel (secondRec s n).velocity ∧
        (t.axis n).lim.amax = (secondRec s n).amax ∧ (t.axis n).lim.dmax = (secondRec s n).dmax ∧ (t.axis n).lim.jmax = (secondRec s n).jmax ∧ (t.ledger n).run = some {} ∧ (t.axis n).stall.stalled = false)) ∧
  (∀ (s : State) (n : Ax),
      dwellLeadsOn s n →
      mayStart s n (secondRec s n) →
      ((secondRec s n).type = 5 ∨ (secondRec s n).type = 6) →
      Runs (.dwellEnd n) s (fun t => (t.ledger n).head = ((s.ledger n).head + 1) % s.ledgLen n ∧ (t.axis n).chan = (s.axis n).chan ∧ (t.ledger n).st = .running ∧ (t.ledger n).run = some {} ∧ (t.axis n).goal = (s.axis n).goal ∧
        ((secondRec s n).type = 5 ∧ fld (secondRec s n).param 0 10 ≠ 0 → (t.reg (brPage n) 0x09).toNat = fld (secondRec s n).param 0 10) ∧ ((secondRec s n).type = 6 → ledgFlagSet t n 11))) ∧
  (∀ (s : State) (n : Ax),
      dwellLeadsOn s n →
      mayStart s n (secondRec s n) →
      (secondRec s n).type = 7 →
      Runs (.dwellEnd n) s (fun t => (t.ledger n).head = ((s.ledger n).head + 1) % s.ledgLen n ∧ (t.axis n).chan = (s.axis n).chan ∧ (t.ledger n).st = .running ∧ (t.ledger n).run = some { left := (secondRec s n).target.toNat } ∧ (t.axis n).goal = (s.axis n).goal)) ∧
  (∀ (s : State) (b : Bool) (n : Ax) (p : LRun),
      tickQuiet s n →
      (s.axis n).mode = .ledger →
      (s.axis n).correcting = false →
      (s.ledger n).st ≠ .fault →
      (s.ledger n).loaded ≠ [] →
      s.fill n ≠ 0 →
      s.regBit ledgPage 0x01 0 = true →
      ((headRec s n).type = 1 ∨ (headRec s n).type = 3) →
      s.recordFault n (headRec s n) true = none →
      ((s.axis n).chan.v ≠ 0 ∨ (headRec s n).type = 3) →
      Runs (.rampTick b) (s.modLedger n (fun l => { l with run := none, paused := some p })) (fun t => ledgFlagSet t n 12 ∧
        ((headRec s n).type = 3 → (t.ledger n).run = some { left := p.left } ∧ (t.ledger n).st = .running) ∧
        ((headRec s n).type = 1 → (t.axis n).target = (s.clampTarget n p.target).1)))

/-- For a running record, the last one loaded, of an axis whose tick nothing else touches: a MOVE whose channel reaches the target completes with TARGET_REACHED at it; a VEL that reaches its velocity completes, and with LAST at v not 0 first brakes under its DMAX and JMAX; a SEEK whose condition has come latches POSITION with SEEK_HIT and completes at v = 0, or brakes under its limits first; at its bound without it, it completes with SEEK_MISS, or with MISS_FAULT gives cause 6; a VEL or SEEK that brakes completes at the end of the braking; a CURRENT, a MARK and a WAIT whose pulse has come complete. What completes moves HEAD on with its tag in LAST_TAG, copies it for ACTION 3 with TAGGED, with LAST sets LAST_DONE and is in HOLD at v = 0, and leaves an empty queue STARVED (but with LAST: the model's choice, log entry 123). When every participant of a barrier has arrived at it, the tick releases them all with BARRIER_RELEASED, and a DWELL that its START does not hold runs from that tick on. So that exec answers a next state for: rampTick. -/
def Obligations.RecordsCompleteAsTheirTypesSay : Prop :=
  (∀ (s : State) (b : Bool) (n : Ax) (g : Int),
      runsQuiet s n →
      (headRec s n).type = 1 →
      (Ramp.moveTick (s.axis n).chan g (s.runLimits (s.axis n).lim) (s.axis n).reversing).2 = .reached →
      Runs (.rampTick b) (s.modAxis n (fun a => { a with goal := .pos g })) (fun t => completed s t n (headRec s n) ∧ HasEvent t (axPage n) 2 ∧ (t.axis n).chan.v = 0 ∧
        t.position n = Ramp.position (Ramp.moveTick (s.axis n).chan g (s.runLimits (s.axis n).lim) (s.axis n).reversing).1)) ∧
  (∀ (s : State) (b : Bool) (n : Ax) (v : Int),
      runsQuiet s n →
      (headRec s n).type = 2 →
      (s.ledger n).run.map LRun.hit = some false →
      s.reduced = false →
      (Ramp.slewTick (s.axis n).chan (Ramp.velUnits v) (s.axis n).lim.amax (s.axis n).lim.dmax (s.axis n).lim.jmax).2 = true →
      Runs (.rampTick b) (s.modAxis n (fun a => { a with goal := .vel v })) (fun t =>
        if (headRec s n).last = true ∧ (t.axis n).chan.v ≠ 0 then (t.axis n).goal = .stop ∧ (t.axis n).lim = (headRec s n).limits ∧ (t.ledger n).head = (s.ledger n).head ∧ (t.ledger n).run.map LRun.hit = some true
        else completed s t n (headRec s n) ∧ ((headRec s n).last = false → (t.axis n).chan = (Ramp.slewTick (s.axis n).chan (Ramp.velUnits v) (s.axis n).lim.amax (s.axis n).lim.dmax (s.axis n).lim.jmax).1.wrapped))) ∧
  (∀ (s : State) (b : Bool) (n : Ax),
      runsQuiet s n →
      (headRec s n).type = 4 →
      (s.ledger n).run.map LRun.hit = some false →
      (s.ledger n).run.map LRun.seen = some true →
      Runs (.rampTick b) s (fun t => ledgFlagSet t n 5 ∧ (t.wide ledgPage (lOff n 0xC)).toInt = t.position n ∧
        (if (t.axis n).chan.v = 0 then completed s t n (headRec s n) ∧ (t.axis n).goal = .none
         else (t.axis n).goal = .stop ∧ (t.axis n).lim = (headRec s n).limits ∧ (t.ledger n).head = (s.ledger n).head ∧ (t.ledger n).run.map LRun.hit = some true))) ∧
  (∀ (s : State) (b : Bool) (n : Ax) (g : Int),
      runsQuiet s n →
      (headRec s n).type = 4 →
      (s.ledger n).run.map LRun.hit = some false →
      (s.ledger n).run.map LRun.seen = some false →
      (Ramp.moveTick (s.axis n).chan g (s.runLimits (s.axis n).lim) (s.axis n).reversing).2 = .reached →
      Runs (.rampTick b) (s.modAxis n (fun a => { a with goal := .pos g })) (fun t => ledgFlagSet t n 6 ∧
        (if (headRec s n).param.getLsbD 9 then (t.ledger n).st = .fault ∧ (t.ledger n).cause = 6 ∧ (t.ledger n).head = (s.ledger n).head ∧ (t.axis n).mode = .hold
         else completed s t n (headRec s n)))) ∧
  (∀ (s : State) (b : Bool) (n : Ax),
      runsQuiet s n →
      ((headRec s n).type = 4 ∨ (headRec s n).type = 2) →
      (s.ledger n).run.map LRun.hit = some true →
      (Ramp.stopTick (s.axis n).chan (s.axis n).lim.dmax (s.axis n).lim.jmax).2 = true →
      Runs (.rampTick b) (s.modAxis n (fun a => { a with goal := .stop })) (fun t => completed s t n (headRec s n) ∧ (t.axis n).chan.v = 0)) ∧
  (∀ (s : State) (b : Bool) (n : Ax),
      runsQuiet s n →
      (s.axis n).goal = .none →
      ((headRec s n).type = 5 ∨ (headRec s n).type = 6 ∨ ((headRec s n).type = 7 ∧ (s.ledger n).run.map LRun.seen = some true)) →
      Runs (.rampTick b) s (fun t => completed s t n (headRec s n))) ∧
  (∀ (s : State) (b : Bool) (n : Ax) (k : Fin 16),
      tickQuiet s n →
      (s.axis n).mode = .ledger →
      (s.axis n).correcting = false →
      (s.ledger n).run = none →
      (s.ledger n).paused = none →
      (s.ledger n).st ≠ .fault →
      s.fill n ≠ 0 →
      s.regBit ledgPage 0x01 0 = true →
      s.participates n k.val = true →
      (∀ m : Ax, s.participates m k.val = true → s.atBarrier m k.val = true) →
      (headRec s n).type = 3 →
      (headRec s n).action < 4 →
      ((headRec s n).ue) = false →
      Runs (.rampTick b) s (fun t => HasEvent t ledgPage 10 ∧
        ((headRec s n).timed = false → (t.ledger n).run = some { left := max 1 (headRec s n).target.toNat } ∧ (t.ledger n).st = .running ∧ (t.ledger n).head = (s.ledger n).head)))

/-- On a present axis, SC_DETECT told at any time of the die, of a switch that is on then and whose selected method fires (DIDT: method not 1, and a slope, where one is told, above SC_DIDT; VDS: method not 0, on for at least 50 ns times SC_BLANK, and a voltage, where told, above SC_VDS), sets that bit of SC_LATCH and no other, increments SC_CNT, records class, switch and machine time in LAST_FAULT, sets SWITCH_FAULT, and the switch is off. Under CONTINUE, in a mode other than CHARACTERISE, every axis and ledger, the memories and all other registers but the interlock's stay; under PARK that axis is PARKED. Where the method does not fire or the switch is off, only the die's time advances. At the gate port under CONTINUE, a VDS sense of a switch that is on does the same, and its state stays, the part of the PWM period and every dead time taken as of the latest time told (log entry 111); the shunt latches exactly the switches that are on and whose method fires. Methods, thresholds and SC_BLANK are those in force. The event of an axis or a port that the part does not have changes nothing. So that exec answers a next state for: scDetect, gateScDetect. -/
def Obligations.ShortLatchesOnlyItsSwitch : Prop :=
  (∀ (s : State) (n : Ax) (k : Fin 8) (x : Nat) (y : Option Nat),
      s.hasAxis n = true →
      (s.dieTold n x).brgSwitchOn n k = true →
      ((s.dieTold n x).scForce (.brg n) k.val ((s.dieTold n x).brg n).sw[k]).slopeFires 1000 y = true →
      s.parkPolicy n = false →
      (s.axis n).mode ≠ .characterise →
      Runs (.scDetect n k (.didt y) x) s (fun t => (t.brg n).prot.sc = (s.brg n).prot.sc ||| (1#8 <<< k.val) ∧ (t.brg n).prot.uv = (s.brg n).prot.uv ∧
        t.reg (brPage n) 0x55 = satInc (s.reg (brPage n) 0x55) ∧ t.reg (brPage n) 0x57 = place k.val 4 ∧ t.wide (brPage n) 0x58 = s.mtUs ∧
        HasEvent t (brPage n) 8 ∧ t.brgSwitchOn n k = false ∧ t.axes = s.axes ∧ t.ledgers = s.ledgers ∧ t.mem = s.mem ∧ t.nvs = s.nvs ∧
        SameRegsBut [(brPage n, 0x03), (brPage n, 0x54), (brPage n, 0x55), (brPage n, 0x57), (brPage n, 0x58), (brPage n, 0x59)] s t ∧
        (∀ m : Ax, m ≠ n → t.brg m = s.brg m) ∧
        ∀ j : Fin 8, (t.brg n).sw[j] = (if j = k then { ((s.dieTold n x).brg n).sw[j] with was := none } else ((s.dieTold n x).brg n).sw[j]))) ∧
  (∀ (s : State) (n : Ax) (k : Fin 8) (on x : Nat) (y : Option Nat),
      s.hasAxis n = true →
      (s.dieTold n x).brgSwitchOn n k = true →
      ((s.dieTold n x).scForce (.brg n) k.val ((s.dieTold n x).brg n).sw[k]).vdsFires on y = true →
      s.parkPolicy n = false →
      (s.axis n).mode ≠ .characterise →
      Runs (.scDetect n k (.vds on y) x) s (fun t => (t.brg n).prot.sc = (s.brg n).prot.sc ||| (1#8 <<< k.val) ∧ (t.brg n).prot.uv = (s.brg n).prot.uv ∧
        t.reg (brPage n) 0x55 = satInc (s.reg (brPage n) 0x55) ∧ t.reg (brPage n) 0x57 = place k.val 4 ∧ t.wide (brPage n) 0x58 = s.mtUs ∧
        HasEvent t (brPage n) 8 ∧ t.brgSwitchOn n k = false ∧ t.axes = s.axes ∧ t.ledgers = s.ledgers ∧ t.mem = s.mem ∧ t.nvs = s.nvs ∧
        SameRegsBut [(brPage n, 0x03), (brPage n, 0x54), (brPage n, 0x55), (brPage n, 0x57), (brPage n, 0x58), (brPage n, 0x59)] s t ∧
        (∀ m : Ax, m ≠ n → t.brg m = s.brg m) ∧
        ∀ j : Fin 8, (t.brg n).sw[j] = (if j = k then { ((s.dieTold n x).brg n).sw[j] with was := none } else ((s.dieTold n x).brg n).sw[j]))) ∧
  (∀ (s : State) (n : Ax) (k : Fin 8) (x : Nat) (y : Option Nat),
      s.hasAxis n = true →
      (s.dieTold n x).brgSwitchOn n k = true →
      ((s.dieTold n x).scForce (.brg n) k.val ((s.dieTold n x).brg n).sw[k]).slopeFires 1000 y = true →
      s.parkPolicy n = true →
      (s.axis n).mode ≠ .characterise →
      Runs (.scDetect n k (.didt y) x) s (fun t => (t.brg n).prot.sc = (s.brg n).prot.sc ||| (1#8 <<< k.val) ∧ (t.brg n).prot.uv = (s.brg n).prot.uv ∧
        t.reg (brPage n) 0x55 = satInc (s.reg (brPage n) 0x55) ∧ t.reg (brPage n) 0x57 = place k.val 4 ∧ t.wide (brPage n) 0x58 = s.mtUs ∧
        HasEvent t (brPage n) 8 ∧ t.brgSwitchOn n k = false ∧ (t.axis n).mode = .parked ∧ (t.axis n).chan.p = (s.axis n).chan.p ∧
        ∀ m : Ax, m ≠ n → t.brg m = s.brg m ∧ t.axis m = s.axis m)) ∧
  (∀ (s : State) (n : Ax) (k : Fin 8) (x : Nat) (y : Option Nat),
      s.hasAxis n = true →
      ((s.dieTold n x).brgSwitchOn n k = false ∨ ((s.dieTold n x).scForce (.brg n) k.val ((s.dieTold n x).brg n).sw[k]).slopeFires 1000 y = false) →
      Runs (.scDetect n k (.didt y) x) s (fun t => t = (s.dieTold n x) ∧ (t.brg n).prot = (s.brg n).prot)) ∧
  (∀ (s : State) (n : Ax) (k : Fin 8) (on x : Nat) (y : Option Nat),
      s.hasAxis n = true →
      ((s.dieTold n x).brgSwitchOn n k = false ∨ ((s.dieTold n x).scForce (.brg n) k.val ((s.dieTold n x).brg n).sw[k]).vdsFires on y = false) →
      Runs (.scDetect n k (.vds on y) x) s (fun t => t = (s.dieTold n x) ∧ (t.brg n).prot = (s.brg n).prot)) ∧
  (∀ (s : State) (n : Ax) (k : Fin 8) (z : ScSense) (x : Nat),
      s.hasAxis n = false →
      Runs (.scDetect n k z x) s (fun t => t = s)) ∧
  (∀ (s : State) (k : Fin 6) (on x : Nat) (y : Option Nat),
      s.part.hasGate = true →
      s.gatePolicy = 0 →
      (s.gateTold x).gateSwitchOn k = true →
      ((s.gateTold x).scForce .gate k.val (s.gateTold x).gate.sw[k]).vdsFires on y = true →
      Runs (.gateScDetect (.vds k on y) x) s (fun t => t.gate.prot.sc = s.gate.prot.sc ||| (1#8 <<< k.val) ∧ t.gate.st = (s.gateTold x).gate.st ∧
        t.reg gatePage 0x55 = satInc (s.reg gatePage 0x55) ∧ t.reg gatePage 0x57 = place k.val 4 ∧ t.wide gatePage 0x58 = s.mtUs ∧ HasEvent t gatePage 8 ∧
        t.gateSwitchOn k = false ∧ SameRegsBut [(gatePage, 0x03), (gatePage, 0x55), (gatePage, 0x57), (gatePage, 0x58), (gatePage, 0x59)] (s.gateTold x) t ∧ t.axes = s.axes ∧ t.brgs = s.brgs ∧ t.mem = s.mem)) ∧
  (∀ (s : State) (k : Fin 6) (on x : Nat) (y : Option Nat),
      ((s.gateTold x).gateSwitchOn k = false ∨ ((s.gateTold x).scForce .gate k.val (s.gateTold x).gate.sw[k]).vdsFires on y = false) →
      Runs (.gateScDetect (.vds k on y) x) s (fun t => t = (s.gateTold x) ∧ t.gate.prot = s.gate.prot)) ∧
  (∀ (s : State) (x : Nat) (y : Option Nat),
      s.part.hasGate = true →
      s.gatePolicy = 0 →
      (∃ j : Fin 6, ((s.gateTold x).gateOnNow.getLsbD j.val && ((s.gateTold x).scForce .gate j.val (s.gateTold x).gate.sw[j]).slopeFires 10 y) = true) →
      Runs (.gateScDetect (.slope y) x) s (fun t => (∀ j : Fin 6, t.gate.prot.sc.getLsbD j.val = (s.gate.prot.sc.getLsbD j.val || ((s.gateTold x).gateOnNow.getLsbD j.val && ((s.gateTold x).scForce .gate j.val (s.gateTold x).gate.sw[j]).slopeFires 10 y))) ∧ t.gate.st = (s.gateTold x).gate.st ∧
        t.reg gatePage 0x55 = satInc (s.reg gatePage 0x55) ∧ HasEvent t gatePage 8 ∧ SameRegsBut [(gatePage, 0x03), (gatePage, 0x55), (gatePage, 0x57), (gatePage, 0x58), (gatePage, 0x59)] (s.gateTold x) t ∧ t.axes = s.axes ∧ t.brgs = s.brgs)) ∧
  (∀ (s : State) (x : Nat) (y : Option Nat),
      (∀ j : Fin 6, ((s.gateTold x).gateOnNow.getLsbD j.val && ((s.gateTold x).scForce .gate j.val (s.gateTold x).gate.sw[j]).slopeFires 10 y) = false) →
      Runs (.gateScDetect (.slope y) x) s (fun t => t = (s.gateTold x) ∧ t.gate.prot = s.gate.prot)) ∧
  (∀ (s : State) (z : GateSense) (x : Nat),
      s.part.hasGate = false →
      Runs (.gateScDetect z x) s (fun t => t = s))

/-- On a present die: a charge pump below its lockout, once watched, sets the UV latch of every high side of both axes of the die, with its event, holds them off, and changes no memory and no axis of another die; unwatched it changes no register, axis or latch. When the watch begins, a pump that is low then latches so, and one that is not changes nothing else. VGP below its lockout latches all six gate-port switches, with their event, and holds them off; a bootstrap, with no other low, latches its high side where that one is commanded on at the time told (not in a refresh, the PWM off time or under the OV brake), and no latch else. A rise above the release level ends the cause; a fall below that level alone makes the cause active and latches nothing (log entry 118); both leave the latches and change nothing else. A thermal shutdown latches both axes of the die with their event, and every switch of them is off; cooling below 140 degrees ends the cause and leaves the latch, and a warming above that alone makes it active (log entry 118). A warning is shown in both pages, sets its event when it begins, and changes nothing else, as its end. So that exec answers a next state for: uvloTrip, uvloRelease, vcpUvloArm, thermWarn, thermShutdown, thermCool. -/
def Obligations.UndervoltageAndHeatHoldSwitchesOff : Prop :=
  (∀ (s : State) (d : Die) (n : Ax) (k : Fin 8) (x : Nat),
      s.hasDie d = true →
      axisDie n = d →
      s.dies[d].uvArmed = true →
      k.val % 2 = 0 →
      Runs (.uvloTrip (.vcp d) x) s (fun t => (t.brg n).prot.uv = (s.brg n).prot.uv ||| 0x55#8 ∧ (t.brg n).prot.uvLow = 0x55#8 ∧ HasEvent t (brPage n) 9 ∧
        t.brgSwitchOn n k = false ∧ t.mem = s.mem ∧ t.nvs = s.nvs ∧ ∀ m : Ax, axisDie m ≠ d → t.brg m = s.brg m ∧ t.axis m = s.axis m)) ∧
  (∀ (s : State) (d : Die) (x : Nat),
      s.hasDie d = true →
      s.dies[d].uvArmed = false →
      Runs (.uvloTrip (.vcp d) x) s (fun t => t.regs = s.regs ∧ t.axes = s.axes ∧ ∀ m : Ax, (t.brg m).prot.uv = (s.brg m).prot.uv)) ∧
  (∀ (s : State) (k : Fin 6) (x : Nat),
      s.part.hasGate = true →
      Runs (.uvloTrip .vgp x) s (fun t => t.gate.prot.uv = s.gate.prot.uv ||| 0x3F#8 ∧ t.gate.prot.uvLow = 0x3F#8 ∧ HasEvent t gatePage 9 ∧
        t.gateSwitchOn k = false ∧ t.axes = s.axes ∧ t.brgs = s.brgs)) ∧
  (∀ (s : State) (k : Fin 3) (x : Nat),
      s.part.hasGate = true →
      s.gate.bstLow = 0#3 →
      Runs (.uvloTrip (.bst k) x) s (fun t => t.gate.bstLow = 1#3 <<< k.val ∧
        t.gate.prot.uv = (if (s.gateTold x).gateCommand ⟨2 * k.val, by omega⟩ = true then s.gate.prot.uv ||| (1#8 <<< (2 * k.val)) else s.gate.prot.uv) ∧ t.axes = s.axes ∧ t.brgs = s.brgs)) ∧
  (∀ (s : State) (d : Die) (n : Ax) (b : Bool),
      s.hasDie d = true →
      axisDie n = d →
      Runs (.uvloRelease (.vcp d) b) s (fun t => (t.brg n).prot = { (s.brg n).prot with uvLow := if b = true then 0x55#8 else 0#8 } ∧
        t = { s with brgs := t.brgs, dies := t.dies } ∧ t.dies[d] = { s.dies[d] with vcpLow := s.dies[d].vcpLow && b })) ∧
  (∀ (s : State) (b : Bool),
      s.part.hasGate = true →
      Runs (.uvloRelease .vgp b) s (fun t => t = { s with gate := t.gate } ∧ t.gate.vgpLow = (s.gate.vgpLow && b) ∧ t.gate.prot.uv = s.gate.prot.uv ∧
        (b = true → t.gate.prot.uvLow = 0x3F#8) ∧ (b = false → s.gate.bstLow = 0#3 → s.gate.bstNear = 0#3 → t.gate.prot.uvLow = 0#8))) ∧
  (∀ (s : State) (k : Fin 3) (b : Bool),
      s.part.hasGate = true →
      Runs (.uvloRelease (.bst k) b) s (fun t => t = { s with gate := t.gate } ∧ (t.gate.bstLow = if b = true then s.gate.bstLow else s.gate.bstLow &&& ~~~(1#3 <<< k.val)) ∧
        t.gate.prot.uv = s.gate.prot.uv ∧ (s.gate.vgpLow = false → s.gate.vgpNear = false → t.gate.prot.uvLow.getLsbD (2 * k.val) = b))) ∧
  (∀ (s : State) (d : Die) (n : Ax),
      s.hasDie d = true →
      axisDie n = d →
      s.dies[d].vcpLow = true →
      Runs (.vcpUvloArm d) s (fun t => t.dies[d].uvArmed = true ∧ (t.brg n).prot.uv = (s.brg n).prot.uv ||| 0x55#8 ∧ HasEvent t (brPage n) 9)) ∧
  (∀ (s : State) (d : Die),
      s.hasDie d = true →
      s.dies[d].vcpLow = false →
      Runs (.vcpUvloArm d) s (fun t => t = { s with dies := t.dies } ∧ t.dies[d] = { s.dies[d] with uvArmed := true })) ∧
  (∀ (s : State) (d : Die) (n : Ax),
      s.hasDie d = true →
      axisDie n = d →
      Runs (.thermWarn d true) s (fun t => (t.brg n).prot = { (s.brg n).prot with warn := true } ∧ HasEvent t (brPage n) 12 ∧
        t = { s with regs := t.regs, brgs := t.brgs })) ∧
  (∀ (s : State) (d : Die) (n : Ax),
      s.hasDie d = true →
      axisDie n = d →
      Runs (.thermWarn d false) s (fun t => (t.brg n).prot = { (s.brg n).prot with warn := false } ∧ t = { s with brgs := t.brgs })) ∧
  (∀ (s : State) (d : Die) (n : Ax) (k : Fin 8),
      s.hasDie d = true →
      axisDie n = d →
      Runs (.thermShutdown d) s (fun t => (t.brg n).prot.ot = true ∧ (t.brg n).prot.hot = true ∧ HasEvent t (brPage n) 10 ∧ t.brgSwitchOn n k = false ∧
        t.mem = s.mem ∧ t.nvs = s.nvs)) ∧
  (∀ (s : State) (d : Die) (n : Ax) (b : Bool),
      s.hasDie d = true →
      axisDie n = d →
      Runs (.thermCool d b) s (fun t => (t.brg n).prot = { (s.brg n).prot with hot := b } ∧ t = { s with brgs := t.brgs }))

/-- At the end of an AUTO wait, of the named latches of an AUTO class that are set and not exhausted: those of OT, TRIP or OV clear, and count their retries, where the cause is over, and set CLEAR_REJECTED and change no latch where it is active; of UV, those whose supply is good clear and those whose supply is low stay and set CLEAR_REJECTED; for SC an output check of them begins behind those in progress, and no register, axis or other latch changes; that an SC latch is retried by the check, what counts as one retry and which phase a check tests are readings (log entry 21). At the end of the check that began first the SC latches under test clear in the phases or half-bridges where no output is shorted, with a retry each unless an enable toggle asked for it, and CLEAR_REJECTED is set where one is shorted. RETRY_CNT returns to 0 where the class has no latch, else nothing changes. A first heartbeat marks its powered die seen; a loss outside STANDBY marks it lost and its high sides are off; a resume ends the loss. When the gate stream stops, every gate-port switch is off. Beside the switches' own commands nothing but what is named changes in the last four. So that exec answers a next state for: autoRetryWaitEnd, retryCntReset, scOutputCheckEnd, firstHeartbeat, heartbeatLoss, heartbeatResume, gateStreamStop. -/
def Obligations.LatchesClearOnlyAfterTheirTest : Prop :=
  (∀ (s : State) (p : ProtPage) (c : FaultClass) (m : BitVec 8),
      s.hasProt p c = true →
      (c = .ot ∨ c = .trip ∨ c = .ov) →
      (s.prot p).has c = true →
      s.autoClear p c = true →
      (s.prot p).stuck[c.idx].getLsbD 0 = false →
      s.causeActive p c = false →
      Runs (.autoRetryWaitEnd p c m) s (fun t => (t.prot p).has c = false ∧ (t.prot p).retry[c.idx] = min 15 ((s.prot p).retry[c.idx] + 1) ∧ t.regs = s.regs ∧
        t.axes = s.axes ∧ t.mem = s.mem)) ∧
  (∀ (s : State) (p : ProtPage) (c : FaultClass) (m : BitVec 8),
      s.hasProt p c = true →
      (c = .ot ∨ c = .trip ∨ c = .ov) →
      (s.prot p).has c = true →
      s.autoClear p c = true →
      (s.prot p).stuck[c.idx].getLsbD 0 = false →
      s.causeActive p c = true →
      Runs (.autoRetryWaitEnd p c m) s (fun t => t = { s with regs := t.regs, brgs := t.brgs, gate := t.gate } ∧ t.prot p = s.prot p ∧ HasEvent t p.page 14 ∧ SameRegsBut [(p.page, 0x03)] s t)) ∧
  (∀ (s : State) (p : ProtPage) (m : BitVec 8),
      s.hasProt p .uv = true →
      s.autoClear p .uv = true →
      m &&& (s.prot p).uv &&& ~~~(s.prot p).stuck[1] ≠ 0#8 →
      let w := m &&& (s.prot p).uv &&& ~~~(s.prot p).stuck[1];
        Runs (.autoRetryWaitEnd p .uv m) s (fun t => (t.prot p).uv = (s.prot p).uv &&& ~~~(w &&& ~~~(s.prot p).uvLow) ∧ (t.prot p).sc = (s.prot p).sc ∧
        (w &&& (s.prot p).uvLow ≠ 0#8 → HasEvent t p.page 14) ∧ (w &&& (s.prot p).uvLow = 0#8 → t.regs = s.regs) ∧ SameRegsBut [(p.page, 0x03)] s t ∧
        t.axes = s.axes ∧ t.mem = s.mem)) ∧
  (∀ (s : State) (p : ProtPage) (m : BitVec 8),
      s.hasProt p .sc = true →
      s.autoClear p .sc = true →
      m &&& (s.prot p).sc &&& ~~~(s.prot p).stuck[0] ≠ 0#8 →
      Runs (.autoRetryWaitEnd p .sc m) s (fun t => t = { s with brgs := t.brgs, gate := t.gate } ∧
        t.prot p = { s.prot p with check := (s.prot p).check ++ [(false, m &&& (s.prot p).sc &&& ~~~(s.prot p).stuck[0])] })) ∧
  (∀ (s : State) (p : ProtPage) (c : FaultClass),
      s.hasProt p c = true →
      (s.prot p).has c = false →
      Runs (.retryCntReset p c) s (fun t => (t.prot p).retry[c.idx] = 0 ∧ (t.prot p).stuck = (s.prot p).stuck ∧ t.regs = s.regs ∧ t.axes = s.axes)) ∧
  (∀ (s : State) (p : ProtPage) (c : FaultClass),
      (s.prot p).has c = true →
      Runs (.retryCntReset p c) s (fun t => t = s)) ∧
  (∀ (s : State) (n : Ax) (shorted : BitVec 3),
      (s.prot (.brg n)).check ≠ [] →
      let p : ProtPage := .brg n;
        let m := ((s.prot p).check.head?.map Prod.snd).getD 0#8 &&& (s.prot p).sc;
        let short := (if shorted.getLsbD 0 then 0x0F#8 else 0#8) ||| (if shorted.getLsbD 1 then 0xF0#8 else 0#8);
        Runs (.scOutputCheckEnd p shorted) s (fun t => (t.prot p).sc = (s.prot p).sc &&& ~~~(m &&& ~~~short) ∧ (t.prot p).check = (s.prot p).check.tail ∧
        (t.prot p).retry[0] = (if m &&& ~~~short = 0#8 ∨ (s.prot p).check.head?.map Prod.fst = some true then (s.prot p).retry[0]
          else min 15 ((s.prot p).retry[0] + latchCount p .sc (m &&& ~~~short))) ∧
        (m &&& short ≠ 0#8 → HasEvent t p.page 14) ∧ (m &&& short = 0#8 → t.regs = s.regs) ∧ SameRegsBut [(p.page, 0x03)] s t ∧ t.axes = s.axes ∧ t.mem = s.mem)) ∧
  (∀ (s : State) (shorted : BitVec 3),
      (s.prot .gate).check ≠ [] →
      let p : ProtPage := .gate;
        let m := ((s.prot p).check.head?.map Prod.snd).getD 0#8 &&& (s.prot p).sc;
        let short := (if shorted.getLsbD 0 then 0x03#8 else 0#8) ||| (if shorted.getLsbD 1 then 0x0C#8 else 0#8) ||| (if shorted.getLsbD 2 then 0x30#8 else 0#8);
        Runs (.scOutputCheckEnd p shorted) s (fun t => (t.prot p).sc = (s.prot p).sc &&& ~~~(m &&& ~~~short) ∧ (t.prot p).check = (s.prot p).check.tail ∧
        (t.prot p).retry[0] = (if m &&& ~~~short = 0#8 ∨ (s.prot p).check.head?.map Prod.fst = some true then (s.prot p).retry[0]
          else min 15 ((s.prot p).retry[0] + latchCount p .sc (m &&& ~~~short))) ∧
        (m &&& short ≠ 0#8 → HasEvent t p.page 14) ∧ (m &&& short = 0#8 → t.regs = s.regs) ∧ SameRegsBut [(p.page, 0x03)] s t ∧ t.axes = s.axes ∧ t.mem = s.mem)) ∧
  (∀ (s : State) (d : Die),
      s.hasDie d = true →
      s.sup.logic[d] = true →
      Runs (.firstHeartbeat d) s (fun t => t = { s with dies := t.dies, brgs := t.brgs } ∧ t.dies[d] = { s.dies[d] with hbSeen := true, hbLost := false } ∧
        (∀ e : Die, e ≠ d → t.dies[e] = s.dies[e]) ∧
        ∀ m : Ax, (t.brg m).prot = (s.brg m).prot ∧ (axisDie m ≠ d → t.brg m = s.brg m))) ∧
  (∀ (s : State) (d : Die) (n : Ax) (k : Fin 8),
      s.hasDie d = true →
      s.dies[d].hbSeen = true →
      s.pwr.pstate ≠ .standby →
      axisDie n = d →
      k.val % 2 = 0 →
      Runs (.heartbeatLoss d) s (fun t => t = { s with dies := t.dies, brgs := t.brgs } ∧ t.dies[d] = { s.dies[d] with hbLost := true } ∧ t.brgSwitchOn n k = false ∧
        ∀ m : Ax, (t.brg m).prot = (s.brg m).prot ∧ (axisDie m ≠ d → t.brg m = s.brg m))) ∧
  (∀ (s : State) (d : Die),
      s.hasDie d = true →
      s.dies[d].hbSeen = true →
      Runs (.heartbeatResume d) s (fun t => t = { s with dies := t.dies, brgs := t.brgs } ∧ t.dies[d] = { s.dies[d] with hbLost := false } ∧
        ∀ m : Ax, (t.brg m).prot = (s.brg m).prot ∧ (axisDie m ≠ d → t.brg m = s.brg m))) ∧
  (∀ (s : State) (k : Fin 6),
      s.part.hasGate = true →
      Runs .gateStreamStop s (fun t => t = { s with gate := { s.gate with streamLost := true } } ∧ t.gateSwitchOn k = false))

/-- With GATE ready: START without a reason to refuse it, with the unit clocked, enters PRECHARGE with the three low sides commanded on; with one it sets REFUSED and the code, and leaves the port. When PRECHARGE has elapsed the port is in RUN with STARTED, the integrator 0, and the phases of the hall code. STOP of a running port with a demand enters STOPPING; at a demand of 0, or in PRECHARGE, the port is in IDLE or BRAKED with STOPPED. APPLY_TABLE in IDLE with legal entries loads all six and sets TABLE_VALID, and is refused with code 7 elsewhere; APPLY_DRIVE takes the staged drive in range. With VIO: a TRIP_N low of at least 100 ns sets the trip latch of every present bridge page, with its event, and of the gate port, and every switch of them is off; one shorter than 80 ns changes nothing. Its rise ends the cause and leaves all else. Awake, a DRV_EN low of at least 100 ns holds every switch of a present bridge off, sets no latch, begins a STOP of each such axis that is in a moving mode with v not 0, and leaves one in another mode and the gate port; GATE_EN holds the gate-port switches off, sets no latch, and the port is neither in PRECHARGE nor in RUN. A rise after less than 10 us lets the switches follow again and tests nothing. After 10 us or more, awake and with TRIP_N high, the trip latch of the toggled page clears, STUCK clears and its retry counts return to 0, and no axis changes. So that exec answers a next state for: start, prechargeEnd, stop, applyTable, applyDrive, tripNLow, tripNHigh, drvEnFall, drvEnRise, gateEnRise, gateEnFall. -/
def Obligations.GatePortStartsAndPinsAct : Prop :=
  (∀ (s : State),
      PortReady s gatePage →
      s.startRefusal.isSome = true →
      Runs .start s (fun t => OnlyRegs s t ∧ HasEvent t gatePage 0 ∧ some (t.reg gatePage 0x09).toNat = s.startRefusal ∧
        SameRegsBut [(gatePage, 0x03), (gatePage, 0x09)] s t)) ∧
  (∀ (s : State),
      PortReady s gatePage →
      s.startRefusal = none →
      (s.gate.st = .idle ∨ s.gate.st = .braked) →
      s.enabled gatePage = true →
      Runs .start s (fun t => t.gate.st = .precharge ∧ t.gate.phases = Vector.replicate 3 2 ∧ t = { s with unlock := t.unlock, gate := t.gate } ∧
        t.gate.chan = s.gate.chan ∧ t.gate.prot = s.gate.prot)) ∧
  (∀ (s : State),
      s.part.hasGate = true →
      s.gate.st = .precharge →
      s.pins.gateEn = true →
      Runs .prechargeEnd s (fun t => t.gate.st = .run ∧ t.gate.integ = 0 ∧ HasEvent t gatePage 1 ∧ t.gate.phases = s.gate.commutated ∧
        t.gate.prot = s.gate.prot ∧ SameRegsBut [(gatePage, 0x03)] s t)) ∧
  (∀ (s : State),
      PortReady s gatePage →
      s.gate.st = .run →
      s.gate.chan.v ≠ 0 →
      Runs .stop s (fun t => t.gate.st = .stopping ∧ t.gate.chan = s.gate.chan ∧ t = { s with unlock := t.unlock, gate := t.gate })) ∧
  (∀ (s : State),
      PortReady s gatePage →
      (s.gate.st = .precharge ∨ (s.gate.st = .run ∧ s.gate.chan.v = 0)) →
      Runs .stop s (fun t => t.gate.st = (if s.regBit gatePage 0x0A 1 then .braked else .idle) ∧ HasEvent t gatePage 2 ∧ t.gate.duty = 0 ∧ t.gate.integ = 0 ∧
        t.gate.phases = (if s.regBit gatePage 0x0A 1 then Vector.replicate 3 2 else Vector.replicate 3 0) ∧ SameRegsBut [(gatePage, 0x03)] s t)) ∧
  (∀ (s : State),
      PortReady s gatePage →
      s.gate.st = .idle →
      (∀ i : Fin 6, fld (s.stagedComm (i.val + 1)) 0 2 ≠ 3 ∧ fld (s.stagedComm (i.val + 1)) 2 2 ≠ 3 ∧ fld (s.stagedComm (i.val + 1)) 4 2 ≠ 3 ∧ fld (s.stagedComm (i.val + 1)) 8 3 < 6) →
      (∀ i j : Fin 6, i ≠ j → fld (s.stagedComm (i.val + 1)) 8 3 ≠ fld (s.stagedComm (j.val + 1)) 8 3) →
      Runs .applyTable s (fun t => t.gate.tableValid = true ∧ (∀ i : Fin 6, t.gate.comm[i.val + 1]! = s.stagedComm (i.val + 1)) ∧ t.gate.st = .idle ∧
        t = { s with unlock := t.unlock, gate := { s.gate with comm := t.gate.comm, tableValid := true } })) ∧
  (∀ (s : State),
      PortReady s gatePage →
      s.gate.st ≠ .idle →
      Runs .applyTable s (fun t => OnlyRegs s t ∧ HasEvent t gatePage 0 ∧ t.reg gatePage 0x09 = 7#16 ∧ SameRegsBut [(gatePage, 0x03), (gatePage, 0x09)] s t)) ∧
  (∀ (s : State),
      PortReady s gatePage →
      Runs .applyDrive s (fun t =>
        let p := (s.reg gatePage 0x20).toNat
        let a := (s.reg gatePage 0x21).toNat
        let b := (s.reg gatePage 0x22).toNat
        let m := (s.reg gatePage 0x23).toNat
        if 2 ≤ p ∧ p ≤ 40 ∧ 1 ≤ a ∧ a ≤ 16 ∧ 1 ≤ b ∧ b ≤ 16 ∧ 10 ≤ m ∧ m ≤ 400 then
          t = { s with unlock := t.unlock, gate := { s.gate with drive := (p, a, b, m) } }
        else OnlyRegs s t ∧ HasEvent t gatePage 0 ∧ t.reg gatePage 0x09 = 7#16 ∧ SameRegsBut [(gatePage, 0x03), (gatePage, 0x09)] s t)) ∧
  (∀ (s : State) (ns : Nat) (n : Ax) (k : Fin 8),
      s.sup.vio = true →
      s.pins.tripN = true →
      100 ≤ ns →
      s.hasAxis n = true →
      Runs (.tripNLow ns) s (fun t => t.pins = { s.pins with tripN := false } ∧ (t.brg n).prot.trip = true ∧ HasEvent t (brPage n) 11 ∧
        t.brgSwitchOn n k = false ∧ (s.part.hasGate = true → t.gate.prot.trip = true ∧ ∀ j : Fin 6, t.gateSwitchOn j = false) ∧ t.mem = s.mem ∧ t.nvs = s.nvs)) ∧
  (∀ (s : State) (ns : Nat),
      ns < 80 →
      Runs (.tripNLow ns) s (fun t => t = s)) ∧
  (∀ (s : State),
      Runs .tripNHigh s (fun t => t = { s with pins := { s.pins with tripN := true } })) ∧
  (∀ (s : State) (ns : Nat) (n : Ax) (k : Fin 8),
      s.sup.vio = true →
      s.pins.drvEn = true →
      100 ≤ ns →
      s.awake = true →
      s.hasAxis n = true →
      Runs (.drvEnFall ns) s (fun t => t.pins = { s.pins with drvEn := false } ∧ t.brgSwitchOn n k = false ∧ (t.brg n).prot = (s.brg n).prot ∧
        ((s.axis n).mode.moving = true → (s.axis n).chan.v ≠ 0 → (t.axis n).stopping.isSome = true ∧ (t.axis n).chan = (s.axis n).chan) ∧
        ((s.axis n).mode.moving = false → t.axis n = s.axis n) ∧ t.gate = s.gate)) ∧
  (∀ (s : State) (ns : Nat),
      s.sup.vio = true →
      s.pins.drvEn = false →
      ns < 10000 →
      Runs (.drvEnRise ns) s (fun t => t = { s with pins := { s.pins with drvEn := true }, brgs := t.brgs } ∧
        ∀ n : Ax, (t.brg n).prot = (s.brg n).prot ∧ (t.brg n).sw = (s.brg n).sw)) ∧
  (∀ (s : State) (ns : Nat) (n : Ax),
      s.sup.vio = true →
      s.pins.drvEn = false →
      10000 ≤ ns →
      s.awake = true →
      s.hasAxis n = true →
      s.pins.tripN = true →
      Runs (.drvEnRise ns) s (fun t => t.pins = { s.pins with drvEn := true } ∧ (t.brg n).prot.trip = false ∧ (t.brg n).prot.stuck = Vector.replicate 5 0#8 ∧
        (t.brg n).prot.retry = Vector.replicate 5 0 ∧ t.axes = s.axes ∧ t.gate = s.gate)) ∧
  (∀ (s : State) (ns : Nat),
      s.sup.vio = true →
      s.pins.gateEn = false →
      ns < 10000 →
      Runs (.gateEnRise ns) s (fun t => t = { s with
          pins := { s.pins with gateEn := true }, gate := { s.gate with part := t.gate.part, driveNow := t.gate.driveNow } })) ∧
  (∀ (s : State) (ns : Nat) (k : Fin 6),
      s.sup.vio = true →
      s.pins.gateEn = true →
      100 ≤ ns →
      s.awake = true →
      Runs (.gateEnFall ns) s (fun t => t.pins = { s.pins with gateEn := false } ∧ t.gateSwitchOn k = false ∧ t.gate.prot = s.gate.prot ∧
        t.gate.st ≠ .run ∧ t.gate.st ≠ .precharge ∧ t.axes = s.axes ∧ t.brgs = s.brgs)) ∧
  (∀ (s : State) (ns : Nat),
      s.sup.vio = true →
      s.pins.gateEn = false →
      10000 ≤ ns →
      s.awake = true →
      s.part.hasGate = true →
      s.pins.tripN = true →
      Runs (.gateEnRise ns) s (fun t => t.pins = { s.pins with gateEn := true } ∧ t.gate.prot.trip = false ∧ t.gate.prot.stuck = Vector.replicate 5 0#8 ∧
        t.gate.prot.retry = Vector.replicate 5 0 ∧ t.axes = s.axes ∧ t.brgs = s.brgs))

/-- While GATE works and VIO stands, with every refresh over, in RUN and STOPPING: a legal hall code applies its table state, exchanged at a negative demand in effect; while a refresh runs (under a DEAD that its edges found as it stands), the commutation waits and the phases stay, and the next told time, here a PWM period, at or after the refresh's end applies it (the model's choice, log entry 55: R304 says at the end itself). A step of one from the last code sets the direction, and where no illegal code came since the edge before, the interval from it is HALL_PERIOD without averaging, and SPEED is that of the interval; any other step sets HALL_SKIP and counts (judged by the entries, applied or not: log entry 55). Code 0 or 7 sets HALL_ILLEGAL, counts, and turns every driven phase off, in a refresh too. At a PWM period start DUTY_ACT is, in the open loop, DUTY times the demand over VMAX, in the speed loop 0 where the demand is 0 or has changed its sign, else that of the integrator and the speed error, both clamped; undriven it is 0. The current limit acts once a period: ILIM sets and counts, the high sides of the driven phases are commanded off, and nothing else of the port changes. A refresh of a high side that is driven counts, begins, and its high side is off. A slope time-out before part 3, of an edge that began with the period or since, sets its event and begins part 3; the midpoint crossing after PRE_TIME begins it too, an earlier one does not. With no hall edge SPEED is 0, with the event HALL_TIMEOUT only in RUN at a demand. So that exec answers a next state for: hallCodeChange, gatePwmPeriod, bootRefresh, ilim, slopeTimeout, shxMidpointCrossing, hallTimeout. -/
def Obligations.HallsAndPwmDriveThePhases : Prop :=
  (∀ (s : State) (c : BitVec 3) (x : Nat),
      s.gateLive = true →
      s.sup.vio = true →
      c ≠ 0#3 →
      c ≠ 7#3 →
      (s.gate.st = .run ∨ s.gate.st = .stopping) →
      (∀ i : Fin 3, s.gate.refDead[i] = (s.gateDead, s.gateDead)) →
      (s.gate.refresh.all (fun r => match r with | some u => decide (u + (2 * s.regFld gatePage 0x0C 0 9 + s.regFld gatePage 0x25 0 9) ≤ x) | none => true) = true) →
      Runs (.hallCodeChange c x) s (fun t => t.gate.hall = c ∧ t.gate.illegal = false ∧ t.gate.st = s.gate.st ∧ t.gate.commWait = false ∧
        (let p := commPhases s.gate.comm[c.toNat]!
         t.gate.phases = if s.gate.vd < 0 then p.map exchange else p) ∧ t.gate.chan = s.gate.chan ∧ t.axes = s.axes ∧ t.gate.prot = s.gate.prot)) ∧
  (∀ (s : State) (c : BitVec 3) (x : Nat),
      s.gateLive = true →
      s.sup.vio = true →
      c ≠ 0#3 →
      c ≠ 7#3 →
      (s.gate.st = .run ∨ s.gate.st = .stopping) →
      (∀ i : Fin 3, s.gate.refDead[i] = (s.gateDead, s.gateDead)) →
      (s.gate.refresh.any (fun r => match r with | some u => decide (x < u + (2 * s.regFld gatePage 0x0C 0 9 + s.regFld gatePage 0x25 0 9)) | none => false) = true) →
      Runs (.hallCodeChange c x) s (fun t => t.gate.hall = c ∧ t.gate.commWait = true ∧ t.gate.phases = s.gate.phases ∧ t.gate.st = s.gate.st ∧
        t.gate.prot = s.gate.prot ∧ t.axes = s.axes)) ∧
  (∀ (s : State) (x : Nat),
      s.gateLive = true →
      (s.gate.st = .run ∨ s.gate.st = .stopping) →
      s.gate.commWait = true →
      (∀ i : Fin 3, s.gate.refDead[i] = (s.gateDead, s.gateDead)) →
      (s.gate.refresh.all (fun r => match r with | some u => decide (u + (2 * s.regFld gatePage 0x0C 0 9 + s.regFld gatePage 0x25 0 9) ≤ x) | none => true) = true) →
      Runs (.gatePwmPeriod x) s (fun t => t.gate.commWait = false ∧ t.gate.phases = s.gate.commutated ∧ t.gate.refresh = Vector.replicate 3 none ∧ t.gate.st = s.gate.st)) ∧
  (∀ (s : State) (c : BitVec 3) (x : Nat),
      s.gateLive = true →
      s.sup.vio = true →
      c ≠ 0#3 →
      c ≠ 7#3 →
      s.gate.lastStep.isSome = true →
      s.gate.edge.isSome = true →
      s.gate.span = true →
      s.regBit gatePage 0x0A 4 = false →
      Runs (.hallCodeChange c (s.gate.edge.getD 0 + x)) s (fun t =>
        let d := (fld s.gate.comm[c.toNat]! 8 3 + 6 - s.gate.lastStep.getD 0) % 6
        if d = 1 ∨ d = 5 then t.gate.dir = decide (d = 5) ∧ t.gate.still = false ∧ t.gate.period = x ∧ t.wide gatePage 0x1B = BitVec.ofNat 32 x ∧
          t.reg gatePage 0x1F = s.reg gatePage 0x1F ∧ (HasEvent t gatePage 4 ↔ HasEvent s gatePage 4) ∧
          t.hallSpeedNow = BitVec.ofInt 32 (if x = 0 then 0 else (if d = 5 then -1 else 1) * ((67108864 * 200 / x : Nat) : Int))
        else HasEvent t gatePage 4 ∧ t.reg gatePage 0x1F = satInc (s.reg gatePage 0x1F) ∧ t.gate.period = s.gate.period ∧ t.gate.dir = s.gate.dir)) ∧
  (∀ (s : State) (c : BitVec 3) (x : Nat),
      s.gateLive = true →
      s.sup.vio = true →
      (c = 0#3 ∨ c = 7#3) →
      Runs (.hallCodeChange c x) s (fun t => t.gate.illegal = true ∧ HasEvent t gatePage 3 ∧ t.reg gatePage 0x1F = satInc (s.reg gatePage 0x1F) ∧
        t.gate.st = s.gate.st ∧ (s.gate.st.driving = true → t.gate.phases = Vector.replicate 3 0) ∧ t.gate.period = s.gate.period ∧
        SameRegsBut [(gatePage, 0x03), (gatePage, 0x1F), (gatePage, 0x54)] s t)) ∧
  (∀ (s : State) (x : Nat),
      s.gateLive = true →
      (s.gate.st = .run ∨ s.gate.st = .stopping) →
      s.gate.commWait = false →
      s.regBit gatePage 0x0A 3 = false →
      s.wide gatePage 0x30 ≠ 0#32 →
      Runs (.gatePwmPeriod x) s (fun t => t.gate.ilim = false ∧ t.gate.st = s.gate.st ∧ t.gate.phases = s.gate.phases ∧
        t.gate.duty = min ((s.reg gatePage 0x0D).toNat * (s.gate.vd / 4294967296).natAbs / (s.wide gatePage 0x30).toNat) 4095 ∧
        SameRegsBut [] s t)) ∧
  (∀ (s : State) (x : Nat),
      s.gateLive = true →
      (s.gate.st = .run ∨ s.gate.st = .stopping) →
      s.gate.commWait = false →
      s.regBit gatePage 0x0A 3 = true →
      (s.gate.flipped = true ∨ s.gate.vd / 4294967296 = 0) →
      Runs (.gatePwmPeriod x) s (fun t => t.gate.duty = 0 ∧ t.gate.integ = 0 ∧ t.gate.phases = s.gate.phases)) ∧
  (∀ (s : State) (x : Nat),
      s.gateLive = true →
      (s.gate.st = .run ∨ s.gate.st = .stopping) →
      s.gate.commWait = false →
      s.regBit gatePage 0x0A 3 = true →
      s.gate.flipped = false →
      s.gate.vd / 4294967296 ≠ 0 →
      Runs (.gatePwmPeriod x) s (fun t =>
        let v := s.gate.vd / 4294967296
        let e : Int := (if v < 0 then -1 else 1) * (v - s.gate.speedAt x)
        let m : Int := (s.reg gatePage 0x0E).toNat
        t.gate.integ = max 0 (min m (s.gate.integ + e * (s.reg gatePage 0x2C).toNat / 65536)) ∧
        (t.gate.duty : Int) = max 0 (min m (t.gate.integ + e * (s.reg gatePage 0x2B).toNat / 4096)) ∧ t.gate.phases = s.gate.phases ∧ t.gate.st = s.gate.st)) ∧
  (∀ (s : State) (x : Nat),
      s.gateLive = true →
      s.gate.st.driving = false →
      Runs (.gatePwmPeriod x) s (fun t => t.gate.duty = 0 ∧ t.gate.phases = s.gate.phases ∧ t.gate.st = s.gate.st)) ∧
  (∀ (s : State) (p : Fin 3) (x : Nat),
      s.gateLive = true →
      (s.gate.st = .run ∨ s.gate.st = .stopping) →
      s.gate.commWait = false →
      s.gate.phases[p] = 1 →
      s.gate.refresh[p] = none →
      0 < x →
      Runs (.bootRefresh p x) s (fun t => t = { s with regs := t.regs, gate := t.gate } ∧ t.gate.refresh[p] = some (s.gateTold x).gate.now ∧ t.gate.phases = s.gate.phases ∧
        t.reg gatePage 0x27 = s.reg gatePage 0x27 + 1#16 ∧ SameRegsBut [(gatePage, 0x27)] s t ∧
        ∀ k : Fin 6, k.val = 2 * p.val → t.gateSwitchOn k = false)) ∧
  (∀ (s : State) (x : Nat),
      s.gateLive = true →
      (s.gate.st = .run ∨ s.gate.st = .stopping) →
      s.gate.commWait = false →
      s.reg gatePage 0x29 ≠ 0#16 →
      (s.gateTold x).gate.ilim = false →
      Runs (.ilim x) s (fun t => t = { s with regs := t.regs, gate := t.gate } ∧ HasEvent t gatePage 5 ∧ t.gate.ilim = true ∧ t.gate.st = s.gate.st ∧ t.gate.phases = s.gate.phases ∧
        t.gate.prot = s.gate.prot ∧ t.gate.chan = s.gate.chan ∧ t.gate.duty = s.gate.duty ∧ t.reg gatePage 0x2A = satInc (s.reg gatePage 0x2A) ∧
        SameRegsBut [(gatePage, 0x03), (gatePage, 0x2A), (gatePage, 0x54)] s t ∧ ∀ (p : Fin 3) (k : Fin 6), k.val = 2 * p.val →
        s.gate.phases[p] = 1 → (s.gateTold x).gate.refresh[p] = none → s.gate.prot.ov = false → t.gateCommand k = false)) ∧
  (∀ (s : State) (x : Nat),
      (s.gateTold x).gate.ilim = true →
      Runs (.ilim x) s (fun t => t = s.gateTold x)) ∧
  (∀ (s : State) (p : Fin 3) (w : Option Bool),
      s.gateLive = true →
      (s.edgeNow p w).gate.part[p] ≠ 3 →
      Runs (.slopeTimeout p w) s (fun t => t = { (s.edgeNow p w) with regs := t.regs, gate := { (s.edgeNow p w).gate with part := (s.edgeNow p w).gate.part.set p 3 } } ∧ HasEvent t gatePage 6 ∧
        SameRegsBut [(gatePage, 0x03)] s t)) ∧
  (∀ (s : State) (p : Fin 3) (x : Nat) (w : Option Bool),
      s.gateLive = true →
      (s.edgeNow p w).gate.part[p] ≠ 3 →
      (s.edgeNow p w).gate.driveNow[edgeSw p w].1 ≤ x →
      Runs (.shxMidpointCrossing p x w) s (fun t => t = { (s.edgeNow p w) with gate := { (s.edgeNow p w).gate with part := (s.edgeNow p w).gate.part.set p 3 } })) ∧
  (∀ (s : State) (p : Fin 3) (x : Nat) (w : Option Bool),
      ((s.edgeNow p w).gate.part[p] = 3 ∨ x < (s.edgeNow p w).gate.driveNow[edgeSw p w].1) →
      Runs (.shxMidpointCrossing p x w) s (fun t => t = (s.edgeNow p w))) ∧
  (∀ (s : State) (p : Fin 3) (w : Option Bool),
      (s.edgeNow p w).gate.part[p] = 3 →
      Runs (.slopeTimeout p w) s (fun t => t = (s.edgeNow p w))) ∧
  (∀ (s : State) (p : Fin 3) (b : Bool),
      s.gateLive = true →
      s.gateHeldOff (edgeSw p (some b)) = true →
      s.edgeNow p (some b) = s) ∧
  (∀ (s : State) (p : Fin 3) (b : Bool),
      s.gateLive = true →
      s.gateHeldOff (edgeSw p (some b)) = false →
      (s.edgeNow p (some b)).gate.part[p] = 1 ∧ (s.edgeNow p (some b)).gate.driveNow[edgeSw p (some b)] = s.gate.drive ∧ s.edgeNow p none = s) ∧
  (∀ (s : State),
      s.gateLive = true →
      Runs .hallTimeout s (fun t => t.gate = { s.gate with still := true } ∧ t.hallSpeedNow = 0#32 ∧
        t.reg gatePage 0x03 = (if s.gate.st = .run ∧ s.gate.vd ≠ 0 then s.reg gatePage 0x03 ||| bitWord 7 else s.reg gatePage 0x03) ∧
        SameRegsBut [(gatePage, 0x03)] s t))

/-- The levels of a channel are those accepted when the edge comes: the first ones that stood on its pins for the filter's time count as accepted (log entry 30). On a live channel out of its restart, with levels that stood for (FILT_N + 1) sample periods. MODE 1, one level changed: COUNT rises by one where the change follows 00, 10, 11, 01, falls by one otherwise, INV_DIR reversing it; DIR shows the sense, DIR_CHANGE sets where it differs from the known one, and the levels are accepted; nothing but the register file, channels, triggers, emulation and the event fabric changes. Both levels changed: COUNT stands, ILLEGAL sets with the page event, ERR_CNT increments, and nothing else changes. MODE 2: a rising STEP, of an accepted low level or after a fall that no row told (log entry 30), counts by the DIR level accepted before, reversed by INV_DIR, with no ILLEGAL, and leaves the memories. Where only A's level stood long enough, A alone is accepted; it counts where it changed and was not A's first. The first level of each input after a restart, all levels in MODE 0 and on a channel that takes no edges count nothing. Where neither level stood FILT_N - 1 periods and a cycle, the pins alone change. A load sets COUNT, restarts the line check and leaves axes and memories. A window that ends publishes the net change and begins anew; before its end nothing changes. No other channel changes in any of these. So that exec answers a next state for: quadratureChange, stepEdge, countLoad, speedWindowEnd. -/
def Obligations.ChannelsCountEveryEdge : Prop :=
  (∀ (s : State) (c : Fin 4) (a b : Bool) (held hb : Nat) (cy : Nat),
      s.encLive c.val = true →
      ((s.encStood c.val cy).enc c.val).freshA = false →
      (s.filtSamples c.val + 1) * s.filtPeriod c.val ≤ held →
      ((s.encStood c.val cy).enc c.val).freshB = false →
      (s.filtSamples c.val + 1) * s.filtPeriod c.val ≤ hb →
      s.encMode c.val = 1 →
      (¬(((s.encStood c.val cy).enc c.val).a ≠ a ∧ ((s.encStood c.val cy).enc c.val).b ≠ b) ∧ (((s.encStood c.val cy).enc c.val).a ≠ a ∨ ((s.encStood c.val cy).enc c.val).b ≠ b)) →
      Runs (.quadratureChange c a b held cy hb) s (fun t =>
        (((if ((s.encStood c.val cy).enc c.val).a ≠ a then a ≠ ((s.encStood c.val cy).enc c.val).b else b = ((s.encStood c.val cy).enc c.val).a) ↔ s.regBit tallyPage (eOff c.val 0) 2 = false) → (t.enc c.val).count = ((s.encStood c.val cy).enc c.val).count + 1#32 ∧ (t.enc c.val).dir = false) ∧
        (¬((if ((s.encStood c.val cy).enc c.val).a ≠ a then a ≠ ((s.encStood c.val cy).enc c.val).b else b = ((s.encStood c.val cy).enc c.val).a) ↔ s.regBit tallyPage (eOff c.val 0) 2 = false) → (t.enc c.val).count = ((s.encStood c.val cy).enc c.val).count - 1#32 ∧ (t.enc c.val).dir = true) ∧
        (t.enc c.val).a = a ∧ (t.enc c.val).b = b ∧ (t.enc c.val).dirKnown = true ∧
        t.regBit tallyPage (eOff c.val 0xC) 1 =
          (s.regBit tallyPage (eOff c.val 0xC) 1 || (((s.encStood c.val cy).enc c.val).dirKnown && (((s.encStood c.val cy).enc c.val).dir != (t.enc c.val).dir))) ∧
        t = { s with regs := t.regs, encs := t.encs, trigs := t.trigs, emus := t.emus, fab := t.fab } ∧
        ∀ d : Fin 4, d ≠ c → t.enc d.val = s.enc d.val)) ∧
  (∀ (s : State) (c : Fin 4) (a b : Bool) (held hb : Nat) (cy : Nat),
      s.encLive c.val = true →
      ((s.encStood c.val cy).enc c.val).freshA = false →
      (s.filtSamples c.val + 1) * s.filtPeriod c.val ≤ held →
      ((s.encStood c.val cy).enc c.val).freshB = false →
      (s.filtSamples c.val + 1) * s.filtPeriod c.val ≤ hb →
      s.encMode c.val = 1 →
      ((s.encStood c.val cy).enc c.val).a ≠ a ∧ ((s.encStood c.val cy).enc c.val).b ≠ b →
      Runs (.quadratureChange c a b held cy hb) s (fun t => t = { s with regs := t.regs, encs := t.encs } ∧ (t.enc c.val).count = ((s.encStood c.val cy).enc c.val).count ∧
        (t.enc c.val).a = a ∧ (t.enc c.val).b = b ∧ t.regBit tallyPage (eOff c.val 0xC) 0 = true ∧ HasEvent t tallyPage c.val ∧
        t.reg tallyPage (eOff c.val 0xD) = satInc (s.reg tallyPage (eOff c.val 0xD)) ∧
        SameRegsBut [(tallyPage, 0x03), (tallyPage, eOff c.val 0xC), (tallyPage, eOff c.val 0xD)] s t ∧
        ∀ d : Fin 4, d ≠ c → t.enc d.val = s.enc d.val)) ∧
  (∀ (s : State) (c : Fin 4) (a b : Bool) (held hb : Nat) (cy : Nat),
      s.hasEnc c.val = true →
      s.sup.vio = true →
      (s.filtSamples c.val + 1) * s.filtPeriod c.val ≤ held →
      (s.filtSamples c.val + 1) * s.filtPeriod c.val ≤ hb →
      (s.encLive c.val = false ∨ (((s.encStood c.val cy).enc c.val).freshA = true ∧ ((s.encStood c.val cy).enc c.val).freshB = true) ∨ s.encMode c.val = 0) →
      Runs (.quadratureChange c a b held cy hb) s (fun t => t = { s with encs := t.encs } ∧ (t.enc c.val).count = ((s.encStood c.val cy).enc c.val).count ∧
        (t.enc c.val).pinA = a ∧ (t.enc c.val).pinB = b ∧ ∀ d : Fin 4, d ≠ c → t.enc d.val = s.enc d.val)) ∧
  (∀ (s : State) (c : Fin 4) (dn : Bool) (held : Nat) (cy : Nat),
      s.encLive c.val = true →
      ((s.encStood c.val cy).enc c.val).freshA = false →
      (s.filtSamples c.val + 1) * s.filtPeriod c.val ≤ held →
      s.encMode c.val = 2 →
      (((s.encStood c.val cy).enc c.val).a = false ∨ ((s.encStood c.val cy).enc c.val).pinA = true) →
      Runs (.stepEdge c dn held cy) s (fun t =>
        (t.enc c.val).count = (if ((s.encStood c.val cy).enc c.val).b = s.regBit tallyPage (eOff c.val 0) 2 then ((s.encStood c.val cy).enc c.val).count - 1#32 else ((s.encStood c.val cy).enc c.val).count + 1#32) ∧
        (t.enc c.val).a = true ∧ (t.enc c.val).b = dn ∧ t.reg tallyPage (eOff c.val 0xD) = s.reg tallyPage (eOff c.val 0xD) ∧
        t.regBit tallyPage (eOff c.val 0xC) 0 = s.regBit tallyPage (eOff c.val 0xC) 0 ∧ t.mem = s.mem ∧ t.nvs = s.nvs ∧
        ∀ d : Fin 4, d ≠ c → t.enc d.val = s.enc d.val)) ∧
  (∀ (s : State) (c : Fin 4) (a b : Bool) (held hb : Nat) (cy : Nat),
      s.encLive c.val = true →
      held < (s.filtSamples c.val - 1) * s.filtPeriod c.val + 1 →
      hb < (s.filtSamples c.val - 1) * s.filtPeriod c.val + 1 →
      Runs (.quadratureChange c a b held cy hb) s (fun t => t = (s.encStood c.val cy).encPins c.val a b cy) ∧ Runs (.stepEdge c b held cy) s (fun t => t = (s.encStood c.val cy).encPins c.val true b cy) ∧
        ((s.encStood c.val cy).encPins c.val a b cy).enc c.val = { ((s.encStood c.val cy).enc c.val) with
          pinA := a, pinB := b, leftA := if ((s.encStood c.val cy).enc c.val).pinA = a then ((s.encStood c.val cy).enc c.val).leftA else cy + s.filtTime c.val,
          leftB := if ((s.encStood c.val cy).enc c.val).pinB = b then ((s.encStood c.val cy).enc c.val).leftB else cy + s.filtTime c.val }) ∧
  (∀ (s : State) (c : Fin 4) (a b : Bool) (held hb : Nat) (cy : Nat),
      s.encLive c.val = true →
      (s.filtSamples c.val + 1) * s.filtPeriod c.val ≤ held →
      hb < (s.filtSamples c.val - 1) * s.filtPeriod c.val + 1 →
      s.encMode c.val = 1 →
      Runs (.quadratureChange c a b held cy hb) s (fun t => (t.enc c.val).a = a ∧ (t.enc c.val).b = ((s.encStood c.val cy).enc c.val).b ∧ (t.enc c.val).freshA = false ∧
        (t.enc c.val).freshB = ((s.encStood c.val cy).enc c.val).freshB ∧ t.regBit tallyPage (eOff c.val 0xC) 0 = s.regBit tallyPage (eOff c.val 0xC) 0 ∧
        (((s.encStood c.val cy).enc c.val).freshA = true ∨ ((s.encStood c.val cy).enc c.val).a = a → (t.enc c.val).count = ((s.encStood c.val cy).enc c.val).count) ∧
        (((s.encStood c.val cy).enc c.val).freshA = false ∧ ((s.encStood c.val cy).enc c.val).a ≠ a → (t.enc c.val).count = (if (a ≠ ((s.encStood c.val cy).enc c.val).b) ↔ s.regBit tallyPage (eOff c.val 0) 2 = false
          then ((s.encStood c.val cy).enc c.val).count + 1#32 else ((s.encStood c.val cy).enc c.val).count - 1#32)))) ∧
  (∀ (s : State) (c : Fin 4) (v : Wide),
      PortReady s tallyPage →
      s.hasEnc c.val = true →
      Runs (.countLoad c v) s (fun t => (t.enc c.val).count = v ∧ (t.enc c.val).idxSeen = false ∧ (t.enc c.val).lastIdx = none ∧
        (t.enc c.val).idxMs = 0 ∧ t.axes = s.axes ∧ t.mem = s.mem ∧ t.nvs = s.nvs ∧ ∀ d : Fin 4, d ≠ c → t.enc d.val = s.enc d.val)) ∧
  (∀ (s : State) (c : Fin 4),
      s.hasEnc c.val = true →
      s.awake = true →
      s.regBit tallyPage 0x01 0 = true →
      (s.enc c.val).winLeft = 0 →
      Runs (.speedWindowEnd c) s (fun t => (t.enc c.val).speed = (s.enc c.val).count - (s.enc c.val).winBase ∧
        (t.enc c.val).winBase = (s.enc c.val).count ∧ (t.enc c.val).winLeft = (s.reg tallyPage (eOff c.val 6)).toNat ∧
        (t.enc c.val).count = (s.enc c.val).count ∧ t = { s with encs := t.encs } ∧ ∀ d : Fin 4, d ≠ c → t.enc d.val = s.enc d.val)) ∧
  (∀ (s : State) (c : Fin 4),
      (s.enc c.val).winLeft ≠ 0 →
      Runs (.speedWindowEnd c) s (fun t => t = s))

/-- On a live channel out of its restart, a rise of EnI from an accepted low level, or after a fall that no row told (log entry 30), that stood for (FILT_N + 1) sample periods, with MODE set and IDX_QUAL met: INDEX_POS takes COUNT, INDEX, INDEX_SEEN and the page event set, every line that listens to producer 0x18 + n is due to pulse, COUNT becomes 0 with IDX_ZERO, else stands, and the missing-index timer restarts; memories and other channels stay. In MODE 1 after an earlier index LINE_CNT is the magnitude of the difference from the count that index left, saturating, and LINE_FAULT sets where EXPECT_LINES is not 0, the counts since had one sense, and it lies outside 4 EXPECT_LINES plus or minus LINE_TOL. A rise whose fall was told and not accepted, one with IDX_QUAL unmet, the first level after a restart and all in MODE 0 latch nothing; an accepted fall changes the level alone. With VIO or without it, INDEX_MISSING sets with the page event when the timer has reached a non-zero IDX_TIMEOUT, and not again before an index. So that exec answers a next state for: encoderIndex, indexMissing. -/
def Obligations.IndexLatchesAndChecksLines : Prop :=
  (∀ (s : State) (c : Fin 4) (held : Nat) (cy : Nat),
      s.encLive c.val = true →
      ((s.encStood c.val cy).enc c.val).freshI = false →
      (((s.encStood c.val cy).enc c.val).i = false ∨ ((s.encStood c.val cy).enc c.val).pinI = true) →
      (s.filtSamples c.val + 1) * s.filtPeriod c.val ≤ held →
      s.encMode c.val ≠ 0 →
      (s.regBit tallyPage (eOff c.val 0) 11 = false ∨ (((s.encStood c.val cy).enc c.val).a = true ∧ ((s.encStood c.val cy).enc c.val).b = true)) →
      Runs (.encoderIndex c true held cy) s (fun t => t.wide tallyPage (eOff c.val 4) = ((s.encStood c.val cy).enc c.val).count ∧ t.regBit tallyPage (eOff c.val 0xC) 2 = true ∧
        HasEvent t tallyPage c.val ∧ (t.enc c.val).idxSeen = true ∧ (t.enc c.val).i = true ∧ (t.enc c.val).idxMs = 0 ∧ (t.enc c.val).missing = false ∧
        (t.enc c.val).count = (if s.regBit tallyPage (eOff c.val 0) 12 = true then 0#32 else ((s.encStood c.val cy).enc c.val).count) ∧
        (s.produce (0x18 + c.val)).fab.due ⊆ t.fab.due ∧ t.mem = s.mem ∧ t.nvs = s.nvs ∧
        ∀ d : Fin 4, d ≠ c → t.enc d.val = s.enc d.val)) ∧
  (∀ (s : State) (c : Fin 4) (held : Nat) (cy : Nat),
      s.encLive c.val = true →
      ((s.encStood c.val cy).enc c.val).freshI = false →
      (((s.encStood c.val cy).enc c.val).i = false ∨ ((s.encStood c.val cy).enc c.val).pinI = true) →
      (s.filtSamples c.val + 1) * s.filtPeriod c.val ≤ held →
      s.encMode c.val ≠ 0 →
      (s.regBit tallyPage (eOff c.val 0) 11 = false ∨ (((s.encStood c.val cy).enc c.val).a = true ∧ ((s.encStood c.val cy).enc c.val).b = true)) →
      s.encMode c.val = 1 →
      ((s.encStood c.val cy).enc c.val).lastIdx.isSome = true →
      Runs (.encoderIndex c true held cy) s (fun t =>
        let k := (((s.encStood c.val cy).enc c.val).count - ((s.encStood c.val cy).enc c.val).lastIdx.getD 0#32).toInt.natAbs
        let want := 4 * (s.reg tallyPage (eOff c.val 9)).toNat
        let tol := (s.reg tallyPage (eOff c.val 0xA)).toNat
        t.reg tallyPage (eOff c.val 0xF) = BitVec.ofNat 16 (min k 65535) ∧
        t.regBit tallyPage (eOff c.val 0xC) 3 = (s.regBit tallyPage (eOff c.val 0xC) 3 ||
          decide (want ≠ 0 ∧ ¬(((s.encStood c.val cy).enc c.val).rose = true ∧ ((s.encStood c.val cy).enc c.val).fell = true) ∧ (k + tol < want ∨ want + tol < k))))) ∧
  (∀ (s : State) (c : Fin 4) (held : Nat) (cy : Nat),
      s.encLive c.val = true →
      (s.filtSamples c.val + 1) * s.filtPeriod c.val ≤ held →
      Runs (.encoderIndex c false held cy) s (fun t => t = { s with encs := t.encs } ∧ t.enc c.val = { ((s.encStood c.val cy).enc c.val) with
          pinI := false, leftI := (t.enc c.val).leftI, i := if s.encMode c.val = 0 then ((s.encStood c.val cy).enc c.val).i else false,
          freshI := if s.encMode c.val = 0 then ((s.encStood c.val cy).enc c.val).freshI else false } ∧
        ∀ d : Fin 4, d ≠ c → t.enc d.val = s.enc d.val)) ∧
  (∀ (s : State) (c : Fin 4) (held : Nat) (cy : Nat),
      s.encLive c.val = true →
      (s.filtSamples c.val + 1) * s.filtPeriod c.val ≤ held →
      ((s.regBit tallyPage (eOff c.val 0) 11 = true ∧ (((s.encStood c.val cy).enc c.val).a = false ∨ ((s.encStood c.val cy).enc c.val).b = false)) ∨ ((s.encStood c.val cy).enc c.val).freshI = true ∨ s.encMode c.val = 0 ∨ (((s.encStood c.val cy).enc c.val).i = true ∧ ((s.encStood c.val cy).enc c.val).pinI = false)) →
      Runs (.encoderIndex c true held cy) s (fun t => t = { s with encs := t.encs } ∧ (t.enc c.val).count = ((s.encStood c.val cy).enc c.val).count ∧
        (t.enc c.val).idxSeen = ((s.encStood c.val cy).enc c.val).idxSeen ∧ (t.enc c.val).lastIdx = ((s.encStood c.val cy).enc c.val).lastIdx)) ∧
  (∀ (s : State) (c : Fin 4),
      s.hasEnc c.val = true →
      s.awake = true →
      s.regBit tallyPage 0x01 0 = true →
      s.reg tallyPage (eOff c.val 0xB) ≠ 0#16 →
      (s.reg tallyPage (eOff c.val 0xB)).toNat ≤ (s.enc c.val).idxMs →
      (s.enc c.val).missing = false →
      Runs (.indexMissing c) s (fun t => t.regBit tallyPage (eOff c.val 0xC) 4 = true ∧ HasEvent t tallyPage c.val ∧
        SameRegsBut [(tallyPage, 0x03), (tallyPage, eOff c.val 0xC)] s t ∧ t = { s with regs := t.regs, encs := t.encs } ∧
        t.enc c.val = { s.enc c.val with missing := true } ∧ ∀ d : Fin 4, d ≠ c → t.enc d.val = s.enc d.val)) ∧
  (∀ (s : State) (c : Fin 4),
      (s.reg tallyPage (eOff c.val 0xB) = 0#16 ∨ (s.enc c.val).missing = true) →
      Runs (.indexMissing c) s (fun t => t = s))

/-- With TALLY ready: ARM of a trigger sets ARMED, loads REMAIN from REPEAT, clears LAGGED and takes the source's present value as the reference, and changes nothing else; DISARM clears ARMED, and a write of PTp_CFG does so and stores its fields, an unlisted SRC leaving SRC. A trigger armed on a live encoder channel that an accepted change of one level counts up onto CMP, with DIR not falling, fires: its event sets, every line that listens to its producer is due to pulse, and FIRE_CNT increments modulo 256; with REMAIN 0 it disarms and CMP keeps its value, else REMAIN falls by one and CMP moves by STEP. With DIR falling it does not fire there. In the first three no other trigger changes. TALLY enabled restarts all channels; a write that would disable it is ignored with REFUSED while an axis follows or is bound, and else clears ENABLE. Neither changes another register. SYNC of a present output with a source clears the accumulator, BACKLOG and an overrun, takes the source's present value as the reference and leaves OUT_CNT alone. While EMU is enabled and its output follows an encoder channel, and no overrun stands, a count of the channel adds its change times NUM: accumulator plus DEN times BACKLOG rises by exactly that, and the accumulator stays below DEN in magnitude, wherever BACKLOG stays below 32767 in magnitude; OUT_CNT stands. After an overrun a count changes nothing in the output. An edge emitted moves OUT_CNT by one toward the backlog, which falls by one in magnitude, whatever OUT_EN is (the model's choice, log entry 26) and after an overrun too (the model's reading, log entry 89); with nothing due, EMU disabled or a source that is absent, nothing changes. So that exec answers a next state for: arm, disarm, ptCfgWrite, quadratureChange, tallyEnableWrite, sync, emuEdge. -/
def Obligations.TriggersFireAndEmulationLosesNoCount : Prop :=
  (∀ (s : State) (p : Fin 4),
      PortReady s tallyPage →
      Runs (.arm p) s (fun t => t = { s with unlock := t.unlock, trigs := t.trigs } ∧ (t.trig p).armed = true ∧ (t.trig p).lagged = false ∧
        (t.trig p).remain = s.regFld tallyPage (pOff p.val 5) 0 4 ∧ (t.trig p).fires = (s.trig p).fires ∧ (t.trig p).late = none ∧
        (s.srcValue (s.trigSrc p) = none ∨ s.srcValue (s.trigSrc p) = some (t.trig p).prev) ∧ ∀ q : Fin 4, q ≠ p → t.trig q = s.trig q)) ∧
  (∀ (s : State) (p : Fin 4),
      PortReady s tallyPage →
      Runs (.disarm p) s (fun t => t = { s with unlock := t.unlock, trigs := t.trigs } ∧ t.trig p = { s.trig p with armed := false, late := none } ∧
        ∀ q : Fin 4, q ≠ p → t.trig q = s.trig q)) ∧
  (∀ (s : State) (p : Fin 4) (v : Word),
      PortReady s tallyPage →
      Runs (.ptCfgWrite p v) s (fun t => t = { s with unlock := t.unlock, regs := t.regs, trigs := t.trigs } ∧ (t.trig p).armed = false ∧
        t.reg tallyPage (pOff p.val 0) = (if fld v 0 5 ≤ 10 ∨ (16 ≤ fld v 0 5 ∧ fld v 0 5 < 20) then v &&& 0x007F#16 else (v &&& 0x0060#16) ||| (s.reg tallyPage (pOff p.val 0) &&& 0x001F#16)) ∧ SameRegsBut [(tallyPage, pOff p.val 0)] s t ∧ ∀ q : Fin 4, q ≠ p → t.trig q = s.trig q)) ∧
  (∀ (s : State) (c p : Fin 4) (a b : Bool) (held hb : Nat) (cy : Nat),
      s.encLive c.val = true →
      ((s.encStood c.val cy).enc c.val).freshA = false →
      (s.filtSamples c.val + 1) * s.filtPeriod c.val ≤ held →
      ((s.encStood c.val cy).enc c.val).freshB = false →
      (s.filtSamples c.val + 1) * s.filtPeriod c.val ≤ hb →
      s.encMode c.val = 1 →
      (¬(((s.encStood c.val cy).enc c.val).a ≠ a ∧ ((s.encStood c.val cy).enc c.val).b ≠ b) ∧ (((s.encStood c.val cy).enc c.val).a ≠ a ∨ ((s.encStood c.val cy).enc c.val).b ≠ b)) →
      ((if ((s.encStood c.val cy).enc c.val).a ≠ a then a ≠ ((s.encStood c.val cy).enc c.val).b else b = ((s.encStood c.val cy).enc c.val).a) ↔ s.regBit tallyPage (eOff c.val 0) 2 = false) →
      s.trigSrc p = 0x10 + c.val →
      (s.trig p).armed = true →
      (s.trig p).late = none →
      (s.trig p).prev = ((s.encStood c.val cy).enc c.val).count →
      s.wide tallyPage (pOff p.val 1) = ((s.encStood c.val cy).enc c.val).count + 1#32 →
      Runs (.quadratureChange c a b held cy hb) s (fun t =>
        if s.trigDir p = 2 then (t.trig p) = { s.trig p with prev := (t.enc c.val).count } ∧ t.wide tallyPage (pOff p.val 1) = s.wide tallyPage (pOff p.val 1)
        else HasEvent t tallyPage (4 + p.val) ∧ (t.trig p).fires = ((s.trig p).fires + 1) % 256 ∧
          (s.produce (0x14 + p.val)).fab.due ⊆ t.fab.due ∧
          (if (s.trig p).remain = 0 then (t.trig p).armed = false ∧ t.wide tallyPage (pOff p.val 1) = s.wide tallyPage (pOff p.val 1)
           else (t.trig p).armed = true ∧ (t.trig p).remain = (s.trig p).remain - 1 ∧
             t.wide tallyPage (pOff p.val 1) = s.wide tallyPage (pOff p.val 1) + s.wide tallyPage (pOff p.val 3)))) ∧
  (∀ (s : State),
      PortReady s tallyPage →
      s.regBit tallyPage 0x01 0 = false →
      Runs (.tallyEnableWrite true) s (fun t => t = { s with unlock := t.unlock, regs := t.regs, encs := t.encs } ∧ t.regBit tallyPage 0x01 0 = true ∧
        SameRegsBut [(tallyPage, 0x01)] s t ∧ ∀ c : Fin 4, (t.enc c.val).freshA = true ∧ (t.enc c.val).freshB = true ∧ (t.enc c.val).freshI = true ∧ (t.enc c.val).dirKnown = false ∧ (t.enc c.val).lastIdx = none ∧
          (t.enc c.val).count = (s.enc c.val).count ∧ (t.enc c.val).winBase = (s.enc c.val).count)) ∧
  (∀ (s : State),
      PortReady s tallyPage →
      (∃ n : Ax, n ∈ s.present ∧ ((s.axis n).mode = .follow ∨ s.bound n = true)) →
      Runs (.tallyEnableWrite false) s (fun t => t = { s with unlock := t.unlock, regs := t.regs } ∧ SameRegsBut [(tallyPage, 0x03)] s t ∧ HasEvent t tallyPage 8)) ∧
  (∀ (s : State),
      PortReady s tallyPage →
      (∀ n : Ax, n ∈ s.present → (s.axis n).mode ≠ .follow ∧ s.bound n = false) →
      Runs (.tallyEnableWrite false) s (fun t => t = { s with unlock := t.unlock, regs := t.regs } ∧ SameRegsBut [(tallyPage, 0x01)] s t ∧
        t.regBit tallyPage 0x01 0 = false)) ∧
  (∀ (s : State) (x : Fin 2),
      PortReady s emuPage →
      s.hasEmu x = true →
      (s.srcValue (s.emuSrc x)).isSome = true →
      Runs (.sync x) s (fun t => t = { s with unlock := t.unlock, emus := t.emus } ∧ t.emu x = { s.emu x with ref := (s.srcValue (s.emuSrc x)).getD 0#32, acc := 0, backlog := 0, overrun := false } ∧
        ∀ y : Fin 2, y ≠ x → t.emu y = s.emu y)) ∧
  (∀ (s : State) (c : Fin 4) (x : Fin 2) (a b : Bool) (held hb : Nat) (acc bl : Int) (cy : Nat),
      s.encLive c.val = true →
      ((s.encStood c.val cy).enc c.val).freshA = false →
      (s.filtSamples c.val + 1) * s.filtPeriod c.val ≤ held →
      ((s.encStood c.val cy).enc c.val).freshB = false →
      (s.filtSamples c.val + 1) * s.filtPeriod c.val ≤ hb →
      s.encMode c.val = 1 →
      (¬(((s.encStood c.val cy).enc c.val).a ≠ a ∧ ((s.encStood c.val cy).enc c.val).b ≠ b) ∧ (((s.encStood c.val cy).enc c.val).a ≠ a ∨ ((s.encStood c.val cy).enc c.val).b ≠ b)) →
      s.hasEmu x = true →
      s.regBit emuPage 0x01 0 = true →
      s.emuSrc x = 0x10 + c.val →
      s.reg emuPage (xOff x.val 2) ≠ 0#16 →
      acc.natAbs < (s.reg emuPage (xOff x.val 2)).toNat →
      bl.natAbs ≤ 20000 →
      Runs (.quadratureChange c a b held cy hb) (s.modEmu x (fun e => { e with ref := ((s.encStood c.val cy).enc c.val).count, acc := acc, backlog := bl, overrun := false })) (fun t =>
        let num : Int := (s.reg emuPage (xOff x.val 1)).toNat
        let den : Int := (s.reg emuPage (xOff x.val 2)).toNat
        (t.emu x).out = (s.emu x).out ∧ (t.emu x).ref = (t.enc c.val).count ∧
        ((t.emu x).backlog.natAbs < 32767 → (t.emu x).acc.natAbs < den.natAbs ∧
          (t.emu x).acc + den * (t.emu x).backlog = acc + den * bl + ((t.enc c.val).count - ((s.encStood c.val cy).enc c.val).count).toInt * num))) ∧
  (∀ (s : State) (c : Fin 4) (x : Fin 2) (a b : Bool) (held hb : Nat) (cy : Nat),
      s.encLive c.val = true →
      ((s.encStood c.val cy).enc c.val).freshA = false →
      (s.filtSamples c.val + 1) * s.filtPeriod c.val ≤ held →
      ((s.encStood c.val cy).enc c.val).freshB = false →
      (s.filtSamples c.val + 1) * s.filtPeriod c.val ≤ hb →
      s.encMode c.val = 1 →
      (¬(((s.encStood c.val cy).enc c.val).a ≠ a ∧ ((s.encStood c.val cy).enc c.val).b ≠ b) ∧ (((s.encStood c.val cy).enc c.val).a ≠ a ∨ ((s.encStood c.val cy).enc c.val).b ≠ b)) →
      s.hasEmu x = true →
      (s.emu x).overrun = true →
      s.emuSrc x = 0x10 + c.val →
      Runs (.quadratureChange c a b held cy hb) s (fun t => t.emu x = s.emu x)) ∧
  (∀ (s : State) (x : Fin 2) (bl : Int),
      s.hasEmu x = true →
      s.awake = true →
      s.regBit emuPage 0x01 0 = true →
      s.srcAbsent (s.emuSrc x) = false →
      bl ≠ 0 →
      Runs (.emuEdge x) (s.modEmu x (fun e => { e with backlog := bl })) (fun t => t = { s with emus := t.emus } ∧
        (t.emu x).out = (if 0 < bl then (s.emu x).out + 1#32 else (s.emu x).out - 1#32) ∧ (t.emu x).backlog.natAbs + 1 = bl.natAbs ∧
        (t.emu x).acc = (s.emu x).acc ∧ (t.emu x).ref = (s.emu x).ref ∧ ∀ y : Fin 2, y ≠ x → t.emu y = s.emu y)) ∧
  (∀ (s : State) (x : Fin 2),
      ((s.emu x).backlog = 0 ∨ s.regBit emuPage 0x01 0 = false ∨ s.hasEmu x = false ∨ s.srcAbsent (s.emuSrc x) = true) →
      Runs (.emuEdge x) s (fun t => t = s))

/-- A count tick of a live timer with no gate or its gate open (a pin as the row brings it, log entry 57): COUNT falls by one, or from 0 takes RELOAD, which becomes ACTIVE_RELOAD. MATCH sets where CMP_EN is set and COUNT comes to COMPARE, ZERO where it comes to 0, and a one-shot stops there; on a match with COUNT still above 0, and on a zero from 1, every line that listens to producer 0x01 + n, or 0x09 + n, is due to pulse, and the page event sets where FLAG_EN has the flag. Such a match leaves COMPARE where STEP is 0 or COMPARE is above ACTIVE_RELOAD, else moves it to COMPARE minus STEP modulo ACTIVE_RELOAD + 1. Without a match or a zero no register and no line changes. A gate at the wrong level, a stopped or frozen timer, a disabled unit or a sleeping block changes nothing. No other timer changes. With TMR ready, START sets and STOP clears the run state of the timer, with TMR.CTRL.ENABLE at 0 too (the model's reading, log entry 56), and no more. The oldest link action that is due starts or stops its target alone; with none due nothing changes. Of the actions of one FBUS cycle each timer that one stops is stopped, and each other that one starts runs. A zero of a timer whose link is set for it, with no match, appends that action and its target to the list. A read of CAPTURE_L returns it and clears CAP_FULL of that timer alone. A write of COMPARE puts both its words into the comparator, and changes no other register and no timer. A pulse on the line that CAP_SEL selects, with CAP_EN, copies COUNT into CAPTURE, sets CAPTURE and CAP_FULL, and OVERRUN where it was full. Bring-up step 2 after a STANDBY publishes SLEEP_TICKS and advances a timer that ran ungated and unfrozen by its missed ticks (log entry 56), reloads included, with CAUGHT_UP and, where they held a zero, ZERO; it leaves COMPARE and any other timer. So that exec answers a next state for: timerCountTick, timerStart, timerStop, timerLinkAction, captureLRead, fabricLinePulse, hsrcReady, compareWrite. -/
def Obligations.TimersCountMatchLinkAndCapture : Prop :=
  (∀ (s : State) (n : Fin 8) (pin : Bool),
      s.tmrLive n = true →
      (s.regFld tmrPage (tOff n.val 0) 8 5 = 0 ∨ s.gateInput (s.regFld tmrPage (tOff n.val 0) 8 5) pin = s.regBit tmrPage (tOff n.val 0) 5) →
      Runs (.timerCountTick n pin) s (fun t =>
        (t.timer n).count = (if (s.timer n).count = 0#32 then s.wide tmrPage (tOff n.val 4) else (s.timer n).count - 1#32) ∧
        (t.timer n).active = (if (s.timer n).count = 0#32 then s.wide tmrPage (tOff n.val 4) else (s.timer n).active) ∧
        t.regBit tmrPage (tOff n.val 0xE) 0 = (s.regBit tmrPage (tOff n.val 0xE) 0 ||
          (s.regBit tmrPage (tOff n.val 0) 7 && (t.timer n).count == s.wide tmrPage (tOff n.val 6))) ∧
        t.regBit tmrPage (tOff n.val 0xE) 1 = (s.regBit tmrPage (tOff n.val 0xE) 1 || (t.timer n).count == 0#32) ∧
        (t.timer n).run = !((t.timer n).count == 0#32 && s.regBit tmrPage (tOff n.val 0) 4) ∧
        t = { s with regs := t.regs, tmr := t.tmr, fab := t.fab } ∧ ∀ m : Fin 8, m ≠ n → t.timer m = s.timer m)) ∧
  (∀ (s : State) (n : Fin 8) (pin : Bool),
      s.tmrLive n = true →
      (s.regFld tmrPage (tOff n.val 0) 8 5 = 0 ∨ s.gateInput (s.regFld tmrPage (tOff n.val 0) 8 5) pin = s.regBit tmrPage (tOff n.val 0) 5) →
      1 < (s.timer n).count.toNat →
      (s.timer n).count - 1#32 = s.wide tmrPage (tOff n.val 6) →
      s.regBit tmrPage (tOff n.val 0) 7 = true →
      Runs (.timerCountTick n pin) s (fun t => (s.produce (0x01 + n.val)).fab.due ⊆ t.fab.due ∧
        t.wide tmrPage (tOff n.val 6) =
          (if s.wide tmrPage (tOff n.val 8) = 0#32 ∨ (s.timer n).active.toNat < (s.wide tmrPage (tOff n.val 6)).toNat then s.wide tmrPage (tOff n.val 6)
           else BitVec.ofInt 32 ((((s.wide tmrPage (tOff n.val 6)).toNat : Int) - (s.wide tmrPage (tOff n.val 8)).toNat) % ((s.timer n).active.toNat + 1))) ∧
        (s.regBit tmrPage (tOff n.val 0xF) 0 = true → HasEvent t tmrPage n.val))) ∧
  (∀ (s : State) (n : Fin 8) (pin : Bool),
      s.tmrLive n = true →
      (s.regFld tmrPage (tOff n.val 0) 8 5 = 0 ∨ s.gateInput (s.regFld tmrPage (tOff n.val 0) 8 5) pin = s.regBit tmrPage (tOff n.val 0) 5) →
      (s.timer n).count = 1#32 →
      Runs (.timerCountTick n pin) s (fun t => (s.produce (0x09 + n.val)).fab.due ⊆ t.fab.due ∧
        (s.regBit tmrPage (tOff n.val 0xF) 1 = true → HasEvent t tmrPage n.val))) ∧
  (∀ (s : State) (n : Fin 8) (pin : Bool),
      s.tmrLive n = true →
      (s.regFld tmrPage (tOff n.val 0) 8 5 = 0 ∨ s.gateInput (s.regFld tmrPage (tOff n.val 0) 8 5) pin = s.regBit tmrPage (tOff n.val 0) 5) →
      1 < (s.timer n).count.toNat →
      ((s.timer n).count - 1#32 ≠ s.wide tmrPage (tOff n.val 6) ∨ s.regBit tmrPage (tOff n.val 0) 7 = false) →
      Runs (.timerCountTick n pin) s (fun t => t.regs = s.regs ∧ t.fab = s.fab ∧ t.tmr.links = s.tmr.links ∧
        t.timer n = { s.timer n with count := (s.timer n).count - 1#32 })) ∧
  (∀ (s : State) (n : Fin 8) (pin : Bool),
      ((s.timer n).run = false ∨ s.regBit tmrPage 0x01 0 = false ∨ s.awake = false ∨ (s.pins.frz = true ∧ s.regBit tmrPage (tOff n.val 0) 6 = true)) →
      Runs (.timerCountTick n pin) s (fun t => t = s)) ∧
  (∀ (s : State) (n : Fin 8) (pin : Bool),
      s.regFld tmrPage (tOff n.val 0) 8 5 ≠ 0 →
      s.gateInput (s.regFld tmrPage (tOff n.val 0) 8 5) pin ≠ s.regBit tmrPage (tOff n.val 0) 5 →
      Runs (.timerCountTick n pin) s (fun t => t = s)) ∧
  (∀ (s : State) (n : Fin 8),
      PortReady s tmrPage →
      Runs (.timerStart n) s (fun t => t = { s with unlock := t.unlock, tmr := t.tmr } ∧ t.timer n = { s.timer n with run := true } ∧
        t.tmr.links = s.tmr.links ∧ ∀ m : Fin 8, m ≠ n → t.timer m = s.timer m)) ∧
  (∀ (s : State) (n : Fin 8),
      PortReady s tmrPage →
      Runs (.timerStop n) s (fun t => t = { s with unlock := t.unlock, tmr := t.tmr } ∧ t.timer n = { s.timer n with run := false } ∧
        t.tmr.links = s.tmr.links ∧ ∀ m : Fin 8, m ≠ n → t.timer m = s.timer m)) ∧
  (∀ (s : State) (k : Fin 8) (start : Bool) (l : List (Nat × Bool)),
      Runs .timerLinkAction { s with tmr := { s.tmr with links := (k.val, start) :: l } } (fun t => t = { s with tmr := t.tmr } ∧
        t.tmr.links = l ∧ t.timer k = { s.timer k with run := start } ∧ ∀ m : Fin 8, m ≠ k → t.timer m = s.timer m)) ∧
  (∀ (s : State) (x : Nat),
      s.tmr.links = [] →
      Runs (.timerLinkAction x) s (fun t => t = s)) ∧
  (∀ (s : State) (k j : Fin 8) (a b : Bool) (l : List (Nat × Bool)) (x : Nat),
      Runs (.timerLinkAction x) { s with tmr := { s.tmr with links := (k.val, a) :: (j.val, b) :: l } } (fun t => t = { s with tmr := t.tmr } ∧
        t.tmr.links = ((k.val, a) :: (j.val, b) :: l).drop x ∧ ∀ m : Fin 8, t.timer m = { s.timer m with
          run := if (m.val, false) ∈ List.take x ((k.val, a) :: (j.val, b) :: l) then false
          else if (m.val, true) ∈ List.take x ((k.val, a) :: (j.val, b) :: l) then true else (s.timer m).run })) ∧
  (∀ (s : State) (n : Fin 8) (pin : Bool),
      s.tmrLive n = true →
      (s.regFld tmrPage (tOff n.val 0) 8 5 = 0 ∨ s.gateInput (s.regFld tmrPage (tOff n.val 0) 8 5) pin = s.regBit tmrPage (tOff n.val 0) 5) →
      (s.regFld tmrPage (tOff n.val 0xD) 9 2 = 1 ∨ s.regFld tmrPage (tOff n.val 0xD) 9 2 = 2) →
      s.regBit tmrPage (tOff n.val 0xD) 11 = true →
      (s.timer n).count = 1#32 →
      s.regBit tmrPage (tOff n.val 0) 7 = false →
      Runs (.timerCountTick n pin) s (fun t => t.tmr.links = s.tmr.links ++ [(s.regFld tmrPage (tOff n.val 0xD) 6 3, s.regFld tmrPage (tOff n.val 0xD) 9 2 == 1)])) ∧
  (∀ (s : State) (n : Fin 8),
      PortReady s tmrPage →
      Runs (.captureLRead n) s (fun t => t = { s with rdata := t.rdata, tmr := t.tmr } ∧ t.rdata = s.reg tmrPage (tOff n.val 0xB) ∧
        t.timer n = { s.timer n with capFull := false } ∧ ∀ m : Fin 8, m ≠ n → t.timer m = s.timer m)) ∧
  (∀ (s : State) (l k : Fin 16) (also delayed : Word) (cy : Nat) (n : Fin 8),
      s.fabricOn = true →
      ((s.fab.due.find? (fun w => w.getLsbD l.val)).isSome = true) →
      (((dueTake (linesIn also) ((s.fab.due.find? (fun w => w.getLsbD l.val)).getD 0#16, s.fab.due.erase ((s.fab.due.find? (fun w => w.getLsbD l.val)).getD 0#16))).1).getLsbD k.val = true) →
      s.awake = true →
      s.regBit tmrPage 0x01 0 = true →
      s.regBit tmrPage (tOff n.val 0xD) 5 = true →
      s.regFld tmrPage (tOff n.val 0xD) 0 5 = k.val →
      Runs (.fabricLinePulse l also delayed cy) s (fun t => t.wide tmrPage (tOff n.val 0xA) = (s.timer n).count ∧ (t.timer n).capFull = true ∧
        t.regBit tmrPage (tOff n.val 0xE) 2 = true ∧ ((s.timer n).capFull = true → t.regBit tmrPage (tOff n.val 0xE) 3 = true))) ∧
  (∀ (s : State) (n : Fin 8) (sleep : Nat),
      s.pwr.bring = 2 →
      s.pwr.testHold = false →
      s.pwr.fromReset = false →
      s.regBit tmrPage 0x01 0 = true →
      (s.timer n).run = true →
      s.regFld tmrPage (tOff n.val 0) 8 5 = 0 →
      (s.tmr.entryFrz = false ∨ s.regBit tmrPage (tOff n.val 0) 6 = false) →
      s.regBit tmrPage (tOff n.val 0) 4 = false →
      sleep < 4294967296 →
      Runs (.hsrcReady sleep) s (fun t =>
        let k := sleep * (if s.tmr.entryPll then 100000000 else 16000000) / ((if s.clk.slowXtal then 32768 else 32000) * 2 ^ s.regFld tmrPage (tOff n.val 0) 0 4)
        let c := (s.timer n).count.toNat
        let r := (s.wide tmrPage (tOff n.val 4)).toNat
        t.wide tmrPage 0x08 = BitVec.ofNat 32 sleep ∧ (t.timer n).count = BitVec.ofNat 32 (if k ≤ c then c - k else r - (k - c - 1) % (r + 1)) ∧
        t.regBit tmrPage (tOff n.val 0xE) 4 = true ∧ t.wide tmrPage (tOff n.val 6) = s.wide tmrPage (tOff n.val 6) ∧ (t.timer n).run = true ∧
        ((0 < c ∧ c ≤ k) ∨ (c < k ∧ r ≤ k - c - 1) → t.regBit tmrPage (tOff n.val 0xE) 1 = true))) ∧
  (∀ (s : State) (n : Fin 8) (sleep : Nat),
      s.pwr.bring = 2 →
      s.pwr.testHold = false →
      s.pwr.fromReset = false →
      ((s.timer n).run = false ∨ s.regFld tmrPage (tOff n.val 0) 8 5 ≠ 0 ∨ (s.tmr.entryFrz = true ∧ s.regBit tmrPage (tOff n.val 0) 6 = true)) →
      Runs (.hsrcReady sleep) s (fun t => t.timer n = s.timer n)) ∧
  (∀ (s : State) (n : Fin 8) (v : Wide),
      PortReady s tmrPage →
      Runs (.compareWrite n v) s (fun t => t.wide tmrPage (tOff n.val 6) = v ∧ t.tmr = s.tmr ∧
        SameRegsBut [(tmrPage, tOff n.val 6), (tmrPage, tOff n.val 7)] s t ∧ t = { s with regs := t.regs, lows := t.lows, unlock := t.unlock }))

/-- With TMR ready, LOAD of a timer that is stopped sets its ACTIVE_RELOAD and its COUNT to RELOAD; LOAD of a timer that runs changes neither. Nothing else changes but the page's unlock: the run state, the other timers, the registers, and every other unit are as before. A write of COUNT_H or COUNT_L changes no timer, and with the host port live a read of COUNT_H or COUNT_L answers that word of COUNT and changes no timer. So that exec answers a next state for: load, registerWrite, spiSingleRead. -/
def Obligations.LoadOnlyWhileStopped : Prop :=
  (∀ (s : State) (n : Fin 8),
      PortReady s tmrPage →
      (s.timer n).run = false →
      Runs (.load n) s (fun t => t = { s with unlock := t.unlock, tmr := t.tmr } ∧
        t.timer n = { s.timer n with count := s.wide tmrPage (tOff n.val 4), active := s.wide tmrPage (tOff n.val 4) } ∧
        t.tmr.links = s.tmr.links ∧ t.tmr.entryPll = s.tmr.entryPll ∧ t.tmr.entryFrz = s.tmr.entryFrz ∧ ∀ m : Fin 8, m ≠ n → t.timer m = s.timer m)) ∧
  (∀ (s : State) (n : Fin 8),
      PortReady s tmrPage →
      (s.timer n).run = true →
      Runs (.load n) s (fun t => t = { s with unlock := t.unlock })) ∧
  (∀ (s : State) (n : Fin 8) (v : Word) (x : Nat),
      PortReady s tmrPage →
      Runs (.registerWrite (BitVec.ofNat 6 tmrPage) (BitVec.ofNat 8 (tOff n.val 2)) v x) s (fun t => t.tmr = s.tmr)) ∧
  (∀ (s : State) (n : Fin 8) (v : Word) (x : Nat),
      PortReady s tmrPage →
      Runs (.registerWrite (BitVec.ofNat 6 tmrPage) (BitVec.ofNat 8 (tOff n.val 3)) v x) s (fun t => t.tmr = s.tmr)) ∧
  (∀ (s : State) (n : Fin 8) (x : Nat),
      PortReady s tmrPage →
      s.portLive = true →
      Runs (.spiSingleRead (BitVec.ofNat 6 tmrPage) (BitVec.ofNat 8 (tOff n.val 3)) x) s (fun t => t.spi.data = (s.timer n).count.lo ∧ t.tmr = s.tmr)) ∧
  (∀ (s : State) (n : Fin 8) (x : Nat),
      PortReady s tmrPage →
      s.portLive = true →
      Runs (.spiSingleRead (BitVec.ofNat 6 tmrPage) (BitVec.ofNat 8 (tOff n.val 2)) x) s (fun t => t.spi.data = (s.timer n).count.hi ∧ t.tmr = s.tmr))

/-- On a present, enabled converter of an awake block with its page ready. GO: with the sequencer idle and every entry to LAST valid it runs from entry 0, whose words it takes when nothing waits; with an invalid entry only CFG_REJECTED sets; while a CONT = 0 sequence runs only TRIG_MISSED sets; while a CONT = 1 one runs nothing changes. HALT ends the sequence with no result and leaves an urgent entry, with the unit disabled too. INJECT of a valid entry takes the converter unless a forced slot is on it, setting ENTRY_ABORTED over a sequence or an assay conversion, and the sequencer stays where it is; with one waiting or running only INJ_MISSED sets, whatever its entry; an invalid one only sets CFG_REJECTED. CFG is written whole while nothing is busy, else LP, LAST and CONT keep and CFG_REJECTED sets. A disabled converter ignores GO. Other converters stand. That INJ_MISSED is judged before CFG_REJECTED is the model's reading (log entry 58). On a live converter: CAL_NOW begins a forced slot where nothing is at work or waits urgently, and waits where something is at work, which goes on. With BG_EN a lack of slots sets BG_FORCED and does the same; without it nothing happens. An unforced slot begins only on an idle converter with BG_EN. The end of a slot on the internal zero stores the offset, that of one on VREF above the offset the gain which bring them to their nominal codes (the model's reading, log entry 84), and the next slot takes the other. The end of start-up leads a sequence or urgent entry to its delay and other work to its conversion; the end of the delay leads to the conversion; in the conversion stage neither changes anything. Each changes that converter, with BG_FORCED its event, and nothing else. That CAL_NOW sets no BG_FORCED is the model's reading (log entry 58). So that exec answers a next state for: go, halt, inject, cnvCfgWrite, calNow, bgForced, calSlotStart, cnvStartupEnd, cnvDelayEnd, cnvConversionDone. -/
def Obligations.ConverterCommandsAndStages : Prop :=
  (∀ (s : State) (c : Conv),
      PortReady s (cnvPage (convIdx c)) →
      s.cnvLive (convIdx c) = true →
      (s.cnv (convIdx c)).seq = false →
      (∀ k : Fin 16, k.val ≤ s.cnvLast (convIdx c) → entryOk (convIdx c) (s.entryA (convIdx c) k.val) (s.entryB (convIdx c) k.val) = true) →
      Runs (.go c) s (fun t => (t.cnv (convIdx c)).seq = true ∧ (t.cnv (convIdx c)).cur = 0 ∧
        ((s.cnv (convIdx c)).work = .none ∧ (s.cnv (convIdx c)).injWait = false ∧ (s.cnv (convIdx c)).calWait = false ∧ (s.cnv (convIdx c)).assay = [] →
          (t.cnv (convIdx c)).work = .seq ∧ (t.cnv (convIdx c)).entA = s.entryA (convIdx c) 0 ∧ (t.cnv (convIdx c)).entB = s.entryB (convIdx c) 0) ∧
        SameRegsBut [(cnvPage (convIdx c), 0x10)] s t ∧ t = { s with unlock := t.unlock, regs := t.regs, cnvs := t.cnvs } ∧ (∀ j : Fin 3, j ≠ convIdx c → t.cnv j = s.cnv j))) ∧
  (∀ (s : State) (c : Conv) (k : Fin 16),
      PortReady s (cnvPage (convIdx c)) →
      s.cnvLive (convIdx c) = true →
      (s.cnv (convIdx c)).seq = false →
      k.val ≤ s.cnvLast (convIdx c) →
      entryOk (convIdx c) (s.entryA (convIdx c) k.val) (s.entryB (convIdx c) k.val) = false →
      Runs (.go c) s (fun t => HasEvent t (cnvPage (convIdx c)) 5 ∧ SameRegsBut [(cnvPage (convIdx c), 0x03)] s t ∧ OnlyRegs s t)) ∧
  (∀ (s : State) (c : Conv),
      PortReady s (cnvPage (convIdx c)) →
      s.cnvLive (convIdx c) = true →
      (s.cnv (convIdx c)).seq = true →
      Runs (.go c) s (fun t => if s.cnvCont (convIdx c) = true then t = { s with unlock := t.unlock } else HasEvent t (cnvPage (convIdx c)) 3 ∧ SameRegsBut [(cnvPage (convIdx c), 0x03)] s t ∧ OnlyRegs s t)) ∧
  (∀ (s : State) (c : Conv),
      PortReady s (cnvPage (convIdx c)) →
      s.regBit (cnvPage (convIdx c)) 0x01 0 = false →
      Runs (.go c) s (fun t => t = { s with unlock := t.unlock })) ∧
  (∀ (s : State) (c : Conv),
      PortReady s (cnvPage (convIdx c)) →
      (convIdx c = 1 → s.part.hasCnvB = true) →
      Runs (.halt c) s (fun t => (t.cnv (convIdx c)).seq = false ∧ ((s.cnv (convIdx c)).seq = true → (t.cnv (convIdx c)).work ≠ .seq) ∧ t = { s with unlock := t.unlock, cnvs := t.cnvs } ∧ (∀ j : Fin 3, j ≠ convIdx c → t.cnv j = s.cnv j) ∧
        ((s.cnv (convIdx c)).work = .inj → (t.cnv (convIdx c)).work = .inj ∧ (t.cnv (convIdx c)).stage = (s.cnv (convIdx c)).stage))) ∧
  (∀ (s : State) (c : Conv),
      PortReady s (cnvPage (convIdx c)) →
      s.cnvLive (convIdx c) = true →
      (s.cnv (convIdx c)).injWait = false →
      (s.cnv (convIdx c)).work ≠ .inj →
      (s.cnv (convIdx c)).work ≠ .cal true →
      entryOk (convIdx c) (s.reg (cnvPage (convIdx c)) 0x0B) (s.reg (cnvPage (convIdx c)) 0x0C) = true →
      Runs (.inject c) s (fun t => (t.cnv (convIdx c)).work = .inj ∧ (t.cnv (convIdx c)).entA = s.reg (cnvPage (convIdx c)) 0x0B ∧
        (t.cnv (convIdx c)).seq = (s.cnv (convIdx c)).seq ∧ (t.cnv (convIdx c)).cur = (s.cnv (convIdx c)).cur ∧ (t.cnv (convIdx c)).assay = (s.cnv (convIdx c)).assay ∧
        ((s.cnv (convIdx c)).work = .seq ∨ (s.cnv (convIdx c)).work = .assay → HasEvent t (cnvPage (convIdx c)) 8) ∧
        SameRegsBut [(cnvPage (convIdx c), 0x03)] s t ∧ t = { s with unlock := t.unlock, regs := t.regs, cnvs := t.cnvs } ∧ (∀ j : Fin 3, j ≠ convIdx c → t.cnv j = s.cnv j))) ∧
  (∀ (s : State) (c : Conv),
      PortReady s (cnvPage (convIdx c)) →
      s.cnvLive (convIdx c) = true →
      ((s.cnv (convIdx c)).injWait = true ∨ (s.cnv (convIdx c)).work = .inj) →
      Runs (.inject c) s (fun t => HasEvent t (cnvPage (convIdx c)) 4 ∧ SameRegsBut [(cnvPage (convIdx c), 0x03)] s t ∧ OnlyRegs s t)) ∧
  (∀ (s : State) (c : Conv),
      PortReady s (cnvPage (convIdx c)) →
      s.cnvLive (convIdx c) = true →
      (s.cnv (convIdx c)).injWait = false →
      (s.cnv (convIdx c)).work ≠ .inj →
      entryOk (convIdx c) (s.reg (cnvPage (convIdx c)) 0x0B) (s.reg (cnvPage (convIdx c)) 0x0C) = false →
      Runs (.inject c) s (fun t => HasEvent t (cnvPage (convIdx c)) 5 ∧ SameRegsBut [(cnvPage (convIdx c), 0x03)] s t ∧ OnlyRegs s t)) ∧
  (∀ (s : State) (c : Conv) (v : Word),
      PortReady s (cnvPage (convIdx c)) →
      Runs (.cnvCfgWrite c v) s (fun t => OnlyRegs s t ∧
        if (s.cnv (convIdx c)).seq = true ∨ (s.cnv (convIdx c)).injWait = true ∨ (s.cnv (convIdx c)).work = .inj then
          HasEvent t (cnvPage (convIdx c)) 5 ∧ SameRegsBut [(cnvPage (convIdx c), 0x03), (cnvPage (convIdx c), 0x08)] s t ∧
          t.reg (cnvPage (convIdx c)) 0x08 &&& 0x00F5#16 = s.reg (cnvPage (convIdx c)) 0x08 &&& 0x00F5#16
        else SameRegsBut [(cnvPage (convIdx c), 0x08)] s t ∧ t.reg (cnvPage (convIdx c)) 0x08 = v &&& (if c = .cnvc then 0x00F6#16 else 0x00F7#16))) ∧
  (∀ (s : State) (c : Conv),
      PortReady s (cnvPage (convIdx c)) →
      s.cnvLive (convIdx c) = true →
      Runs (.calNow c) s (fun t => t = { s with unlock := t.unlock, cnvs := t.cnvs } ∧ (∀ j : Fin 3, j ≠ convIdx c → t.cnv j = s.cnv j) ∧
        ((s.cnv (convIdx c)).work = .none ∧ (s.cnv (convIdx c)).injWait = false → (t.cnv (convIdx c)).work = .cal true ∧ (t.cnv (convIdx c)).calWait = false) ∧
        ((s.cnv (convIdx c)).work ≠ .none → t.cnv (convIdx c) = { s.cnv (convIdx c) with calWait := true }))) ∧
  (∀ (s : State) (c : Conv),
      s.cnvLive (convIdx c) = true →
      s.regBit (cnvPage (convIdx c)) 0x08 1 = true →
      Runs (.bgForced c) s (fun t => HasEvent t (cnvPage (convIdx c)) 7 ∧ t = { s with regs := t.regs, cnvs := t.cnvs } ∧ SameRegsBut [(cnvPage (convIdx c), 0x03)] s t ∧ (∀ j : Fin 3, j ≠ convIdx c → t.cnv j = s.cnv j) ∧
        ((s.cnv (convIdx c)).work = .none ∧ (s.cnv (convIdx c)).injWait = false → (t.cnv (convIdx c)).work = .cal true) ∧
        ((s.cnv (convIdx c)).work ≠ .none → t.cnv (convIdx c) = { s.cnv (convIdx c) with calWait := true }))) ∧
  (∀ (s : State) (c : Conv),
      s.regBit (cnvPage (convIdx c)) 0x08 1 = false →
      Runs (.bgForced c) s (fun t => t = s) ∧ Runs (.calSlotStart c) s (fun t => t = s)) ∧
  (∀ (s : State) (c : Conv),
      s.cnvLive (convIdx c) = true →
      s.regBit (cnvPage (convIdx c)) 0x08 1 = true →
      (s.cnv (convIdx c)).work = .none →
      Runs (.calSlotStart c) s (fun t => (t.cnv (convIdx c)).work = .cal false ∧ (t.cnv (convIdx c)).powered = true ∧ t = { s with cnvs := t.cnvs } ∧ (∀ j : Fin 3, j ≠ convIdx c → t.cnv j = s.cnv j))) ∧
  (∀ (s : State) (c : Conv),
      (s.cnv (convIdx c)).work ≠ .none →
      Runs (.calSlotStart c) s (fun t => t = s)) ∧
  (∀ (s : State) (c : Conv),
      s.cnvLive (convIdx c) = true →
      (s.cnv (convIdx c)).stage = .startup →
      (s.cnv (convIdx c)).work ≠ .none →
      Runs (.cnvStartupEnd c) s (fun t => t = { s with cnvs := t.cnvs } ∧ (∀ j : Fin 3, j ≠ convIdx c → t.cnv j = s.cnv j) ∧
        t.cnv (convIdx c) = { s.cnv (convIdx c) with stage := if (s.cnv (convIdx c)).work = .seq ∨ (s.cnv (convIdx c)).work = .inj then .delay else .conv })) ∧
  (∀ (s : State) (c : Conv),
      s.cnvLive (convIdx c) = true →
      (s.cnv (convIdx c)).stage = .delay →
      ((s.cnv (convIdx c)).work = .seq ∨ (s.cnv (convIdx c)).work = .inj) →
      Runs (.cnvDelayEnd c) s (fun t => t = { s with cnvs := t.cnvs } ∧ (∀ j : Fin 3, j ≠ convIdx c → t.cnv j = s.cnv j) ∧ t.cnv (convIdx c) = { s.cnv (convIdx c) with stage := .conv })) ∧
  (∀ (s : State) (c : Conv),
      (s.cnv (convIdx c)).stage = .conv →
      Runs (.cnvStartupEnd c) s (fun t => t = s) ∧ Runs (.cnvDelayEnd c) s (fun t => t = s)) ∧
  (∀ (s : State) (c : Conv) (vin err : Int) (f : Bool),
      s.cnvLive (convIdx c) = true →
      (s.cnv (convIdx c)).calVref = false →
      Runs (.cnvConversionDone c vin err) (s.modCnv (convIdx c) (fun x => { x with work := .cal f, stage := .conv, stream := false })) (fun t =>
        (t.cnv (convIdx c)).bgOfs = satInt16 (roundDiv err 16) ∧ (t.cnv (convIdx c)).bgGain = (s.cnv (convIdx c)).bgGain ∧ (t.cnv (convIdx c)).calVref = true ∧
        t = { s with cnvs := t.cnvs } ∧ (∀ j : Fin 3, j ≠ convIdx c → t.cnv j = s.cnv j))) ∧
  (∀ (s : State) (c : Conv) (vin err : Int) (f : Bool),
      s.cnvLive (convIdx c) = true →
      (s.cnv (convIdx c)).calVref = true →
      16 * (s.cnv (convIdx c)).bgOfs.toInt < 0xD55555 + err →
      Runs (.cnvConversionDone c vin err) (s.modCnv (convIdx c) (fun x => { x with work := .cal f, stage := .conv, stream := false })) (fun t =>
        let x := 0xD55555 + err - 16 * (s.cnv (convIdx c)).bgOfs.toInt
        (t.cnv (convIdx c)).bgGain = satInt16 (roundDiv ((0xD55555 - x) * 4194304) x.toNat) ∧ (t.cnv (convIdx c)).bgOfs = (s.cnv (convIdx c)).bgOfs ∧
        (t.cnv (convIdx c)).calVref = false ∧ t = { s with cnvs := t.cnvs } ∧ (∀ j : Fin 3, j ≠ convIdx c → t.cnv j = s.cnv j)))

/-- On a live converter in its conversion stage: the voltage of the entry's channel (an internal one for AGND, VREF, the readback and an absent die) with the converter's error is a code of 24 bits, for CNVC with its low 6 bits 0; it is corrected by the background calibration and by the entry's slot, clamped to 24 bits, and written to the entry's result pair with its count incremented. Below LAST the next entry follows; at LAST DONE sets and PASSES counts, and the sequence ends with CONT = 0 and begins again at entry 0 with CONT = 1. An urgent result goes to INJ_RES and sets INJ_DONE with the sequencer where it was. A further result of a CONT stream of entry 0 alone is stored, sets DONE and counts a pass. An assay conversion of REFX by CNVA is shown in REFX_OWN and leaves the list of waiting ones; where the AB check waited for it alone, its difference, the own reading minus that of CNVB (log entry 59), and its outcome are set. With no stream, or in another stage, or with no work, these change nothing. No other converter changes by a sequence's result. So that exec answers a next state for: cnvConversionDone, cnvStreamResult. -/
def Obligations.ConversionsWriteTheirResults : Prop :=
  (∀ (s : State) (c : Conv) (vin err : Int),
      s.cnvLive (convIdx c) = true →
      (s.cnv (convIdx c)).work = .seq →
      (s.cnv (convIdx c)).stage = .conv →
      (s.cnv (convIdx c)).stream = false →
      (s.cnv (convIdx c)).cur < 16 →
      Runs (.cnvConversionDone c vin err) s (fun t =>
        let k := (s.cnv (convIdx c)).cur
        let code := s.slotCorrect (convIdx c) (s.cnv (convIdx c)).entA (s.bgCorrect (convIdx c) (s.rawCode (convIdx c) (entChan (s.cnv (convIdx c)).entA) vin err))
        code ≤ 0xFFFFFF ∧ t.regFld (cnvPage (convIdx c)) (0x40 + 2 * k) 0 8 = code / 65536 ∧
        t.regFld (cnvPage (convIdx c)) (0x40 + 2 * k) 8 8 = (s.regFld (cnvPage (convIdx c)) (0x40 + 2 * k) 8 8 + 1) % 256 ∧
        (t.reg (cnvPage (convIdx c)) (0x41 + 2 * k)).toNat = code % 65536 ∧ (k < s.cnvLast (convIdx c) → (t.cnv (convIdx c)).cur = k + 1 ∧ (t.cnv (convIdx c)).seq = (s.cnv (convIdx c)).seq) ∧
        (s.cnvLast (convIdx c) ≤ k → HasEvent t (cnvPage (convIdx c)) 0 ∧ (t.reg (cnvPage (convIdx c)) 0x16).toNat = ((s.reg (cnvPage (convIdx c)) 0x16).toNat + 1) % 65536 ∧
          (if s.cnvCont (convIdx c) = true then (t.cnv (convIdx c)).cur = 0 ∧ (t.cnv (convIdx c)).seq = (s.cnv (convIdx c)).seq else (t.cnv (convIdx c)).seq = false)) ∧
        t.axes = s.axes ∧ t.mem = s.mem ∧ t.nvs = s.nvs ∧ (∀ j : Fin 3, j ≠ convIdx c → t.cnv j = s.cnv j))) ∧
  (∀ (s : State) (c : Conv) (vin err : Int),
      s.cnvLive (convIdx c) = true →
      (s.cnv (convIdx c)).work = .inj →
      (s.cnv (convIdx c)).stage = .conv →
      (s.cnv (convIdx c)).stream = false →
      Runs (.cnvConversionDone c vin err) s (fun t =>
        let code := s.slotCorrect (convIdx c) (s.cnv (convIdx c)).entA (s.bgCorrect (convIdx c) (s.rawCode (convIdx c) (entChan (s.cnv (convIdx c)).entA) vin err))
        t.regFld (cnvPage (convIdx c)) 0x0D 0 8 = code / 65536 ∧ (t.reg (cnvPage (convIdx c)) 0x0E).toNat = code % 65536 ∧ HasEvent t (cnvPage (convIdx c)) 2 ∧
        (t.cnv (convIdx c)).seq = (s.cnv (convIdx c)).seq ∧ (t.cnv (convIdx c)).cur = (s.cnv (convIdx c)).cur ∧ ((t.cnv (convIdx c)).work ≠ .inj ∨ (s.cnv (convIdx c)).injWait = true))) ∧
  (∀ (s : State) (c : Conv) (vin err : Int),
      s.cnvLive (convIdx c) = true →
      (s.cnv (convIdx c)).work = .seq →
      (s.cnv (convIdx c)).stream = true →
      (s.cnv (convIdx c)).cur = 0 →
      s.cnvLast (convIdx c) = 0 →
      s.cnvCont (convIdx c) = true →
      Runs (.cnvStreamResult c vin err) s (fun t =>
        let code := s.slotCorrect (convIdx c) (s.cnv (convIdx c)).entA (s.bgCorrect (convIdx c) (s.rawCode (convIdx c) (entChan (s.cnv (convIdx c)).entA) vin err))
        t.regFld (cnvPage (convIdx c)) 0x40 0 8 = code / 65536 ∧ (t.reg (cnvPage (convIdx c)) 0x41).toNat = code % 65536 ∧ HasEvent t (cnvPage (convIdx c)) 0 ∧
        (t.reg (cnvPage (convIdx c)) 0x16).toNat = ((s.reg (cnvPage (convIdx c)) 0x16).toNat + 1) % 65536 ∧ (t.cnv (convIdx c)).cur = 0 ∧ t.axes = s.axes ∧ t.mem = s.mem)) ∧
  (∀ (s : State) (c : Conv) (vin err : Int),
      (s.cnv (convIdx c)).stream = false →
      Runs (.cnvStreamResult c vin err) s (fun t => t = s)) ∧
  (∀ (s : State) (c : Conv) (vin err : Int),
      ((s.cnv (convIdx c)).stage ≠ .conv ∨ (s.cnv (convIdx c)).stream = true ∨ (s.cnv (convIdx c)).work = .none) →
      Runs (.cnvConversionDone c vin err) s (fun t => t = s)) ∧
  (∀ (s : State) (vin err : Int),
      s.cnvLive 0 = true →
      (s.cnv 0).work = .assay →
      (s.cnv 0).stage = .conv →
      (s.cnv 0).stream = false →
      (s.cnv 0).assay.head? = some 0x0C →
      s.assay.ab = 3 →
      s.assay.bRefx.isSome = true →
      Runs (.cnvConversionDone .cnva vin err) s (fun t =>
        let x := s.bgCorrect 0 (s.rawCode 0 0x0C vin err)
        let d := roundDiv (((x : Int) - s.assay.bRefx.getD 0) * 3000000) 16777216
        t.reg assayPage 0x10 = satWord (roundDiv ((x : Int) * 75000) 16777216).toNat ∧ t.reg assayPage 0x0D = satInt16 d ∧
        t.assay.ab = (if d.natAbs ≤ (s.reg assayPage 0x0A).toNat then 1 else 2) ∧ (t.cnv 0).assay = (s.cnv 0).assay.tail ∧ t.axes = s.axes))

/-- On an idle, enabled Assayer: RUN with CA enabled and CNVA and CNVC out of UNIT_RESET begins a run, CA pending with both its conversions waiting, AB pending where enabled, CNVB present and out of UNIT_RESET (that it is else not performed from the start is the model's reading, log entry 59), and no register changes; a periodic start, with PERIOD not 0, does so too. With no check enabled the run is done at once: no outcome, DONE sets, RUNS counts. RUN during a run only sets REFUSED; a periodic start then, or with PERIOD 0 or the unit disabled, does nothing. A monitor that is on, compared with an input of its kind (R368), an input that is beyond a threshold coming back only 4 mV inside it (which side the hysteresis lies on is the model's choice, log entry 99): one that disagrees with its state counts, and the state changes after CONFIRM + 1 in succession, with its event where it left the window; before that, and where it agrees (the count clears), nothing but the monitor changes. A monitor that is off does nothing. No other monitor changes. A threshold that would cross the other is ignored with THR_REJECTED; any other is stored; nothing else changes. So that exec answers a next state for: run, assayPeriodicStart, wmonCompare, wmonThresholdWrite. -/
def Obligations.AssayRunsAndWindowsAreWatched : Prop :=
  (∀ (s : State),
      PortReady s assayPage →
      s.assayLive = true →
      s.assay.busy = false →
      s.regBit assayPage 0x08 9 = true →
      s.inUnitReset (cnvPage 0) = false →
      s.inUnitReset (cnvPage 2) = false →
      Runs .run s (fun t => t.assay.busy = true ∧ t.assay.ca = 3 ∧ t.assay.ab = (if s.regBit assayPage 0x08 8 = true ∧ s.part.hasCnvB = true ∧ s.inUnitReset (cnvPage 1) = false then 3 else 0) ∧
        (t.cnv 0).assay.contains 0x0D = true ∧ (t.cnv 2).assay.contains 0x0D = true ∧ t.regs = s.regs ∧ t.axes = s.axes)) ∧
  (∀ (s : State),
      PortReady s assayPage →
      s.assayLive = true →
      s.assay.busy = false →
      s.regFld assayPage 0x08 8 3 = 0 →
      Runs .run s (fun t => HasEvent t assayPage 0 ∧ t.assay.busy = false ∧ t.assay.ab = 0 ∧ t.assay.ca = 0 ∧ t.assay.twin = 0 ∧
        (t.reg assayPage 0x12).toNat = ((s.reg assayPage 0x12).toNat + 1) % 65536 ∧ SameRegsBut [(assayPage, 0x03), (assayPage, 0x12)] s t ∧
        t = { s with unlock := t.unlock, regs := t.regs, assay := t.assay })) ∧
  (∀ (s : State),
      PortReady s assayPage →
      s.assayLive = true →
      s.assay.busy = true →
      Runs .run s (fun t => OnlyRegs s t ∧ HasEvent t assayPage 2 ∧ SameRegsBut [(assayPage, 0x03)] s t)) ∧
  (∀ (s : State),
      s.assayLive = true →
      s.assay.busy = false →
      s.regFld assayPage 0x08 0 8 ≠ 0 →
      s.regBit assayPage 0x08 9 = true →
      s.inUnitReset (cnvPage 0) = false →
      s.inUnitReset (cnvPage 2) = false →
      Runs .assayPeriodicStart s (fun t => t.assay.busy = true ∧ t.assay.ca = 3 ∧ (t.cnv 0).assay.contains 0x0D = true ∧ (t.cnv 2).assay.contains 0x0D = true ∧
        t = { s with cnvs := t.cnvs, assay := t.assay })) ∧
  (∀ (s : State),
      (s.assay.busy = true ∨ s.regFld assayPage 0x08 0 8 = 0 ∨ s.regBit assayPage 0x01 0 = false) →
      Runs .assayPeriodicStart s (fun t => t = s)) ∧
  (∀ (s : State) (m : Fin 8) (x : WmonIn),
      s.wmonOn m = true →
      (s.wmonLevel m x).isSome = true →
      ((decide ((s.wmonLevel m x).getD 0 < (s.reg wmonPage (0x10 + 2 * m.val)).toNat * 1000000 + (if (s.wmon m).lo then 1638400 else 0)) || decide ((s.reg wmonPage (0x11 + 2 * m.val)).toNat * 1000000 - (if (s.wmon m).hi then 1638400 else 0) < (s.wmonLevel m x).getD 0)) ≠ (s.wmon m).out) →
      Runs (.wmonCompare m x) s (fun t =>
        if (s.wmon m).agree < s.regFld wmonPage 0x0D (2 * m.val) 2 then
          t = { s with wmons := t.wmons } ∧ (t.wmon m).out = (s.wmon m).out ∧ (t.wmon m).agree = (s.wmon m).agree + 1 ∧ ∀ k : Fin 8, k ≠ m → t.wmon k = s.wmon k
        else (t.wmon m).out = (decide ((s.wmonLevel m x).getD 0 < (s.reg wmonPage (0x10 + 2 * m.val)).toNat * 1000000 + (if (s.wmon m).lo then 1638400 else 0)) || decide ((s.reg wmonPage (0x11 + 2 * m.val)).toNat * 1000000 - (if (s.wmon m).hi then 1638400 else 0) < (s.wmonLevel m x).getD 0)) ∧ (t.wmon m).agree = 0 ∧ ((t.wmon m).out = true → HasEvent t wmonPage m.val) ∧
          ((t.wmon m).out = false → t = { s with wmons := t.wmons }) ∧ ∀ k : Fin 8, k ≠ m → t.wmon k = s.wmon k)) ∧
  (∀ (s : State) (m : Fin 8) (x : WmonIn),
      s.wmonOn m = true →
      (s.wmonLevel m x).isSome = true →
      ((decide ((s.wmonLevel m x).getD 0 < (s.reg wmonPage (0x10 + 2 * m.val)).toNat * 1000000 + (if (s.wmon m).lo then 1638400 else 0)) || decide ((s.reg wmonPage (0x11 + 2 * m.val)).toNat * 1000000 - (if (s.wmon m).hi then 1638400 else 0) < (s.wmonLevel m x).getD 0)) = (s.wmon m).out) →
      Runs (.wmonCompare m x) s (fun t => t = { s with wmons := t.wmons } ∧ (t.wmon m).out = (s.wmon m).out ∧ (t.wmon m).agree = 0 ∧
        ∀ k : Fin 8, k ≠ m → t.wmon k = s.wmon k)) ∧
  (∀ (s : State) (m : Fin 8) (x : WmonIn),
      s.wmonOn m = false →
      Runs (.wmonCompare m x) s (fun t => t = s)) ∧
  (∀ (s : State) (m : Fin 8) (hi : Bool) (v : Word),
      PortReady s wmonPage →
      Runs (.wmonThresholdWrite m hi v) s (fun t => OnlyRegs s t ∧
        if (if hi then (s.reg wmonPage (0x10 + 2 * m.val)).toNat ≤ (v &&& 0x3FF#16).toNat else (v &&& 0x3FF#16).toNat ≤ (s.reg wmonPage (0x11 + 2 * m.val)).toNat) then
          t.reg wmonPage ((if hi then 0x11 else 0x10) + 2 * m.val) = v &&& 0x3FF#16 ∧ SameRegsBut [(wmonPage, (if hi then 0x11 else 0x10) + 2 * m.val)] s t
        else HasEvent t wmonPage 8 ∧ SameRegsBut [(wmonPage, 0x03)] s t))

/-- With CHAND ready: FLASH on an enabled string with a flash lamp, in RUN with full service, with no flash, hold-off, cutoff or stale temperature: the string is in the flash with its derated current and FLASH_MAX of that moment; with no broken tap the lamps of the flash that are not bypassed are lit and no others; the other strings stand and no event sets; a string whose trigger takes a line that pulses in the cycle of the FLASH is in one flash with it. Where one of those conditions fails, the lowest cause is reported with FLASH_REFUSED and nothing else changes. A target reached in the flash while its group is watched darkens that group on every string, latches its integral as PD_CHARGE and the time as END_T, and sets EXPOSE_SHORT within 2 us; where no tap is broken the flash ends where no other lamp of it is lit, with FLASH_DONE and a length at most 100 ns above that time; a group not watched, or a time beyond FLASH_MAX, changes nothing. FLASH_MAX ends the flash: the shortest FLASH_MAX is the length, FLASH_CNT counts, FLASH_DONE sets, every lamp of the flash is dark with no window open before the next PWM period, a string above code 273 rests 19 times the length from the end on, and UNDER names the watched groups without their target; with no flash it changes nothing. The shortest FLASH_MAX of several strings, PD_CHARGE at the target, the 100 ns and the hold-off by the current at the start are readings (log entry 60). So that exec answers a next state for: flash, exposureTargetReached, flashMaxExpiry. -/
def Obligations.FlashesStartEndAndRest : Prop :=
  (∀ (s : State) (n : Fin 4) (li de : Word) (cy : Nat),
      PortReady s chandPage →
      ((li = 0#16 ∧ de = 0#16) ∨ (s.fab.due = [] ∧ s.fab.pend = 0#16)) →
      s.regBit chandPage 0x01 0 = true →
      s.regBit chandPage (sOff n.val 0) 0 = true →
      allLamps.any (s.lampFlash n) = true →
      s.flashing = false →
      (s.str n).holdoff ≤ (s.timeAt cy).time.total →
      s.pwr.pstate = .run →
      s.reduced = false →
      s.chand.cutoff = false →
      s.chand.stale = 0#2 →
      Runs (.flash n li de cy) s (fun t => (t.str n).inFlash = true ∧ (t.str n).flashCode = s.derated (s.strReg n 2) ∧ (t.str n).flashUs = s.strReg n 4 ∧
        ((s.str n).broken = 0#9 → ∀ k : Fin 8, (t.lamp n k).lit = (s.lampFlash n k && !(s.str n).bypass.getLsbD k.val)) ∧ t.chand.ended = 0#3 ∧ t.chand.began = (s.timeAt cy).time.total ∧ (∀ m : Fin 4, m ≠ n → t.str m = s.str m) ∧
        SameRegsBut [(chandPage, 0x08), (chandPage, 0x0F), (chandPage, 0x10), (chandPage, 0x11), (chandPage, 0x12), (chandPage, 0x13), (chandPage, 0x14)] s t ∧
        t = { s with unlock := t.unlock, regs := t.regs, chand := t.chand, time := (s.timeAt cy).time })) ∧
  (∀ (s : State) (n : Fin 4) (li de : Word) (cy : Nat),
      PortReady s chandPage →
      ((li = 0#16 ∧ de = 0#16) ∨ (s.fab.due = [] ∧ s.fab.pend = 0#16)) →
      (s.pwr.pstate ≠ .run ∨ s.reduced = true) →
      Runs (.flash n li de cy) s (fun t => OnlyRegs (s.timeAt cy) t ∧ HasEvent t chandPage 1 ∧ t.regFld chandPage 0x08 0 3 = 1 ∧ SameRegsBut [(chandPage, 0x03), (chandPage, 0x08)] s t)) ∧
  (∀ (s : State) (n : Fin 4) (li de : Word) (cy : Nat),
      PortReady s chandPage →
      ((li = 0#16 ∧ de = 0#16) ∨ (s.fab.due = [] ∧ s.fab.pend = 0#16)) →
      s.pwr.pstate = .run →
      s.reduced = false →
      (s.regBit chandPage 0x01 0 = false ∨ s.regBit chandPage (sOff n.val 0) 0 = false ∨ allLamps.any (s.lampFlash n) = false) →
      Runs (.flash n li de cy) s (fun t => OnlyRegs (s.timeAt cy) t ∧ HasEvent t chandPage 1 ∧ t.regFld chandPage 0x08 0 3 = 2 ∧ SameRegsBut [(chandPage, 0x03), (chandPage, 0x08)] s t)) ∧
  (∀ (s : State) (n : Fin 4) (li de : Word) (cy : Nat),
      PortReady s chandPage →
      ((li = 0#16 ∧ de = 0#16) ∨ (s.fab.due = [] ∧ s.fab.pend = 0#16)) →
      s.regBit chandPage 0x01 0 = true →
      s.regBit chandPage (sOff n.val 0) 0 = true →
      allLamps.any (s.lampFlash n) = true →
      s.pwr.pstate = .run →
      s.reduced = false →
      (s.flashing = true ∨ (s.timeAt cy).time.total < (s.str n).holdoff ∨ s.chand.cutoff = true ∨ s.chand.stale ≠ 0#2) →
      Runs (.flash n li de cy) s (fun t => OnlyRegs (s.timeAt cy) t ∧ HasEvent t chandPage 1 ∧ SameRegsBut [(chandPage, 0x03), (chandPage, 0x08)] s t ∧
        t.regFld chandPage 0x08 0 3 = (if s.flashing = true then 3 else if (s.timeAt cy).time.total < (s.str n).holdoff then 4 else 5))) ∧
  (∀ (s : State) (n m : Fin 4) (l : Fin 16) (de : Word) (cy : Nat),
      PortReady s chandPage →
      s.regBit chandPage 0x01 0 = true →
      s.regBit chandPage (sOff n.val 0) 0 = true →
      allLamps.any (s.lampFlash n) = true →
      s.flashing = false →
      (s.str n).holdoff ≤ (s.timeAt cy).time.total →
      s.regBit chandPage (sOff m.val 0) 0 = true →
      allLamps.any (s.lampFlash m) = true →
      (s.str m).holdoff ≤ (s.timeAt cy).time.total →
      s.pwr.pstate = .run →
      s.reduced = false →
      s.chand.cutoff = false →
      s.chand.stale = 0#2 →
      s.fabricOn = true →
      s.fab.due = [bitWord l.val] →
      s.regBit chandPage (sOff m.val 1) 5 = true →
      s.regFld chandPage (sOff m.val 1) 0 5 = l.val →
      (∀ k : Fin 4, k ≠ m → s.regBit chandPage (sOff k.val 1) 5 = false) →
      Runs (.flash n (bitWord l.val) de cy) s (fun t => (t.str n).inFlash = true ∧ (t.str m).inFlash = true ∧ t.chand.began = (s.timeAt cy).time.total ∧
        t.reg chandPage 0x03 = s.reg chandPage 0x03 ∧ ∀ k : Fin 4, k ≠ n → k ≠ m → t.str k = s.str k)) ∧
  (∀ (s : State) (g : Fin 3) (ti : Nat),
      s.flashing = true →
      s.chand.watch.getLsbD g.val = true →
      s.chand.ended.getLsbD g.val = false →
      ti ≤ 100 * s.flashMax →
      (∀ n : Fin 4, (s.str n).broken = 0#9) →
      Runs (.exposureTargetReached g ti) s (fun t => t.reg chandPage (0x0F + g.val) = s.reg chandPage (0x0C + g.val) ∧
        (t.reg chandPage (0x12 + g.val)).toNat = min ti 65535 ∧ t.chand.ended.getLsbD g.val = true ∧ (ti ≤ 200 → HasEvent t chandPage 3) ∧
        (∀ n : Fin 4, ∀ k : Fin 8, s.lampGroup n k = g.val + 1 → (t.lamp n k).lit = false) ∧
        (t.flashing = false ↔ ∀ n : Fin 4, ∀ k : Fin 8, (s.str n).inFlash = true → (s.lamp n k).lit = true → s.lampGroup n k = g.val + 1) ∧
        (t.flashing = false → HasEvent t chandPage 0 ∧ ti ≤ (t.reg chandPage 0x09).toNat ∧ (t.reg chandPage 0x09).toNat ≤ ti + 10) ∧ t.axes = s.axes ∧ t.mem = s.mem ∧ t.nvs = s.nvs)) ∧
  (∀ (s : State) (g : Fin 3) (ti : Nat),
      (s.flashing = false ∨ s.chand.watch.getLsbD g.val = false ∨ s.chand.ended.getLsbD g.val = true ∨ 100 * s.flashMax < ti) →
      Runs (.exposureTargetReached g ti) s (fun t => t = s)) ∧
  (∀ (s : State) (n : Fin 4),
      (s.str n).inFlash = true →
      Runs .flashMaxExpiry s (fun t => t.flashing = false ∧ HasEvent t chandPage 0 ∧
        (t.reg chandPage 0x09).toNat = min (100 * s.flashMax) 65535 ∧ s.flashMax ≤ (s.str n).flashUs ∧ (t.reg chandPage 0x0A).toNat = ((s.reg chandPage 0x0A).toNat + 1) % 65536 ∧
        t.regFld chandPage 0x08 4 3 = (s.chand.watch &&& ~~~s.chand.ended).toNat ∧ (s.chand.watch &&& ~~~s.chand.ended ≠ 0#3 → HasEvent t chandPage 2) ∧
        (∀ k : Fin 8, (t.lamp n k).lit = false ∧ (t.lamp n k).window = 0 ∧ (t.lamp n k).probe = false) ∧ (t.str n).holdoff = (if 273 < (s.str n).flashCode then s.chand.began + 2000 * s.flashMax * (10 * nsUnit) else (s.str n).holdoff) ∧
        t = { s with regs := t.regs, chand := t.chand })) ∧
  (∀ (s : State),
      s.flashing = false →
      Runs .flashMaxExpiry s (fun t => t = s))

/-- APPLY makes every level of the string the start of a fade to its staged level over FADE_TIME steps, restarts the count and shows FADING; nothing else of the unit changes. A fade step below the last moves each level to the linear value truncated toward its start (the model's choice, log entry 61); the last gives the staged levels, ends the fade and sets FADE_DONE. A PWM period without fade, feedback or pairing gives every open lamp of a lit string its level, or with GAMMA its power 2.2 rounded, and a closed lamp 0; a string that is off has only 0. The open window is the duty less the open time that the lamp still owes in this interval; a lamp of duty 1 to 81, or 0 with MEAS_AT_ZERO, on a string with current has its opening of 3 us in the interval's first such period (the model's choice of the period, log entry 104) and owes that time where its duty is not 0. During its flash a string forms no duties. A photodiode window shows the three means; of each group with its EN bit it raises GSCALE by STEP below 99 percent of the target, lowers it above 101 percent, leaves it between, clamps it to 0x2000 to 0xFFFF with FB_LIMIT; a group without it keeps its GSCALE. The window is discarded where a flash overlapped it. So that exec answers a next state for: apply, fadeStep, lampPwmPeriod, feedbackWindowEnd. -/
def Obligations.LampsFadeDimAndFollowTheirColour : Prop :=
  (∀ (s : State) (n : Fin 4),
      PortReady s chandPage →
      Runs (.apply n) s (fun t => (t.str n).fading = true ∧ (t.str n).fadeAt = 0 ∧ (t.str n).fadeLen = s.strReg n 5 ∧
        (∀ k : Fin 8, t.lamp n k = { s.lamp n k with from_ := (s.lamp n k).level, to_ := s.strReg n (0x18 + k.val) }) ∧ (∀ m : Fin 4, m ≠ n → t.str m = s.str m) ∧
        t = { s with unlock := t.unlock, chand := t.chand })) ∧
  (∀ (s : State) (n : Fin 4),
      s.chandLive = true →
      (s.str n).fading = true →
      (s.str n).fadeAt + 1 < (s.str n).fadeLen →
      Runs (.fadeStep n) s (fun t => (t.str n).fading = true ∧ (t.str n).fadeAt = (s.str n).fadeAt + 1 ∧
        (∀ k : Fin 8, ((t.lamp n k).level : Int) = max 0 ((s.lamp n k).from_ + Int.tdiv (((s.lamp n k).to_ - (s.lamp n k).from_ : Int) * ((s.str n).fadeAt + 1 : Nat)) (s.str n).fadeLen)) ∧
        (∀ m : Fin 4, m ≠ n → t.str m = s.str m) ∧ t = { s with chand := t.chand })) ∧
  (∀ (s : State) (n : Fin 4),
      s.chandLive = true →
      (s.str n).fading = true →
      0 < (s.str n).fadeLen →
      (s.str n).fadeLen ≤ (s.str n).fadeAt + 1 →
      Runs (.fadeStep n) s (fun t => (t.str n).fading = false ∧ HasEvent t chandPage 7 ∧ (∀ k : Fin 8, (t.lamp n k).level = (s.lamp n k).to_) ∧
        (∀ m : Fin 4, m ≠ n → t.str m = s.str m) ∧ SameRegsBut [(chandPage, 0x03)] s t ∧ t = { s with regs := t.regs, chand := t.chand })) ∧
  (∀ (s : State) (n : Fin 4),
      ((s.str n).fading = false ∨ (s.str n).fadeLen = 0) →
      Runs (.fadeStep n) s (fun t => t = s)) ∧
  (∀ (s : State) (n : Fin 4),
      s.chandLive = true →
      (s.str n).inFlash = false →
      ((s.str n).fading = false ∨ (s.str n).fadeLen ≠ 0) →
      s.strOn n = true →
      s.regFld chandPage 0x1E 0 3 = 0 →
      (s.str n).broken = 0#9 →
      (∀ k : Fin 8, (s.lamp n k).level ≤ 4095) →
      Runs (.lampPwmPeriod n) s (fun t => t = { s with chand := t.chand } ∧ (∀ m : Fin 4, m ≠ n → t.str m = s.str m) ∧ ∀ k : Fin 8,
        let a := s.lamp n k
        let b := t.lamp n k
        let shut := s.lampCount n ≤ k.val ∨ (s.str n).bypass.getLsbD k.val = true
        let back := min a.owed (10 * b.duty)
        b = { a with duty := b.duty, window := b.window, probe := b.probe, probed := b.probed, owed := b.owed } ∧
        b.duty = (if shut then 0 else if s.regBit chandPage (sOff n.val 0) 4 = true then gammaOf a.level else a.level) ∧
        b.window = 10 * b.duty - back ∧ b.probed = (a.probed || b.probe) ∧
        (b.probe = true ↔ (¬shut ∧ s.strLit n = true ∧ a.probed = false ∧ b.duty ≤ 81 ∧ (0 < b.duty ∨ s.regBit chandPage (sOff n.val 0) 6 = true))) ∧
        b.owed = a.owed - back + (if b.probe = true ∧ 0 < b.duty then 2457 else 0))) ∧
  (∀ (s : State) (n : Fin 4),
      s.chandLive = true →
      (s.str n).inFlash = false →
      ((s.str n).fading = false ∨ (s.str n).fadeLen ≠ 0) →
      s.strOn n = false →
      Runs (.lampPwmPeriod n) s (fun t => t = { s with chand := t.chand } ∧ ∀ k : Fin 8, t.lamp n k = { s.lamp n k with duty := 0, window := 0, probe := false, owed := (t.lamp n k).owed } ∧
        ((s.str n).broken = 0#9 → (t.lamp n k).owed = (s.lamp n k).owed))) ∧
  (∀ (s : State) (n : Fin 4),
      ((s.str n).inFlash = true ∨ s.chandLive = false) →
      Runs (.lampPwmPeriod n) s (fun t => t = s)) ∧
  (∀ (s : State) (wr wg wb : Word),
      s.chandLive = true →
      s.chand.dirty = false →
      Runs (.feedbackWindowEnd wr wg wb) s (fun t => t.reg chandPage 0x18 = wr ∧ t.reg chandPage 0x19 = wg ∧ t.reg chandPage 0x1A = wb ∧
        SameRegsBut [(chandPage, 0x03), (chandPage, 0x18), (chandPage, 0x19), (chandPage, 0x1A), (chandPage, 0x1B), (chandPage, 0x1C), (chandPage, 0x1D)] s t ∧
        t = { s with regs := t.regs } ∧ ∀ g : Fin 3,
          let me := (([wr, wg, wb][g.val]?).getD 0#16).toNat
          let sc := (s.reg chandPage (0x1B + g.val)).toNat
          let st := s.regFld chandPage 0x1E 8 8
          let tg := (s.reg chandPage (0x15 + g.val)).toNat
          let on := s.regBit chandPage 0x1E g.val
          (t.reg chandPage (0x1B + g.val)).toNat = (if on = false then sc else if 100 * me < 99 * tg then min 0xFFFF (sc + st)
            else if 101 * tg < 100 * me then max 0x2000 (sc - st) else sc) ∧
          (on = true ∧ 100 * me < 99 * tg ∧ 0xFFFF ≤ sc + st → HasEvent t chandPage 8) ∧
          (on = true ∧ 99 * tg ≤ 100 * me ∧ 101 * tg < 100 * me ∧ sc - st ≤ 0x2000 → HasEvent t chandPage 8))) ∧
  (∀ (s : State) (wr wg wb : Word),
      s.chandLive = true →
      s.chand.dirty = true →
      Runs (.feedbackWindowEnd wr wg wb) s (fun t => t = { s with chand := { s.chand with dirty := s.flashing } }))

/-- A sample is taken of a lamp of a lit string whose switch is open for 1 us or more: in the flash a lit one, else one whose window or inserted opening is that long or that a tap test holds open; of no other. One at VF_OPEN or more in a flash that lacks headroom, with no broken tap, darkens its lamp at once, counted for this interval. With no suspect or broken tap an interval shows a sample as VLAMP; a lamp that reads VF_OPEN or more for the second interval in succession is bypassed with LAMP_FAULT, one at VF_SHORT or less for the second sets LAMP_SHORT; a reading between clears both counts, and an interval that a loss of headroom has counted counts once. A tap test is refused with CFG_REJECTED while the string is dark, a flash runs or TAP_SEL is above N, else makes the tap busy, and the lamps beside it owe the 20 us (log entry 104); its end sets TAP_RESULT and ends TAP_BUSY, with TAP_BROKEN on a rise above 1 V, and below ends the suspicion; with TAP_AUTO the next suspect tap that waits follows. CLR_LAMP clears the string's faults. HEADROOM shows the loss and sets its event when it begins; in a flash with no broken tap a lit lamp at VF_OPEN or more goes dark, counted for this interval. With DERATE_SRC 1 a die temperature sets TEMP and FACTOR by R389; at CUTOFF every string is dark and the flash over, its length the time from its start to the cycle told, 5 degrees lower the cutoff ends, between them it keeps; above 150 it is noted for SAFE (here where it was, or is not, so hot). A stale selected NTC sets TEMP_STALE and darkens every string; one not selected changes nothing. Other strings stand; axes and memories too. So that exec answers a next state for: lampVoltageSample, lampJudgeInterval, headroom, tapTest, tapTestEnd, clrLamp, dieTempSample, tempStale. -/
def Obligations.LampFaultsAndHeatAreJudged : Prop :=
  (∀ (s : State) (n : Fin 4) (k : Fin 8) (v : Byte),
      s.chandLive = true →
      s.strLit n = true →
      k.val < s.lampCount n →
      s.lampOpens n k = true →
      ((s.str n).inFlash = false ∨ (s.str n).headroom = false ∨ v.toNat < s.strReg n 7) →
      Runs (.lampVoltageSample n k v) s (fun t => t = { s with chand := t.chand } ∧ t.lamp n k = { s.lamp n k with sample := some v.toNat } ∧ (∀ m : Fin 4, m ≠ n → t.str m = s.str m) ∧
        ∀ j : Fin 8, j ≠ k → t.lamp n j = s.lamp n j)) ∧
  (∀ (s : State) (n : Fin 4) (k : Fin 8) (v : Byte),
      s.chandLive = true →
      s.strLit n = true →
      k.val < s.lampCount n →
      (s.lamp n k).lit = true →
      (s.str n).broken = 0#9 →
      (s.str n).inFlash = true →
      (s.str n).headroom = true →
      s.strReg n 7 ≤ v.toNat →
      Runs (.lampVoltageSample n k v) s (fun t => t = { s with chand := t.chand } ∧ (∀ m : Fin 4, m ≠ n → t.str m = s.str m) ∧ (∀ j : Fin 8, j ≠ k → t.lamp n j = s.lamp n j) ∧
        t.lamp n k = { s.lamp n k with sample := some v.toNat, lit := false, opens := max 1 (s.lamp n k).opens, counted := true })) ∧
  (∀ (s : State) (n : Fin 4) (k : Fin 8) (v : Byte),
      (s.strLit n = false ∨ s.lampCount n ≤ k.val ∨ s.lampOpens n k = false) →
      Runs (.lampVoltageSample n k v) s (fun t => t = s)) ∧
  (∀ (s : State) (n : Fin 4) (k : Fin 8),
      k.val < s.lampCount n →
      (s.str n).broken = 0#9 →
      (s.str n).bypass = 0#8 →
      (s.lampOpens n k = true ↔ (if (s.str n).inFlash = true then (s.lamp n k).lit = true
        else ((s.str n).tapBusy = true ∧ (k.val = (s.str n).tapAt ∨ k.val + 1 = (s.str n).tapAt)) ∨ (s.lamp n k).probe = true ∨ 819 ≤ (s.lamp n k).window))) ∧
  (∀ (s : State) (n : Fin 4) (k : Fin 8) (v o sh : Nat) (cn : Bool),
      s.chandLive = true →
      (s.str n).suspect = 0#9 →
      (s.str n).broken = 0#9 →
      (s.suspects n (allLamps.map (fun j => (if j = k then some v else (s.lamp n j).sample))) = []) →
      Runs (.lampJudgeInterval n) (s.modLamp n k (fun l => { l with sample := some v, opens := o, shorts := sh, counted := cn })) (fun t =>
        let o' := if cn = true then o else if s.strReg n 7 ≤ v then o + 1 else 0
        (t.lamp n k).vlamp = v ∧ (t.lamp n k).sample = none ∧ (t.lamp n k).counted = false ∧
        (t.lamp n k).opens = min o' 2 ∧ (t.lamp n k).shorts = (if v ≤ s.strReg n 8 then min 2 (sh + 1) else 0) ∧
        (2 ≤ o' → (t.str n).bypass.getLsbD k.val = true ∧ HasEvent t chandPage 4) ∧
        (v ≤ s.strReg n 8 ∧ 1 ≤ sh → t.regBit chandPage (sOff n.val 0xC) k.val = true) ∧
        SameRegsBut [(chandPage, 0x03), (chandPage, sOff n.val 0xC)] s t ∧ (∀ m : Fin 4, m ≠ n → t.str m = s.str m) ∧ t.axes = s.axes ∧ t.mem = s.mem ∧ t.nvs = s.nvs)) ∧
  (∀ (s : State) (n : Fin 4),
      s.chandLive = true →
      (∀ k : Fin 8, (s.lamp n k).sample = none) →
      (s.str n).suspect = 0#9 →
      Runs (.lampJudgeInterval n) s (fun t => t = { s with chand := t.chand } ∧ (∀ m : Fin 4, m ≠ n → t.str m = s.str m) ∧
        ∀ k : Fin 8, t.lamp n k = { s.lamp n k with owed := 0, probe := false, probed := false, counted := false })) ∧
  (∀ (s : State) (n : Fin 4) (low : Bool),
      s.chandLive = true →
      (s.str n).inFlash = false →
      Runs (.headroom n low) s (fun t => t = { s with regs := t.regs, chand := t.chand } ∧ t.str n = { s.str n with headroom := low } ∧ (∀ m : Fin 4, m ≠ n → t.str m = s.str m) ∧
        SameRegsBut [(chandPage, 0x03)] s t ∧ (if low = true ∧ (s.str n).headroom = false then HasEvent t chandPage 11 else t.regs = s.regs))) ∧
  (∀ (s : State) (n : Fin 4) (k : Fin 8),
      s.chandLive = true →
      (s.str n).inFlash = true →
      (s.str n).broken = 0#9 →
      Runs (.headroom n true) s (fun t => (t.str n).headroom = true ∧ (∀ m : Fin 4, m ≠ n → t.str m = s.str m) ∧ (t.lamp n k).lit = ((s.lamp n k).lit && !decide (s.strReg n 7 ≤ (s.lamp n k).sample.getD (s.lamp n k).vlamp)) ∧
        ((s.lamp n k).lit = true ∧ s.strReg n 7 ≤ (s.lamp n k).sample.getD (s.lamp n k).vlamp → (t.lamp n k).counted = true ∧ (t.lamp n k).opens = max 1 (s.lamp n k).opens) ∧
        SameRegsBut [(chandPage, 0x03)] s t)) ∧
  (∀ (s : State) (n : Fin 4),
      PortReady s chandPage →
      Runs (.tapTest n) s (fun t => t = { s with unlock := t.unlock, regs := t.regs, chand := t.chand } ∧ (∀ m : Fin 4, m ≠ n → t.str m = s.str m) ∧
        if s.strLit n = false ∨ s.flashing = true ∨ s.lampCount n < s.regFld chandPage (sOff n.val 0xF) 0 4 then HasEvent t chandPage 13 ∧ SameRegsBut [(chandPage, 0x03)] s t ∧ t.chand = s.chand
        else t.regs = s.regs ∧ (t.str n).tapBusy = true ∧ ((s.str n).tapBusy = true → t.chand = s.chand) ∧
          ((s.str n).tapBusy = false → (t.str n).tapAt = s.regFld chandPage (sOff n.val 0xF) 0 4 ∧ ∀ k : Fin 8, t.lamp n k = { s.lamp n k with owed :=
            (s.lamp n k).owed + (if t.tapHeld n k.val = true then 16380 else 0) } ∧
            ((s.str n).broken = 0#9 → (t.tapHeld n k.val = true ↔ k.val < s.lampCount n ∧ (k.val = (t.str n).tapAt ∨ k.val + 1 = (t.str n).tapAt)))))) ∧
  (∀ (s : State) (n : Fin 4) (mv : Nat),
      (s.str n).tapBusy = true →
      1000 < mv →
      (s.str n).tapWait = 0#9 →
      Runs (.tapTestEnd n mv) s (fun t => t.str n = { s.str n with tapBusy := false, broken := (s.str n).broken ||| (1#9 <<< (s.str n).tapAt) } ∧ (∀ m : Fin 4, m ≠ n → t.str m = s.str m) ∧
        HasEvent t chandPage 6 ∧ SameRegsBut [(chandPage, 0x03)] s t ∧ t = { s with regs := t.regs, chand := t.chand })) ∧
  (∀ (s : State) (n : Fin 4) (mv : Nat),
      (s.str n).tapBusy = true →
      mv ≤ 1000 →
      (s.str n).tapWait = 0#9 →
      Runs (.tapTestEnd n mv) s (fun t => (t.str n).tapBusy = false ∧ (t.str n).broken = (s.str n).broken ∧ HasEvent t chandPage 6 ∧
        (t.str n).suspect = (s.str n).suspect &&& ~~~(1#9 <<< (s.str n).tapAt) ∧ (∀ m : Fin 4, m ≠ n → t.str m = s.str m) ∧ t.axes = s.axes ∧ t.mem = s.mem ∧ t.nvs = s.nvs)) ∧
  (∀ (s : State) (n : Fin 4) (mv : Nat) (j : Fin 8),
      (s.str n).tapBusy = true →
      1000 < mv →
      1 ≤ j.val →
      j.val < s.lampCount n →
      (s.str n).tapWait = 1#9 <<< j.val →
      (s.str n).suspect.getLsbD j.val = true →
      (s.str n).broken.getLsbD j.val = false →
      j.val ≠ (s.str n).tapAt →
      s.regBit chandPage (sOff n.val 0) 5 = true →
      s.strLit n = true →
      s.flashing = false →
      Runs (.tapTestEnd n mv) s (fun t => (t.str n).tapBusy = true ∧ (t.str n).tapAt = j.val ∧ (t.str n).tapWait = 0#9 ∧
        (t.str n).broken = (s.str n).broken ||| (1#9 <<< (s.str n).tapAt) ∧ HasEvent t chandPage 6 ∧ (∀ m : Fin 4, m ≠ n → t.str m = s.str m) ∧ t.axes = s.axes ∧ t.mem = s.mem ∧ t.nvs = s.nvs)) ∧
  (∀ (s : State) (n : Fin 4) (mv : Nat),
      (s.str n).tapBusy = false →
      Runs (.tapTestEnd n mv) s (fun t => t = s)) ∧
  (∀ (s : State) (n : Fin 4),
      PortReady s chandPage →
      Runs (.clrLamp n) s (fun t => t = { s with unlock := t.unlock, regs := t.regs, chand := t.chand } ∧ t.reg chandPage (sOff n.val 0xC) = 0#16 ∧
        (t.str n).bypass = 0#8 ∧ (t.str n).suspect = 0#9 ∧ (t.str n).broken = 0#9 ∧ (∀ k : Fin 8, (t.lamp n k).opens = 0 ∧ (t.lamp n k).shorts = 0) ∧
        SameRegsBut [(chandPage, sOff n.val 0xC)] s t ∧ (∀ m : Fin 4, m ≠ n → t.str m = s.str m))) ∧
  (∀ (s : State) (c : Int) (cy : Nat),
      s.chandLive = true →
      s.derateSrc = 1 →
      -1000 < c →
      c < 1000 →
      (c ≤ 150 ∨ s.sup.ctrlHot = true) →
      Runs (.dieTempSample c cy) s (fun t =>
        let knee : Int := (s.reg chandPage 0x21).toNat
        let cut : Int := (s.reg chandPage 0x23).toNat
        let slope : Int := s.regFld chandPage 0x22 0 10
        (t.reg chandPage 0x26).toInt = c ∧ t.sup = { s.sup with ctrlHot := decide (150 < c) } ∧
        ((t.reg chandPage 0x27).toNat : Int) = (if c ≤ knee then 1024 else if cut ≤ c then 0 else max 0 (1024 * (1000 - slope * (c - knee)) / 1000)) ∧
        (knee < c ∧ (s.reg chandPage 0x26).toInt ≤ knee → HasEvent t chandPage 9) ∧
        (cut ≤ c → t.chand.cutoff = true ∧ t.flashing = false ∧ (s.flashing = true → (t.reg chandPage 0x09).toNat = min (s.timeAt cy).flashSoFar 65535) ∧ (s.chand.cutoff = false → HasEvent t chandPage 10) ∧ ∀ n : Fin 4, t.strLit n = false) ∧
        (c < cut ∧ c ≤ cut - 5 → t.chand.cutoff = false) ∧ (c < cut ∧ cut - 5 < c → t.chand.cutoff = s.chand.cutoff) ∧ t.axes = s.axes ∧ t.mem = s.mem ∧ t.nvs = s.nvs)) ∧
  (∀ (s : State) (k : Fin 2) (cy : Nat),
      s.chandLive = true →
      (s.derateSrc = 4 ∨ s.derateSrc = 2 + k.val) →
      Runs (.tempStale k cy) s (fun t => t.chand.stale = s.chand.stale ||| (1#2 <<< k.val) ∧ HasEvent t chandPage 12 ∧ t.flashing = false ∧
        (s.flashing = true → (t.reg chandPage 0x09).toNat = min (s.timeAt cy).flashSoFar 65535) ∧
        (∀ n : Fin 4, t.strLit n = false) ∧ t.axes = s.axes ∧ t.mem = s.mem ∧ t.nvs = s.nvs)) ∧
  (∀ (s : State) (c : Int) (cy : Nat),
      (s.derateSrc ≠ 1 ∨ s.chandLive = false) →
      (c ≤ 150 ∨ s.sup.ctrlHot = true) →
      Runs (.dieTempSample c cy) s (fun t => t = { s with sup := { s.sup with ctrlHot := decide (150 < c) }, time := (s.timeAt cy).time })) ∧
  (∀ (s : State) (k : Fin 2) (cy : Nat),
      (s.chandLive = false ∨ (s.derateSrc ≠ 4 ∧ s.derateSrc ≠ 2 + k.val)) →
      Runs (.tempStale k cy) s (fun t => t = s.timeAt cy))

/-- On a running chain: a frame samples BITS0 to BITS15, or repeats the last image with HOLD, and shows LEN bits of it. Each group is shown in one more or no more frame of the cycle of 15: in none once it was shown in as many as its level, in every one that is left where it needs all of them, and elsewhere the choice is free. A bit clear in the image, or of a group not shown in this frame, is sent as 0; one of a group shown that does not blink is sent as in the image; a mode 1 group is dark in the second half of the 1 Hz phase, a mode 3 group in the first. The frame counts in its cycle. A level step moves each level by one toward its target. Off, neither changes anything. With VIO, LC_THERM low for 1 ms blanks the chain and sets THERM; high for 1 s, with VIO or without it, it releases where THERM_AUTO is set and THERM was, with THERM_CLEAR; shorter ones change the pin alone. RESUME, with LCHAIN ready, releases with LC_THERM high, THERM_AUTO set or not, and with it low is refused with CFG_REJECTED; that, that LC_THERM is ignored while the unit is off, and which frames show a level are the model's (log entry 63). No register but EVENT changes. So that exec answers a next state for: chainFrameStart, chainLevelStep, lcThermFault, lcThermRelease, resume. -/
def Obligations.ChainShiftsBlinksAndBlanks : Prop :=
  (∀ (s : State) (b : Nat),
      s.chainLive = true →
      b < s.regFld lchainPage 0x08 0 9 →
      b < 256 →
      Runs .chainFrameStart s (fun t =>
        let img := if s.regBit lchainPage 0x08 13 = true then s.lchain.image else (List.range 16).map (fun j => s.reg lchainPage (0x10 + j))
        let q := b / 8
        let blink := s.regFld lchainPage (0x28 + q / 8) (2 * (q % 8)) 2
        let L := s.lchain.levels.toList.getD q 0
        let done := if s.lchain.frame = 0 then 0 else s.lchain.shown.toList.getD q 0
        let now := t.lchain.shown.toList.getD q 0
        t.lchain.image = img ∧ t.lchain.sent.length = s.regFld lchainPage 0x08 0 9 ∧ t.lchain.frame = (s.lchain.frame + 1) % 15 ∧
        (now = done ∨ now = done + 1) ∧ (L ≤ done → now = done) ∧ (done < L ∧ 15 - s.lchain.frame ≤ L - done → now = done + 1) ∧
        ((wordAt img (b / 16)).getLsbD (b % 16) = false ∨ now = done → t.lchain.sent[b]? = some false) ∧
        (blink = 1 ∧ 500000 ≤ s.lchain.ph1 → t.lchain.sent[b]? = some false) ∧ (blink = 3 ∧ s.lchain.ph1 < 500000 → t.lchain.sent[b]? = some false) ∧
        (now = done + 1 ∧ blink = 0 → t.lchain.sent[b]? = some ((wordAt img (b / 16)).getLsbD (b % 16))) ∧
        t.lchain.levels = s.lchain.levels ∧ t = { s with lchain := t.lchain, free := t.free })) ∧
  (∀ (s : State),
      s.chainLive = false →
      Runs .chainFrameStart s (fun t => t = s) ∧ Runs .chainLevelStep s (fun t => t = s)) ∧
  (∀ (s : State),
      s.chainLive = true →
      Runs .chainLevelStep s (fun t => t = { s with lchain := { s.lchain with levels := t.lchain.levels } } ∧ ∀ q : Fin 32,
        let x := s.lchain.levels[q]
        let y := s.regFld lchainPage (0x20 + q.val / 4) (4 * (q.val % 4)) 4
        t.lchain.levels[q] = (if x < y then x + 1 else if y < x then x - 1 else x))) ∧
  (∀ (s : State) (us : Nat),
      s.chainLive = true →
      s.sup.vio = true →
      1000 ≤ us →
      Runs (.lcThermFault us) s (fun t => t.lchain = { s.lchain with therm := true } ∧ t.chainBlank = true ∧ HasEvent t lchainPage 0 ∧ SameRegsBut [(lchainPage, 0x03)] s t ∧
        t = { s with pins := { s.pins with lcTherm := false }, regs := t.regs, lchain := t.lchain })) ∧
  (∀ (s : State) (us : Nat),
      s.sup.vio = true →
      (s.chainLive = false ∨ us < 1000) →
      Runs (.lcThermFault us) s (fun t => t = { s with pins := { s.pins with lcTherm := false } })) ∧
  (∀ (s : State) (us : Nat),
      s.sup.vio = false →
      Runs (.lcThermFault us) s (fun t => t = s)) ∧
  (∀ (s : State) (us : Nat),
      (s.chainLive = false ∨ us < 1000) →
      Runs (.lcThermRelease us) s (fun t => t = { s with pins := { s.pins with lcTherm := true } })) ∧
  (∀ (s : State) (ms : Nat),
      s.chainLive = true →
      1000 ≤ ms →
      Runs (.lcThermRelease ms) s (fun t => t = { s with pins := { s.pins with lcTherm := true }, regs := t.regs, lchain := t.lchain } ∧ SameRegsBut [(lchainPage, 0x03)] s t ∧
        if s.regBit lchainPage 0x08 12 = true ∧ s.lchain.therm = true then t.lchain = { s.lchain with therm := false } ∧ HasEvent t lchainPage 1
        else t.lchain = s.lchain ∧ t.regs = s.regs)) ∧
  (∀ (s : State),
      PortReady s lchainPage →
      Runs .resume s (fun t => t = { s with unlock := t.unlock, regs := t.regs, lchain := t.lchain } ∧ SameRegsBut [(lchainPage, 0x03)] s t ∧
        if s.pins.lcTherm = true then t.lchain = { s.lchain with therm := false } ∧ t.regs = s.regs
        else t.lchain = s.lchain ∧ HasEvent t lchainPage 2))

/-- While pairing: outside MIRRORING the twin sends its HELLO; where the partner's last HELLO met every condition, that boundary begins MIRRORING, with PAIRED, and ELDER exactly where the own serial is lower (that it waits for this boundary is the model's reading, log entry 85); in MIRRORING or not pairing nothing is sent. A HELLO outside MIRRORING is shown in the PEER registers; one whose hash differs refuses with cause 1, one of the own serial number with cause 2, any other leads to HANDSHAKE, ready where it echoes the own serial. In MIRRORING, where no rise of SAFE stops the axes, a differing hash refuses with cause 1, the same hash changes no more than those registers and what they show of FLAGS. A MIRROR with a bad CRC only counts; with a differing hash it refuses with cause 1, with no orphan and no loss; a good one (no flags, no chunk) becomes the last frame, and the PEER registers and REFX_TWIN take it. One outside MIRRORING is shown and changes no state. A LEAVE, in whichever state, shows its serial and SAFE, and while pairing leads to SEEKING with PARTNER_LEFT and no orphan. RETRY in MIRRORING or REFUSED sends three LEAVE frames (from REFUSED too: log entry 64) and seeks. The link state follows its lock. Writing ENABLE and PAIR_EN on a part with the link leaves SOLO where both are set, else leads to SOLO, with three LEAVE frames from MIRRORING. No axis changes by any of the received or written ones. So that exec answers a next state for: helloSend, helloReceive, mirrorReceive, leaveReceive, retry, linkUpChange, twinEnableWrite. -/
def Obligations.TwinsPairMirrorAndPart : Prop :=
  (∀ (s : State),
      s.pairing = true →
      s.twin.st ≠ .mirroring →
      s.twin.ready = true →
      Runs .helloSend s (fun t => t.twin.st = .mirroring ∧ HasEvent t twinPage 0 ∧ t.twin.elder = decide (s.serial.toNat < (s.twin.seen.getD 0#32).toNat) ∧ t.twin.seq = s.twin.seq + 1 ∧
        t.twin.sent = some (.hello ⟨s.serial, s.part.number, s.twinHash, s.twin.seen.getD 0#32, s.twinFlags⟩) ∧ t.twin.held = s.twin.held ∧
        SameRegsBut [(twinPage, 0x03)] s t ∧ t = { s with regs := t.regs, twin := t.twin })) ∧
  (∀ (s : State),
      s.pairing = true →
      s.twin.st ≠ .mirroring →
      s.twin.ready = false →
      Runs .helloSend s (fun t => t = { s with twin := { s.twin with sent := t.twin.sent, seq := s.twin.seq + 1 } } ∧
        t.twin.sent = some (.hello ⟨s.serial, s.part.number, s.twinHash, s.twin.seen.getD 0#32, s.twinFlags⟩))) ∧
  (∀ (s : State),
      (s.twin.st = .mirroring ∨ s.pairing = false) →
      Runs .helloSend s (fun t => t = s)) ∧
  (∀ (s : State) (hl : Hello),
      s.pairing = true →
      s.twin.st ≠ .mirroring →
      Runs (.helloReceive hl) s (fun t => t.wide twinPage 0x0F = hl.hash ∧ t.wide twinPage 0x11 = hl.serial ∧ t.axes = s.axes ∧ t.ledgers = s.ledgers ∧ t.mem = s.mem ∧
        (if hl.hash ≠ s.twinHash then t.twin.st = .refused ∧ t.regFld twinPage 0x0C 0 2 = 1
         else if hl.serial = s.serial then t.twin.st = .refused ∧ t.regFld twinPage 0x0C 0 2 = 2
         else t.twin.st = .handshake ∧ t.twin.ready = decide (hl.seen = s.serial) ∧ t.twin.seen = some hl.serial) ∧
        (s.twin.st ≠ .refused → t.twin.st = .refused → HasEvent t twinPage 1))) ∧
  (∀ (s : State) (hl : Hello),
      s.pairing = true →
      s.twin.st = .mirroring →
      (hl.flags.getLsbD 1 = false ∨ s.twin.peerSafe = true ∨ s.regBit twinPage 0x08 1 = false) →
      Runs (.helloReceive hl) s (fun t => t.axes = s.axes ∧ t.twin.held = s.twin.held ∧ t.nvs = s.nvs ∧
        t.wide twinPage 0x11 = hl.serial ∧
        if hl.hash = s.twinHash then t = { s with regs := t.regs, twin := { s.twin with lastUs := s.mtUs, peerSafe := hl.flags.getLsbD 1, peerFresh := hl.flags.getLsbD 6 } } else t.twin.st = .refused ∧ t.regFld twinPage 0x0C 0 2 = 1 ∧ HasEvent t twinPage 1)) ∧
  (∀ (s : State),
      s.linkOn = true →
      Runs (.mirrorReceive none) s (fun t => t.reg twinPage 0x13 = satInc (s.reg twinPage 0x13) ∧ SameRegsBut [(twinPage, 0x13)] s t ∧ t = { s with regs := t.regs })) ∧
  (∀ (s : State) (m : Mirror),
      s.pairing = true →
      s.twin.st = .mirroring →
      m.hash ≠ s.twinHash →
      (m.flags.getLsbD 1 = false ∨ s.twin.peerSafe = true ∨ s.regBit twinPage 0x08 1 = false) →
      Runs (.mirrorReceive (some m)) s (fun t => t.twin.st = .refused ∧ t.regFld twinPage 0x0C 0 2 = 1 ∧ t.twin.held = s.twin.held ∧
        t.reg twinPage 0x14 = s.reg twinPage 0x14 ∧ t.axes = s.axes ∧ t.nvs = s.nvs)) ∧
  (∀ (s : State) (m : Mirror) (n : Ax),
      s.pairing = true →
      s.twin.st = .mirroring →
      10 ≤ m.blocks.length →
      Runs (.mirrorReceive (some { m with hash := s.twinHash, chunk := none, flags := 0#8 })) s (fun t =>
        let b := m.blocks[n.val]?.getD ⟨0#32, 0#16, 0#16, 0#16, 0#32⟩
        t.twin.st = .mirroring ∧ t.reg assayPage 0x11 = m.refx ∧ t.assay.twinSeen = some m.refx ∧
        t.twin.last = some { m with hash := s.twinHash, chunk := none, flags := 0#8 } ∧
        (m.blocks.length = 10 → t.wide twinPage (0x20 + 4 * n.val) = b.pos ∧ t.reg twinPage (0x48 + n.val) = b.angle &&& 0x0FFF#16) ∧
        t.axes = s.axes ∧ t.ledgers = s.ledgers ∧ t.nvs = s.nvs ∧ t.mem = s.mem)) ∧
  (∀ (s : State) (sn : Wide) (f : Byte),
      s.pairing = true →
      Runs (.leaveReceive sn f) s (fun t => t.twin.st = .seeking ∧ HasEvent t twinPage 3 ∧ t.twin.held = s.twin.held ∧ t.axes = s.axes ∧ t.nvs = s.nvs ∧
        t.wide twinPage 0x11 = sn ∧ t.twin.peerSafe = f.getLsbD 1 ∧ SameRegsBut [(twinPage, 0x03), (twinPage, 0x11), (twinPage, 0x12)] s t)) ∧
  (∀ (s : State) (sn : Wide) (f : Byte),
      s.linkOn = true →
      s.pairing = false →
      Runs (.leaveReceive sn f) s (fun t => t.wide twinPage 0x11 = sn ∧ SameRegsBut [(twinPage, 0x11), (twinPage, 0x12)] s t ∧
        t = { s with regs := t.regs, twin := { s.twin with lastUs := s.mtUs, peerSafe := f.getLsbD 1, peerFresh := f.getLsbD 6 } })) ∧
  (∀ (s : State) (m : Mirror),
      s.linkOn = true →
      (s.pairing = false ∨ s.twin.st ≠ .mirroring) →
      Runs (.mirrorReceive (some m)) s (fun t => t = { s with regs := t.regs, twin := { s.twin with lastUs := s.mtUs, peerSafe := m.flags.getLsbD 1, peerFresh := m.flags.getLsbD 6 } } ∧
        t.wide twinPage 0x0F = m.hash ∧ t.reg assayPage 0x11 = m.refx ∧ t.reg twinPage 0x13 = s.reg twinPage 0x13)) ∧
  (∀ (s : State),
      PortReady s twinPage →
      s.pairing = true →
      (s.twin.st = .mirroring ∨ s.twin.st = .refused) →
      Runs .retry s (fun t => t.twin.st = .seeking ∧ t.twin.leaves = s.twin.leaves + 3 ∧ t.twin.sent = some (.leave s.serial s.twinFlags) ∧ t.twin.held = s.twin.held ∧
        t.axes = s.axes ∧ t.regs = s.regs)) ∧
  (∀ (s : State) (up : Bool),
      s.linkOn = true →
      Runs (.linkUpChange up) s (fun t => t = { s with twin := { s.twin with linkUp := up } })) ∧
  (∀ (s : State) (en pe : Bool),
      PortReady s twinPage →
      s.awake = true →
      s.part.hasTwin = true →
      Runs (.twinEnableWrite en pe) s (fun t => t.axes = s.axes ∧ t.mem = s.mem ∧ t.nvs = s.nvs ∧ t.twin.held = s.twin.held ∧
        t.regBit twinPage 0x01 0 = en ∧ t.regBit twinPage 0x08 0 = pe ∧ SameRegsBut [(twinPage, 0x01), (twinPage, 0x08)] s t ∧
        (if en = true ∧ pe = true then t.twin.st ≠ .solo
         else t.twin.st = .solo ∧ (s.twin.st = .mirroring → s.pairing = true → t.twin.leaves = s.twin.leaves + 3))))

/-- A pairing twin in MIRRORING that hears nothing for TIMEOUT enters LOST; without LOSS_STOP it sets TWIN_LOST and counts it, and where it has a last frame it holds the orphan (its eight words of head, then seven for each block) and asks the store to write it, and no axis, ledger or memory changes; with LOSS_STOP every present axis in LEDGER, VELOCITY or FOLLOW that is not stopping already begins to stop toward HOLD, or at v = 0 is in HOLD, its ledger paused with its queue; one that stops already, in PARKED or in HOLD, goes on as it was; a characterisation ends as interrupted toward HOLD; and the gate port begins its stop. Outside MIRRORING nothing changes. A MIRROR sent, with no orphan held, carries the flags, the hash, REFX_OWN and a block for each axis, and ack, decline and the reset command are sent once. The load of a received orphan moves a present axis of class INHERIT to its position and electrical angle and marks it uncertain, marks one of class LOST in INH_LOST and leaves it, leaves any other, and sets INHERITED with its event; with none received it does nothing. CONFIRM clears the uncertain marks of the present axes it names and nothing else. CLR_ORPHAN lets the orphan go. PEER_RESET asks for a reset of the partner only unlocked, with 0xA53C and in MIRRORING; else nothing but the unlock changes. So that exec answers a next state for: twinLost, mirrorSend, orphanLoad, confirm, clrOrphan, peerReset. -/
def Obligations.LossKeepsAnOrphanThatAReplacementLoads : Prop :=
  (∀ (s : State) (m : Mirror),
      s.pairing = true →
      s.twin.st = .mirroring →
      s.regBit twinPage 0x08 5 = false →
      Runs .twinLost (s.modTwin (fun w => { w with last := some m })) (fun t => t.twin.st = .lost ∧ HasEvent t twinPage 2 ∧ t.reg twinPage 0x14 = satInc (s.reg twinPage 0x14) ∧
        t.twin.held = true ∧ t.nvs = { s.nvs with orphanReq := true } ∧ t.twin.orphan.take 8 =
          [0x0001#16, s.part.number, (s.wide twinPage 0x11).hi, (s.wide twinPage 0x11).lo, s.twin.lastUs.hi, s.twin.lastUs.lo, m.refx, 0#16] ∧
        t.twin.orphan.length = 8 + 7 * m.blocks.length ∧ t.axes = s.axes ∧ t.ledgers = s.ledgers ∧ t.mem = s.mem ∧
        SameRegsBut [(twinPage, 0x03), (twinPage, 0x14)] s t)) ∧
  (∀ (s : State) (n : Ax),
      s.pairing = true →
      s.twin.st = .mirroring →
      s.regBit twinPage 0x08 5 = true →
      n ∈ s.present →
      (s.axis n).mode.moving = true →
      (s.axis n).stopping = none →
      (s.axis n).chan.v ≠ 0 →
      Runs .twinLost s (fun t => t.twin.st = .lost ∧ (t.axis n).stopping = some .hold ∧ (t.axis n).mode = (s.axis n).mode ∧ (t.axis n).chan = (s.axis n).chan ∧
        (t.ledger n).run = none ∧ (t.ledger n).head = (s.ledger n).head ∧ (t.ledger n).tail = (s.ledger n).tail ∧ (t.ledger n).loaded = (s.ledger n).loaded ∧
        (t.ledger n).st = (if (s.ledger n).st = .fault then .fault else .stopped) ∧
        (t.ledger n).paused = (if (s.ledger n).run.isSome = true then (s.ledger n).run else (s.ledger n).paused))) ∧
  (∀ (s : State) (n : Ax),
      s.pairing = true →
      s.twin.st = .mirroring →
      s.regBit twinPage 0x08 5 = true →
      n ∈ s.present →
      (s.axis n).mode.moving = true →
      (s.axis n).stopping = none →
      (s.axis n).chan.v = 0 →
      Runs .twinLost s (fun t => t.twin.st = .lost ∧ (t.axis n).mode = .hold ∧ (t.axis n).stopping = none ∧ HasEvent t (axPage n) 6)) ∧
  (∀ (s : State) (n : Ax),
      s.pairing = true →
      s.twin.st = .mirroring →
      s.regBit twinPage 0x08 5 = true →
      n ∈ s.present →
      ((s.axis n).stopping.isSome = true ∨ (s.axis n).mode = .parked ∨ (s.axis n).mode = .hold) →
      Runs .twinLost s (fun t => t.twin.st = .lost ∧ (t.axis n).mode = (s.axis n).mode ∧ (t.axis n).stopping = (s.axis n).stopping ∧ (t.axis n).chan = (s.axis n).chan)) ∧
  (∀ (s : State) (n : Ax),
      s.pairing = true →
      s.twin.st = .mirroring →
      s.regBit twinPage 0x08 5 = true →
      n ∈ s.present →
      (s.axis n).mode = .characterise →
      (s.axis n).char.ending ≠ some .parked →
      Runs .twinLost s (fun t => t.twin.st = .lost ∧ (t.axis n).mode = .characterise ∧ (t.axis n).char.ending = some .hold ∧ (t.axis n).char.endCode = 2)) ∧
  (∀ (s : State),
      s.pairing = true →
      s.twin.st = .mirroring →
      s.regBit twinPage 0x08 5 = true →
      s.gate.st = .run →
      s.gate.chan.v ≠ 0 →
      Runs .twinLost s (fun t => t.twin.st = .lost ∧ t.gate.st = .stopping ∧ t.gate.chan = s.gate.chan ∧ t.gate.prot = s.gate.prot)) ∧
  (∀ (s : State),
      s.pairing = true →
      s.twin.st = .mirroring →
      s.regBit twinPage 0x08 5 = true →
      (s.gate.st = .precharge ∨ (s.gate.st = .run ∧ s.gate.chan.v = 0)) →
      Runs .twinLost s (fun t => t.twin.st = .lost ∧ t.gate.st = (if s.regBit gatePage 0x0A 1 = true then .braked else .idle) ∧ HasEvent t gatePage 2)) ∧
  (∀ (s : State),
      (s.pairing = false ∨ s.twin.st ≠ .mirroring) →
      Runs .twinLost s (fun t => t = s)) ∧
  (∀ (s : State),
      s.pairing = true →
      s.twin.st = .mirroring →
      s.twin.held = false →
      s.twin.offer = none →
      Runs .mirrorSend s (fun t => t = { s with twin := t.twin } ∧ t.twin.seq = s.twin.seq + 1 ∧ t.twin.ack = false ∧ t.twin.decline = false ∧ t.twin.resetCmd = false ∧
        t.twin.st = .mirroring ∧ t.twin.sent = some (.mirror { (⟨0#8, s.twinHash, s.reg assayPage 0x10, allAxes.map s.axisBlock, none⟩ : Mirror) with flags := s.twinFlags }) ∧
        s.twinFlags.getLsbD 1 = decide (s.pwr.pstate = .safe) ∧ s.twinFlags.getLsbD 3 = s.twin.ack ∧ s.twinFlags.getLsbD 5 = s.twin.decline)) ∧
  (∀ (s : State),
      (s.pairing = false ∨ s.twin.st ≠ .mirroring) →
      Runs .mirrorSend s (fun t => t = s)) ∧
  (∀ (s : State) (n : Ax),
      s.twin.load = true →
      Runs .orphanLoad s (fun t =>
        let b := (s.twin.rx.flatten.drop (8 + 7 * n.val)).take 7
        let cls := fld (wordAt b 2) 8 2
        t.twin.inherited = true ∧ t.twin.load = false ∧ HasEvent t twinPage 5 ∧ t.mem = s.mem ∧ t.nvs = s.nvs ∧
        (n ∈ s.present → cls = 1 → (t.axis n).uncertain = true ∧ t.position n = ((wordAt b 0).wide (wordAt b 1)).toInt ∧ t.angle n = fld (wordAt b 4) 0 12) ∧
        (n ∈ s.present → cls = 2 → t.twin.inhLost.getLsbD n.val = true ∧ t.axis n = s.axis n) ∧
        (n ∉ s.present ∨ cls = 0 ∨ cls = 3 → t.axis n = s.axis n))) ∧
  (∀ (s : State),
      s.twin.load = false →
      Runs .orphanLoad s (fun t => t = s)) ∧
  (∀ (s : State) (v : Word),
      PortReady s twinPage →
      Runs (.confirm v) s (fun t => t = { s with unlock := t.unlock, axes := t.axes } ∧
        ∀ n : Ax, t.axis n = (if n ∈ s.present ∧ v.getLsbD n.val = true then { s.axis n with uncertain := false } else s.axis n))) ∧
  (∀ (s : State),
      PortReady s twinPage →
      s.part.hasTwin = true →
      Runs .clrOrphan s (fun t => t = { s with unlock := t.unlock, twin := { s.twin with held := false, offer := none } })) ∧
  (∀ (s : State) (v : Word),
      PortReady s twinPage →
      Runs (.peerReset v) s (fun t => t = { s with unlock := t.unlock, twin := { s.twin with
          resetCmd := s.twin.resetCmd || (s.unlocked twinPage && v == 0xA53C#16 && decide (s.twin.st = .mirroring)) } }))

/-- In MIRRORING with CROSS_STOP_EN, a MIRROR or a HELLO (the HELLO: the model's reading, log entry 124) with SAFE after a frame without it sets CROSS_STOP: an axis in a moving mode that is not stopping begins to stop toward HOLD, or at v = 0 is in HOLD, and its ledger pauses; PEER_SAFE shows the flag. Without CROSS_STOP_EN, or after a frame with SAFE, no axis changes. A MIRROR of a twin with a held orphan, OFFER, nothing offered in this pairing and a frame heard in it carries chunk 0, and each further one the next chunk up to 4. The last of five chunks received, in order, is accepted with ACCEPT, in the first pairing since bring-up and with every present axis PARKED: ORPHAN_DELIVERED, its load and the answer are due; else ORPHAN_DECLINED and DECLINE. ACK_ORPHAN of an orphan that went out sets ORPHAN_DELIVERED and lets it go; DECLINE sets ORPHAN_DECLINED, and it stays held; neither counts where none went out. With AUTO_CONFIRM, the first index of a bound quadrature channel takes d from POSITION, with the angle unmoved, where the axis is uncertain, an IDX_AXPOS was inherited and |d| is at most 2048, with CONFIRMED; else CONFIRM_FAIL, and no further confirmation follows (d a fraction: rounded, the model's choice, log entry 26). So that exec answers a next state for: mirrorReceive, helloReceive, mirrorSend, encoderIndex. -/
def Obligations.TwinsStopAndPassOrphansAndConfirm : Prop :=
  (∀ (s : State) (m : Mirror) (n : Ax),
      s.pairing = true →
      s.twin.st = .mirroring →
      s.regBit twinPage 0x08 1 = true →
      s.twin.peerSafe = false →
      n ∈ s.present →
      (s.axis n).mode.moving = true →
      (s.axis n).stopping = none →
      Runs (.mirrorReceive (some { m with hash := s.twinHash, chunk := none, flags := 2#8 })) s (fun t => HasEvent t twinPage 9 ∧ t.twin.peerSafe = true ∧ t.twin.st = .mirroring ∧ (t.ledger n).run = none ∧
        (if (s.axis n).chan.v = 0 then (t.axis n).mode = .hold else (t.axis n).stopping = some .hold ∧ (t.axis n).chan = (s.axis n).chan))) ∧
  (∀ (s : State) (hl : Hello) (n : Ax),
      s.pairing = true →
      s.twin.st = .mirroring →
      s.regBit twinPage 0x08 1 = true →
      s.twin.peerSafe = false →
      n ∈ s.present →
      (s.axis n).mode.moving = true →
      (s.axis n).stopping = none →
      Runs (.helloReceive { hl with flags := 2#8 }) s (fun t => HasEvent t twinPage 9 ∧ t.twin.peerSafe = true ∧
        (if (s.axis n).chan.v = 0 then (t.axis n).mode = .hold else (t.axis n).stopping = some .hold ∧ (t.axis n).chan = (s.axis n).chan))) ∧
  (∀ (s : State) (m : Mirror),
      s.pairing = true →
      s.twin.st = .mirroring →
      (s.regBit twinPage 0x08 1 = false ∨ s.twin.peerSafe = true) →
      Runs (.mirrorReceive (some { m with hash := s.twinHash, chunk := none, flags := 2#8 })) s (fun t => t.twin.peerSafe = true ∧ t.axes = s.axes ∧ t.ledgers = s.ledgers)) ∧
  (∀ (s : State),
      s.pairing = true →
      s.twin.st = .mirroring →
      s.twin.held = true →
      s.regBit twinPage 0x08 2 = true →
      s.twin.offering = false →
      s.twin.last.isSome = true →
      Runs .mirrorSend s (fun t => t.twin.offer = some 1 ∧ t.twin.offering = true ∧ t.twin.held = true ∧
        t.twin.sent = some (.mirror { (⟨0#8, s.twinHash, s.reg assayPage 0x10, allAxes.map s.axisBlock, none⟩ : Mirror) with flags := s.twinFlags, chunk := some (0, ((s.twin.orphan ++ [0#16, 0#16]).take 16)) }))) ∧
  (∀ (s : State) (k : Fin 5),
      s.pairing = true →
      s.twin.st = .mirroring →
      s.twin.offering = true →
      Runs .mirrorSend (s.modTwin (fun w => { w with offer := some k.val })) (fun t => t.twin.offer = (if k.val < 4 then some (k.val + 1) else none) ∧
        t.twin.sent = some (.mirror { (⟨0#8, s.twinHash, s.reg assayPage 0x10, allAxes.map s.axisBlock, none⟩ : Mirror) with flags := s.twinFlags, chunk := some (k.val, (((s.twin.orphan ++ [0#16, 0#16]).drop (16 * k.val)).take 16)) }))) ∧
  (∀ (s : State) (m : Mirror) (ws : List Word),
      s.pairing = true →
      s.twin.st = .mirroring →
      s.twin.rx.length = 4 →
      Runs (.mirrorReceive (some { m with hash := s.twinHash, chunk := some (4, ws), flags := 0#8 })) s (fun t =>
        (if s.regBit twinPage 0x08 3 = true ∧ s.twin.fresh = true ∧ ∀ n ∈ s.present, (s.axis n).mode = .parked then
          t.twin.ack = true ∧ t.twin.load = true ∧ HasEvent t twinPage 4 ∧ t.twin.decline = s.twin.decline
        else t.twin.decline = true ∧ HasEvent t twinPage 6 ∧ t.twin.load = s.twin.load ∧ t.twin.ack = s.twin.ack) ∧
        t.twin.rx = s.twin.rx ++ [ws] ∧ t.axes = s.axes ∧ t.nvs = s.nvs)) ∧
  (∀ (s : State) (m : Mirror),
      s.pairing = true →
      s.twin.st = .mirroring →
      s.twin.asked = true →
      Runs (.mirrorReceive (some { m with hash := s.twinHash, chunk := none, flags := 8#8 })) s (fun t => t.twin.held = false ∧ HasEvent t twinPage 4 ∧ t.twin.asked = false ∧ t.nvs = s.nvs) ∧
        Runs (.mirrorReceive (some { m with hash := s.twinHash, chunk := none, flags := 32#8 })) s (fun t => t.twin.held = s.twin.held ∧ HasEvent t twinPage 6 ∧ t.twin.asked = false ∧ t.nvs = s.nvs)) ∧
  (∀ (s : State) (m : Mirror),
      s.pairing = true →
      s.twin.st = .mirroring →
      s.twin.asked = false →
      Runs (.mirrorReceive (some { m with hash := s.twinHash, chunk := none, flags := 40#8 })) s (fun t => t.twin.held = s.twin.held ∧ t.reg twinPage 0x03 = s.reg twinPage 0x03)) ∧
  (∀ (s : State) (c : Fin 4) (n : Ax) (held : Nat) (idx : Wide) (cy : Nat),
      s.encLive c.val = true →
      ((s.encStood c.val cy).enc c.val).freshI = false →
      (((s.encStood c.val cy).enc c.val).i = false ∨ ((s.encStood c.val cy).enc c.val).pinI = true) →
      (s.filtSamples c.val + 1) * s.filtPeriod c.val ≤ held →
      s.encMode c.val ≠ 0 →
      (s.regBit tallyPage (eOff c.val 0) 11 = false ∨ (((s.encStood c.val cy).enc c.val).a = true ∧ ((s.encStood c.val cy).enc c.val).b = true)) →
      s.encMode c.val = 1 →
      n ∈ s.present →
      s.bound n = true →
      s.regFld (axPage n) 0x35 0 2 = c.val →
      (s.axis n).uncertain = true →
      s.regBit twinPage 0x08 4 = true →
      Runs (.encoderIndex c true held cy) (s.modTwin (fun w => { w with inhIdx := w.inhIdx.set n (some idx) })) (fun t =>
        let den := (s.reg (axPage n) 0x37).toNat
        let x := indexOffset (BitVec.ofInt 32 (s.position n - idx.toInt)).toInt (s.reg tallyPage (eOff c.val 9)).toNat (s.reg (axPage n) 0x36).toInt den
        t.twin.inhIdx[n] = none ∧ t.angle n = s.angle n ∧
        (if x.natAbs ≤ 2048 * den then (t.axis n).uncertain = false ∧ HasEvent t twinPage 7 ∧ t.position n = (BitVec.ofInt 32 (s.position n - roundDiv x den)).toInt
         else (t.axis n).uncertain = true ∧ HasEvent t twinPage 8 ∧ t.position n = s.position n)))

/-- For every command, with all operands, and every state, exec answers a next state: none of the commands of the operation table ends in a fault or a refusal, since each has an effect, or none, in every state of the block: that a command whose unit is not in the state its row presumes changes nothing is the model's choice (log entry 7). -/
def Obligations.EveryCommandCompletes : Prop :=
  ∀ (c : Instr) (s : State), ∃ t : State, exec c s = .next t
end

