-- ==== Sys2Proof/Laws/State.lean ====
section
/-! SUPPORT. What each update of the state leaves: one lemma for each field and update. -/

namespace Sys2Proof.Machine

/-! ### setReg -/

@[simp] theorem State.setReg_part (s : State) (p o : Nat) (v : Word) : (s.setReg p o v).part = s.part := rfl
@[simp] theorem State.setReg_serial (s : State) (p o : Nat) (v : Word) : (s.setReg p o v).serial = s.serial := rfl
@[simp] theorem State.setReg_lows (s : State) (p o : Nat) (v : Word) : (s.setReg p o v).lows = s.lows := rfl
@[simp] theorem State.setReg_unlock (s : State) (p o : Nat) (v : Word) : (s.setReg p o v).unlock = s.unlock := rfl
@[simp] theorem State.setReg_unitRst (s : State) (p o : Nat) (v : Word) : (s.setReg p o v).unitRst = s.unitRst := rfl
@[simp] theorem State.setReg_rdata (s : State) (p o : Nat) (v : Word) : (s.setReg p o v).rdata = s.rdata := rfl
@[simp] theorem State.setReg_free (s : State) (p o : Nat) (v : Word) : (s.setReg p o v).free = s.free := rfl
@[simp] theorem State.setReg_spi (s : State) (p o : Nat) (v : Word) : (s.setReg p o v).spi = s.spi := rfl
@[simp] theorem State.setReg_pins (s : State) (p o : Nat) (v : Word) : (s.setReg p o v).pins = s.pins := rfl
@[simp] theorem State.setReg_sup (s : State) (p o : Nat) (v : Word) : (s.setReg p o v).sup = s.sup := rfl
@[simp] theorem State.setReg_pwr (s : State) (p o : Nat) (v : Word) : (s.setReg p o v).pwr = s.pwr := rfl
@[simp] theorem State.setReg_clk (s : State) (p o : Nat) (v : Word) : (s.setReg p o v).clk = s.clk := rfl
@[simp] theorem State.setReg_fab (s : State) (p o : Nat) (v : Word) : (s.setReg p o v).fab = s.fab := rfl
@[simp] theorem State.setReg_dma (s : State) (p o : Nat) (v : Word) : (s.setReg p o v).dma = s.dma := rfl
@[simp] theorem State.setReg_mem (s : State) (p o : Nat) (v : Word) : (s.setReg p o v).mem = s.mem := rfl
@[simp] theorem State.setReg_nvs (s : State) (p o : Nat) (v : Word) : (s.setReg p o v).nvs = s.nvs := rfl
@[simp] theorem State.setReg_time (s : State) (p o : Nat) (v : Word) : (s.setReg p o v).time = s.time := rfl
@[simp] theorem State.setReg_stopN (s : State) (p o : Nat) (v : Word) : (s.setReg p o v).stopN = s.stopN := rfl
@[simp] theorem State.setReg_axes (s : State) (p o : Nat) (v : Word) : (s.setReg p o v).axes = s.axes := rfl
@[simp] theorem State.setReg_ledgers (s : State) (p o : Nat) (v : Word) : (s.setReg p o v).ledgers = s.ledgers := rfl
@[simp] theorem State.setReg_brgs (s : State) (p o : Nat) (v : Word) : (s.setReg p o v).brgs = s.brgs := rfl
@[simp] theorem State.setReg_dies (s : State) (p o : Nat) (v : Word) : (s.setReg p o v).dies = s.dies := rfl
@[simp] theorem State.setReg_live (s : State) (p o : Nat) (v : Word) : (s.setReg p o v).live = s.live := rfl
@[simp] theorem State.setReg_table (s : State) (p o : Nat) (v : Word) : (s.setReg p o v).table = s.table := rfl
@[simp] theorem State.setReg_gate (s : State) (p o : Nat) (v : Word) : (s.setReg p o v).gate = s.gate := rfl
@[simp] theorem State.setReg_encs (s : State) (p o : Nat) (v : Word) : (s.setReg p o v).encs = s.encs := rfl
@[simp] theorem State.setReg_trigs (s : State) (p o : Nat) (v : Word) : (s.setReg p o v).trigs = s.trigs := rfl
@[simp] theorem State.setReg_emus (s : State) (p o : Nat) (v : Word) : (s.setReg p o v).emus = s.emus := rfl
@[simp] theorem State.setReg_tmr (s : State) (p o : Nat) (v : Word) : (s.setReg p o v).tmr = s.tmr := rfl
@[simp] theorem State.setReg_cnvs (s : State) (p o : Nat) (v : Word) : (s.setReg p o v).cnvs = s.cnvs := rfl
@[simp] theorem State.setReg_assay (s : State) (p o : Nat) (v : Word) : (s.setReg p o v).assay = s.assay := rfl
@[simp] theorem State.setReg_wmons (s : State) (p o : Nat) (v : Word) : (s.setReg p o v).wmons = s.wmons := rfl
@[simp] theorem State.setReg_chand (s : State) (p o : Nat) (v : Word) : (s.setReg p o v).chand = s.chand := rfl
@[simp] theorem State.setReg_lchain (s : State) (p o : Nat) (v : Word) : (s.setReg p o v).lchain = s.lchain := rfl
@[simp] theorem State.setReg_twin (s : State) (p o : Nat) (v : Word) : (s.setReg p o v).twin = s.twin := rfl
@[simp] theorem State.setReg_pending (s : State) (p o : Nat) (v : Word) : (s.setReg p o v).pending = s.pending := rfl

/-! ### setFld -/

@[simp] theorem State.setFld_part (s : State) (p o l w v : Nat) : (s.setFld p o l w v).part = s.part := rfl
@[simp] theorem State.setFld_serial (s : State) (p o l w v : Nat) : (s.setFld p o l w v).serial = s.serial := rfl
@[simp] theorem State.setFld_lows (s : State) (p o l w v : Nat) : (s.setFld p o l w v).lows = s.lows := rfl
@[simp] theorem State.setFld_unlock (s : State) (p o l w v : Nat) : (s.setFld p o l w v).unlock = s.unlock := rfl
@[simp] theorem State.setFld_unitRst (s : State) (p o l w v : Nat) : (s.setFld p o l w v).unitRst = s.unitRst := rfl
@[simp] theorem State.setFld_rdata (s : State) (p o l w v : Nat) : (s.setFld p o l w v).rdata = s.rdata := rfl
@[simp] theorem State.setFld_free (s : State) (p o l w v : Nat) : (s.setFld p o l w v).free = s.free := rfl
@[simp] theorem State.setFld_spi (s : State) (p o l w v : Nat) : (s.setFld p o l w v).spi = s.spi := rfl
@[simp] theorem State.setFld_pins (s : State) (p o l w v : Nat) : (s.setFld p o l w v).pins = s.pins := rfl
@[simp] theorem State.setFld_sup (s : State) (p o l w v : Nat) : (s.setFld p o l w v).sup = s.sup := rfl
@[simp] theorem State.setFld_pwr (s : State) (p o l w v : Nat) : (s.setFld p o l w v).pwr = s.pwr := rfl
@[simp] theorem State.setFld_clk (s : State) (p o l w v : Nat) : (s.setFld p o l w v).clk = s.clk := rfl
@[simp] theorem State.setFld_fab (s : State) (p o l w v : Nat) : (s.setFld p o l w v).fab = s.fab := rfl
@[simp] theorem State.setFld_dma (s : State) (p o l w v : Nat) : (s.setFld p o l w v).dma = s.dma := rfl
@[simp] theorem State.setFld_mem (s : State) (p o l w v : Nat) : (s.setFld p o l w v).mem = s.mem := rfl
@[simp] theorem State.setFld_nvs (s : State) (p o l w v : Nat) : (s.setFld p o l w v).nvs = s.nvs := rfl
@[simp] theorem State.setFld_time (s : State) (p o l w v : Nat) : (s.setFld p o l w v).time = s.time := rfl
@[simp] theorem State.setFld_stopN (s : State) (p o l w v : Nat) : (s.setFld p o l w v).stopN = s.stopN := rfl
@[simp] theorem State.setFld_axes (s : State) (p o l w v : Nat) : (s.setFld p o l w v).axes = s.axes := rfl
@[simp] theorem State.setFld_ledgers (s : State) (p o l w v : Nat) : (s.setFld p o l w v).ledgers = s.ledgers := rfl
@[simp] theorem State.setFld_brgs (s : State) (p o l w v : Nat) : (s.setFld p o l w v).brgs = s.brgs := rfl
@[simp] theorem State.setFld_dies (s : State) (p o l w v : Nat) : (s.setFld p o l w v).dies = s.dies := rfl
@[simp] theorem State.setFld_live (s : State) (p o l w v : Nat) : (s.setFld p o l w v).live = s.live := rfl
@[simp] theorem State.setFld_table (s : State) (p o l w v : Nat) : (s.setFld p o l w v).table = s.table := rfl
@[simp] theorem State.setFld_gate (s : State) (p o l w v : Nat) : (s.setFld p o l w v).gate = s.gate := rfl
@[simp] theorem State.setFld_encs (s : State) (p o l w v : Nat) : (s.setFld p o l w v).encs = s.encs := rfl
@[simp] theorem State.setFld_trigs (s : State) (p o l w v : Nat) : (s.setFld p o l w v).trigs = s.trigs := rfl
@[simp] theorem State.setFld_emus (s : State) (p o l w v : Nat) : (s.setFld p o l w v).emus = s.emus := rfl
@[simp] theorem State.setFld_tmr (s : State) (p o l w v : Nat) : (s.setFld p o l w v).tmr = s.tmr := rfl
@[simp] theorem State.setFld_cnvs (s : State) (p o l w v : Nat) : (s.setFld p o l w v).cnvs = s.cnvs := rfl
@[simp] theorem State.setFld_assay (s : State) (p o l w v : Nat) : (s.setFld p o l w v).assay = s.assay := rfl
@[simp] theorem State.setFld_wmons (s : State) (p o l w v : Nat) : (s.setFld p o l w v).wmons = s.wmons := rfl
@[simp] theorem State.setFld_chand (s : State) (p o l w v : Nat) : (s.setFld p o l w v).chand = s.chand := rfl
@[simp] theorem State.setFld_lchain (s : State) (p o l w v : Nat) : (s.setFld p o l w v).lchain = s.lchain := rfl
@[simp] theorem State.setFld_twin (s : State) (p o l w v : Nat) : (s.setFld p o l w v).twin = s.twin := rfl
@[simp] theorem State.setFld_pending (s : State) (p o l w v : Nat) : (s.setFld p o l w v).pending = s.pending := rfl

/-! ### setWide -/

@[simp] theorem State.setWide_part (s : State) (p o : Nat) (v : Wide) : (s.setWide p o v).part = s.part := rfl
@[simp] theorem State.setWide_serial (s : State) (p o : Nat) (v : Wide) : (s.setWide p o v).serial = s.serial := rfl
@[simp] theorem State.setWide_lows (s : State) (p o : Nat) (v : Wide) : (s.setWide p o v).lows = s.lows := rfl
@[simp] theorem State.setWide_unlock (s : State) (p o : Nat) (v : Wide) : (s.setWide p o v).unlock = s.unlock := rfl
@[simp] theorem State.setWide_unitRst (s : State) (p o : Nat) (v : Wide) : (s.setWide p o v).unitRst = s.unitRst := rfl
@[simp] theorem State.setWide_rdata (s : State) (p o : Nat) (v : Wide) : (s.setWide p o v).rdata = s.rdata := rfl
@[simp] theorem State.setWide_free (s : State) (p o : Nat) (v : Wide) : (s.setWide p o v).free = s.free := rfl
@[simp] theorem State.setWide_spi (s : State) (p o : Nat) (v : Wide) : (s.setWide p o v).spi = s.spi := rfl
@[simp] theorem State.setWide_pins (s : State) (p o : Nat) (v : Wide) : (s.setWide p o v).pins = s.pins := rfl
@[simp] theorem State.setWide_sup (s : State) (p o : Nat) (v : Wide) : (s.setWide p o v).sup = s.sup := rfl
@[simp] theorem State.setWide_pwr (s : State) (p o : Nat) (v : Wide) : (s.setWide p o v).pwr = s.pwr := rfl
@[simp] theorem State.setWide_clk (s : State) (p o : Nat) (v : Wide) : (s.setWide p o v).clk = s.clk := rfl
@[simp] theorem State.setWide_fab (s : State) (p o : Nat) (v : Wide) : (s.setWide p o v).fab = s.fab := rfl
@[simp] theorem State.setWide_dma (s : State) (p o : Nat) (v : Wide) : (s.setWide p o v).dma = s.dma := rfl
@[simp] theorem State.setWide_mem (s : State) (p o : Nat) (v : Wide) : (s.setWide p o v).mem = s.mem := rfl
@[simp] theorem State.setWide_nvs (s : State) (p o : Nat) (v : Wide) : (s.setWide p o v).nvs = s.nvs := rfl
@[simp] theorem State.setWide_time (s : State) (p o : Nat) (v : Wide) : (s.setWide p o v).time = s.time := rfl
@[simp] theorem State.setWide_stopN (s : State) (p o : Nat) (v : Wide) : (s.setWide p o v).stopN = s.stopN := rfl
@[simp] theorem State.setWide_axes (s : State) (p o : Nat) (v : Wide) : (s.setWide p o v).axes = s.axes := rfl
@[simp] theorem State.setWide_ledgers (s : State) (p o : Nat) (v : Wide) : (s.setWide p o v).ledgers = s.ledgers := rfl
@[simp] theorem State.setWide_brgs (s : State) (p o : Nat) (v : Wide) : (s.setWide p o v).brgs = s.brgs := rfl
@[simp] theorem State.setWide_dies (s : State) (p o : Nat) (v : Wide) : (s.setWide p o v).dies = s.dies := rfl
@[simp] theorem State.setWide_live (s : State) (p o : Nat) (v : Wide) : (s.setWide p o v).live = s.live := rfl
@[simp] theorem State.setWide_table (s : State) (p o : Nat) (v : Wide) : (s.setWide p o v).table = s.table := rfl
@[simp] theorem State.setWide_gate (s : State) (p o : Nat) (v : Wide) : (s.setWide p o v).gate = s.gate := rfl
@[simp] theorem State.setWide_encs (s : State) (p o : Nat) (v : Wide) : (s.setWide p o v).encs = s.encs := rfl
@[simp] theorem State.setWide_trigs (s : State) (p o : Nat) (v : Wide) : (s.setWide p o v).trigs = s.trigs := rfl
@[simp] theorem State.setWide_emus (s : State) (p o : Nat) (v : Wide) : (s.setWide p o v).emus = s.emus := rfl
@[simp] theorem State.setWide_tmr (s : State) (p o : Nat) (v : Wide) : (s.setWide p o v).tmr = s.tmr := rfl
@[simp] theorem State.setWide_cnvs (s : State) (p o : Nat) (v : Wide) : (s.setWide p o v).cnvs = s.cnvs := rfl
@[simp] theorem State.setWide_assay (s : State) (p o : Nat) (v : Wide) : (s.setWide p o v).assay = s.assay := rfl
@[simp] theorem State.setWide_wmons (s : State) (p o : Nat) (v : Wide) : (s.setWide p o v).wmons = s.wmons := rfl
@[simp] theorem State.setWide_chand (s : State) (p o : Nat) (v : Wide) : (s.setWide p o v).chand = s.chand := rfl
@[simp] theorem State.setWide_lchain (s : State) (p o : Nat) (v : Wide) : (s.setWide p o v).lchain = s.lchain := rfl
@[simp] theorem State.setWide_twin (s : State) (p o : Nat) (v : Wide) : (s.setWide p o v).twin = s.twin := rfl
@[simp] theorem State.setWide_pending (s : State) (p o : Nat) (v : Wide) : (s.setWide p o v).pending = s.pending := rfl

/-! ### count -/

@[simp] theorem State.count_part (s : State) (p o : Nat) : (s.count p o).part = s.part := rfl
@[simp] theorem State.count_serial (s : State) (p o : Nat) : (s.count p o).serial = s.serial := rfl
@[simp] theorem State.count_lows (s : State) (p o : Nat) : (s.count p o).lows = s.lows := rfl
@[simp] theorem State.count_unlock (s : State) (p o : Nat) : (s.count p o).unlock = s.unlock := rfl
@[simp] theorem State.count_unitRst (s : State) (p o : Nat) : (s.count p o).unitRst = s.unitRst := rfl
@[simp] theorem State.count_rdata (s : State) (p o : Nat) : (s.count p o).rdata = s.rdata := rfl
@[simp] theorem State.count_free (s : State) (p o : Nat) : (s.count p o).free = s.free := rfl
@[simp] theorem State.count_spi (s : State) (p o : Nat) : (s.count p o).spi = s.spi := rfl
@[simp] theorem State.count_pins (s : State) (p o : Nat) : (s.count p o).pins = s.pins := rfl
@[simp] theorem State.count_sup (s : State) (p o : Nat) : (s.count p o).sup = s.sup := rfl
@[simp] theorem State.count_pwr (s : State) (p o : Nat) : (s.count p o).pwr = s.pwr := rfl
@[simp] theorem State.count_clk (s : State) (p o : Nat) : (s.count p o).clk = s.clk := rfl
@[simp] theorem State.count_fab (s : State) (p o : Nat) : (s.count p o).fab = s.fab := rfl
@[simp] theorem State.count_dma (s : State) (p o : Nat) : (s.count p o).dma = s.dma := rfl
@[simp] theorem State.count_mem (s : State) (p o : Nat) : (s.count p o).mem = s.mem := rfl
@[simp] theorem State.count_nvs (s : State) (p o : Nat) : (s.count p o).nvs = s.nvs := rfl
@[simp] theorem State.count_time (s : State) (p o : Nat) : (s.count p o).time = s.time := rfl
@[simp] theorem State.count_stopN (s : State) (p o : Nat) : (s.count p o).stopN = s.stopN := rfl
@[simp] theorem State.count_axes (s : State) (p o : Nat) : (s.count p o).axes = s.axes := rfl
@[simp] theorem State.count_ledgers (s : State) (p o : Nat) : (s.count p o).ledgers = s.ledgers := rfl
@[simp] theorem State.count_brgs (s : State) (p o : Nat) : (s.count p o).brgs = s.brgs := rfl
@[simp] theorem State.count_dies (s : State) (p o : Nat) : (s.count p o).dies = s.dies := rfl
@[simp] theorem State.count_live (s : State) (p o : Nat) : (s.count p o).live = s.live := rfl
@[simp] theorem State.count_table (s : State) (p o : Nat) : (s.count p o).table = s.table := rfl
@[simp] theorem State.count_gate (s : State) (p o : Nat) : (s.count p o).gate = s.gate := rfl
@[simp] theorem State.count_encs (s : State) (p o : Nat) : (s.count p o).encs = s.encs := rfl
@[simp] theorem State.count_trigs (s : State) (p o : Nat) : (s.count p o).trigs = s.trigs := rfl
@[simp] theorem State.count_emus (s : State) (p o : Nat) : (s.count p o).emus = s.emus := rfl
@[simp] theorem State.count_tmr (s : State) (p o : Nat) : (s.count p o).tmr = s.tmr := rfl
@[simp] theorem State.count_cnvs (s : State) (p o : Nat) : (s.count p o).cnvs = s.cnvs := rfl
@[simp] theorem State.count_assay (s : State) (p o : Nat) : (s.count p o).assay = s.assay := rfl
@[simp] theorem State.count_wmons (s : State) (p o : Nat) : (s.count p o).wmons = s.wmons := rfl
@[simp] theorem State.count_chand (s : State) (p o : Nat) : (s.count p o).chand = s.chand := rfl
@[simp] theorem State.count_lchain (s : State) (p o : Nat) : (s.count p o).lchain = s.lchain := rfl
@[simp] theorem State.count_twin (s : State) (p o : Nat) : (s.count p o).twin = s.twin := rfl
@[simp] theorem State.count_pending (s : State) (p o : Nat) : (s.count p o).pending = s.pending := rfl

/-! ### countWrap -/

@[simp] theorem State.countWrap_part (s : State) (p o : Nat) : (s.countWrap p o).part = s.part := rfl
@[simp] theorem State.countWrap_serial (s : State) (p o : Nat) : (s.countWrap p o).serial = s.serial := rfl
@[simp] theorem State.countWrap_lows (s : State) (p o : Nat) : (s.countWrap p o).lows = s.lows := rfl
@[simp] theorem State.countWrap_unlock (s : State) (p o : Nat) : (s.countWrap p o).unlock = s.unlock := rfl
@[simp] theorem State.countWrap_unitRst (s : State) (p o : Nat) : (s.countWrap p o).unitRst = s.unitRst := rfl
@[simp] theorem State.countWrap_rdata (s : State) (p o : Nat) : (s.countWrap p o).rdata = s.rdata := rfl
@[simp] theorem State.countWrap_free (s : State) (p o : Nat) : (s.countWrap p o).free = s.free := rfl
@[simp] theorem State.countWrap_spi (s : State) (p o : Nat) : (s.countWrap p o).spi = s.spi := rfl
@[simp] theorem State.countWrap_pins (s : State) (p o : Nat) : (s.countWrap p o).pins = s.pins := rfl
@[simp] theorem State.countWrap_sup (s : State) (p o : Nat) : (s.countWrap p o).sup = s.sup := rfl
@[simp] theorem State.countWrap_pwr (s : State) (p o : Nat) : (s.countWrap p o).pwr = s.pwr := rfl
@[simp] theorem State.countWrap_clk (s : State) (p o : Nat) : (s.countWrap p o).clk = s.clk := rfl
@[simp] theorem State.countWrap_fab (s : State) (p o : Nat) : (s.countWrap p o).fab = s.fab := rfl
@[simp] theorem State.countWrap_dma (s : State) (p o : Nat) : (s.countWrap p o).dma = s.dma := rfl
@[simp] theorem State.countWrap_mem (s : State) (p o : Nat) : (s.countWrap p o).mem = s.mem := rfl
@[simp] theorem State.countWrap_nvs (s : State) (p o : Nat) : (s.countWrap p o).nvs = s.nvs := rfl
@[simp] theorem State.countWrap_time (s : State) (p o : Nat) : (s.countWrap p o).time = s.time := rfl
@[simp] theorem State.countWrap_stopN (s : State) (p o : Nat) : (s.countWrap p o).stopN = s.stopN := rfl
@[simp] theorem State.countWrap_axes (s : State) (p o : Nat) : (s.countWrap p o).axes = s.axes := rfl
@[simp] theorem State.countWrap_ledgers (s : State) (p o : Nat) : (s.countWrap p o).ledgers = s.ledgers := rfl
@[simp] theorem State.countWrap_brgs (s : State) (p o : Nat) : (s.countWrap p o).brgs = s.brgs := rfl
@[simp] theorem State.countWrap_dies (s : State) (p o : Nat) : (s.countWrap p o).dies = s.dies := rfl
@[simp] theorem State.countWrap_live (s : State) (p o : Nat) : (s.countWrap p o).live = s.live := rfl
@[simp] theorem State.countWrap_table (s : State) (p o : Nat) : (s.countWrap p o).table = s.table := rfl
@[simp] theorem State.countWrap_gate (s : State) (p o : Nat) : (s.countWrap p o).gate = s.gate := rfl
@[simp] theorem State.countWrap_encs (s : State) (p o : Nat) : (s.countWrap p o).encs = s.encs := rfl
@[simp] theorem State.countWrap_trigs (s : State) (p o : Nat) : (s.countWrap p o).trigs = s.trigs := rfl
@[simp] theorem State.countWrap_emus (s : State) (p o : Nat) : (s.countWrap p o).emus = s.emus := rfl
@[simp] theorem State.countWrap_tmr (s : State) (p o : Nat) : (s.countWrap p o).tmr = s.tmr := rfl
@[simp] theorem State.countWrap_cnvs (s : State) (p o : Nat) : (s.countWrap p o).cnvs = s.cnvs := rfl
@[simp] theorem State.countWrap_assay (s : State) (p o : Nat) : (s.countWrap p o).assay = s.assay := rfl
@[simp] theorem State.countWrap_wmons (s : State) (p o : Nat) : (s.countWrap p o).wmons = s.wmons := rfl
@[simp] theorem State.countWrap_chand (s : State) (p o : Nat) : (s.countWrap p o).chand = s.chand := rfl
@[simp] theorem State.countWrap_lchain (s : State) (p o : Nat) : (s.countWrap p o).lchain = s.lchain := rfl
@[simp] theorem State.countWrap_twin (s : State) (p o : Nat) : (s.countWrap p o).twin = s.twin := rfl
@[simp] theorem State.countWrap_pending (s : State) (p o : Nat) : (s.countWrap p o).pending = s.pending := rfl

/-! ### event -/

@[simp] theorem State.event_part (s : State) (p n : Nat) : (s.event p n).part = s.part := rfl
@[simp] theorem State.event_serial (s : State) (p n : Nat) : (s.event p n).serial = s.serial := rfl
@[simp] theorem State.event_lows (s : State) (p n : Nat) : (s.event p n).lows = s.lows := rfl
@[simp] theorem State.event_unlock (s : State) (p n : Nat) : (s.event p n).unlock = s.unlock := rfl
@[simp] theorem State.event_unitRst (s : State) (p n : Nat) : (s.event p n).unitRst = s.unitRst := rfl
@[simp] theorem State.event_rdata (s : State) (p n : Nat) : (s.event p n).rdata = s.rdata := rfl
@[simp] theorem State.event_free (s : State) (p n : Nat) : (s.event p n).free = s.free := rfl
@[simp] theorem State.event_spi (s : State) (p n : Nat) : (s.event p n).spi = s.spi := rfl
@[simp] theorem State.event_pins (s : State) (p n : Nat) : (s.event p n).pins = s.pins := rfl
@[simp] theorem State.event_sup (s : State) (p n : Nat) : (s.event p n).sup = s.sup := rfl
@[simp] theorem State.event_pwr (s : State) (p n : Nat) : (s.event p n).pwr = s.pwr := rfl
@[simp] theorem State.event_clk (s : State) (p n : Nat) : (s.event p n).clk = s.clk := rfl
@[simp] theorem State.event_fab (s : State) (p n : Nat) : (s.event p n).fab = s.fab := rfl
@[simp] theorem State.event_dma (s : State) (p n : Nat) : (s.event p n).dma = s.dma := rfl
@[simp] theorem State.event_mem (s : State) (p n : Nat) : (s.event p n).mem = s.mem := rfl
@[simp] theorem State.event_nvs (s : State) (p n : Nat) : (s.event p n).nvs = s.nvs := rfl
@[simp] theorem State.event_time (s : State) (p n : Nat) : (s.event p n).time = s.time := rfl
@[simp] theorem State.event_stopN (s : State) (p n : Nat) : (s.event p n).stopN = s.stopN := rfl
@[simp] theorem State.event_axes (s : State) (p n : Nat) : (s.event p n).axes = s.axes := rfl
@[simp] theorem State.event_ledgers (s : State) (p n : Nat) : (s.event p n).ledgers = s.ledgers := rfl
@[simp] theorem State.event_brgs (s : State) (p n : Nat) : (s.event p n).brgs = s.brgs := rfl
@[simp] theorem State.event_dies (s : State) (p n : Nat) : (s.event p n).dies = s.dies := rfl
@[simp] theorem State.event_live (s : State) (p n : Nat) : (s.event p n).live = s.live := rfl
@[simp] theorem State.event_table (s : State) (p n : Nat) : (s.event p n).table = s.table := rfl
@[simp] theorem State.event_gate (s : State) (p n : Nat) : (s.event p n).gate = s.gate := rfl
@[simp] theorem State.event_encs (s : State) (p n : Nat) : (s.event p n).encs = s.encs := rfl
@[simp] theorem State.event_trigs (s : State) (p n : Nat) : (s.event p n).trigs = s.trigs := rfl
@[simp] theorem State.event_emus (s : State) (p n : Nat) : (s.event p n).emus = s.emus := rfl
@[simp] theorem State.event_tmr (s : State) (p n : Nat) : (s.event p n).tmr = s.tmr := rfl
@[simp] theorem State.event_cnvs (s : State) (p n : Nat) : (s.event p n).cnvs = s.cnvs := rfl
@[simp] theorem State.event_assay (s : State) (p n : Nat) : (s.event p n).assay = s.assay := rfl
@[simp] theorem State.event_wmons (s : State) (p n : Nat) : (s.event p n).wmons = s.wmons := rfl
@[simp] theorem State.event_chand (s : State) (p n : Nat) : (s.event p n).chand = s.chand := rfl
@[simp] theorem State.event_lchain (s : State) (p n : Nat) : (s.event p n).lchain = s.lchain := rfl
@[simp] theorem State.event_twin (s : State) (p n : Nat) : (s.event p n).twin = s.twin := rfl
@[simp] theorem State.event_pending (s : State) (p n : Nat) : (s.event p n).pending = s.pending := rfl

/-! ### resetPage -/

@[simp] theorem State.resetPage_part (s : State) (p : Nat) (k : Nat → Bool) : (s.resetPage p k).part = s.part := rfl
@[simp] theorem State.resetPage_serial (s : State) (p : Nat) (k : Nat → Bool) : (s.resetPage p k).serial = s.serial := rfl
@[simp] theorem State.resetPage_unlock (s : State) (p : Nat) (k : Nat → Bool) : (s.resetPage p k).unlock = s.unlock := rfl
@[simp] theorem State.resetPage_unitRst (s : State) (p : Nat) (k : Nat → Bool) : (s.resetPage p k).unitRst = s.unitRst := rfl
@[simp] theorem State.resetPage_rdata (s : State) (p : Nat) (k : Nat → Bool) : (s.resetPage p k).rdata = s.rdata := rfl
@[simp] theorem State.resetPage_free (s : State) (p : Nat) (k : Nat → Bool) : (s.resetPage p k).free = s.free := rfl
@[simp] theorem State.resetPage_spi (s : State) (p : Nat) (k : Nat → Bool) : (s.resetPage p k).spi = s.spi := rfl
@[simp] theorem State.resetPage_pins (s : State) (p : Nat) (k : Nat → Bool) : (s.resetPage p k).pins = s.pins := rfl
@[simp] theorem State.resetPage_sup (s : State) (p : Nat) (k : Nat → Bool) : (s.resetPage p k).sup = s.sup := rfl
@[simp] theorem State.resetPage_pwr (s : State) (p : Nat) (k : Nat → Bool) : (s.resetPage p k).pwr = s.pwr := rfl
@[simp] theorem State.resetPage_clk (s : State) (p : Nat) (k : Nat → Bool) : (s.resetPage p k).clk = s.clk := rfl
@[simp] theorem State.resetPage_fab (s : State) (p : Nat) (k : Nat → Bool) : (s.resetPage p k).fab = s.fab := rfl
@[simp] theorem State.resetPage_dma (s : State) (p : Nat) (k : Nat → Bool) : (s.resetPage p k).dma = s.dma := rfl
@[simp] theorem State.resetPage_mem (s : State) (p : Nat) (k : Nat → Bool) : (s.resetPage p k).mem = s.mem := rfl
@[simp] theorem State.resetPage_nvs (s : State) (p : Nat) (k : Nat → Bool) : (s.resetPage p k).nvs = s.nvs := rfl
@[simp] theorem State.resetPage_time (s : State) (p : Nat) (k : Nat → Bool) : (s.resetPage p k).time = s.time := rfl
@[simp] theorem State.resetPage_stopN (s : State) (p : Nat) (k : Nat → Bool) : (s.resetPage p k).stopN = s.stopN := rfl
@[simp] theorem State.resetPage_axes (s : State) (p : Nat) (k : Nat → Bool) : (s.resetPage p k).axes = s.axes := rfl
@[simp] theorem State.resetPage_ledgers (s : State) (p : Nat) (k : Nat → Bool) : (s.resetPage p k).ledgers = s.ledgers := rfl
@[simp] theorem State.resetPage_brgs (s : State) (p : Nat) (k : Nat → Bool) : (s.resetPage p k).brgs = s.brgs := rfl
@[simp] theorem State.resetPage_dies (s : State) (p : Nat) (k : Nat → Bool) : (s.resetPage p k).dies = s.dies := rfl
@[simp] theorem State.resetPage_live (s : State) (p : Nat) (k : Nat → Bool) : (s.resetPage p k).live = s.live := rfl
@[simp] theorem State.resetPage_table (s : State) (p : Nat) (k : Nat → Bool) : (s.resetPage p k).table = s.table := rfl
@[simp] theorem State.resetPage_gate (s : State) (p : Nat) (k : Nat → Bool) : (s.resetPage p k).gate = s.gate := rfl
@[simp] theorem State.resetPage_encs (s : State) (p : Nat) (k : Nat → Bool) : (s.resetPage p k).encs = s.encs := rfl
@[simp] theorem State.resetPage_trigs (s : State) (p : Nat) (k : Nat → Bool) : (s.resetPage p k).trigs = s.trigs := rfl
@[simp] theorem State.resetPage_emus (s : State) (p : Nat) (k : Nat → Bool) : (s.resetPage p k).emus = s.emus := rfl
@[simp] theorem State.resetPage_tmr (s : State) (p : Nat) (k : Nat → Bool) : (s.resetPage p k).tmr = s.tmr := rfl
@[simp] theorem State.resetPage_cnvs (s : State) (p : Nat) (k : Nat → Bool) : (s.resetPage p k).cnvs = s.cnvs := rfl
@[simp] theorem State.resetPage_assay (s : State) (p : Nat) (k : Nat → Bool) : (s.resetPage p k).assay = s.assay := rfl
@[simp] theorem State.resetPage_wmons (s : State) (p : Nat) (k : Nat → Bool) : (s.resetPage p k).wmons = s.wmons := rfl
@[simp] theorem State.resetPage_chand (s : State) (p : Nat) (k : Nat → Bool) : (s.resetPage p k).chand = s.chand := rfl
@[simp] theorem State.resetPage_lchain (s : State) (p : Nat) (k : Nat → Bool) : (s.resetPage p k).lchain = s.lchain := rfl
@[simp] theorem State.resetPage_twin (s : State) (p : Nat) (k : Nat → Bool) : (s.resetPage p k).twin = s.twin := rfl
@[simp] theorem State.resetPage_pending (s : State) (p : Nat) (k : Nat → Bool) : (s.resetPage p k).pending = s.pending := rfl

/-! ### holdLow -/

@[simp] theorem State.holdLow_part (s : State) (p o : Nat) (v : Word) : (s.holdLow p o v).part = s.part := rfl
@[simp] theorem State.holdLow_serial (s : State) (p o : Nat) (v : Word) : (s.holdLow p o v).serial = s.serial := rfl
@[simp] theorem State.holdLow_regs (s : State) (p o : Nat) (v : Word) : (s.holdLow p o v).regs = s.regs := rfl
@[simp] theorem State.holdLow_unlock (s : State) (p o : Nat) (v : Word) : (s.holdLow p o v).unlock = s.unlock := rfl
@[simp] theorem State.holdLow_unitRst (s : State) (p o : Nat) (v : Word) : (s.holdLow p o v).unitRst = s.unitRst := rfl
@[simp] theorem State.holdLow_rdata (s : State) (p o : Nat) (v : Word) : (s.holdLow p o v).rdata = s.rdata := rfl
@[simp] theorem State.holdLow_free (s : State) (p o : Nat) (v : Word) : (s.holdLow p o v).free = s.free := rfl
@[simp] theorem State.holdLow_spi (s : State) (p o : Nat) (v : Word) : (s.holdLow p o v).spi = s.spi := rfl
@[simp] theorem State.holdLow_pins (s : State) (p o : Nat) (v : Word) : (s.holdLow p o v).pins = s.pins := rfl
@[simp] theorem State.holdLow_sup (s : State) (p o : Nat) (v : Word) : (s.holdLow p o v).sup = s.sup := rfl
@[simp] theorem State.holdLow_pwr (s : State) (p o : Nat) (v : Word) : (s.holdLow p o v).pwr = s.pwr := rfl
@[simp] theorem State.holdLow_clk (s : State) (p o : Nat) (v : Word) : (s.holdLow p o v).clk = s.clk := rfl
@[simp] theorem State.holdLow_fab (s : State) (p o : Nat) (v : Word) : (s.holdLow p o v).fab = s.fab := rfl
@[simp] theorem State.holdLow_dma (s : State) (p o : Nat) (v : Word) : (s.holdLow p o v).dma = s.dma := rfl
@[simp] theorem State.holdLow_mem (s : State) (p o : Nat) (v : Word) : (s.holdLow p o v).mem = s.mem := rfl
@[simp] theorem State.holdLow_nvs (s : State) (p o : Nat) (v : Word) : (s.holdLow p o v).nvs = s.nvs := rfl
@[simp] theorem State.holdLow_time (s : State) (p o : Nat) (v : Word) : (s.holdLow p o v).time = s.time := rfl
@[simp] theorem State.holdLow_stopN (s : State) (p o : Nat) (v : Word) : (s.holdLow p o v).stopN = s.stopN := rfl
@[simp] theorem State.holdLow_axes (s : State) (p o : Nat) (v : Word) : (s.holdLow p o v).axes = s.axes := rfl
@[simp] theorem State.holdLow_ledgers (s : State) (p o : Nat) (v : Word) : (s.holdLow p o v).ledgers = s.ledgers := rfl
@[simp] theorem State.holdLow_brgs (s : State) (p o : Nat) (v : Word) : (s.holdLow p o v).brgs = s.brgs := rfl
@[simp] theorem State.holdLow_dies (s : State) (p o : Nat) (v : Word) : (s.holdLow p o v).dies = s.dies := rfl
@[simp] theorem State.holdLow_live (s : State) (p o : Nat) (v : Word) : (s.holdLow p o v).live = s.live := rfl
@[simp] theorem State.holdLow_table (s : State) (p o : Nat) (v : Word) : (s.holdLow p o v).table = s.table := rfl
@[simp] theorem State.holdLow_gate (s : State) (p o : Nat) (v : Word) : (s.holdLow p o v).gate = s.gate := rfl
@[simp] theorem State.holdLow_encs (s : State) (p o : Nat) (v : Word) : (s.holdLow p o v).encs = s.encs := rfl
@[simp] theorem State.holdLow_trigs (s : State) (p o : Nat) (v : Word) : (s.holdLow p o v).trigs = s.trigs := rfl
@[simp] theorem State.holdLow_emus (s : State) (p o : Nat) (v : Word) : (s.holdLow p o v).emus = s.emus := rfl
@[simp] theorem State.holdLow_tmr (s : State) (p o : Nat) (v : Word) : (s.holdLow p o v).tmr = s.tmr := rfl
@[simp] theorem State.holdLow_cnvs (s : State) (p o : Nat) (v : Word) : (s.holdLow p o v).cnvs = s.cnvs := rfl
@[simp] theorem State.holdLow_assay (s : State) (p o : Nat) (v : Word) : (s.holdLow p o v).assay = s.assay := rfl
@[simp] theorem State.holdLow_wmons (s : State) (p o : Nat) (v : Word) : (s.holdLow p o v).wmons = s.wmons := rfl
@[simp] theorem State.holdLow_chand (s : State) (p o : Nat) (v : Word) : (s.holdLow p o v).chand = s.chand := rfl
@[simp] theorem State.holdLow_lchain (s : State) (p o : Nat) (v : Word) : (s.holdLow p o v).lchain = s.lchain := rfl
@[simp] theorem State.holdLow_twin (s : State) (p o : Nat) (v : Word) : (s.holdLow p o v).twin = s.twin := rfl
@[simp] theorem State.holdLow_pending (s : State) (p o : Nat) (v : Word) : (s.holdLow p o v).pending = s.pending := rfl

/-! ### dropLow -/

@[simp] theorem State.dropLow_part (s : State) (p o : Nat) : (s.dropLow p o).part = s.part := rfl
@[simp] theorem State.dropLow_serial (s : State) (p o : Nat) : (s.dropLow p o).serial = s.serial := rfl
@[simp] theorem State.dropLow_regs (s : State) (p o : Nat) : (s.dropLow p o).regs = s.regs := rfl
@[simp] theorem State.dropLow_unlock (s : State) (p o : Nat) : (s.dropLow p o).unlock = s.unlock := rfl
@[simp] theorem State.dropLow_unitRst (s : State) (p o : Nat) : (s.dropLow p o).unitRst = s.unitRst := rfl
@[simp] theorem State.dropLow_rdata (s : State) (p o : Nat) : (s.dropLow p o).rdata = s.rdata := rfl
@[simp] theorem State.dropLow_free (s : State) (p o : Nat) : (s.dropLow p o).free = s.free := rfl
@[simp] theorem State.dropLow_spi (s : State) (p o : Nat) : (s.dropLow p o).spi = s.spi := rfl
@[simp] theorem State.dropLow_pins (s : State) (p o : Nat) : (s.dropLow p o).pins = s.pins := rfl
@[simp] theorem State.dropLow_sup (s : State) (p o : Nat) : (s.dropLow p o).sup = s.sup := rfl
@[simp] theorem State.dropLow_pwr (s : State) (p o : Nat) : (s.dropLow p o).pwr = s.pwr := rfl
@[simp] theorem State.dropLow_clk (s : State) (p o : Nat) : (s.dropLow p o).clk = s.clk := rfl
@[simp] theorem State.dropLow_fab (s : State) (p o : Nat) : (s.dropLow p o).fab = s.fab := rfl
@[simp] theorem State.dropLow_dma (s : State) (p o : Nat) : (s.dropLow p o).dma = s.dma := rfl
@[simp] theorem State.dropLow_mem (s : State) (p o : Nat) : (s.dropLow p o).mem = s.mem := rfl
@[simp] theorem State.dropLow_nvs (s : State) (p o : Nat) : (s.dropLow p o).nvs = s.nvs := rfl
@[simp] theorem State.dropLow_time (s : State) (p o : Nat) : (s.dropLow p o).time = s.time := rfl
@[simp] theorem State.dropLow_stopN (s : State) (p o : Nat) : (s.dropLow p o).stopN = s.stopN := rfl
@[simp] theorem State.dropLow_axes (s : State) (p o : Nat) : (s.dropLow p o).axes = s.axes := rfl
@[simp] theorem State.dropLow_ledgers (s : State) (p o : Nat) : (s.dropLow p o).ledgers = s.ledgers := rfl
@[simp] theorem State.dropLow_brgs (s : State) (p o : Nat) : (s.dropLow p o).brgs = s.brgs := rfl
@[simp] theorem State.dropLow_dies (s : State) (p o : Nat) : (s.dropLow p o).dies = s.dies := rfl
@[simp] theorem State.dropLow_live (s : State) (p o : Nat) : (s.dropLow p o).live = s.live := rfl
@[simp] theorem State.dropLow_table (s : State) (p o : Nat) : (s.dropLow p o).table = s.table := rfl
@[simp] theorem State.dropLow_gate (s : State) (p o : Nat) : (s.dropLow p o).gate = s.gate := rfl
@[simp] theorem State.dropLow_encs (s : State) (p o : Nat) : (s.dropLow p o).encs = s.encs := rfl
@[simp] theorem State.dropLow_trigs (s : State) (p o : Nat) : (s.dropLow p o).trigs = s.trigs := rfl
@[simp] theorem State.dropLow_emus (s : State) (p o : Nat) : (s.dropLow p o).emus = s.emus := rfl
@[simp] theorem State.dropLow_tmr (s : State) (p o : Nat) : (s.dropLow p o).tmr = s.tmr := rfl
@[simp] theorem State.dropLow_cnvs (s : State) (p o : Nat) : (s.dropLow p o).cnvs = s.cnvs := rfl
@[simp] theorem State.dropLow_assay (s : State) (p o : Nat) : (s.dropLow p o).assay = s.assay := rfl
@[simp] theorem State.dropLow_wmons (s : State) (p o : Nat) : (s.dropLow p o).wmons = s.wmons := rfl
@[simp] theorem State.dropLow_chand (s : State) (p o : Nat) : (s.dropLow p o).chand = s.chand := rfl
@[simp] theorem State.dropLow_lchain (s : State) (p o : Nat) : (s.dropLow p o).lchain = s.lchain := rfl
@[simp] theorem State.dropLow_twin (s : State) (p o : Nat) : (s.dropLow p o).twin = s.twin := rfl
@[simp] theorem State.dropLow_pending (s : State) (p o : Nat) : (s.dropLow p o).pending = s.pending := rfl

/-! ### setUnlock -/

@[simp] theorem State.setUnlock_part (s : State) (p : Nat) (b : Bool) : (s.setUnlock p b).part = s.part := rfl
@[simp] theorem State.setUnlock_serial (s : State) (p : Nat) (b : Bool) : (s.setUnlock p b).serial = s.serial := rfl
@[simp] theorem State.setUnlock_regs (s : State) (p : Nat) (b : Bool) : (s.setUnlock p b).regs = s.regs := rfl
@[simp] theorem State.setUnlock_lows (s : State) (p : Nat) (b : Bool) : (s.setUnlock p b).lows = s.lows := rfl
@[simp] theorem State.setUnlock_unitRst (s : State) (p : Nat) (b : Bool) : (s.setUnlock p b).unitRst = s.unitRst := rfl
@[simp] theorem State.setUnlock_rdata (s : State) (p : Nat) (b : Bool) : (s.setUnlock p b).rdata = s.rdata := rfl
@[simp] theorem State.setUnlock_free (s : State) (p : Nat) (b : Bool) : (s.setUnlock p b).free = s.free := rfl
@[simp] theorem State.setUnlock_spi (s : State) (p : Nat) (b : Bool) : (s.setUnlock p b).spi = s.spi := rfl
@[simp] theorem State.setUnlock_pins (s : State) (p : Nat) (b : Bool) : (s.setUnlock p b).pins = s.pins := rfl
@[simp] theorem State.setUnlock_sup (s : State) (p : Nat) (b : Bool) : (s.setUnlock p b).sup = s.sup := rfl
@[simp] theorem State.setUnlock_pwr (s : State) (p : Nat) (b : Bool) : (s.setUnlock p b).pwr = s.pwr := rfl
@[simp] theorem State.setUnlock_clk (s : State) (p : Nat) (b : Bool) : (s.setUnlock p b).clk = s.clk := rfl
@[simp] theorem State.setUnlock_fab (s : State) (p : Nat) (b : Bool) : (s.setUnlock p b).fab = s.fab := rfl
@[simp] theorem State.setUnlock_dma (s : State) (p : Nat) (b : Bool) : (s.setUnlock p b).dma = s.dma := rfl
@[simp] theorem State.setUnlock_mem (s : State) (p : Nat) (b : Bool) : (s.setUnlock p b).mem = s.mem := rfl
@[simp] theorem State.setUnlock_nvs (s : State) (p : Nat) (b : Bool) : (s.setUnlock p b).nvs = s.nvs := rfl
@[simp] theorem State.setUnlock_time (s : State) (p : Nat) (b : Bool) : (s.setUnlock p b).time = s.time := rfl
@[simp] theorem State.setUnlock_stopN (s : State) (p : Nat) (b : Bool) : (s.setUnlock p b).stopN = s.stopN := rfl
@[simp] theorem State.setUnlock_axes (s : State) (p : Nat) (b : Bool) : (s.setUnlock p b).axes = s.axes := rfl
@[simp] theorem State.setUnlock_ledgers (s : State) (p : Nat) (b : Bool) : (s.setUnlock p b).ledgers = s.ledgers := rfl
@[simp] theorem State.setUnlock_brgs (s : State) (p : Nat) (b : Bool) : (s.setUnlock p b).brgs = s.brgs := rfl
@[simp] theorem State.setUnlock_dies (s : State) (p : Nat) (b : Bool) : (s.setUnlock p b).dies = s.dies := rfl
@[simp] theorem State.setUnlock_live (s : State) (p : Nat) (b : Bool) : (s.setUnlock p b).live = s.live := rfl
@[simp] theorem State.setUnlock_table (s : State) (p : Nat) (b : Bool) : (s.setUnlock p b).table = s.table := rfl
@[simp] theorem State.setUnlock_gate (s : State) (p : Nat) (b : Bool) : (s.setUnlock p b).gate = s.gate := rfl
@[simp] theorem State.setUnlock_encs (s : State) (p : Nat) (b : Bool) : (s.setUnlock p b).encs = s.encs := rfl
@[simp] theorem State.setUnlock_trigs (s : State) (p : Nat) (b : Bool) : (s.setUnlock p b).trigs = s.trigs := rfl
@[simp] theorem State.setUnlock_emus (s : State) (p : Nat) (b : Bool) : (s.setUnlock p b).emus = s.emus := rfl
@[simp] theorem State.setUnlock_tmr (s : State) (p : Nat) (b : Bool) : (s.setUnlock p b).tmr = s.tmr := rfl
@[simp] theorem State.setUnlock_cnvs (s : State) (p : Nat) (b : Bool) : (s.setUnlock p b).cnvs = s.cnvs := rfl
@[simp] theorem State.setUnlock_assay (s : State) (p : Nat) (b : Bool) : (s.setUnlock p b).assay = s.assay := rfl
@[simp] theorem State.setUnlock_wmons (s : State) (p : Nat) (b : Bool) : (s.setUnlock p b).wmons = s.wmons := rfl
@[simp] theorem State.setUnlock_chand (s : State) (p : Nat) (b : Bool) : (s.setUnlock p b).chand = s.chand := rfl
@[simp] theorem State.setUnlock_lchain (s : State) (p : Nat) (b : Bool) : (s.setUnlock p b).lchain = s.lchain := rfl
@[simp] theorem State.setUnlock_twin (s : State) (p : Nat) (b : Bool) : (s.setUnlock p b).twin = s.twin := rfl
@[simp] theorem State.setUnlock_pending (s : State) (p : Nat) (b : Bool) : (s.setUnlock p b).pending = s.pending := rfl

/-! ### setUnitReset -/

@[simp] theorem State.setUnitReset_part (s : State) (p : Nat) (b : Bool) : (s.setUnitReset p b).part = s.part := rfl
@[simp] theorem State.setUnitReset_serial (s : State) (p : Nat) (b : Bool) : (s.setUnitReset p b).serial = s.serial := rfl
@[simp] theorem State.setUnitReset_regs (s : State) (p : Nat) (b : Bool) : (s.setUnitReset p b).regs = s.regs := rfl
@[simp] theorem State.setUnitReset_lows (s : State) (p : Nat) (b : Bool) : (s.setUnitReset p b).lows = s.lows := rfl
@[simp] theorem State.setUnitReset_unlock (s : State) (p : Nat) (b : Bool) : (s.setUnitReset p b).unlock = s.unlock := rfl
@[simp] theorem State.setUnitReset_rdata (s : State) (p : Nat) (b : Bool) : (s.setUnitReset p b).rdata = s.rdata := rfl
@[simp] theorem State.setUnitReset_free (s : State) (p : Nat) (b : Bool) : (s.setUnitReset p b).free = s.free := rfl
@[simp] theorem State.setUnitReset_spi (s : State) (p : Nat) (b : Bool) : (s.setUnitReset p b).spi = s.spi := rfl
@[simp] theorem State.setUnitReset_pins (s : State) (p : Nat) (b : Bool) : (s.setUnitReset p b).pins = s.pins := rfl
@[simp] theorem State.setUnitReset_sup (s : State) (p : Nat) (b : Bool) : (s.setUnitReset p b).sup = s.sup := rfl
@[simp] theorem State.setUnitReset_pwr (s : State) (p : Nat) (b : Bool) : (s.setUnitReset p b).pwr = s.pwr := rfl
@[simp] theorem State.setUnitReset_clk (s : State) (p : Nat) (b : Bool) : (s.setUnitReset p b).clk = s.clk := rfl
@[simp] theorem State.setUnitReset_fab (s : State) (p : Nat) (b : Bool) : (s.setUnitReset p b).fab = s.fab := rfl
@[simp] theorem State.setUnitReset_dma (s : State) (p : Nat) (b : Bool) : (s.setUnitReset p b).dma = s.dma := rfl
@[simp] theorem State.setUnitReset_mem (s : State) (p : Nat) (b : Bool) : (s.setUnitReset p b).mem = s.mem := rfl
@[simp] theorem State.setUnitReset_nvs (s : State) (p : Nat) (b : Bool) : (s.setUnitReset p b).nvs = s.nvs := rfl
@[simp] theorem State.setUnitReset_time (s : State) (p : Nat) (b : Bool) : (s.setUnitReset p b).time = s.time := rfl
@[simp] theorem State.setUnitReset_stopN (s : State) (p : Nat) (b : Bool) : (s.setUnitReset p b).stopN = s.stopN := rfl
@[simp] theorem State.setUnitReset_axes (s : State) (p : Nat) (b : Bool) : (s.setUnitReset p b).axes = s.axes := rfl
@[simp] theorem State.setUnitReset_ledgers (s : State) (p : Nat) (b : Bool) : (s.setUnitReset p b).ledgers = s.ledgers := rfl
@[simp] theorem State.setUnitReset_brgs (s : State) (p : Nat) (b : Bool) : (s.setUnitReset p b).brgs = s.brgs := rfl
@[simp] theorem State.setUnitReset_dies (s : State) (p : Nat) (b : Bool) : (s.setUnitReset p b).dies = s.dies := rfl
@[simp] theorem State.setUnitReset_live (s : State) (p : Nat) (b : Bool) : (s.setUnitReset p b).live = s.live := rfl
@[simp] theorem State.setUnitReset_table (s : State) (p : Nat) (b : Bool) : (s.setUnitReset p b).table = s.table := rfl
@[simp] theorem State.setUnitReset_gate (s : State) (p : Nat) (b : Bool) : (s.setUnitReset p b).gate = s.gate := rfl
@[simp] theorem State.setUnitReset_encs (s : State) (p : Nat) (b : Bool) : (s.setUnitReset p b).encs = s.encs := rfl
@[simp] theorem State.setUnitReset_trigs (s : State) (p : Nat) (b : Bool) : (s.setUnitReset p b).trigs = s.trigs := rfl
@[simp] theorem State.setUnitReset_emus (s : State) (p : Nat) (b : Bool) : (s.setUnitReset p b).emus = s.emus := rfl
@[simp] theorem State.setUnitReset_tmr (s : State) (p : Nat) (b : Bool) : (s.setUnitReset p b).tmr = s.tmr := rfl
@[simp] theorem State.setUnitReset_cnvs (s : State) (p : Nat) (b : Bool) : (s.setUnitReset p b).cnvs = s.cnvs := rfl
@[simp] theorem State.setUnitReset_assay (s : State) (p : Nat) (b : Bool) : (s.setUnitReset p b).assay = s.assay := rfl
@[simp] theorem State.setUnitReset_wmons (s : State) (p : Nat) (b : Bool) : (s.setUnitReset p b).wmons = s.wmons := rfl
@[simp] theorem State.setUnitReset_chand (s : State) (p : Nat) (b : Bool) : (s.setUnitReset p b).chand = s.chand := rfl
@[simp] theorem State.setUnitReset_lchain (s : State) (p : Nat) (b : Bool) : (s.setUnitReset p b).lchain = s.lchain := rfl
@[simp] theorem State.setUnitReset_twin (s : State) (p : Nat) (b : Bool) : (s.setUnitReset p b).twin = s.twin := rfl
@[simp] theorem State.setUnitReset_pending (s : State) (p : Nat) (b : Bool) : (s.setUnitReset p b).pending = s.pending := rfl

/-! ### modAxis -/

@[simp] theorem State.modAxis_part (s : State) (n : Ax) (f : Axis → Axis) : (s.modAxis n f).part = s.part := rfl
@[simp] theorem State.modAxis_serial (s : State) (n : Ax) (f : Axis → Axis) : (s.modAxis n f).serial = s.serial := rfl
@[simp] theorem State.modAxis_regs (s : State) (n : Ax) (f : Axis → Axis) : (s.modAxis n f).regs = s.regs := rfl
@[simp] theorem State.modAxis_lows (s : State) (n : Ax) (f : Axis → Axis) : (s.modAxis n f).lows = s.lows := rfl
@[simp] theorem State.modAxis_unlock (s : State) (n : Ax) (f : Axis → Axis) : (s.modAxis n f).unlock = s.unlock := rfl
@[simp] theorem State.modAxis_unitRst (s : State) (n : Ax) (f : Axis → Axis) : (s.modAxis n f).unitRst = s.unitRst := rfl
@[simp] theorem State.modAxis_rdata (s : State) (n : Ax) (f : Axis → Axis) : (s.modAxis n f).rdata = s.rdata := rfl
@[simp] theorem State.modAxis_free (s : State) (n : Ax) (f : Axis → Axis) : (s.modAxis n f).free = s.free := rfl
@[simp] theorem State.modAxis_spi (s : State) (n : Ax) (f : Axis → Axis) : (s.modAxis n f).spi = s.spi := rfl
@[simp] theorem State.modAxis_pins (s : State) (n : Ax) (f : Axis → Axis) : (s.modAxis n f).pins = s.pins := rfl
@[simp] theorem State.modAxis_sup (s : State) (n : Ax) (f : Axis → Axis) : (s.modAxis n f).sup = s.sup := rfl
@[simp] theorem State.modAxis_pwr (s : State) (n : Ax) (f : Axis → Axis) : (s.modAxis n f).pwr = s.pwr := rfl
@[simp] theorem State.modAxis_clk (s : State) (n : Ax) (f : Axis → Axis) : (s.modAxis n f).clk = s.clk := rfl
@[simp] theorem State.modAxis_fab (s : State) (n : Ax) (f : Axis → Axis) : (s.modAxis n f).fab = s.fab := rfl
@[simp] theorem State.modAxis_dma (s : State) (n : Ax) (f : Axis → Axis) : (s.modAxis n f).dma = s.dma := rfl
@[simp] theorem State.modAxis_mem (s : State) (n : Ax) (f : Axis → Axis) : (s.modAxis n f).mem = s.mem := rfl
@[simp] theorem State.modAxis_nvs (s : State) (n : Ax) (f : Axis → Axis) : (s.modAxis n f).nvs = s.nvs := rfl
@[simp] theorem State.modAxis_time (s : State) (n : Ax) (f : Axis → Axis) : (s.modAxis n f).time = s.time := rfl
@[simp] theorem State.modAxis_stopN (s : State) (n : Ax) (f : Axis → Axis) : (s.modAxis n f).stopN = s.stopN := rfl
@[simp] theorem State.modAxis_ledgers (s : State) (n : Ax) (f : Axis → Axis) : (s.modAxis n f).ledgers = s.ledgers := rfl
@[simp] theorem State.modAxis_brgs (s : State) (n : Ax) (f : Axis → Axis) : (s.modAxis n f).brgs = s.brgs := rfl
@[simp] theorem State.modAxis_dies (s : State) (n : Ax) (f : Axis → Axis) : (s.modAxis n f).dies = s.dies := rfl
@[simp] theorem State.modAxis_live (s : State) (n : Ax) (f : Axis → Axis) : (s.modAxis n f).live = s.live := rfl
@[simp] theorem State.modAxis_table (s : State) (n : Ax) (f : Axis → Axis) : (s.modAxis n f).table = s.table := rfl
@[simp] theorem State.modAxis_gate (s : State) (n : Ax) (f : Axis → Axis) : (s.modAxis n f).gate = s.gate := rfl
@[simp] theorem State.modAxis_encs (s : State) (n : Ax) (f : Axis → Axis) : (s.modAxis n f).encs = s.encs := rfl
@[simp] theorem State.modAxis_trigs (s : State) (n : Ax) (f : Axis → Axis) : (s.modAxis n f).trigs = s.trigs := rfl
@[simp] theorem State.modAxis_emus (s : State) (n : Ax) (f : Axis → Axis) : (s.modAxis n f).emus = s.emus := rfl
@[simp] theorem State.modAxis_tmr (s : State) (n : Ax) (f : Axis → Axis) : (s.modAxis n f).tmr = s.tmr := rfl
@[simp] theorem State.modAxis_cnvs (s : State) (n : Ax) (f : Axis → Axis) : (s.modAxis n f).cnvs = s.cnvs := rfl
@[simp] theorem State.modAxis_assay (s : State) (n : Ax) (f : Axis → Axis) : (s.modAxis n f).assay = s.assay := rfl
@[simp] theorem State.modAxis_wmons (s : State) (n : Ax) (f : Axis → Axis) : (s.modAxis n f).wmons = s.wmons := rfl
@[simp] theorem State.modAxis_chand (s : State) (n : Ax) (f : Axis → Axis) : (s.modAxis n f).chand = s.chand := rfl
@[simp] theorem State.modAxis_lchain (s : State) (n : Ax) (f : Axis → Axis) : (s.modAxis n f).lchain = s.lchain := rfl
@[simp] theorem State.modAxis_twin (s : State) (n : Ax) (f : Axis → Axis) : (s.modAxis n f).twin = s.twin := rfl
@[simp] theorem State.modAxis_pending (s : State) (n : Ax) (f : Axis → Axis) : (s.modAxis n f).pending = s.pending := rfl

/-! ### modLedger -/

@[simp] theorem State.modLedger_part (s : State) (n : Ax) (f : Ledger → Ledger) : (s.modLedger n f).part = s.part := rfl
@[simp] theorem State.modLedger_serial (s : State) (n : Ax) (f : Ledger → Ledger) : (s.modLedger n f).serial = s.serial := rfl
@[simp] theorem State.modLedger_regs (s : State) (n : Ax) (f : Ledger → Ledger) : (s.modLedger n f).regs = s.regs := rfl
@[simp] theorem State.modLedger_lows (s : State) (n : Ax) (f : Ledger → Ledger) : (s.modLedger n f).lows = s.lows := rfl
@[simp] theorem State.modLedger_unlock (s : State) (n : Ax) (f : Ledger → Ledger) : (s.modLedger n f).unlock = s.unlock := rfl
@[simp] theorem State.modLedger_unitRst (s : State) (n : Ax) (f : Ledger → Ledger) : (s.modLedger n f).unitRst = s.unitRst := rfl
@[simp] theorem State.modLedger_rdata (s : State) (n : Ax) (f : Ledger → Ledger) : (s.modLedger n f).rdata = s.rdata := rfl
@[simp] theorem State.modLedger_free (s : State) (n : Ax) (f : Ledger → Ledger) : (s.modLedger n f).free = s.free := rfl
@[simp] theorem State.modLedger_spi (s : State) (n : Ax) (f : Ledger → Ledger) : (s.modLedger n f).spi = s.spi := rfl
@[simp] theorem State.modLedger_pins (s : State) (n : Ax) (f : Ledger → Ledger) : (s.modLedger n f).pins = s.pins := rfl
@[simp] theorem State.modLedger_sup (s : State) (n : Ax) (f : Ledger → Ledger) : (s.modLedger n f).sup = s.sup := rfl
@[simp] theorem State.modLedger_pwr (s : State) (n : Ax) (f : Ledger → Ledger) : (s.modLedger n f).pwr = s.pwr := rfl
@[simp] theorem State.modLedger_clk (s : State) (n : Ax) (f : Ledger → Ledger) : (s.modLedger n f).clk = s.clk := rfl
@[simp] theorem State.modLedger_fab (s : State) (n : Ax) (f : Ledger → Ledger) : (s.modLedger n f).fab = s.fab := rfl
@[simp] theorem State.modLedger_dma (s : State) (n : Ax) (f : Ledger → Ledger) : (s.modLedger n f).dma = s.dma := rfl
@[simp] theorem State.modLedger_mem (s : State) (n : Ax) (f : Ledger → Ledger) : (s.modLedger n f).mem = s.mem := rfl
@[simp] theorem State.modLedger_nvs (s : State) (n : Ax) (f : Ledger → Ledger) : (s.modLedger n f).nvs = s.nvs := rfl
@[simp] theorem State.modLedger_time (s : State) (n : Ax) (f : Ledger → Ledger) : (s.modLedger n f).time = s.time := rfl
@[simp] theorem State.modLedger_stopN (s : State) (n : Ax) (f : Ledger → Ledger) : (s.modLedger n f).stopN = s.stopN := rfl
@[simp] theorem State.modLedger_axes (s : State) (n : Ax) (f : Ledger → Ledger) : (s.modLedger n f).axes = s.axes := rfl
@[simp] theorem State.modLedger_brgs (s : State) (n : Ax) (f : Ledger → Ledger) : (s.modLedger n f).brgs = s.brgs := rfl
@[simp] theorem State.modLedger_dies (s : State) (n : Ax) (f : Ledger → Ledger) : (s.modLedger n f).dies = s.dies := rfl
@[simp] theorem State.modLedger_live (s : State) (n : Ax) (f : Ledger → Ledger) : (s.modLedger n f).live = s.live := rfl
@[simp] theorem State.modLedger_table (s : State) (n : Ax) (f : Ledger → Ledger) : (s.modLedger n f).table = s.table := rfl
@[simp] theorem State.modLedger_gate (s : State) (n : Ax) (f : Ledger → Ledger) : (s.modLedger n f).gate = s.gate := rfl
@[simp] theorem State.modLedger_encs (s : State) (n : Ax) (f : Ledger → Ledger) : (s.modLedger n f).encs = s.encs := rfl
@[simp] theorem State.modLedger_trigs (s : State) (n : Ax) (f : Ledger → Ledger) : (s.modLedger n f).trigs = s.trigs := rfl
@[simp] theorem State.modLedger_emus (s : State) (n : Ax) (f : Ledger → Ledger) : (s.modLedger n f).emus = s.emus := rfl
@[simp] theorem State.modLedger_tmr (s : State) (n : Ax) (f : Ledger → Ledger) : (s.modLedger n f).tmr = s.tmr := rfl
@[simp] theorem State.modLedger_cnvs (s : State) (n : Ax) (f : Ledger → Ledger) : (s.modLedger n f).cnvs = s.cnvs := rfl
@[simp] theorem State.modLedger_assay (s : State) (n : Ax) (f : Ledger → Ledger) : (s.modLedger n f).assay = s.assay := rfl
@[simp] theorem State.modLedger_wmons (s : State) (n : Ax) (f : Ledger → Ledger) : (s.modLedger n f).wmons = s.wmons := rfl
@[simp] theorem State.modLedger_chand (s : State) (n : Ax) (f : Ledger → Ledger) : (s.modLedger n f).chand = s.chand := rfl
@[simp] theorem State.modLedger_lchain (s : State) (n : Ax) (f : Ledger → Ledger) : (s.modLedger n f).lchain = s.lchain := rfl
@[simp] theorem State.modLedger_twin (s : State) (n : Ax) (f : Ledger → Ledger) : (s.modLedger n f).twin = s.twin := rfl
@[simp] theorem State.modLedger_pending (s : State) (n : Ax) (f : Ledger → Ledger) : (s.modLedger n f).pending = s.pending := rfl

/-! ### modBrg -/

@[simp] theorem State.modBrg_part (s : State) (n : Ax) (f : Bridge → Bridge) : (s.modBrg n f).part = s.part := rfl
@[simp] theorem State.modBrg_serial (s : State) (n : Ax) (f : Bridge → Bridge) : (s.modBrg n f).serial = s.serial := rfl
@[simp] theorem State.modBrg_regs (s : State) (n : Ax) (f : Bridge → Bridge) : (s.modBrg n f).regs = s.regs := rfl
@[simp] theorem State.modBrg_lows (s : State) (n : Ax) (f : Bridge → Bridge) : (s.modBrg n f).lows = s.lows := rfl
@[simp] theorem State.modBrg_unlock (s : State) (n : Ax) (f : Bridge → Bridge) : (s.modBrg n f).unlock = s.unlock := rfl
@[simp] theorem State.modBrg_unitRst (s : State) (n : Ax) (f : Bridge → Bridge) : (s.modBrg n f).unitRst = s.unitRst := rfl
@[simp] theorem State.modBrg_rdata (s : State) (n : Ax) (f : Bridge → Bridge) : (s.modBrg n f).rdata = s.rdata := rfl
@[simp] theorem State.modBrg_free (s : State) (n : Ax) (f : Bridge → Bridge) : (s.modBrg n f).free = s.free := rfl
@[simp] theorem State.modBrg_spi (s : State) (n : Ax) (f : Bridge → Bridge) : (s.modBrg n f).spi = s.spi := rfl
@[simp] theorem State.modBrg_pins (s : State) (n : Ax) (f : Bridge → Bridge) : (s.modBrg n f).pins = s.pins := rfl
@[simp] theorem State.modBrg_sup (s : State) (n : Ax) (f : Bridge → Bridge) : (s.modBrg n f).sup = s.sup := rfl
@[simp] theorem State.modBrg_pwr (s : State) (n : Ax) (f : Bridge → Bridge) : (s.modBrg n f).pwr = s.pwr := rfl
@[simp] theorem State.modBrg_clk (s : State) (n : Ax) (f : Bridge → Bridge) : (s.modBrg n f).clk = s.clk := rfl
@[simp] theorem State.modBrg_fab (s : State) (n : Ax) (f : Bridge → Bridge) : (s.modBrg n f).fab = s.fab := rfl
@[simp] theorem State.modBrg_dma (s : State) (n : Ax) (f : Bridge → Bridge) : (s.modBrg n f).dma = s.dma := rfl
@[simp] theorem State.modBrg_mem (s : State) (n : Ax) (f : Bridge → Bridge) : (s.modBrg n f).mem = s.mem := rfl
@[simp] theorem State.modBrg_nvs (s : State) (n : Ax) (f : Bridge → Bridge) : (s.modBrg n f).nvs = s.nvs := rfl
@[simp] theorem State.modBrg_time (s : State) (n : Ax) (f : Bridge → Bridge) : (s.modBrg n f).time = s.time := rfl
@[simp] theorem State.modBrg_stopN (s : State) (n : Ax) (f : Bridge → Bridge) : (s.modBrg n f).stopN = s.stopN := rfl
@[simp] theorem State.modBrg_axes (s : State) (n : Ax) (f : Bridge → Bridge) : (s.modBrg n f).axes = s.axes := rfl
@[simp] theorem State.modBrg_ledgers (s : State) (n : Ax) (f : Bridge → Bridge) : (s.modBrg n f).ledgers = s.ledgers := rfl
@[simp] theorem State.modBrg_dies (s : State) (n : Ax) (f : Bridge → Bridge) : (s.modBrg n f).dies = s.dies := rfl
@[simp] theorem State.modBrg_live (s : State) (n : Ax) (f : Bridge → Bridge) : (s.modBrg n f).live = s.live := rfl
@[simp] theorem State.modBrg_table (s : State) (n : Ax) (f : Bridge → Bridge) : (s.modBrg n f).table = s.table := rfl
@[simp] theorem State.modBrg_gate (s : State) (n : Ax) (f : Bridge → Bridge) : (s.modBrg n f).gate = s.gate := rfl
@[simp] theorem State.modBrg_encs (s : State) (n : Ax) (f : Bridge → Bridge) : (s.modBrg n f).encs = s.encs := rfl
@[simp] theorem State.modBrg_trigs (s : State) (n : Ax) (f : Bridge → Bridge) : (s.modBrg n f).trigs = s.trigs := rfl
@[simp] theorem State.modBrg_emus (s : State) (n : Ax) (f : Bridge → Bridge) : (s.modBrg n f).emus = s.emus := rfl
@[simp] theorem State.modBrg_tmr (s : State) (n : Ax) (f : Bridge → Bridge) : (s.modBrg n f).tmr = s.tmr := rfl
@[simp] theorem State.modBrg_cnvs (s : State) (n : Ax) (f : Bridge → Bridge) : (s.modBrg n f).cnvs = s.cnvs := rfl
@[simp] theorem State.modBrg_assay (s : State) (n : Ax) (f : Bridge → Bridge) : (s.modBrg n f).assay = s.assay := rfl
@[simp] theorem State.modBrg_wmons (s : State) (n : Ax) (f : Bridge → Bridge) : (s.modBrg n f).wmons = s.wmons := rfl
@[simp] theorem State.modBrg_chand (s : State) (n : Ax) (f : Bridge → Bridge) : (s.modBrg n f).chand = s.chand := rfl
@[simp] theorem State.modBrg_lchain (s : State) (n : Ax) (f : Bridge → Bridge) : (s.modBrg n f).lchain = s.lchain := rfl
@[simp] theorem State.modBrg_twin (s : State) (n : Ax) (f : Bridge → Bridge) : (s.modBrg n f).twin = s.twin := rfl
@[simp] theorem State.modBrg_pending (s : State) (n : Ax) (f : Bridge → Bridge) : (s.modBrg n f).pending = s.pending := rfl

/-! ### modSpi -/

@[simp] theorem State.modSpi_part (s : State) (f : Spi → Spi) : (s.modSpi f).part = s.part := rfl
@[simp] theorem State.modSpi_serial (s : State) (f : Spi → Spi) : (s.modSpi f).serial = s.serial := rfl
@[simp] theorem State.modSpi_regs (s : State) (f : Spi → Spi) : (s.modSpi f).regs = s.regs := rfl
@[simp] theorem State.modSpi_lows (s : State) (f : Spi → Spi) : (s.modSpi f).lows = s.lows := rfl
@[simp] theorem State.modSpi_unlock (s : State) (f : Spi → Spi) : (s.modSpi f).unlock = s.unlock := rfl
@[simp] theorem State.modSpi_unitRst (s : State) (f : Spi → Spi) : (s.modSpi f).unitRst = s.unitRst := rfl
@[simp] theorem State.modSpi_rdata (s : State) (f : Spi → Spi) : (s.modSpi f).rdata = s.rdata := rfl
@[simp] theorem State.modSpi_free (s : State) (f : Spi → Spi) : (s.modSpi f).free = s.free := rfl
@[simp] theorem State.modSpi_pins (s : State) (f : Spi → Spi) : (s.modSpi f).pins = s.pins := rfl
@[simp] theorem State.modSpi_sup (s : State) (f : Spi → Spi) : (s.modSpi f).sup = s.sup := rfl
@[simp] theorem State.modSpi_pwr (s : State) (f : Spi → Spi) : (s.modSpi f).pwr = s.pwr := rfl
@[simp] theorem State.modSpi_clk (s : State) (f : Spi → Spi) : (s.modSpi f).clk = s.clk := rfl
@[simp] theorem State.modSpi_fab (s : State) (f : Spi → Spi) : (s.modSpi f).fab = s.fab := rfl
@[simp] theorem State.modSpi_dma (s : State) (f : Spi → Spi) : (s.modSpi f).dma = s.dma := rfl
@[simp] theorem State.modSpi_mem (s : State) (f : Spi → Spi) : (s.modSpi f).mem = s.mem := rfl
@[simp] theorem State.modSpi_nvs (s : State) (f : Spi → Spi) : (s.modSpi f).nvs = s.nvs := rfl
@[simp] theorem State.modSpi_time (s : State) (f : Spi → Spi) : (s.modSpi f).time = s.time := rfl
@[simp] theorem State.modSpi_stopN (s : State) (f : Spi → Spi) : (s.modSpi f).stopN = s.stopN := rfl
@[simp] theorem State.modSpi_axes (s : State) (f : Spi → Spi) : (s.modSpi f).axes = s.axes := rfl
@[simp] theorem State.modSpi_ledgers (s : State) (f : Spi → Spi) : (s.modSpi f).ledgers = s.ledgers := rfl
@[simp] theorem State.modSpi_brgs (s : State) (f : Spi → Spi) : (s.modSpi f).brgs = s.brgs := rfl
@[simp] theorem State.modSpi_dies (s : State) (f : Spi → Spi) : (s.modSpi f).dies = s.dies := rfl
@[simp] theorem State.modSpi_live (s : State) (f : Spi → Spi) : (s.modSpi f).live = s.live := rfl
@[simp] theorem State.modSpi_table (s : State) (f : Spi → Spi) : (s.modSpi f).table = s.table := rfl
@[simp] theorem State.modSpi_gate (s : State) (f : Spi → Spi) : (s.modSpi f).gate = s.gate := rfl
@[simp] theorem State.modSpi_encs (s : State) (f : Spi → Spi) : (s.modSpi f).encs = s.encs := rfl
@[simp] theorem State.modSpi_trigs (s : State) (f : Spi → Spi) : (s.modSpi f).trigs = s.trigs := rfl
@[simp] theorem State.modSpi_emus (s : State) (f : Spi → Spi) : (s.modSpi f).emus = s.emus := rfl
@[simp] theorem State.modSpi_tmr (s : State) (f : Spi → Spi) : (s.modSpi f).tmr = s.tmr := rfl
@[simp] theorem State.modSpi_cnvs (s : State) (f : Spi → Spi) : (s.modSpi f).cnvs = s.cnvs := rfl
@[simp] theorem State.modSpi_assay (s : State) (f : Spi → Spi) : (s.modSpi f).assay = s.assay := rfl
@[simp] theorem State.modSpi_wmons (s : State) (f : Spi → Spi) : (s.modSpi f).wmons = s.wmons := rfl
@[simp] theorem State.modSpi_chand (s : State) (f : Spi → Spi) : (s.modSpi f).chand = s.chand := rfl
@[simp] theorem State.modSpi_lchain (s : State) (f : Spi → Spi) : (s.modSpi f).lchain = s.lchain := rfl
@[simp] theorem State.modSpi_twin (s : State) (f : Spi → Spi) : (s.modSpi f).twin = s.twin := rfl
@[simp] theorem State.modSpi_pending (s : State) (f : Spi → Spi) : (s.modSpi f).pending = s.pending := rfl

/-! ### modPins -/

@[simp] theorem State.modPins_part (s : State) (f : Pins → Pins) : (s.modPins f).part = s.part := rfl
@[simp] theorem State.modPins_serial (s : State) (f : Pins → Pins) : (s.modPins f).serial = s.serial := rfl
@[simp] theorem State.modPins_regs (s : State) (f : Pins → Pins) : (s.modPins f).regs = s.regs := rfl
@[simp] theorem State.modPins_lows (s : State) (f : Pins → Pins) : (s.modPins f).lows = s.lows := rfl
@[simp] theorem State.modPins_unlock (s : State) (f : Pins → Pins) : (s.modPins f).unlock = s.unlock := rfl
@[simp] theorem State.modPins_unitRst (s : State) (f : Pins → Pins) : (s.modPins f).unitRst = s.unitRst := rfl
@[simp] theorem State.modPins_rdata (s : State) (f : Pins → Pins) : (s.modPins f).rdata = s.rdata := rfl
@[simp] theorem State.modPins_free (s : State) (f : Pins → Pins) : (s.modPins f).free = s.free := rfl
@[simp] theorem State.modPins_spi (s : State) (f : Pins → Pins) : (s.modPins f).spi = s.spi := rfl
@[simp] theorem State.modPins_sup (s : State) (f : Pins → Pins) : (s.modPins f).sup = s.sup := rfl
@[simp] theorem State.modPins_pwr (s : State) (f : Pins → Pins) : (s.modPins f).pwr = s.pwr := rfl
@[simp] theorem State.modPins_clk (s : State) (f : Pins → Pins) : (s.modPins f).clk = s.clk := rfl
@[simp] theorem State.modPins_fab (s : State) (f : Pins → Pins) : (s.modPins f).fab = s.fab := rfl
@[simp] theorem State.modPins_dma (s : State) (f : Pins → Pins) : (s.modPins f).dma = s.dma := rfl
@[simp] theorem State.modPins_mem (s : State) (f : Pins → Pins) : (s.modPins f).mem = s.mem := rfl
@[simp] theorem State.modPins_nvs (s : State) (f : Pins → Pins) : (s.modPins f).nvs = s.nvs := rfl
@[simp] theorem State.modPins_time (s : State) (f : Pins → Pins) : (s.modPins f).time = s.time := rfl
@[simp] theorem State.modPins_stopN (s : State) (f : Pins → Pins) : (s.modPins f).stopN = s.stopN := rfl
@[simp] theorem State.modPins_axes (s : State) (f : Pins → Pins) : (s.modPins f).axes = s.axes := rfl
@[simp] theorem State.modPins_ledgers (s : State) (f : Pins → Pins) : (s.modPins f).ledgers = s.ledgers := rfl
@[simp] theorem State.modPins_brgs (s : State) (f : Pins → Pins) : (s.modPins f).brgs = s.brgs := rfl
@[simp] theorem State.modPins_dies (s : State) (f : Pins → Pins) : (s.modPins f).dies = s.dies := rfl
@[simp] theorem State.modPins_live (s : State) (f : Pins → Pins) : (s.modPins f).live = s.live := rfl
@[simp] theorem State.modPins_table (s : State) (f : Pins → Pins) : (s.modPins f).table = s.table := rfl
@[simp] theorem State.modPins_gate (s : State) (f : Pins → Pins) : (s.modPins f).gate = s.gate := rfl
@[simp] theorem State.modPins_encs (s : State) (f : Pins → Pins) : (s.modPins f).encs = s.encs := rfl
@[simp] theorem State.modPins_trigs (s : State) (f : Pins → Pins) : (s.modPins f).trigs = s.trigs := rfl
@[simp] theorem State.modPins_emus (s : State) (f : Pins → Pins) : (s.modPins f).emus = s.emus := rfl
@[simp] theorem State.modPins_tmr (s : State) (f : Pins → Pins) : (s.modPins f).tmr = s.tmr := rfl
@[simp] theorem State.modPins_cnvs (s : State) (f : Pins → Pins) : (s.modPins f).cnvs = s.cnvs := rfl
@[simp] theorem State.modPins_assay (s : State) (f : Pins → Pins) : (s.modPins f).assay = s.assay := rfl
@[simp] theorem State.modPins_wmons (s : State) (f : Pins → Pins) : (s.modPins f).wmons = s.wmons := rfl
@[simp] theorem State.modPins_chand (s : State) (f : Pins → Pins) : (s.modPins f).chand = s.chand := rfl
@[simp] theorem State.modPins_lchain (s : State) (f : Pins → Pins) : (s.modPins f).lchain = s.lchain := rfl
@[simp] theorem State.modPins_twin (s : State) (f : Pins → Pins) : (s.modPins f).twin = s.twin := rfl
@[simp] theorem State.modPins_pending (s : State) (f : Pins → Pins) : (s.modPins f).pending = s.pending := rfl

/-! ### modSup -/

@[simp] theorem State.modSup_part (s : State) (f : Supply → Supply) : (s.modSup f).part = s.part := rfl
@[simp] theorem State.modSup_serial (s : State) (f : Supply → Supply) : (s.modSup f).serial = s.serial := rfl
@[simp] theorem State.modSup_regs (s : State) (f : Supply → Supply) : (s.modSup f).regs = s.regs := rfl
@[simp] theorem State.modSup_lows (s : State) (f : Supply → Supply) : (s.modSup f).lows = s.lows := rfl
@[simp] theorem State.modSup_unlock (s : State) (f : Supply → Supply) : (s.modSup f).unlock = s.unlock := rfl
@[simp] theorem State.modSup_unitRst (s : State) (f : Supply → Supply) : (s.modSup f).unitRst = s.unitRst := rfl
@[simp] theorem State.modSup_rdata (s : State) (f : Supply → Supply) : (s.modSup f).rdata = s.rdata := rfl
@[simp] theorem State.modSup_free (s : State) (f : Supply → Supply) : (s.modSup f).free = s.free := rfl
@[simp] theorem State.modSup_spi (s : State) (f : Supply → Supply) : (s.modSup f).spi = s.spi := rfl
@[simp] theorem State.modSup_pins (s : State) (f : Supply → Supply) : (s.modSup f).pins = s.pins := rfl
@[simp] theorem State.modSup_pwr (s : State) (f : Supply → Supply) : (s.modSup f).pwr = s.pwr := rfl
@[simp] theorem State.modSup_clk (s : State) (f : Supply → Supply) : (s.modSup f).clk = s.clk := rfl
@[simp] theorem State.modSup_fab (s : State) (f : Supply → Supply) : (s.modSup f).fab = s.fab := rfl
@[simp] theorem State.modSup_dma (s : State) (f : Supply → Supply) : (s.modSup f).dma = s.dma := rfl
@[simp] theorem State.modSup_mem (s : State) (f : Supply → Supply) : (s.modSup f).mem = s.mem := rfl
@[simp] theorem State.modSup_nvs (s : State) (f : Supply → Supply) : (s.modSup f).nvs = s.nvs := rfl
@[simp] theorem State.modSup_time (s : State) (f : Supply → Supply) : (s.modSup f).time = s.time := rfl
@[simp] theorem State.modSup_stopN (s : State) (f : Supply → Supply) : (s.modSup f).stopN = s.stopN := rfl
@[simp] theorem State.modSup_axes (s : State) (f : Supply → Supply) : (s.modSup f).axes = s.axes := rfl
@[simp] theorem State.modSup_ledgers (s : State) (f : Supply → Supply) : (s.modSup f).ledgers = s.ledgers := rfl
@[simp] theorem State.modSup_brgs (s : State) (f : Supply → Supply) : (s.modSup f).brgs = s.brgs := rfl
@[simp] theorem State.modSup_dies (s : State) (f : Supply → Supply) : (s.modSup f).dies = s.dies := rfl
@[simp] theorem State.modSup_live (s : State) (f : Supply → Supply) : (s.modSup f).live = s.live := rfl
@[simp] theorem State.modSup_table (s : State) (f : Supply → Supply) : (s.modSup f).table = s.table := rfl
@[simp] theorem State.modSup_gate (s : State) (f : Supply → Supply) : (s.modSup f).gate = s.gate := rfl
@[simp] theorem State.modSup_encs (s : State) (f : Supply → Supply) : (s.modSup f).encs = s.encs := rfl
@[simp] theorem State.modSup_trigs (s : State) (f : Supply → Supply) : (s.modSup f).trigs = s.trigs := rfl
@[simp] theorem State.modSup_emus (s : State) (f : Supply → Supply) : (s.modSup f).emus = s.emus := rfl
@[simp] theorem State.modSup_tmr (s : State) (f : Supply → Supply) : (s.modSup f).tmr = s.tmr := rfl
@[simp] theorem State.modSup_cnvs (s : State) (f : Supply → Supply) : (s.modSup f).cnvs = s.cnvs := rfl
@[simp] theorem State.modSup_assay (s : State) (f : Supply → Supply) : (s.modSup f).assay = s.assay := rfl
@[simp] theorem State.modSup_wmons (s : State) (f : Supply → Supply) : (s.modSup f).wmons = s.wmons := rfl
@[simp] theorem State.modSup_chand (s : State) (f : Supply → Supply) : (s.modSup f).chand = s.chand := rfl
@[simp] theorem State.modSup_lchain (s : State) (f : Supply → Supply) : (s.modSup f).lchain = s.lchain := rfl
@[simp] theorem State.modSup_twin (s : State) (f : Supply → Supply) : (s.modSup f).twin = s.twin := rfl
@[simp] theorem State.modSup_pending (s : State) (f : Supply → Supply) : (s.modSup f).pending = s.pending := rfl

/-! ### modPwr -/

@[simp] theorem State.modPwr_part (s : State) (f : Power → Power) : (s.modPwr f).part = s.part := rfl
@[simp] theorem State.modPwr_serial (s : State) (f : Power → Power) : (s.modPwr f).serial = s.serial := rfl
@[simp] theorem State.modPwr_regs (s : State) (f : Power → Power) : (s.modPwr f).regs = s.regs := rfl
@[simp] theorem State.modPwr_lows (s : State) (f : Power → Power) : (s.modPwr f).lows = s.lows := rfl
@[simp] theorem State.modPwr_unlock (s : State) (f : Power → Power) : (s.modPwr f).unlock = s.unlock := rfl
@[simp] theorem State.modPwr_unitRst (s : State) (f : Power → Power) : (s.modPwr f).unitRst = s.unitRst := rfl
@[simp] theorem State.modPwr_rdata (s : State) (f : Power → Power) : (s.modPwr f).rdata = s.rdata := rfl
@[simp] theorem State.modPwr_free (s : State) (f : Power → Power) : (s.modPwr f).free = s.free := rfl
@[simp] theorem State.modPwr_spi (s : State) (f : Power → Power) : (s.modPwr f).spi = s.spi := rfl
@[simp] theorem State.modPwr_pins (s : State) (f : Power → Power) : (s.modPwr f).pins = s.pins := rfl
@[simp] theorem State.modPwr_sup (s : State) (f : Power → Power) : (s.modPwr f).sup = s.sup := rfl
@[simp] theorem State.modPwr_clk (s : State) (f : Power → Power) : (s.modPwr f).clk = s.clk := rfl
@[simp] theorem State.modPwr_fab (s : State) (f : Power → Power) : (s.modPwr f).fab = s.fab := rfl
@[simp] theorem State.modPwr_dma (s : State) (f : Power → Power) : (s.modPwr f).dma = s.dma := rfl
@[simp] theorem State.modPwr_mem (s : State) (f : Power → Power) : (s.modPwr f).mem = s.mem := rfl
@[simp] theorem State.modPwr_nvs (s : State) (f : Power → Power) : (s.modPwr f).nvs = s.nvs := rfl
@[simp] theorem State.modPwr_time (s : State) (f : Power → Power) : (s.modPwr f).time = s.time := rfl
@[simp] theorem State.modPwr_stopN (s : State) (f : Power → Power) : (s.modPwr f).stopN = s.stopN := rfl
@[simp] theorem State.modPwr_axes (s : State) (f : Power → Power) : (s.modPwr f).axes = s.axes := rfl
@[simp] theorem State.modPwr_ledgers (s : State) (f : Power → Power) : (s.modPwr f).ledgers = s.ledgers := rfl
@[simp] theorem State.modPwr_brgs (s : State) (f : Power → Power) : (s.modPwr f).brgs = s.brgs := rfl
@[simp] theorem State.modPwr_dies (s : State) (f : Power → Power) : (s.modPwr f).dies = s.dies := rfl
@[simp] theorem State.modPwr_live (s : State) (f : Power → Power) : (s.modPwr f).live = s.live := rfl
@[simp] theorem State.modPwr_table (s : State) (f : Power → Power) : (s.modPwr f).table = s.table := rfl
@[simp] theorem State.modPwr_gate (s : State) (f : Power → Power) : (s.modPwr f).gate = s.gate := rfl
@[simp] theorem State.modPwr_encs (s : State) (f : Power → Power) : (s.modPwr f).encs = s.encs := rfl
@[simp] theorem State.modPwr_trigs (s : State) (f : Power → Power) : (s.modPwr f).trigs = s.trigs := rfl
@[simp] theorem State.modPwr_emus (s : State) (f : Power → Power) : (s.modPwr f).emus = s.emus := rfl
@[simp] theorem State.modPwr_tmr (s : State) (f : Power → Power) : (s.modPwr f).tmr = s.tmr := rfl
@[simp] theorem State.modPwr_cnvs (s : State) (f : Power → Power) : (s.modPwr f).cnvs = s.cnvs := rfl
@[simp] theorem State.modPwr_assay (s : State) (f : Power → Power) : (s.modPwr f).assay = s.assay := rfl
@[simp] theorem State.modPwr_wmons (s : State) (f : Power → Power) : (s.modPwr f).wmons = s.wmons := rfl
@[simp] theorem State.modPwr_chand (s : State) (f : Power → Power) : (s.modPwr f).chand = s.chand := rfl
@[simp] theorem State.modPwr_lchain (s : State) (f : Power → Power) : (s.modPwr f).lchain = s.lchain := rfl
@[simp] theorem State.modPwr_twin (s : State) (f : Power → Power) : (s.modPwr f).twin = s.twin := rfl
@[simp] theorem State.modPwr_pending (s : State) (f : Power → Power) : (s.modPwr f).pending = s.pending := rfl

/-! ### modClk -/

@[simp] theorem State.modClk_part (s : State) (f : Clock → Clock) : (s.modClk f).part = s.part := rfl
@[simp] theorem State.modClk_serial (s : State) (f : Clock → Clock) : (s.modClk f).serial = s.serial := rfl
@[simp] theorem State.modClk_regs (s : State) (f : Clock → Clock) : (s.modClk f).regs = s.regs := rfl
@[simp] theorem State.modClk_lows (s : State) (f : Clock → Clock) : (s.modClk f).lows = s.lows := rfl
@[simp] theorem State.modClk_unlock (s : State) (f : Clock → Clock) : (s.modClk f).unlock = s.unlock := rfl
@[simp] theorem State.modClk_unitRst (s : State) (f : Clock → Clock) : (s.modClk f).unitRst = s.unitRst := rfl
@[simp] theorem State.modClk_rdata (s : State) (f : Clock → Clock) : (s.modClk f).rdata = s.rdata := rfl
@[simp] theorem State.modClk_free (s : State) (f : Clock → Clock) : (s.modClk f).free = s.free := rfl
@[simp] theorem State.modClk_spi (s : State) (f : Clock → Clock) : (s.modClk f).spi = s.spi := rfl
@[simp] theorem State.modClk_pins (s : State) (f : Clock → Clock) : (s.modClk f).pins = s.pins := rfl
@[simp] theorem State.modClk_sup (s : State) (f : Clock → Clock) : (s.modClk f).sup = s.sup := rfl
@[simp] theorem State.modClk_pwr (s : State) (f : Clock → Clock) : (s.modClk f).pwr = s.pwr := rfl
@[simp] theorem State.modClk_fab (s : State) (f : Clock → Clock) : (s.modClk f).fab = s.fab := rfl
@[simp] theorem State.modClk_dma (s : State) (f : Clock → Clock) : (s.modClk f).dma = s.dma := rfl
@[simp] theorem State.modClk_mem (s : State) (f : Clock → Clock) : (s.modClk f).mem = s.mem := rfl
@[simp] theorem State.modClk_nvs (s : State) (f : Clock → Clock) : (s.modClk f).nvs = s.nvs := rfl
@[simp] theorem State.modClk_time (s : State) (f : Clock → Clock) : (s.modClk f).time = s.time := rfl
@[simp] theorem State.modClk_stopN (s : State) (f : Clock → Clock) : (s.modClk f).stopN = s.stopN := rfl
@[simp] theorem State.modClk_axes (s : State) (f : Clock → Clock) : (s.modClk f).axes = s.axes := rfl
@[simp] theorem State.modClk_ledgers (s : State) (f : Clock → Clock) : (s.modClk f).ledgers = s.ledgers := rfl
@[simp] theorem State.modClk_brgs (s : State) (f : Clock → Clock) : (s.modClk f).brgs = s.brgs := rfl
@[simp] theorem State.modClk_dies (s : State) (f : Clock → Clock) : (s.modClk f).dies = s.dies := rfl
@[simp] theorem State.modClk_live (s : State) (f : Clock → Clock) : (s.modClk f).live = s.live := rfl
@[simp] theorem State.modClk_table (s : State) (f : Clock → Clock) : (s.modClk f).table = s.table := rfl
@[simp] theorem State.modClk_gate (s : State) (f : Clock → Clock) : (s.modClk f).gate = s.gate := rfl
@[simp] theorem State.modClk_encs (s : State) (f : Clock → Clock) : (s.modClk f).encs = s.encs := rfl
@[simp] theorem State.modClk_trigs (s : State) (f : Clock → Clock) : (s.modClk f).trigs = s.trigs := rfl
@[simp] theorem State.modClk_emus (s : State) (f : Clock → Clock) : (s.modClk f).emus = s.emus := rfl
@[simp] theorem State.modClk_tmr (s : State) (f : Clock → Clock) : (s.modClk f).tmr = s.tmr := rfl
@[simp] theorem State.modClk_cnvs (s : State) (f : Clock → Clock) : (s.modClk f).cnvs = s.cnvs := rfl
@[simp] theorem State.modClk_assay (s : State) (f : Clock → Clock) : (s.modClk f).assay = s.assay := rfl
@[simp] theorem State.modClk_wmons (s : State) (f : Clock → Clock) : (s.modClk f).wmons = s.wmons := rfl
@[simp] theorem State.modClk_chand (s : State) (f : Clock → Clock) : (s.modClk f).chand = s.chand := rfl
@[simp] theorem State.modClk_lchain (s : State) (f : Clock → Clock) : (s.modClk f).lchain = s.lchain := rfl
@[simp] theorem State.modClk_twin (s : State) (f : Clock → Clock) : (s.modClk f).twin = s.twin := rfl
@[simp] theorem State.modClk_pending (s : State) (f : Clock → Clock) : (s.modClk f).pending = s.pending := rfl

/-! ### modFab -/

@[simp] theorem State.modFab_part (s : State) (f : Fabric → Fabric) : (s.modFab f).part = s.part := rfl
@[simp] theorem State.modFab_serial (s : State) (f : Fabric → Fabric) : (s.modFab f).serial = s.serial := rfl
@[simp] theorem State.modFab_regs (s : State) (f : Fabric → Fabric) : (s.modFab f).regs = s.regs := rfl
@[simp] theorem State.modFab_lows (s : State) (f : Fabric → Fabric) : (s.modFab f).lows = s.lows := rfl
@[simp] theorem State.modFab_unlock (s : State) (f : Fabric → Fabric) : (s.modFab f).unlock = s.unlock := rfl
@[simp] theorem State.modFab_unitRst (s : State) (f : Fabric → Fabric) : (s.modFab f).unitRst = s.unitRst := rfl
@[simp] theorem State.modFab_rdata (s : State) (f : Fabric → Fabric) : (s.modFab f).rdata = s.rdata := rfl
@[simp] theorem State.modFab_free (s : State) (f : Fabric → Fabric) : (s.modFab f).free = s.free := rfl
@[simp] theorem State.modFab_spi (s : State) (f : Fabric → Fabric) : (s.modFab f).spi = s.spi := rfl
@[simp] theorem State.modFab_pins (s : State) (f : Fabric → Fabric) : (s.modFab f).pins = s.pins := rfl
@[simp] theorem State.modFab_sup (s : State) (f : Fabric → Fabric) : (s.modFab f).sup = s.sup := rfl
@[simp] theorem State.modFab_pwr (s : State) (f : Fabric → Fabric) : (s.modFab f).pwr = s.pwr := rfl
@[simp] theorem State.modFab_clk (s : State) (f : Fabric → Fabric) : (s.modFab f).clk = s.clk := rfl
@[simp] theorem State.modFab_dma (s : State) (f : Fabric → Fabric) : (s.modFab f).dma = s.dma := rfl
@[simp] theorem State.modFab_mem (s : State) (f : Fabric → Fabric) : (s.modFab f).mem = s.mem := rfl
@[simp] theorem State.modFab_nvs (s : State) (f : Fabric → Fabric) : (s.modFab f).nvs = s.nvs := rfl
@[simp] theorem State.modFab_time (s : State) (f : Fabric → Fabric) : (s.modFab f).time = s.time := rfl
@[simp] theorem State.modFab_stopN (s : State) (f : Fabric → Fabric) : (s.modFab f).stopN = s.stopN := rfl
@[simp] theorem State.modFab_axes (s : State) (f : Fabric → Fabric) : (s.modFab f).axes = s.axes := rfl
@[simp] theorem State.modFab_ledgers (s : State) (f : Fabric → Fabric) : (s.modFab f).ledgers = s.ledgers := rfl
@[simp] theorem State.modFab_brgs (s : State) (f : Fabric → Fabric) : (s.modFab f).brgs = s.brgs := rfl
@[simp] theorem State.modFab_dies (s : State) (f : Fabric → Fabric) : (s.modFab f).dies = s.dies := rfl
@[simp] theorem State.modFab_live (s : State) (f : Fabric → Fabric) : (s.modFab f).live = s.live := rfl
@[simp] theorem State.modFab_table (s : State) (f : Fabric → Fabric) : (s.modFab f).table = s.table := rfl
@[simp] theorem State.modFab_gate (s : State) (f : Fabric → Fabric) : (s.modFab f).gate = s.gate := rfl
@[simp] theorem State.modFab_encs (s : State) (f : Fabric → Fabric) : (s.modFab f).encs = s.encs := rfl
@[simp] theorem State.modFab_trigs (s : State) (f : Fabric → Fabric) : (s.modFab f).trigs = s.trigs := rfl
@[simp] theorem State.modFab_emus (s : State) (f : Fabric → Fabric) : (s.modFab f).emus = s.emus := rfl
@[simp] theorem State.modFab_tmr (s : State) (f : Fabric → Fabric) : (s.modFab f).tmr = s.tmr := rfl
@[simp] theorem State.modFab_cnvs (s : State) (f : Fabric → Fabric) : (s.modFab f).cnvs = s.cnvs := rfl
@[simp] theorem State.modFab_assay (s : State) (f : Fabric → Fabric) : (s.modFab f).assay = s.assay := rfl
@[simp] theorem State.modFab_wmons (s : State) (f : Fabric → Fabric) : (s.modFab f).wmons = s.wmons := rfl
@[simp] theorem State.modFab_chand (s : State) (f : Fabric → Fabric) : (s.modFab f).chand = s.chand := rfl
@[simp] theorem State.modFab_lchain (s : State) (f : Fabric → Fabric) : (s.modFab f).lchain = s.lchain := rfl
@[simp] theorem State.modFab_twin (s : State) (f : Fabric → Fabric) : (s.modFab f).twin = s.twin := rfl
@[simp] theorem State.modFab_pending (s : State) (f : Fabric → Fabric) : (s.modFab f).pending = s.pending := rfl

/-! ### modDma -/

@[simp] theorem State.modDma_part (s : State) (n : Fin 8) (f : DmaCh → DmaCh) : (s.modDma n f).part = s.part := rfl
@[simp] theorem State.modDma_serial (s : State) (n : Fin 8) (f : DmaCh → DmaCh) : (s.modDma n f).serial = s.serial := rfl
@[simp] theorem State.modDma_regs (s : State) (n : Fin 8) (f : DmaCh → DmaCh) : (s.modDma n f).regs = s.regs := rfl
@[simp] theorem State.modDma_lows (s : State) (n : Fin 8) (f : DmaCh → DmaCh) : (s.modDma n f).lows = s.lows := rfl
@[simp] theorem State.modDma_unlock (s : State) (n : Fin 8) (f : DmaCh → DmaCh) : (s.modDma n f).unlock = s.unlock := rfl
@[simp] theorem State.modDma_unitRst (s : State) (n : Fin 8) (f : DmaCh → DmaCh) : (s.modDma n f).unitRst = s.unitRst := rfl
@[simp] theorem State.modDma_rdata (s : State) (n : Fin 8) (f : DmaCh → DmaCh) : (s.modDma n f).rdata = s.rdata := rfl
@[simp] theorem State.modDma_free (s : State) (n : Fin 8) (f : DmaCh → DmaCh) : (s.modDma n f).free = s.free := rfl
@[simp] theorem State.modDma_spi (s : State) (n : Fin 8) (f : DmaCh → DmaCh) : (s.modDma n f).spi = s.spi := rfl
@[simp] theorem State.modDma_pins (s : State) (n : Fin 8) (f : DmaCh → DmaCh) : (s.modDma n f).pins = s.pins := rfl
@[simp] theorem State.modDma_sup (s : State) (n : Fin 8) (f : DmaCh → DmaCh) : (s.modDma n f).sup = s.sup := rfl
@[simp] theorem State.modDma_pwr (s : State) (n : Fin 8) (f : DmaCh → DmaCh) : (s.modDma n f).pwr = s.pwr := rfl
@[simp] theorem State.modDma_clk (s : State) (n : Fin 8) (f : DmaCh → DmaCh) : (s.modDma n f).clk = s.clk := rfl
@[simp] theorem State.modDma_fab (s : State) (n : Fin 8) (f : DmaCh → DmaCh) : (s.modDma n f).fab = s.fab := rfl
@[simp] theorem State.modDma_mem (s : State) (n : Fin 8) (f : DmaCh → DmaCh) : (s.modDma n f).mem = s.mem := rfl
@[simp] theorem State.modDma_nvs (s : State) (n : Fin 8) (f : DmaCh → DmaCh) : (s.modDma n f).nvs = s.nvs := rfl
@[simp] theorem State.modDma_time (s : State) (n : Fin 8) (f : DmaCh → DmaCh) : (s.modDma n f).time = s.time := rfl
@[simp] theorem State.modDma_stopN (s : State) (n : Fin 8) (f : DmaCh → DmaCh) : (s.modDma n f).stopN = s.stopN := rfl
@[simp] theorem State.modDma_axes (s : State) (n : Fin 8) (f : DmaCh → DmaCh) : (s.modDma n f).axes = s.axes := rfl
@[simp] theorem State.modDma_ledgers (s : State) (n : Fin 8) (f : DmaCh → DmaCh) : (s.modDma n f).ledgers = s.ledgers := rfl
@[simp] theorem State.modDma_brgs (s : State) (n : Fin 8) (f : DmaCh → DmaCh) : (s.modDma n f).brgs = s.brgs := rfl
@[simp] theorem State.modDma_dies (s : State) (n : Fin 8) (f : DmaCh → DmaCh) : (s.modDma n f).dies = s.dies := rfl
@[simp] theorem State.modDma_live (s : State) (n : Fin 8) (f : DmaCh → DmaCh) : (s.modDma n f).live = s.live := rfl
@[simp] theorem State.modDma_table (s : State) (n : Fin 8) (f : DmaCh → DmaCh) : (s.modDma n f).table = s.table := rfl
@[simp] theorem State.modDma_gate (s : State) (n : Fin 8) (f : DmaCh → DmaCh) : (s.modDma n f).gate = s.gate := rfl
@[simp] theorem State.modDma_encs (s : State) (n : Fin 8) (f : DmaCh → DmaCh) : (s.modDma n f).encs = s.encs := rfl
@[simp] theorem State.modDma_trigs (s : State) (n : Fin 8) (f : DmaCh → DmaCh) : (s.modDma n f).trigs = s.trigs := rfl
@[simp] theorem State.modDma_emus (s : State) (n : Fin 8) (f : DmaCh → DmaCh) : (s.modDma n f).emus = s.emus := rfl
@[simp] theorem State.modDma_tmr (s : State) (n : Fin 8) (f : DmaCh → DmaCh) : (s.modDma n f).tmr = s.tmr := rfl
@[simp] theorem State.modDma_cnvs (s : State) (n : Fin 8) (f : DmaCh → DmaCh) : (s.modDma n f).cnvs = s.cnvs := rfl
@[simp] theorem State.modDma_assay (s : State) (n : Fin 8) (f : DmaCh → DmaCh) : (s.modDma n f).assay = s.assay := rfl
@[simp] theorem State.modDma_wmons (s : State) (n : Fin 8) (f : DmaCh → DmaCh) : (s.modDma n f).wmons = s.wmons := rfl
@[simp] theorem State.modDma_chand (s : State) (n : Fin 8) (f : DmaCh → DmaCh) : (s.modDma n f).chand = s.chand := rfl
@[simp] theorem State.modDma_lchain (s : State) (n : Fin 8) (f : DmaCh → DmaCh) : (s.modDma n f).lchain = s.lchain := rfl
@[simp] theorem State.modDma_twin (s : State) (n : Fin 8) (f : DmaCh → DmaCh) : (s.modDma n f).twin = s.twin := rfl
@[simp] theorem State.modDma_pending (s : State) (n : Fin 8) (f : DmaCh → DmaCh) : (s.modDma n f).pending = s.pending := rfl

/-! ### modMem -/

@[simp] theorem State.modMem_part (s : State) (f : Mem → Mem) : (s.modMem f).part = s.part := rfl
@[simp] theorem State.modMem_serial (s : State) (f : Mem → Mem) : (s.modMem f).serial = s.serial := rfl
@[simp] theorem State.modMem_regs (s : State) (f : Mem → Mem) : (s.modMem f).regs = s.regs := rfl
@[simp] theorem State.modMem_lows (s : State) (f : Mem → Mem) : (s.modMem f).lows = s.lows := rfl
@[simp] theorem State.modMem_unlock (s : State) (f : Mem → Mem) : (s.modMem f).unlock = s.unlock := rfl
@[simp] theorem State.modMem_unitRst (s : State) (f : Mem → Mem) : (s.modMem f).unitRst = s.unitRst := rfl
@[simp] theorem State.modMem_rdata (s : State) (f : Mem → Mem) : (s.modMem f).rdata = s.rdata := rfl
@[simp] theorem State.modMem_free (s : State) (f : Mem → Mem) : (s.modMem f).free = s.free := rfl
@[simp] theorem State.modMem_spi (s : State) (f : Mem → Mem) : (s.modMem f).spi = s.spi := rfl
@[simp] theorem State.modMem_pins (s : State) (f : Mem → Mem) : (s.modMem f).pins = s.pins := rfl
@[simp] theorem State.modMem_sup (s : State) (f : Mem → Mem) : (s.modMem f).sup = s.sup := rfl
@[simp] theorem State.modMem_pwr (s : State) (f : Mem → Mem) : (s.modMem f).pwr = s.pwr := rfl
@[simp] theorem State.modMem_clk (s : State) (f : Mem → Mem) : (s.modMem f).clk = s.clk := rfl
@[simp] theorem State.modMem_fab (s : State) (f : Mem → Mem) : (s.modMem f).fab = s.fab := rfl
@[simp] theorem State.modMem_dma (s : State) (f : Mem → Mem) : (s.modMem f).dma = s.dma := rfl
@[simp] theorem State.modMem_nvs (s : State) (f : Mem → Mem) : (s.modMem f).nvs = s.nvs := rfl
@[simp] theorem State.modMem_time (s : State) (f : Mem → Mem) : (s.modMem f).time = s.time := rfl
@[simp] theorem State.modMem_stopN (s : State) (f : Mem → Mem) : (s.modMem f).stopN = s.stopN := rfl
@[simp] theorem State.modMem_axes (s : State) (f : Mem → Mem) : (s.modMem f).axes = s.axes := rfl
@[simp] theorem State.modMem_ledgers (s : State) (f : Mem → Mem) : (s.modMem f).ledgers = s.ledgers := rfl
@[simp] theorem State.modMem_brgs (s : State) (f : Mem → Mem) : (s.modMem f).brgs = s.brgs := rfl
@[simp] theorem State.modMem_dies (s : State) (f : Mem → Mem) : (s.modMem f).dies = s.dies := rfl
@[simp] theorem State.modMem_live (s : State) (f : Mem → Mem) : (s.modMem f).live = s.live := rfl
@[simp] theorem State.modMem_table (s : State) (f : Mem → Mem) : (s.modMem f).table = s.table := rfl
@[simp] theorem State.modMem_gate (s : State) (f : Mem → Mem) : (s.modMem f).gate = s.gate := rfl
@[simp] theorem State.modMem_encs (s : State) (f : Mem → Mem) : (s.modMem f).encs = s.encs := rfl
@[simp] theorem State.modMem_trigs (s : State) (f : Mem → Mem) : (s.modMem f).trigs = s.trigs := rfl
@[simp] theorem State.modMem_emus (s : State) (f : Mem → Mem) : (s.modMem f).emus = s.emus := rfl
@[simp] theorem State.modMem_tmr (s : State) (f : Mem → Mem) : (s.modMem f).tmr = s.tmr := rfl
@[simp] theorem State.modMem_cnvs (s : State) (f : Mem → Mem) : (s.modMem f).cnvs = s.cnvs := rfl
@[simp] theorem State.modMem_assay (s : State) (f : Mem → Mem) : (s.modMem f).assay = s.assay := rfl
@[simp] theorem State.modMem_wmons (s : State) (f : Mem → Mem) : (s.modMem f).wmons = s.wmons := rfl
@[simp] theorem State.modMem_chand (s : State) (f : Mem → Mem) : (s.modMem f).chand = s.chand := rfl
@[simp] theorem State.modMem_lchain (s : State) (f : Mem → Mem) : (s.modMem f).lchain = s.lchain := rfl
@[simp] theorem State.modMem_twin (s : State) (f : Mem → Mem) : (s.modMem f).twin = s.twin := rfl
@[simp] theorem State.modMem_pending (s : State) (f : Mem → Mem) : (s.modMem f).pending = s.pending := rfl

/-! ### modNvs -/

@[simp] theorem State.modNvs_part (s : State) (f : Nvs → Nvs) : (s.modNvs f).part = s.part := rfl
@[simp] theorem State.modNvs_serial (s : State) (f : Nvs → Nvs) : (s.modNvs f).serial = s.serial := rfl
@[simp] theorem State.modNvs_regs (s : State) (f : Nvs → Nvs) : (s.modNvs f).regs = s.regs := rfl
@[simp] theorem State.modNvs_lows (s : State) (f : Nvs → Nvs) : (s.modNvs f).lows = s.lows := rfl
@[simp] theorem State.modNvs_unlock (s : State) (f : Nvs → Nvs) : (s.modNvs f).unlock = s.unlock := rfl
@[simp] theorem State.modNvs_unitRst (s : State) (f : Nvs → Nvs) : (s.modNvs f).unitRst = s.unitRst := rfl
@[simp] theorem State.modNvs_rdata (s : State) (f : Nvs → Nvs) : (s.modNvs f).rdata = s.rdata := rfl
@[simp] theorem State.modNvs_free (s : State) (f : Nvs → Nvs) : (s.modNvs f).free = s.free := rfl
@[simp] theorem State.modNvs_spi (s : State) (f : Nvs → Nvs) : (s.modNvs f).spi = s.spi := rfl
@[simp] theorem State.modNvs_pins (s : State) (f : Nvs → Nvs) : (s.modNvs f).pins = s.pins := rfl
@[simp] theorem State.modNvs_sup (s : State) (f : Nvs → Nvs) : (s.modNvs f).sup = s.sup := rfl
@[simp] theorem State.modNvs_pwr (s : State) (f : Nvs → Nvs) : (s.modNvs f).pwr = s.pwr := rfl
@[simp] theorem State.modNvs_clk (s : State) (f : Nvs → Nvs) : (s.modNvs f).clk = s.clk := rfl
@[simp] theorem State.modNvs_fab (s : State) (f : Nvs → Nvs) : (s.modNvs f).fab = s.fab := rfl
@[simp] theorem State.modNvs_dma (s : State) (f : Nvs → Nvs) : (s.modNvs f).dma = s.dma := rfl
@[simp] theorem State.modNvs_mem (s : State) (f : Nvs → Nvs) : (s.modNvs f).mem = s.mem := rfl
@[simp] theorem State.modNvs_time (s : State) (f : Nvs → Nvs) : (s.modNvs f).time = s.time := rfl
@[simp] theorem State.modNvs_stopN (s : State) (f : Nvs → Nvs) : (s.modNvs f).stopN = s.stopN := rfl
@[simp] theorem State.modNvs_axes (s : State) (f : Nvs → Nvs) : (s.modNvs f).axes = s.axes := rfl
@[simp] theorem State.modNvs_ledgers (s : State) (f : Nvs → Nvs) : (s.modNvs f).ledgers = s.ledgers := rfl
@[simp] theorem State.modNvs_brgs (s : State) (f : Nvs → Nvs) : (s.modNvs f).brgs = s.brgs := rfl
@[simp] theorem State.modNvs_dies (s : State) (f : Nvs → Nvs) : (s.modNvs f).dies = s.dies := rfl
@[simp] theorem State.modNvs_live (s : State) (f : Nvs → Nvs) : (s.modNvs f).live = s.live := rfl
@[simp] theorem State.modNvs_table (s : State) (f : Nvs → Nvs) : (s.modNvs f).table = s.table := rfl
@[simp] theorem State.modNvs_gate (s : State) (f : Nvs → Nvs) : (s.modNvs f).gate = s.gate := rfl
@[simp] theorem State.modNvs_encs (s : State) (f : Nvs → Nvs) : (s.modNvs f).encs = s.encs := rfl
@[simp] theorem State.modNvs_trigs (s : State) (f : Nvs → Nvs) : (s.modNvs f).trigs = s.trigs := rfl
@[simp] theorem State.modNvs_emus (s : State) (f : Nvs → Nvs) : (s.modNvs f).emus = s.emus := rfl
@[simp] theorem State.modNvs_tmr (s : State) (f : Nvs → Nvs) : (s.modNvs f).tmr = s.tmr := rfl
@[simp] theorem State.modNvs_cnvs (s : State) (f : Nvs → Nvs) : (s.modNvs f).cnvs = s.cnvs := rfl
@[simp] theorem State.modNvs_assay (s : State) (f : Nvs → Nvs) : (s.modNvs f).assay = s.assay := rfl
@[simp] theorem State.modNvs_wmons (s : State) (f : Nvs → Nvs) : (s.modNvs f).wmons = s.wmons := rfl
@[simp] theorem State.modNvs_chand (s : State) (f : Nvs → Nvs) : (s.modNvs f).chand = s.chand := rfl
@[simp] theorem State.modNvs_lchain (s : State) (f : Nvs → Nvs) : (s.modNvs f).lchain = s.lchain := rfl
@[simp] theorem State.modNvs_twin (s : State) (f : Nvs → Nvs) : (s.modNvs f).twin = s.twin := rfl
@[simp] theorem State.modNvs_pending (s : State) (f : Nvs → Nvs) : (s.modNvs f).pending = s.pending := rfl

/-! ### modTime -/

@[simp] theorem State.modTime_part (s : State) (f : MTime → MTime) : (s.modTime f).part = s.part := rfl
@[simp] theorem State.modTime_serial (s : State) (f : MTime → MTime) : (s.modTime f).serial = s.serial := rfl
@[simp] theorem State.modTime_regs (s : State) (f : MTime → MTime) : (s.modTime f).regs = s.regs := rfl
@[simp] theorem State.modTime_lows (s : State) (f : MTime → MTime) : (s.modTime f).lows = s.lows := rfl
@[simp] theorem State.modTime_unlock (s : State) (f : MTime → MTime) : (s.modTime f).unlock = s.unlock := rfl
@[simp] theorem State.modTime_unitRst (s : State) (f : MTime → MTime) : (s.modTime f).unitRst = s.unitRst := rfl
@[simp] theorem State.modTime_rdata (s : State) (f : MTime → MTime) : (s.modTime f).rdata = s.rdata := rfl
@[simp] theorem State.modTime_free (s : State) (f : MTime → MTime) : (s.modTime f).free = s.free := rfl
@[simp] theorem State.modTime_spi (s : State) (f : MTime → MTime) : (s.modTime f).spi = s.spi := rfl
@[simp] theorem State.modTime_pins (s : State) (f : MTime → MTime) : (s.modTime f).pins = s.pins := rfl
@[simp] theorem State.modTime_sup (s : State) (f : MTime → MTime) : (s.modTime f).sup = s.sup := rfl
@[simp] theorem State.modTime_pwr (s : State) (f : MTime → MTime) : (s.modTime f).pwr = s.pwr := rfl
@[simp] theorem State.modTime_clk (s : State) (f : MTime → MTime) : (s.modTime f).clk = s.clk := rfl
@[simp] theorem State.modTime_fab (s : State) (f : MTime → MTime) : (s.modTime f).fab = s.fab := rfl
@[simp] theorem State.modTime_dma (s : State) (f : MTime → MTime) : (s.modTime f).dma = s.dma := rfl
@[simp] theorem State.modTime_mem (s : State) (f : MTime → MTime) : (s.modTime f).mem = s.mem := rfl
@[simp] theorem State.modTime_nvs (s : State) (f : MTime → MTime) : (s.modTime f).nvs = s.nvs := rfl
@[simp] theorem State.modTime_stopN (s : State) (f : MTime → MTime) : (s.modTime f).stopN = s.stopN := rfl
@[simp] theorem State.modTime_axes (s : State) (f : MTime → MTime) : (s.modTime f).axes = s.axes := rfl
@[simp] theorem State.modTime_ledgers (s : State) (f : MTime → MTime) : (s.modTime f).ledgers = s.ledgers := rfl
@[simp] theorem State.modTime_brgs (s : State) (f : MTime → MTime) : (s.modTime f).brgs = s.brgs := rfl
@[simp] theorem State.modTime_dies (s : State) (f : MTime → MTime) : (s.modTime f).dies = s.dies := rfl
@[simp] theorem State.modTime_live (s : State) (f : MTime → MTime) : (s.modTime f).live = s.live := rfl
@[simp] theorem State.modTime_table (s : State) (f : MTime → MTime) : (s.modTime f).table = s.table := rfl
@[simp] theorem State.modTime_gate (s : State) (f : MTime → MTime) : (s.modTime f).gate = s.gate := rfl
@[simp] theorem State.modTime_encs (s : State) (f : MTime → MTime) : (s.modTime f).encs = s.encs := rfl
@[simp] theorem State.modTime_trigs (s : State) (f : MTime → MTime) : (s.modTime f).trigs = s.trigs := rfl
@[simp] theorem State.modTime_emus (s : State) (f : MTime → MTime) : (s.modTime f).emus = s.emus := rfl
@[simp] theorem State.modTime_tmr (s : State) (f : MTime → MTime) : (s.modTime f).tmr = s.tmr := rfl
@[simp] theorem State.modTime_cnvs (s : State) (f : MTime → MTime) : (s.modTime f).cnvs = s.cnvs := rfl
@[simp] theorem State.modTime_assay (s : State) (f : MTime → MTime) : (s.modTime f).assay = s.assay := rfl
@[simp] theorem State.modTime_wmons (s : State) (f : MTime → MTime) : (s.modTime f).wmons = s.wmons := rfl
@[simp] theorem State.modTime_chand (s : State) (f : MTime → MTime) : (s.modTime f).chand = s.chand := rfl
@[simp] theorem State.modTime_lchain (s : State) (f : MTime → MTime) : (s.modTime f).lchain = s.lchain := rfl
@[simp] theorem State.modTime_twin (s : State) (f : MTime → MTime) : (s.modTime f).twin = s.twin := rfl
@[simp] theorem State.modTime_pending (s : State) (f : MTime → MTime) : (s.modTime f).pending = s.pending := rfl

/-! ### modDie -/

@[simp] theorem State.modDie_part (s : State) (d : Die) (f : DieSt → DieSt) : (s.modDie d f).part = s.part := rfl
@[simp] theorem State.modDie_serial (s : State) (d : Die) (f : DieSt → DieSt) : (s.modDie d f).serial = s.serial := rfl
@[simp] theorem State.modDie_regs (s : State) (d : Die) (f : DieSt → DieSt) : (s.modDie d f).regs = s.regs := rfl
@[simp] theorem State.modDie_lows (s : State) (d : Die) (f : DieSt → DieSt) : (s.modDie d f).lows = s.lows := rfl
@[simp] theorem State.modDie_unlock (s : State) (d : Die) (f : DieSt → DieSt) : (s.modDie d f).unlock = s.unlock := rfl
@[simp] theorem State.modDie_unitRst (s : State) (d : Die) (f : DieSt → DieSt) : (s.modDie d f).unitRst = s.unitRst := rfl
@[simp] theorem State.modDie_rdata (s : State) (d : Die) (f : DieSt → DieSt) : (s.modDie d f).rdata = s.rdata := rfl
@[simp] theorem State.modDie_free (s : State) (d : Die) (f : DieSt → DieSt) : (s.modDie d f).free = s.free := rfl
@[simp] theorem State.modDie_spi (s : State) (d : Die) (f : DieSt → DieSt) : (s.modDie d f).spi = s.spi := rfl
@[simp] theorem State.modDie_pins (s : State) (d : Die) (f : DieSt → DieSt) : (s.modDie d f).pins = s.pins := rfl
@[simp] theorem State.modDie_sup (s : State) (d : Die) (f : DieSt → DieSt) : (s.modDie d f).sup = s.sup := rfl
@[simp] theorem State.modDie_pwr (s : State) (d : Die) (f : DieSt → DieSt) : (s.modDie d f).pwr = s.pwr := rfl
@[simp] theorem State.modDie_clk (s : State) (d : Die) (f : DieSt → DieSt) : (s.modDie d f).clk = s.clk := rfl
@[simp] theorem State.modDie_fab (s : State) (d : Die) (f : DieSt → DieSt) : (s.modDie d f).fab = s.fab := rfl
@[simp] theorem State.modDie_dma (s : State) (d : Die) (f : DieSt → DieSt) : (s.modDie d f).dma = s.dma := rfl
@[simp] theorem State.modDie_mem (s : State) (d : Die) (f : DieSt → DieSt) : (s.modDie d f).mem = s.mem := rfl
@[simp] theorem State.modDie_nvs (s : State) (d : Die) (f : DieSt → DieSt) : (s.modDie d f).nvs = s.nvs := rfl
@[simp] theorem State.modDie_time (s : State) (d : Die) (f : DieSt → DieSt) : (s.modDie d f).time = s.time := rfl
@[simp] theorem State.modDie_stopN (s : State) (d : Die) (f : DieSt → DieSt) : (s.modDie d f).stopN = s.stopN := rfl
@[simp] theorem State.modDie_axes (s : State) (d : Die) (f : DieSt → DieSt) : (s.modDie d f).axes = s.axes := rfl
@[simp] theorem State.modDie_ledgers (s : State) (d : Die) (f : DieSt → DieSt) : (s.modDie d f).ledgers = s.ledgers := rfl
@[simp] theorem State.modDie_brgs (s : State) (d : Die) (f : DieSt → DieSt) : (s.modDie d f).brgs = s.brgs := rfl
@[simp] theorem State.modDie_live (s : State) (d : Die) (f : DieSt → DieSt) : (s.modDie d f).live = s.live := rfl
@[simp] theorem State.modDie_table (s : State) (d : Die) (f : DieSt → DieSt) : (s.modDie d f).table = s.table := rfl
@[simp] theorem State.modDie_gate (s : State) (d : Die) (f : DieSt → DieSt) : (s.modDie d f).gate = s.gate := rfl
@[simp] theorem State.modDie_encs (s : State) (d : Die) (f : DieSt → DieSt) : (s.modDie d f).encs = s.encs := rfl
@[simp] theorem State.modDie_trigs (s : State) (d : Die) (f : DieSt → DieSt) : (s.modDie d f).trigs = s.trigs := rfl
@[simp] theorem State.modDie_emus (s : State) (d : Die) (f : DieSt → DieSt) : (s.modDie d f).emus = s.emus := rfl
@[simp] theorem State.modDie_tmr (s : State) (d : Die) (f : DieSt → DieSt) : (s.modDie d f).tmr = s.tmr := rfl
@[simp] theorem State.modDie_cnvs (s : State) (d : Die) (f : DieSt → DieSt) : (s.modDie d f).cnvs = s.cnvs := rfl
@[simp] theorem State.modDie_assay (s : State) (d : Die) (f : DieSt → DieSt) : (s.modDie d f).assay = s.assay := rfl
@[simp] theorem State.modDie_wmons (s : State) (d : Die) (f : DieSt → DieSt) : (s.modDie d f).wmons = s.wmons := rfl
@[simp] theorem State.modDie_chand (s : State) (d : Die) (f : DieSt → DieSt) : (s.modDie d f).chand = s.chand := rfl
@[simp] theorem State.modDie_lchain (s : State) (d : Die) (f : DieSt → DieSt) : (s.modDie d f).lchain = s.lchain := rfl
@[simp] theorem State.modDie_twin (s : State) (d : Die) (f : DieSt → DieSt) : (s.modDie d f).twin = s.twin := rfl
@[simp] theorem State.modDie_pending (s : State) (d : Die) (f : DieSt → DieSt) : (s.modDie d f).pending = s.pending := rfl

/-! ### modTable -/

@[simp] theorem State.modTable_part (s : State) (f : Table → Table) : (s.modTable f).part = s.part := rfl
@[simp] theorem State.modTable_serial (s : State) (f : Table → Table) : (s.modTable f).serial = s.serial := rfl
@[simp] theorem State.modTable_regs (s : State) (f : Table → Table) : (s.modTable f).regs = s.regs := rfl
@[simp] theorem State.modTable_lows (s : State) (f : Table → Table) : (s.modTable f).lows = s.lows := rfl
@[simp] theorem State.modTable_unlock (s : State) (f : Table → Table) : (s.modTable f).unlock = s.unlock := rfl
@[simp] theorem State.modTable_unitRst (s : State) (f : Table → Table) : (s.modTable f).unitRst = s.unitRst := rfl
@[simp] theorem State.modTable_rdata (s : State) (f : Table → Table) : (s.modTable f).rdata = s.rdata := rfl
@[simp] theorem State.modTable_free (s : State) (f : Table → Table) : (s.modTable f).free = s.free := rfl
@[simp] theorem State.modTable_spi (s : State) (f : Table → Table) : (s.modTable f).spi = s.spi := rfl
@[simp] theorem State.modTable_pins (s : State) (f : Table → Table) : (s.modTable f).pins = s.pins := rfl
@[simp] theorem State.modTable_sup (s : State) (f : Table → Table) : (s.modTable f).sup = s.sup := rfl
@[simp] theorem State.modTable_pwr (s : State) (f : Table → Table) : (s.modTable f).pwr = s.pwr := rfl
@[simp] theorem State.modTable_clk (s : State) (f : Table → Table) : (s.modTable f).clk = s.clk := rfl
@[simp] theorem State.modTable_fab (s : State) (f : Table → Table) : (s.modTable f).fab = s.fab := rfl
@[simp] theorem State.modTable_dma (s : State) (f : Table → Table) : (s.modTable f).dma = s.dma := rfl
@[simp] theorem State.modTable_mem (s : State) (f : Table → Table) : (s.modTable f).mem = s.mem := rfl
@[simp] theorem State.modTable_nvs (s : State) (f : Table → Table) : (s.modTable f).nvs = s.nvs := rfl
@[simp] theorem State.modTable_time (s : State) (f : Table → Table) : (s.modTable f).time = s.time := rfl
@[simp] theorem State.modTable_stopN (s : State) (f : Table → Table) : (s.modTable f).stopN = s.stopN := rfl
@[simp] theorem State.modTable_axes (s : State) (f : Table → Table) : (s.modTable f).axes = s.axes := rfl
@[simp] theorem State.modTable_ledgers (s : State) (f : Table → Table) : (s.modTable f).ledgers = s.ledgers := rfl
@[simp] theorem State.modTable_brgs (s : State) (f : Table → Table) : (s.modTable f).brgs = s.brgs := rfl
@[simp] theorem State.modTable_dies (s : State) (f : Table → Table) : (s.modTable f).dies = s.dies := rfl
@[simp] theorem State.modTable_live (s : State) (f : Table → Table) : (s.modTable f).live = s.live := rfl
@[simp] theorem State.modTable_gate (s : State) (f : Table → Table) : (s.modTable f).gate = s.gate := rfl
@[simp] theorem State.modTable_encs (s : State) (f : Table → Table) : (s.modTable f).encs = s.encs := rfl
@[simp] theorem State.modTable_trigs (s : State) (f : Table → Table) : (s.modTable f).trigs = s.trigs := rfl
@[simp] theorem State.modTable_emus (s : State) (f : Table → Table) : (s.modTable f).emus = s.emus := rfl
@[simp] theorem State.modTable_tmr (s : State) (f : Table → Table) : (s.modTable f).tmr = s.tmr := rfl
@[simp] theorem State.modTable_cnvs (s : State) (f : Table → Table) : (s.modTable f).cnvs = s.cnvs := rfl
@[simp] theorem State.modTable_assay (s : State) (f : Table → Table) : (s.modTable f).assay = s.assay := rfl
@[simp] theorem State.modTable_wmons (s : State) (f : Table → Table) : (s.modTable f).wmons = s.wmons := rfl
@[simp] theorem State.modTable_chand (s : State) (f : Table → Table) : (s.modTable f).chand = s.chand := rfl
@[simp] theorem State.modTable_lchain (s : State) (f : Table → Table) : (s.modTable f).lchain = s.lchain := rfl
@[simp] theorem State.modTable_twin (s : State) (f : Table → Table) : (s.modTable f).twin = s.twin := rfl
@[simp] theorem State.modTable_pending (s : State) (f : Table → Table) : (s.modTable f).pending = s.pending := rfl

/-! ### modGate -/

@[simp] theorem State.modGate_part (s : State) (f : Gate → Gate) : (s.modGate f).part = s.part := rfl
@[simp] theorem State.modGate_serial (s : State) (f : Gate → Gate) : (s.modGate f).serial = s.serial := rfl
@[simp] theorem State.modGate_regs (s : State) (f : Gate → Gate) : (s.modGate f).regs = s.regs := rfl
@[simp] theorem State.modGate_lows (s : State) (f : Gate → Gate) : (s.modGate f).lows = s.lows := rfl
@[simp] theorem State.modGate_unlock (s : State) (f : Gate → Gate) : (s.modGate f).unlock = s.unlock := rfl
@[simp] theorem State.modGate_unitRst (s : State) (f : Gate → Gate) : (s.modGate f).unitRst = s.unitRst := rfl
@[simp] theorem State.modGate_rdata (s : State) (f : Gate → Gate) : (s.modGate f).rdata = s.rdata := rfl
@[simp] theorem State.modGate_free (s : State) (f : Gate → Gate) : (s.modGate f).free = s.free := rfl
@[simp] theorem State.modGate_spi (s : State) (f : Gate → Gate) : (s.modGate f).spi = s.spi := rfl
@[simp] theorem State.modGate_pins (s : State) (f : Gate → Gate) : (s.modGate f).pins = s.pins := rfl
@[simp] theorem State.modGate_sup (s : State) (f : Gate → Gate) : (s.modGate f).sup = s.sup := rfl
@[simp] theorem State.modGate_pwr (s : State) (f : Gate → Gate) : (s.modGate f).pwr = s.pwr := rfl
@[simp] theorem State.modGate_clk (s : State) (f : Gate → Gate) : (s.modGate f).clk = s.clk := rfl
@[simp] theorem State.modGate_fab (s : State) (f : Gate → Gate) : (s.modGate f).fab = s.fab := rfl
@[simp] theorem State.modGate_dma (s : State) (f : Gate → Gate) : (s.modGate f).dma = s.dma := rfl
@[simp] theorem State.modGate_mem (s : State) (f : Gate → Gate) : (s.modGate f).mem = s.mem := rfl
@[simp] theorem State.modGate_nvs (s : State) (f : Gate → Gate) : (s.modGate f).nvs = s.nvs := rfl
@[simp] theorem State.modGate_time (s : State) (f : Gate → Gate) : (s.modGate f).time = s.time := rfl
@[simp] theorem State.modGate_stopN (s : State) (f : Gate → Gate) : (s.modGate f).stopN = s.stopN := rfl
@[simp] theorem State.modGate_axes (s : State) (f : Gate → Gate) : (s.modGate f).axes = s.axes := rfl
@[simp] theorem State.modGate_ledgers (s : State) (f : Gate → Gate) : (s.modGate f).ledgers = s.ledgers := rfl
@[simp] theorem State.modGate_brgs (s : State) (f : Gate → Gate) : (s.modGate f).brgs = s.brgs := rfl
@[simp] theorem State.modGate_dies (s : State) (f : Gate → Gate) : (s.modGate f).dies = s.dies := rfl
@[simp] theorem State.modGate_live (s : State) (f : Gate → Gate) : (s.modGate f).live = s.live := rfl
@[simp] theorem State.modGate_table (s : State) (f : Gate → Gate) : (s.modGate f).table = s.table := rfl
@[simp] theorem State.modGate_encs (s : State) (f : Gate → Gate) : (s.modGate f).encs = s.encs := rfl
@[simp] theorem State.modGate_trigs (s : State) (f : Gate → Gate) : (s.modGate f).trigs = s.trigs := rfl
@[simp] theorem State.modGate_emus (s : State) (f : Gate → Gate) : (s.modGate f).emus = s.emus := rfl
@[simp] theorem State.modGate_tmr (s : State) (f : Gate → Gate) : (s.modGate f).tmr = s.tmr := rfl
@[simp] theorem State.modGate_cnvs (s : State) (f : Gate → Gate) : (s.modGate f).cnvs = s.cnvs := rfl
@[simp] theorem State.modGate_assay (s : State) (f : Gate → Gate) : (s.modGate f).assay = s.assay := rfl
@[simp] theorem State.modGate_wmons (s : State) (f : Gate → Gate) : (s.modGate f).wmons = s.wmons := rfl
@[simp] theorem State.modGate_chand (s : State) (f : Gate → Gate) : (s.modGate f).chand = s.chand := rfl
@[simp] theorem State.modGate_lchain (s : State) (f : Gate → Gate) : (s.modGate f).lchain = s.lchain := rfl
@[simp] theorem State.modGate_twin (s : State) (f : Gate → Gate) : (s.modGate f).twin = s.twin := rfl
@[simp] theorem State.modGate_pending (s : State) (f : Gate → Gate) : (s.modGate f).pending = s.pending := rfl

/-! ### modTrig -/

@[simp] theorem State.modTrig_part (s : State) (p : Fin 4) (f : Trig → Trig) : (s.modTrig p f).part = s.part := rfl
@[simp] theorem State.modTrig_serial (s : State) (p : Fin 4) (f : Trig → Trig) : (s.modTrig p f).serial = s.serial := rfl
@[simp] theorem State.modTrig_regs (s : State) (p : Fin 4) (f : Trig → Trig) : (s.modTrig p f).regs = s.regs := rfl
@[simp] theorem State.modTrig_lows (s : State) (p : Fin 4) (f : Trig → Trig) : (s.modTrig p f).lows = s.lows := rfl
@[simp] theorem State.modTrig_unlock (s : State) (p : Fin 4) (f : Trig → Trig) : (s.modTrig p f).unlock = s.unlock := rfl
@[simp] theorem State.modTrig_unitRst (s : State) (p : Fin 4) (f : Trig → Trig) : (s.modTrig p f).unitRst = s.unitRst := rfl
@[simp] theorem State.modTrig_rdata (s : State) (p : Fin 4) (f : Trig → Trig) : (s.modTrig p f).rdata = s.rdata := rfl
@[simp] theorem State.modTrig_free (s : State) (p : Fin 4) (f : Trig → Trig) : (s.modTrig p f).free = s.free := rfl
@[simp] theorem State.modTrig_spi (s : State) (p : Fin 4) (f : Trig → Trig) : (s.modTrig p f).spi = s.spi := rfl
@[simp] theorem State.modTrig_pins (s : State) (p : Fin 4) (f : Trig → Trig) : (s.modTrig p f).pins = s.pins := rfl
@[simp] theorem State.modTrig_sup (s : State) (p : Fin 4) (f : Trig → Trig) : (s.modTrig p f).sup = s.sup := rfl
@[simp] theorem State.modTrig_pwr (s : State) (p : Fin 4) (f : Trig → Trig) : (s.modTrig p f).pwr = s.pwr := rfl
@[simp] theorem State.modTrig_clk (s : State) (p : Fin 4) (f : Trig → Trig) : (s.modTrig p f).clk = s.clk := rfl
@[simp] theorem State.modTrig_fab (s : State) (p : Fin 4) (f : Trig → Trig) : (s.modTrig p f).fab = s.fab := rfl
@[simp] theorem State.modTrig_dma (s : State) (p : Fin 4) (f : Trig → Trig) : (s.modTrig p f).dma = s.dma := rfl
@[simp] theorem State.modTrig_mem (s : State) (p : Fin 4) (f : Trig → Trig) : (s.modTrig p f).mem = s.mem := rfl
@[simp] theorem State.modTrig_nvs (s : State) (p : Fin 4) (f : Trig → Trig) : (s.modTrig p f).nvs = s.nvs := rfl
@[simp] theorem State.modTrig_time (s : State) (p : Fin 4) (f : Trig → Trig) : (s.modTrig p f).time = s.time := rfl
@[simp] theorem State.modTrig_stopN (s : State) (p : Fin 4) (f : Trig → Trig) : (s.modTrig p f).stopN = s.stopN := rfl
@[simp] theorem State.modTrig_axes (s : State) (p : Fin 4) (f : Trig → Trig) : (s.modTrig p f).axes = s.axes := rfl
@[simp] theorem State.modTrig_ledgers (s : State) (p : Fin 4) (f : Trig → Trig) : (s.modTrig p f).ledgers = s.ledgers := rfl
@[simp] theorem State.modTrig_brgs (s : State) (p : Fin 4) (f : Trig → Trig) : (s.modTrig p f).brgs = s.brgs := rfl
@[simp] theorem State.modTrig_dies (s : State) (p : Fin 4) (f : Trig → Trig) : (s.modTrig p f).dies = s.dies := rfl
@[simp] theorem State.modTrig_live (s : State) (p : Fin 4) (f : Trig → Trig) : (s.modTrig p f).live = s.live := rfl
@[simp] theorem State.modTrig_table (s : State) (p : Fin 4) (f : Trig → Trig) : (s.modTrig p f).table = s.table := rfl
@[simp] theorem State.modTrig_gate (s : State) (p : Fin 4) (f : Trig → Trig) : (s.modTrig p f).gate = s.gate := rfl
@[simp] theorem State.modTrig_encs (s : State) (p : Fin 4) (f : Trig → Trig) : (s.modTrig p f).encs = s.encs := rfl
@[simp] theorem State.modTrig_emus (s : State) (p : Fin 4) (f : Trig → Trig) : (s.modTrig p f).emus = s.emus := rfl
@[simp] theorem State.modTrig_tmr (s : State) (p : Fin 4) (f : Trig → Trig) : (s.modTrig p f).tmr = s.tmr := rfl
@[simp] theorem State.modTrig_cnvs (s : State) (p : Fin 4) (f : Trig → Trig) : (s.modTrig p f).cnvs = s.cnvs := rfl
@[simp] theorem State.modTrig_assay (s : State) (p : Fin 4) (f : Trig → Trig) : (s.modTrig p f).assay = s.assay := rfl
@[simp] theorem State.modTrig_wmons (s : State) (p : Fin 4) (f : Trig → Trig) : (s.modTrig p f).wmons = s.wmons := rfl
@[simp] theorem State.modTrig_chand (s : State) (p : Fin 4) (f : Trig → Trig) : (s.modTrig p f).chand = s.chand := rfl
@[simp] theorem State.modTrig_lchain (s : State) (p : Fin 4) (f : Trig → Trig) : (s.modTrig p f).lchain = s.lchain := rfl
@[simp] theorem State.modTrig_twin (s : State) (p : Fin 4) (f : Trig → Trig) : (s.modTrig p f).twin = s.twin := rfl
@[simp] theorem State.modTrig_pending (s : State) (p : Fin 4) (f : Trig → Trig) : (s.modTrig p f).pending = s.pending := rfl

/-! ### modEmu -/

@[simp] theorem State.modEmu_part (s : State) (x : Fin 2) (f : Emu → Emu) : (s.modEmu x f).part = s.part := rfl
@[simp] theorem State.modEmu_serial (s : State) (x : Fin 2) (f : Emu → Emu) : (s.modEmu x f).serial = s.serial := rfl
@[simp] theorem State.modEmu_regs (s : State) (x : Fin 2) (f : Emu → Emu) : (s.modEmu x f).regs = s.regs := rfl
@[simp] theorem State.modEmu_lows (s : State) (x : Fin 2) (f : Emu → Emu) : (s.modEmu x f).lows = s.lows := rfl
@[simp] theorem State.modEmu_unlock (s : State) (x : Fin 2) (f : Emu → Emu) : (s.modEmu x f).unlock = s.unlock := rfl
@[simp] theorem State.modEmu_unitRst (s : State) (x : Fin 2) (f : Emu → Emu) : (s.modEmu x f).unitRst = s.unitRst := rfl
@[simp] theorem State.modEmu_rdata (s : State) (x : Fin 2) (f : Emu → Emu) : (s.modEmu x f).rdata = s.rdata := rfl
@[simp] theorem State.modEmu_free (s : State) (x : Fin 2) (f : Emu → Emu) : (s.modEmu x f).free = s.free := rfl
@[simp] theorem State.modEmu_spi (s : State) (x : Fin 2) (f : Emu → Emu) : (s.modEmu x f).spi = s.spi := rfl
@[simp] theorem State.modEmu_pins (s : State) (x : Fin 2) (f : Emu → Emu) : (s.modEmu x f).pins = s.pins := rfl
@[simp] theorem State.modEmu_sup (s : State) (x : Fin 2) (f : Emu → Emu) : (s.modEmu x f).sup = s.sup := rfl
@[simp] theorem State.modEmu_pwr (s : State) (x : Fin 2) (f : Emu → Emu) : (s.modEmu x f).pwr = s.pwr := rfl
@[simp] theorem State.modEmu_clk (s : State) (x : Fin 2) (f : Emu → Emu) : (s.modEmu x f).clk = s.clk := rfl
@[simp] theorem State.modEmu_fab (s : State) (x : Fin 2) (f : Emu → Emu) : (s.modEmu x f).fab = s.fab := rfl
@[simp] theorem State.modEmu_dma (s : State) (x : Fin 2) (f : Emu → Emu) : (s.modEmu x f).dma = s.dma := rfl
@[simp] theorem State.modEmu_mem (s : State) (x : Fin 2) (f : Emu → Emu) : (s.modEmu x f).mem = s.mem := rfl
@[simp] theorem State.modEmu_nvs (s : State) (x : Fin 2) (f : Emu → Emu) : (s.modEmu x f).nvs = s.nvs := rfl
@[simp] theorem State.modEmu_time (s : State) (x : Fin 2) (f : Emu → Emu) : (s.modEmu x f).time = s.time := rfl
@[simp] theorem State.modEmu_stopN (s : State) (x : Fin 2) (f : Emu → Emu) : (s.modEmu x f).stopN = s.stopN := rfl
@[simp] theorem State.modEmu_axes (s : State) (x : Fin 2) (f : Emu → Emu) : (s.modEmu x f).axes = s.axes := rfl
@[simp] theorem State.modEmu_ledgers (s : State) (x : Fin 2) (f : Emu → Emu) : (s.modEmu x f).ledgers = s.ledgers := rfl
@[simp] theorem State.modEmu_brgs (s : State) (x : Fin 2) (f : Emu → Emu) : (s.modEmu x f).brgs = s.brgs := rfl
@[simp] theorem State.modEmu_dies (s : State) (x : Fin 2) (f : Emu → Emu) : (s.modEmu x f).dies = s.dies := rfl
@[simp] theorem State.modEmu_live (s : State) (x : Fin 2) (f : Emu → Emu) : (s.modEmu x f).live = s.live := rfl
@[simp] theorem State.modEmu_table (s : State) (x : Fin 2) (f : Emu → Emu) : (s.modEmu x f).table = s.table := rfl
@[simp] theorem State.modEmu_gate (s : State) (x : Fin 2) (f : Emu → Emu) : (s.modEmu x f).gate = s.gate := rfl
@[simp] theorem State.modEmu_encs (s : State) (x : Fin 2) (f : Emu → Emu) : (s.modEmu x f).encs = s.encs := rfl
@[simp] theorem State.modEmu_trigs (s : State) (x : Fin 2) (f : Emu → Emu) : (s.modEmu x f).trigs = s.trigs := rfl
@[simp] theorem State.modEmu_tmr (s : State) (x : Fin 2) (f : Emu → Emu) : (s.modEmu x f).tmr = s.tmr := rfl
@[simp] theorem State.modEmu_cnvs (s : State) (x : Fin 2) (f : Emu → Emu) : (s.modEmu x f).cnvs = s.cnvs := rfl
@[simp] theorem State.modEmu_assay (s : State) (x : Fin 2) (f : Emu → Emu) : (s.modEmu x f).assay = s.assay := rfl
@[simp] theorem State.modEmu_wmons (s : State) (x : Fin 2) (f : Emu → Emu) : (s.modEmu x f).wmons = s.wmons := rfl
@[simp] theorem State.modEmu_chand (s : State) (x : Fin 2) (f : Emu → Emu) : (s.modEmu x f).chand = s.chand := rfl
@[simp] theorem State.modEmu_lchain (s : State) (x : Fin 2) (f : Emu → Emu) : (s.modEmu x f).lchain = s.lchain := rfl
@[simp] theorem State.modEmu_twin (s : State) (x : Fin 2) (f : Emu → Emu) : (s.modEmu x f).twin = s.twin := rfl
@[simp] theorem State.modEmu_pending (s : State) (x : Fin 2) (f : Emu → Emu) : (s.modEmu x f).pending = s.pending := rfl

/-! ### modTmr -/

@[simp] theorem State.modTmr_part (s : State) (n : Fin 8) (f : Timer → Timer) : (s.modTmr n f).part = s.part := rfl
@[simp] theorem State.modTmr_serial (s : State) (n : Fin 8) (f : Timer → Timer) : (s.modTmr n f).serial = s.serial := rfl
@[simp] theorem State.modTmr_regs (s : State) (n : Fin 8) (f : Timer → Timer) : (s.modTmr n f).regs = s.regs := rfl
@[simp] theorem State.modTmr_lows (s : State) (n : Fin 8) (f : Timer → Timer) : (s.modTmr n f).lows = s.lows := rfl
@[simp] theorem State.modTmr_unlock (s : State) (n : Fin 8) (f : Timer → Timer) : (s.modTmr n f).unlock = s.unlock := rfl
@[simp] theorem State.modTmr_unitRst (s : State) (n : Fin 8) (f : Timer → Timer) : (s.modTmr n f).unitRst = s.unitRst := rfl
@[simp] theorem State.modTmr_rdata (s : State) (n : Fin 8) (f : Timer → Timer) : (s.modTmr n f).rdata = s.rdata := rfl
@[simp] theorem State.modTmr_free (s : State) (n : Fin 8) (f : Timer → Timer) : (s.modTmr n f).free = s.free := rfl
@[simp] theorem State.modTmr_spi (s : State) (n : Fin 8) (f : Timer → Timer) : (s.modTmr n f).spi = s.spi := rfl
@[simp] theorem State.modTmr_pins (s : State) (n : Fin 8) (f : Timer → Timer) : (s.modTmr n f).pins = s.pins := rfl
@[simp] theorem State.modTmr_sup (s : State) (n : Fin 8) (f : Timer → Timer) : (s.modTmr n f).sup = s.sup := rfl
@[simp] theorem State.modTmr_pwr (s : State) (n : Fin 8) (f : Timer → Timer) : (s.modTmr n f).pwr = s.pwr := rfl
@[simp] theorem State.modTmr_clk (s : State) (n : Fin 8) (f : Timer → Timer) : (s.modTmr n f).clk = s.clk := rfl
@[simp] theorem State.modTmr_fab (s : State) (n : Fin 8) (f : Timer → Timer) : (s.modTmr n f).fab = s.fab := rfl
@[simp] theorem State.modTmr_dma (s : State) (n : Fin 8) (f : Timer → Timer) : (s.modTmr n f).dma = s.dma := rfl
@[simp] theorem State.modTmr_mem (s : State) (n : Fin 8) (f : Timer → Timer) : (s.modTmr n f).mem = s.mem := rfl
@[simp] theorem State.modTmr_nvs (s : State) (n : Fin 8) (f : Timer → Timer) : (s.modTmr n f).nvs = s.nvs := rfl
@[simp] theorem State.modTmr_time (s : State) (n : Fin 8) (f : Timer → Timer) : (s.modTmr n f).time = s.time := rfl
@[simp] theorem State.modTmr_stopN (s : State) (n : Fin 8) (f : Timer → Timer) : (s.modTmr n f).stopN = s.stopN := rfl
@[simp] theorem State.modTmr_axes (s : State) (n : Fin 8) (f : Timer → Timer) : (s.modTmr n f).axes = s.axes := rfl
@[simp] theorem State.modTmr_ledgers (s : State) (n : Fin 8) (f : Timer → Timer) : (s.modTmr n f).ledgers = s.ledgers := rfl
@[simp] theorem State.modTmr_brgs (s : State) (n : Fin 8) (f : Timer → Timer) : (s.modTmr n f).brgs = s.brgs := rfl
@[simp] theorem State.modTmr_dies (s : State) (n : Fin 8) (f : Timer → Timer) : (s.modTmr n f).dies = s.dies := rfl
@[simp] theorem State.modTmr_live (s : State) (n : Fin 8) (f : Timer → Timer) : (s.modTmr n f).live = s.live := rfl
@[simp] theorem State.modTmr_table (s : State) (n : Fin 8) (f : Timer → Timer) : (s.modTmr n f).table = s.table := rfl
@[simp] theorem State.modTmr_gate (s : State) (n : Fin 8) (f : Timer → Timer) : (s.modTmr n f).gate = s.gate := rfl
@[simp] theorem State.modTmr_encs (s : State) (n : Fin 8) (f : Timer → Timer) : (s.modTmr n f).encs = s.encs := rfl
@[simp] theorem State.modTmr_trigs (s : State) (n : Fin 8) (f : Timer → Timer) : (s.modTmr n f).trigs = s.trigs := rfl
@[simp] theorem State.modTmr_emus (s : State) (n : Fin 8) (f : Timer → Timer) : (s.modTmr n f).emus = s.emus := rfl
@[simp] theorem State.modTmr_cnvs (s : State) (n : Fin 8) (f : Timer → Timer) : (s.modTmr n f).cnvs = s.cnvs := rfl
@[simp] theorem State.modTmr_assay (s : State) (n : Fin 8) (f : Timer → Timer) : (s.modTmr n f).assay = s.assay := rfl
@[simp] theorem State.modTmr_wmons (s : State) (n : Fin 8) (f : Timer → Timer) : (s.modTmr n f).wmons = s.wmons := rfl
@[simp] theorem State.modTmr_chand (s : State) (n : Fin 8) (f : Timer → Timer) : (s.modTmr n f).chand = s.chand := rfl
@[simp] theorem State.modTmr_lchain (s : State) (n : Fin 8) (f : Timer → Timer) : (s.modTmr n f).lchain = s.lchain := rfl
@[simp] theorem State.modTmr_twin (s : State) (n : Fin 8) (f : Timer → Timer) : (s.modTmr n f).twin = s.twin := rfl
@[simp] theorem State.modTmr_pending (s : State) (n : Fin 8) (f : Timer → Timer) : (s.modTmr n f).pending = s.pending := rfl

/-! ### modCnv -/

@[simp] theorem State.modCnv_part (s : State) (i : Fin 3) (f : Cnv → Cnv) : (s.modCnv i f).part = s.part := rfl
@[simp] theorem State.modCnv_serial (s : State) (i : Fin 3) (f : Cnv → Cnv) : (s.modCnv i f).serial = s.serial := rfl
@[simp] theorem State.modCnv_regs (s : State) (i : Fin 3) (f : Cnv → Cnv) : (s.modCnv i f).regs = s.regs := rfl
@[simp] theorem State.modCnv_lows (s : State) (i : Fin 3) (f : Cnv → Cnv) : (s.modCnv i f).lows = s.lows := rfl
@[simp] theorem State.modCnv_unlock (s : State) (i : Fin 3) (f : Cnv → Cnv) : (s.modCnv i f).unlock = s.unlock := rfl
@[simp] theorem State.modCnv_unitRst (s : State) (i : Fin 3) (f : Cnv → Cnv) : (s.modCnv i f).unitRst = s.unitRst := rfl
@[simp] theorem State.modCnv_rdata (s : State) (i : Fin 3) (f : Cnv → Cnv) : (s.modCnv i f).rdata = s.rdata := rfl
@[simp] theorem State.modCnv_free (s : State) (i : Fin 3) (f : Cnv → Cnv) : (s.modCnv i f).free = s.free := rfl
@[simp] theorem State.modCnv_spi (s : State) (i : Fin 3) (f : Cnv → Cnv) : (s.modCnv i f).spi = s.spi := rfl
@[simp] theorem State.modCnv_pins (s : State) (i : Fin 3) (f : Cnv → Cnv) : (s.modCnv i f).pins = s.pins := rfl
@[simp] theorem State.modCnv_sup (s : State) (i : Fin 3) (f : Cnv → Cnv) : (s.modCnv i f).sup = s.sup := rfl
@[simp] theorem State.modCnv_pwr (s : State) (i : Fin 3) (f : Cnv → Cnv) : (s.modCnv i f).pwr = s.pwr := rfl
@[simp] theorem State.modCnv_clk (s : State) (i : Fin 3) (f : Cnv → Cnv) : (s.modCnv i f).clk = s.clk := rfl
@[simp] theorem State.modCnv_fab (s : State) (i : Fin 3) (f : Cnv → Cnv) : (s.modCnv i f).fab = s.fab := rfl
@[simp] theorem State.modCnv_dma (s : State) (i : Fin 3) (f : Cnv → Cnv) : (s.modCnv i f).dma = s.dma := rfl
@[simp] theorem State.modCnv_mem (s : State) (i : Fin 3) (f : Cnv → Cnv) : (s.modCnv i f).mem = s.mem := rfl
@[simp] theorem State.modCnv_nvs (s : State) (i : Fin 3) (f : Cnv → Cnv) : (s.modCnv i f).nvs = s.nvs := rfl
@[simp] theorem State.modCnv_time (s : State) (i : Fin 3) (f : Cnv → Cnv) : (s.modCnv i f).time = s.time := rfl
@[simp] theorem State.modCnv_stopN (s : State) (i : Fin 3) (f : Cnv → Cnv) : (s.modCnv i f).stopN = s.stopN := rfl
@[simp] theorem State.modCnv_axes (s : State) (i : Fin 3) (f : Cnv → Cnv) : (s.modCnv i f).axes = s.axes := rfl
@[simp] theorem State.modCnv_ledgers (s : State) (i : Fin 3) (f : Cnv → Cnv) : (s.modCnv i f).ledgers = s.ledgers := rfl
@[simp] theorem State.modCnv_brgs (s : State) (i : Fin 3) (f : Cnv → Cnv) : (s.modCnv i f).brgs = s.brgs := rfl
@[simp] theorem State.modCnv_dies (s : State) (i : Fin 3) (f : Cnv → Cnv) : (s.modCnv i f).dies = s.dies := rfl
@[simp] theorem State.modCnv_live (s : State) (i : Fin 3) (f : Cnv → Cnv) : (s.modCnv i f).live = s.live := rfl
@[simp] theorem State.modCnv_table (s : State) (i : Fin 3) (f : Cnv → Cnv) : (s.modCnv i f).table = s.table := rfl
@[simp] theorem State.modCnv_gate (s : State) (i : Fin 3) (f : Cnv → Cnv) : (s.modCnv i f).gate = s.gate := rfl
@[simp] theorem State.modCnv_encs (s : State) (i : Fin 3) (f : Cnv → Cnv) : (s.modCnv i f).encs = s.encs := rfl
@[simp] theorem State.modCnv_trigs (s : State) (i : Fin 3) (f : Cnv → Cnv) : (s.modCnv i f).trigs = s.trigs := rfl
@[simp] theorem State.modCnv_emus (s : State) (i : Fin 3) (f : Cnv → Cnv) : (s.modCnv i f).emus = s.emus := rfl
@[simp] theorem State.modCnv_tmr (s : State) (i : Fin 3) (f : Cnv → Cnv) : (s.modCnv i f).tmr = s.tmr := rfl
@[simp] theorem State.modCnv_assay (s : State) (i : Fin 3) (f : Cnv → Cnv) : (s.modCnv i f).assay = s.assay := rfl
@[simp] theorem State.modCnv_wmons (s : State) (i : Fin 3) (f : Cnv → Cnv) : (s.modCnv i f).wmons = s.wmons := rfl
@[simp] theorem State.modCnv_chand (s : State) (i : Fin 3) (f : Cnv → Cnv) : (s.modCnv i f).chand = s.chand := rfl
@[simp] theorem State.modCnv_lchain (s : State) (i : Fin 3) (f : Cnv → Cnv) : (s.modCnv i f).lchain = s.lchain := rfl
@[simp] theorem State.modCnv_twin (s : State) (i : Fin 3) (f : Cnv → Cnv) : (s.modCnv i f).twin = s.twin := rfl
@[simp] theorem State.modCnv_pending (s : State) (i : Fin 3) (f : Cnv → Cnv) : (s.modCnv i f).pending = s.pending := rfl

/-! ### modAssay -/

@[simp] theorem State.modAssay_part (s : State) (f : Assay → Assay) : (s.modAssay f).part = s.part := rfl
@[simp] theorem State.modAssay_serial (s : State) (f : Assay → Assay) : (s.modAssay f).serial = s.serial := rfl
@[simp] theorem State.modAssay_regs (s : State) (f : Assay → Assay) : (s.modAssay f).regs = s.regs := rfl
@[simp] theorem State.modAssay_lows (s : State) (f : Assay → Assay) : (s.modAssay f).lows = s.lows := rfl
@[simp] theorem State.modAssay_unlock (s : State) (f : Assay → Assay) : (s.modAssay f).unlock = s.unlock := rfl
@[simp] theorem State.modAssay_unitRst (s : State) (f : Assay → Assay) : (s.modAssay f).unitRst = s.unitRst := rfl
@[simp] theorem State.modAssay_rdata (s : State) (f : Assay → Assay) : (s.modAssay f).rdata = s.rdata := rfl
@[simp] theorem State.modAssay_free (s : State) (f : Assay → Assay) : (s.modAssay f).free = s.free := rfl
@[simp] theorem State.modAssay_spi (s : State) (f : Assay → Assay) : (s.modAssay f).spi = s.spi := rfl
@[simp] theorem State.modAssay_pins (s : State) (f : Assay → Assay) : (s.modAssay f).pins = s.pins := rfl
@[simp] theorem State.modAssay_sup (s : State) (f : Assay → Assay) : (s.modAssay f).sup = s.sup := rfl
@[simp] theorem State.modAssay_pwr (s : State) (f : Assay → Assay) : (s.modAssay f).pwr = s.pwr := rfl
@[simp] theorem State.modAssay_clk (s : State) (f : Assay → Assay) : (s.modAssay f).clk = s.clk := rfl
@[simp] theorem State.modAssay_fab (s : State) (f : Assay → Assay) : (s.modAssay f).fab = s.fab := rfl
@[simp] theorem State.modAssay_dma (s : State) (f : Assay → Assay) : (s.modAssay f).dma = s.dma := rfl
@[simp] theorem State.modAssay_mem (s : State) (f : Assay → Assay) : (s.modAssay f).mem = s.mem := rfl
@[simp] theorem State.modAssay_nvs (s : State) (f : Assay → Assay) : (s.modAssay f).nvs = s.nvs := rfl
@[simp] theorem State.modAssay_time (s : State) (f : Assay → Assay) : (s.modAssay f).time = s.time := rfl
@[simp] theorem State.modAssay_stopN (s : State) (f : Assay → Assay) : (s.modAssay f).stopN = s.stopN := rfl
@[simp] theorem State.modAssay_axes (s : State) (f : Assay → Assay) : (s.modAssay f).axes = s.axes := rfl
@[simp] theorem State.modAssay_ledgers (s : State) (f : Assay → Assay) : (s.modAssay f).ledgers = s.ledgers := rfl
@[simp] theorem State.modAssay_brgs (s : State) (f : Assay → Assay) : (s.modAssay f).brgs = s.brgs := rfl
@[simp] theorem State.modAssay_dies (s : State) (f : Assay → Assay) : (s.modAssay f).dies = s.dies := rfl
@[simp] theorem State.modAssay_live (s : State) (f : Assay → Assay) : (s.modAssay f).live = s.live := rfl
@[simp] theorem State.modAssay_table (s : State) (f : Assay → Assay) : (s.modAssay f).table = s.table := rfl
@[simp] theorem State.modAssay_gate (s : State) (f : Assay → Assay) : (s.modAssay f).gate = s.gate := rfl
@[simp] theorem State.modAssay_encs (s : State) (f : Assay → Assay) : (s.modAssay f).encs = s.encs := rfl
@[simp] theorem State.modAssay_trigs (s : State) (f : Assay → Assay) : (s.modAssay f).trigs = s.trigs := rfl
@[simp] theorem State.modAssay_emus (s : State) (f : Assay → Assay) : (s.modAssay f).emus = s.emus := rfl
@[simp] theorem State.modAssay_tmr (s : State) (f : Assay → Assay) : (s.modAssay f).tmr = s.tmr := rfl
@[simp] theorem State.modAssay_cnvs (s : State) (f : Assay → Assay) : (s.modAssay f).cnvs = s.cnvs := rfl
@[simp] theorem State.modAssay_wmons (s : State) (f : Assay → Assay) : (s.modAssay f).wmons = s.wmons := rfl
@[simp] theorem State.modAssay_chand (s : State) (f : Assay → Assay) : (s.modAssay f).chand = s.chand := rfl
@[simp] theorem State.modAssay_lchain (s : State) (f : Assay → Assay) : (s.modAssay f).lchain = s.lchain := rfl
@[simp] theorem State.modAssay_twin (s : State) (f : Assay → Assay) : (s.modAssay f).twin = s.twin := rfl
@[simp] theorem State.modAssay_pending (s : State) (f : Assay → Assay) : (s.modAssay f).pending = s.pending := rfl

/-! ### modChand -/

@[simp] theorem State.modChand_part (s : State) (f : Chand → Chand) : (s.modChand f).part = s.part := rfl
@[simp] theorem State.modChand_serial (s : State) (f : Chand → Chand) : (s.modChand f).serial = s.serial := rfl
@[simp] theorem State.modChand_regs (s : State) (f : Chand → Chand) : (s.modChand f).regs = s.regs := rfl
@[simp] theorem State.modChand_lows (s : State) (f : Chand → Chand) : (s.modChand f).lows = s.lows := rfl
@[simp] theorem State.modChand_unlock (s : State) (f : Chand → Chand) : (s.modChand f).unlock = s.unlock := rfl
@[simp] theorem State.modChand_unitRst (s : State) (f : Chand → Chand) : (s.modChand f).unitRst = s.unitRst := rfl
@[simp] theorem State.modChand_rdata (s : State) (f : Chand → Chand) : (s.modChand f).rdata = s.rdata := rfl
@[simp] theorem State.modChand_free (s : State) (f : Chand → Chand) : (s.modChand f).free = s.free := rfl
@[simp] theorem State.modChand_spi (s : State) (f : Chand → Chand) : (s.modChand f).spi = s.spi := rfl
@[simp] theorem State.modChand_pins (s : State) (f : Chand → Chand) : (s.modChand f).pins = s.pins := rfl
@[simp] theorem State.modChand_sup (s : State) (f : Chand → Chand) : (s.modChand f).sup = s.sup := rfl
@[simp] theorem State.modChand_pwr (s : State) (f : Chand → Chand) : (s.modChand f).pwr = s.pwr := rfl
@[simp] theorem State.modChand_clk (s : State) (f : Chand → Chand) : (s.modChand f).clk = s.clk := rfl
@[simp] theorem State.modChand_fab (s : State) (f : Chand → Chand) : (s.modChand f).fab = s.fab := rfl
@[simp] theorem State.modChand_dma (s : State) (f : Chand → Chand) : (s.modChand f).dma = s.dma := rfl
@[simp] theorem State.modChand_mem (s : State) (f : Chand → Chand) : (s.modChand f).mem = s.mem := rfl
@[simp] theorem State.modChand_nvs (s : State) (f : Chand → Chand) : (s.modChand f).nvs = s.nvs := rfl
@[simp] theorem State.modChand_time (s : State) (f : Chand → Chand) : (s.modChand f).time = s.time := rfl
@[simp] theorem State.modChand_stopN (s : State) (f : Chand → Chand) : (s.modChand f).stopN = s.stopN := rfl
@[simp] theorem State.modChand_axes (s : State) (f : Chand → Chand) : (s.modChand f).axes = s.axes := rfl
@[simp] theorem State.modChand_ledgers (s : State) (f : Chand → Chand) : (s.modChand f).ledgers = s.ledgers := rfl
@[simp] theorem State.modChand_brgs (s : State) (f : Chand → Chand) : (s.modChand f).brgs = s.brgs := rfl
@[simp] theorem State.modChand_dies (s : State) (f : Chand → Chand) : (s.modChand f).dies = s.dies := rfl
@[simp] theorem State.modChand_live (s : State) (f : Chand → Chand) : (s.modChand f).live = s.live := rfl
@[simp] theorem State.modChand_table (s : State) (f : Chand → Chand) : (s.modChand f).table = s.table := rfl
@[simp] theorem State.modChand_gate (s : State) (f : Chand → Chand) : (s.modChand f).gate = s.gate := rfl
@[simp] theorem State.modChand_encs (s : State) (f : Chand → Chand) : (s.modChand f).encs = s.encs := rfl
@[simp] theorem State.modChand_trigs (s : State) (f : Chand → Chand) : (s.modChand f).trigs = s.trigs := rfl
@[simp] theorem State.modChand_emus (s : State) (f : Chand → Chand) : (s.modChand f).emus = s.emus := rfl
@[simp] theorem State.modChand_tmr (s : State) (f : Chand → Chand) : (s.modChand f).tmr = s.tmr := rfl
@[simp] theorem State.modChand_cnvs (s : State) (f : Chand → Chand) : (s.modChand f).cnvs = s.cnvs := rfl
@[simp] theorem State.modChand_assay (s : State) (f : Chand → Chand) : (s.modChand f).assay = s.assay := rfl
@[simp] theorem State.modChand_wmons (s : State) (f : Chand → Chand) : (s.modChand f).wmons = s.wmons := rfl
@[simp] theorem State.modChand_lchain (s : State) (f : Chand → Chand) : (s.modChand f).lchain = s.lchain := rfl
@[simp] theorem State.modChand_twin (s : State) (f : Chand → Chand) : (s.modChand f).twin = s.twin := rfl
@[simp] theorem State.modChand_pending (s : State) (f : Chand → Chand) : (s.modChand f).pending = s.pending := rfl

/-! ### modChain -/

@[simp] theorem State.modChain_part (s : State) (f : LChain → LChain) : (s.modChain f).part = s.part := rfl
@[simp] theorem State.modChain_serial (s : State) (f : LChain → LChain) : (s.modChain f).serial = s.serial := rfl
@[simp] theorem State.modChain_regs (s : State) (f : LChain → LChain) : (s.modChain f).regs = s.regs := rfl
@[simp] theorem State.modChain_lows (s : State) (f : LChain → LChain) : (s.modChain f).lows = s.lows := rfl
@[simp] theorem State.modChain_unlock (s : State) (f : LChain → LChain) : (s.modChain f).unlock = s.unlock := rfl
@[simp] theorem State.modChain_unitRst (s : State) (f : LChain → LChain) : (s.modChain f).unitRst = s.unitRst := rfl
@[simp] theorem State.modChain_rdata (s : State) (f : LChain → LChain) : (s.modChain f).rdata = s.rdata := rfl
@[simp] theorem State.modChain_free (s : State) (f : LChain → LChain) : (s.modChain f).free = s.free := rfl
@[simp] theorem State.modChain_spi (s : State) (f : LChain → LChain) : (s.modChain f).spi = s.spi := rfl
@[simp] theorem State.modChain_pins (s : State) (f : LChain → LChain) : (s.modChain f).pins = s.pins := rfl
@[simp] theorem State.modChain_sup (s : State) (f : LChain → LChain) : (s.modChain f).sup = s.sup := rfl
@[simp] theorem State.modChain_pwr (s : State) (f : LChain → LChain) : (s.modChain f).pwr = s.pwr := rfl
@[simp] theorem State.modChain_clk (s : State) (f : LChain → LChain) : (s.modChain f).clk = s.clk := rfl
@[simp] theorem State.modChain_fab (s : State) (f : LChain → LChain) : (s.modChain f).fab = s.fab := rfl
@[simp] theorem State.modChain_dma (s : State) (f : LChain → LChain) : (s.modChain f).dma = s.dma := rfl
@[simp] theorem State.modChain_mem (s : State) (f : LChain → LChain) : (s.modChain f).mem = s.mem := rfl
@[simp] theorem State.modChain_nvs (s : State) (f : LChain → LChain) : (s.modChain f).nvs = s.nvs := rfl
@[simp] theorem State.modChain_time (s : State) (f : LChain → LChain) : (s.modChain f).time = s.time := rfl
@[simp] theorem State.modChain_stopN (s : State) (f : LChain → LChain) : (s.modChain f).stopN = s.stopN := rfl
@[simp] theorem State.modChain_axes (s : State) (f : LChain → LChain) : (s.modChain f).axes = s.axes := rfl
@[simp] theorem State.modChain_ledgers (s : State) (f : LChain → LChain) : (s.modChain f).ledgers = s.ledgers := rfl
@[simp] theorem State.modChain_brgs (s : State) (f : LChain → LChain) : (s.modChain f).brgs = s.brgs := rfl
@[simp] theorem State.modChain_dies (s : State) (f : LChain → LChain) : (s.modChain f).dies = s.dies := rfl
@[simp] theorem State.modChain_live (s : State) (f : LChain → LChain) : (s.modChain f).live = s.live := rfl
@[simp] theorem State.modChain_table (s : State) (f : LChain → LChain) : (s.modChain f).table = s.table := rfl
@[simp] theorem State.modChain_gate (s : State) (f : LChain → LChain) : (s.modChain f).gate = s.gate := rfl
@[simp] theorem State.modChain_encs (s : State) (f : LChain → LChain) : (s.modChain f).encs = s.encs := rfl
@[simp] theorem State.modChain_trigs (s : State) (f : LChain → LChain) : (s.modChain f).trigs = s.trigs := rfl
@[simp] theorem State.modChain_emus (s : State) (f : LChain → LChain) : (s.modChain f).emus = s.emus := rfl
@[simp] theorem State.modChain_tmr (s : State) (f : LChain → LChain) : (s.modChain f).tmr = s.tmr := rfl
@[simp] theorem State.modChain_cnvs (s : State) (f : LChain → LChain) : (s.modChain f).cnvs = s.cnvs := rfl
@[simp] theorem State.modChain_assay (s : State) (f : LChain → LChain) : (s.modChain f).assay = s.assay := rfl
@[simp] theorem State.modChain_wmons (s : State) (f : LChain → LChain) : (s.modChain f).wmons = s.wmons := rfl
@[simp] theorem State.modChain_chand (s : State) (f : LChain → LChain) : (s.modChain f).chand = s.chand := rfl
@[simp] theorem State.modChain_twin (s : State) (f : LChain → LChain) : (s.modChain f).twin = s.twin := rfl
@[simp] theorem State.modChain_pending (s : State) (f : LChain → LChain) : (s.modChain f).pending = s.pending := rfl

/-! ### modTwin -/

@[simp] theorem State.modTwin_part (s : State) (f : Twin → Twin) : (s.modTwin f).part = s.part := rfl
@[simp] theorem State.modTwin_serial (s : State) (f : Twin → Twin) : (s.modTwin f).serial = s.serial := rfl
@[simp] theorem State.modTwin_regs (s : State) (f : Twin → Twin) : (s.modTwin f).regs = s.regs := rfl
@[simp] theorem State.modTwin_lows (s : State) (f : Twin → Twin) : (s.modTwin f).lows = s.lows := rfl
@[simp] theorem State.modTwin_unlock (s : State) (f : Twin → Twin) : (s.modTwin f).unlock = s.unlock := rfl
@[simp] theorem State.modTwin_unitRst (s : State) (f : Twin → Twin) : (s.modTwin f).unitRst = s.unitRst := rfl
@[simp] theorem State.modTwin_rdata (s : State) (f : Twin → Twin) : (s.modTwin f).rdata = s.rdata := rfl
@[simp] theorem State.modTwin_free (s : State) (f : Twin → Twin) : (s.modTwin f).free = s.free := rfl
@[simp] theorem State.modTwin_spi (s : State) (f : Twin → Twin) : (s.modTwin f).spi = s.spi := rfl
@[simp] theorem State.modTwin_pins (s : State) (f : Twin → Twin) : (s.modTwin f).pins = s.pins := rfl
@[simp] theorem State.modTwin_sup (s : State) (f : Twin → Twin) : (s.modTwin f).sup = s.sup := rfl
@[simp] theorem State.modTwin_pwr (s : State) (f : Twin → Twin) : (s.modTwin f).pwr = s.pwr := rfl
@[simp] theorem State.modTwin_clk (s : State) (f : Twin → Twin) : (s.modTwin f).clk = s.clk := rfl
@[simp] theorem State.modTwin_fab (s : State) (f : Twin → Twin) : (s.modTwin f).fab = s.fab := rfl
@[simp] theorem State.modTwin_dma (s : State) (f : Twin → Twin) : (s.modTwin f).dma = s.dma := rfl
@[simp] theorem State.modTwin_mem (s : State) (f : Twin → Twin) : (s.modTwin f).mem = s.mem := rfl
@[simp] theorem State.modTwin_nvs (s : State) (f : Twin → Twin) : (s.modTwin f).nvs = s.nvs := rfl
@[simp] theorem State.modTwin_time (s : State) (f : Twin → Twin) : (s.modTwin f).time = s.time := rfl
@[simp] theorem State.modTwin_stopN (s : State) (f : Twin → Twin) : (s.modTwin f).stopN = s.stopN := rfl
@[simp] theorem State.modTwin_axes (s : State) (f : Twin → Twin) : (s.modTwin f).axes = s.axes := rfl
@[simp] theorem State.modTwin_ledgers (s : State) (f : Twin → Twin) : (s.modTwin f).ledgers = s.ledgers := rfl
@[simp] theorem State.modTwin_brgs (s : State) (f : Twin → Twin) : (s.modTwin f).brgs = s.brgs := rfl
@[simp] theorem State.modTwin_dies (s : State) (f : Twin → Twin) : (s.modTwin f).dies = s.dies := rfl
@[simp] theorem State.modTwin_live (s : State) (f : Twin → Twin) : (s.modTwin f).live = s.live := rfl
@[simp] theorem State.modTwin_table (s : State) (f : Twin → Twin) : (s.modTwin f).table = s.table := rfl
@[simp] theorem State.modTwin_gate (s : State) (f : Twin → Twin) : (s.modTwin f).gate = s.gate := rfl
@[simp] theorem State.modTwin_encs (s : State) (f : Twin → Twin) : (s.modTwin f).encs = s.encs := rfl
@[simp] theorem State.modTwin_trigs (s : State) (f : Twin → Twin) : (s.modTwin f).trigs = s.trigs := rfl
@[simp] theorem State.modTwin_emus (s : State) (f : Twin → Twin) : (s.modTwin f).emus = s.emus := rfl
@[simp] theorem State.modTwin_tmr (s : State) (f : Twin → Twin) : (s.modTwin f).tmr = s.tmr := rfl
@[simp] theorem State.modTwin_cnvs (s : State) (f : Twin → Twin) : (s.modTwin f).cnvs = s.cnvs := rfl
@[simp] theorem State.modTwin_assay (s : State) (f : Twin → Twin) : (s.modTwin f).assay = s.assay := rfl
@[simp] theorem State.modTwin_wmons (s : State) (f : Twin → Twin) : (s.modTwin f).wmons = s.wmons := rfl
@[simp] theorem State.modTwin_chand (s : State) (f : Twin → Twin) : (s.modTwin f).chand = s.chand := rfl
@[simp] theorem State.modTwin_lchain (s : State) (f : Twin → Twin) : (s.modTwin f).lchain = s.lchain := rfl
@[simp] theorem State.modTwin_pending (s : State) (f : Twin → Twin) : (s.modTwin f).pending = s.pending := rfl

/-! ### eventIf -/

@[simp] theorem State.eventIf_part (s : State) (c : Bool) (p n : Nat) : (s.eventIf c p n).part = s.part := by
  unfold State.eventIf; split <;> rfl
@[simp] theorem State.eventIf_serial (s : State) (c : Bool) (p n : Nat) : (s.eventIf c p n).serial = s.serial := by
  unfold State.eventIf; split <;> rfl
@[simp] theorem State.eventIf_lows (s : State) (c : Bool) (p n : Nat) : (s.eventIf c p n).lows = s.lows := by
  unfold State.eventIf; split <;> rfl
@[simp] theorem State.eventIf_unlock (s : State) (c : Bool) (p n : Nat) : (s.eventIf c p n).unlock = s.unlock := by
  unfold State.eventIf; split <;> rfl
@[simp] theorem State.eventIf_unitRst (s : State) (c : Bool) (p n : Nat) : (s.eventIf c p n).unitRst = s.unitRst := by
  unfold State.eventIf; split <;> rfl
@[simp] theorem State.eventIf_rdata (s : State) (c : Bool) (p n : Nat) : (s.eventIf c p n).rdata = s.rdata := by
  unfold State.eventIf; split <;> rfl
@[simp] theorem State.eventIf_free (s : State) (c : Bool) (p n : Nat) : (s.eventIf c p n).free = s.free := by
  unfold State.eventIf; split <;> rfl
@[simp] theorem State.eventIf_spi (s : State) (c : Bool) (p n : Nat) : (s.eventIf c p n).spi = s.spi := by
  unfold State.eventIf; split <;> rfl
@[simp] theorem State.eventIf_pins (s : State) (c : Bool) (p n : Nat) : (s.eventIf c p n).pins = s.pins := by
  unfold State.eventIf; split <;> rfl
@[simp] theorem State.eventIf_sup (s : State) (c : Bool) (p n : Nat) : (s.eventIf c p n).sup = s.sup := by
  unfold State.eventIf; split <;> rfl
@[simp] theorem State.eventIf_pwr (s : State) (c : Bool) (p n : Nat) : (s.eventIf c p n).pwr = s.pwr := by
  unfold State.eventIf; split <;> rfl
@[simp] theorem State.eventIf_clk (s : State) (c : Bool) (p n : Nat) : (s.eventIf c p n).clk = s.clk := by
  unfold State.eventIf; split <;> rfl
@[simp] theorem State.eventIf_fab (s : State) (c : Bool) (p n : Nat) : (s.eventIf c p n).fab = s.fab := by
  unfold State.eventIf; split <;> rfl
@[simp] theorem State.eventIf_dma (s : State) (c : Bool) (p n : Nat) : (s.eventIf c p n).dma = s.dma := by
  unfold State.eventIf; split <;> rfl
@[simp] theorem State.eventIf_mem (s : State) (c : Bool) (p n : Nat) : (s.eventIf c p n).mem = s.mem := by
  unfold State.eventIf; split <;> rfl
@[simp] theorem State.eventIf_nvs (s : State) (c : Bool) (p n : Nat) : (s.eventIf c p n).nvs = s.nvs := by
  unfold State.eventIf; split <;> rfl
@[simp] theorem State.eventIf_time (s : State) (c : Bool) (p n : Nat) : (s.eventIf c p n).time = s.time := by
  unfold State.eventIf; split <;> rfl
@[simp] theorem State.eventIf_stopN (s : State) (c : Bool) (p n : Nat) : (s.eventIf c p n).stopN = s.stopN := by
  unfold State.eventIf; split <;> rfl
@[simp] theorem State.eventIf_axes (s : State) (c : Bool) (p n : Nat) : (s.eventIf c p n).axes = s.axes := by
  unfold State.eventIf; split <;> rfl
@[simp] theorem State.eventIf_ledgers (s : State) (c : Bool) (p n : Nat) : (s.eventIf c p n).ledgers = s.ledgers := by
  unfold State.eventIf; split <;> rfl
@[simp] theorem State.eventIf_brgs (s : State) (c : Bool) (p n : Nat) : (s.eventIf c p n).brgs = s.brgs := by
  unfold State.eventIf; split <;> rfl
@[simp] theorem State.eventIf_dies (s : State) (c : Bool) (p n : Nat) : (s.eventIf c p n).dies = s.dies := by
  unfold State.eventIf; split <;> rfl
@[simp] theorem State.eventIf_live (s : State) (c : Bool) (p n : Nat) : (s.eventIf c p n).live = s.live := by
  unfold State.eventIf; split <;> rfl
@[simp] theorem State.eventIf_table (s : State) (c : Bool) (p n : Nat) : (s.eventIf c p n).table = s.table := by
  unfold State.eventIf; split <;> rfl
@[simp] theorem State.eventIf_gate (s : State) (c : Bool) (p n : Nat) : (s.eventIf c p n).gate = s.gate := by
  unfold State.eventIf; split <;> rfl
@[simp] theorem State.eventIf_encs (s : State) (c : Bool) (p n : Nat) : (s.eventIf c p n).encs = s.encs := by
  unfold State.eventIf; split <;> rfl
@[simp] theorem State.eventIf_trigs (s : State) (c : Bool) (p n : Nat) : (s.eventIf c p n).trigs = s.trigs := by
  unfold State.eventIf; split <;> rfl
@[simp] theorem State.eventIf_emus (s : State) (c : Bool) (p n : Nat) : (s.eventIf c p n).emus = s.emus := by
  unfold State.eventIf; split <;> rfl
@[simp] theorem State.eventIf_tmr (s : State) (c : Bool) (p n : Nat) : (s.eventIf c p n).tmr = s.tmr := by
  unfold State.eventIf; split <;> rfl
@[simp] theorem State.eventIf_cnvs (s : State) (c : Bool) (p n : Nat) : (s.eventIf c p n).cnvs = s.cnvs := by
  unfold State.eventIf; split <;> rfl
@[simp] theorem State.eventIf_assay (s : State) (c : Bool) (p n : Nat) : (s.eventIf c p n).assay = s.assay := by
  unfold State.eventIf; split <;> rfl
@[simp] theorem State.eventIf_wmons (s : State) (c : Bool) (p n : Nat) : (s.eventIf c p n).wmons = s.wmons := by
  unfold State.eventIf; split <;> rfl
@[simp] theorem State.eventIf_chand (s : State) (c : Bool) (p n : Nat) : (s.eventIf c p n).chand = s.chand := by
  unfold State.eventIf; split <;> rfl
@[simp] theorem State.eventIf_lchain (s : State) (c : Bool) (p n : Nat) : (s.eventIf c p n).lchain = s.lchain := by
  unfold State.eventIf; split <;> rfl
@[simp] theorem State.eventIf_twin (s : State) (c : Bool) (p n : Nat) : (s.eventIf c p n).twin = s.twin := by
  unfold State.eventIf; split <;> rfl
@[simp] theorem State.eventIf_pending (s : State) (c : Bool) (p n : Nat) : (s.eventIf c p n).pending = s.pending := by
  unfold State.eventIf; split <;> rfl

/-! ### duePulse -/

@[simp] theorem State.duePulse_part (s : State) (w : Word) : (s.duePulse w).part = s.part := by
  unfold State.duePulse; split <;> rfl
@[simp] theorem State.duePulse_serial (s : State) (w : Word) : (s.duePulse w).serial = s.serial := by
  unfold State.duePulse; split <;> rfl
@[simp] theorem State.duePulse_regs (s : State) (w : Word) : (s.duePulse w).regs = s.regs := by
  unfold State.duePulse; split <;> rfl
@[simp] theorem State.duePulse_lows (s : State) (w : Word) : (s.duePulse w).lows = s.lows := by
  unfold State.duePulse; split <;> rfl
@[simp] theorem State.duePulse_unlock (s : State) (w : Word) : (s.duePulse w).unlock = s.unlock := by
  unfold State.duePulse; split <;> rfl
@[simp] theorem State.duePulse_unitRst (s : State) (w : Word) : (s.duePulse w).unitRst = s.unitRst := by
  unfold State.duePulse; split <;> rfl
@[simp] theorem State.duePulse_rdata (s : State) (w : Word) : (s.duePulse w).rdata = s.rdata := by
  unfold State.duePulse; split <;> rfl
@[simp] theorem State.duePulse_free (s : State) (w : Word) : (s.duePulse w).free = s.free := by
  unfold State.duePulse; split <;> rfl
@[simp] theorem State.duePulse_spi (s : State) (w : Word) : (s.duePulse w).spi = s.spi := by
  unfold State.duePulse; split <;> rfl
@[simp] theorem State.duePulse_pins (s : State) (w : Word) : (s.duePulse w).pins = s.pins := by
  unfold State.duePulse; split <;> rfl
@[simp] theorem State.duePulse_sup (s : State) (w : Word) : (s.duePulse w).sup = s.sup := by
  unfold State.duePulse; split <;> rfl
@[simp] theorem State.duePulse_pwr (s : State) (w : Word) : (s.duePulse w).pwr = s.pwr := by
  unfold State.duePulse; split <;> rfl
@[simp] theorem State.duePulse_clk (s : State) (w : Word) : (s.duePulse w).clk = s.clk := by
  unfold State.duePulse; split <;> rfl
@[simp] theorem State.duePulse_dma (s : State) (w : Word) : (s.duePulse w).dma = s.dma := by
  unfold State.duePulse; split <;> rfl
@[simp] theorem State.duePulse_mem (s : State) (w : Word) : (s.duePulse w).mem = s.mem := by
  unfold State.duePulse; split <;> rfl
@[simp] theorem State.duePulse_nvs (s : State) (w : Word) : (s.duePulse w).nvs = s.nvs := by
  unfold State.duePulse; split <;> rfl
@[simp] theorem State.duePulse_time (s : State) (w : Word) : (s.duePulse w).time = s.time := by
  unfold State.duePulse; split <;> rfl
@[simp] theorem State.duePulse_stopN (s : State) (w : Word) : (s.duePulse w).stopN = s.stopN := by
  unfold State.duePulse; split <;> rfl
@[simp] theorem State.duePulse_axes (s : State) (w : Word) : (s.duePulse w).axes = s.axes := by
  unfold State.duePulse; split <;> rfl
@[simp] theorem State.duePulse_ledgers (s : State) (w : Word) : (s.duePulse w).ledgers = s.ledgers := by
  unfold State.duePulse; split <;> rfl
@[simp] theorem State.duePulse_brgs (s : State) (w : Word) : (s.duePulse w).brgs = s.brgs := by
  unfold State.duePulse; split <;> rfl
@[simp] theorem State.duePulse_dies (s : State) (w : Word) : (s.duePulse w).dies = s.dies := by
  unfold State.duePulse; split <;> rfl
@[simp] theorem State.duePulse_live (s : State) (w : Word) : (s.duePulse w).live = s.live := by
  unfold State.duePulse; split <;> rfl
@[simp] theorem State.duePulse_table (s : State) (w : Word) : (s.duePulse w).table = s.table := by
  unfold State.duePulse; split <;> rfl
@[simp] theorem State.duePulse_gate (s : State) (w : Word) : (s.duePulse w).gate = s.gate := by
  unfold State.duePulse; split <;> rfl
@[simp] theorem State.duePulse_encs (s : State) (w : Word) : (s.duePulse w).encs = s.encs := by
  unfold State.duePulse; split <;> rfl
@[simp] theorem State.duePulse_trigs (s : State) (w : Word) : (s.duePulse w).trigs = s.trigs := by
  unfold State.duePulse; split <;> rfl
@[simp] theorem State.duePulse_emus (s : State) (w : Word) : (s.duePulse w).emus = s.emus := by
  unfold State.duePulse; split <;> rfl
@[simp] theorem State.duePulse_tmr (s : State) (w : Word) : (s.duePulse w).tmr = s.tmr := by
  unfold State.duePulse; split <;> rfl
@[simp] theorem State.duePulse_cnvs (s : State) (w : Word) : (s.duePulse w).cnvs = s.cnvs := by
  unfold State.duePulse; split <;> rfl
@[simp] theorem State.duePulse_assay (s : State) (w : Word) : (s.duePulse w).assay = s.assay := by
  unfold State.duePulse; split <;> rfl
@[simp] theorem State.duePulse_wmons (s : State) (w : Word) : (s.duePulse w).wmons = s.wmons := by
  unfold State.duePulse; split <;> rfl
@[simp] theorem State.duePulse_chand (s : State) (w : Word) : (s.duePulse w).chand = s.chand := by
  unfold State.duePulse; split <;> rfl
@[simp] theorem State.duePulse_lchain (s : State) (w : Word) : (s.duePulse w).lchain = s.lchain := by
  unfold State.duePulse; split <;> rfl
@[simp] theorem State.duePulse_twin (s : State) (w : Word) : (s.duePulse w).twin = s.twin := by
  unfold State.duePulse; split <;> rfl
@[simp] theorem State.duePulse_pending (s : State) (w : Word) : (s.duePulse w).pending = s.pending := by
  unfold State.duePulse; split <;> rfl

/-! ### produce -/

@[simp] theorem State.produce_part (s : State) (k : Nat) : (s.produce k).part = s.part := by
  unfold State.produce; split <;> simp
@[simp] theorem State.produce_serial (s : State) (k : Nat) : (s.produce k).serial = s.serial := by
  unfold State.produce; split <;> simp
@[simp] theorem State.produce_regs (s : State) (k : Nat) : (s.produce k).regs = s.regs := by
  unfold State.produce; split <;> simp
@[simp] theorem State.produce_lows (s : State) (k : Nat) : (s.produce k).lows = s.lows := by
  unfold State.produce; split <;> simp
@[simp] theorem State.produce_unlock (s : State) (k : Nat) : (s.produce k).unlock = s.unlock := by
  unfold State.produce; split <;> simp
@[simp] theorem State.produce_unitRst (s : State) (k : Nat) : (s.produce k).unitRst = s.unitRst := by
  unfold State.produce; split <;> simp
@[simp] theorem State.produce_rdata (s : State) (k : Nat) : (s.produce k).rdata = s.rdata := by
  unfold State.produce; split <;> simp
@[simp] theorem State.produce_free (s : State) (k : Nat) : (s.produce k).free = s.free := by
  unfold State.produce; split <;> simp
@[simp] theorem State.produce_spi (s : State) (k : Nat) : (s.produce k).spi = s.spi := by
  unfold State.produce; split <;> simp
@[simp] theorem State.produce_pins (s : State) (k : Nat) : (s.produce k).pins = s.pins := by
  unfold State.produce; split <;> simp
@[simp] theorem State.produce_sup (s : State) (k : Nat) : (s.produce k).sup = s.sup := by
  unfold State.produce; split <;> simp
@[simp] theorem State.produce_pwr (s : State) (k : Nat) : (s.produce k).pwr = s.pwr := by
  unfold State.produce; split <;> simp
@[simp] theorem State.produce_clk (s : State) (k : Nat) : (s.produce k).clk = s.clk := by
  unfold State.produce; split <;> simp
@[simp] theorem State.produce_dma (s : State) (k : Nat) : (s.produce k).dma = s.dma := by
  unfold State.produce; split <;> simp
@[simp] theorem State.produce_mem (s : State) (k : Nat) : (s.produce k).mem = s.mem := by
  unfold State.produce; split <;> simp
@[simp] theorem State.produce_nvs (s : State) (k : Nat) : (s.produce k).nvs = s.nvs := by
  unfold State.produce; split <;> simp
@[simp] theorem State.produce_time (s : State) (k : Nat) : (s.produce k).time = s.time := by
  unfold State.produce; split <;> simp
@[simp] theorem State.produce_stopN (s : State) (k : Nat) : (s.produce k).stopN = s.stopN := by
  unfold State.produce; split <;> simp
@[simp] theorem State.produce_axes (s : State) (k : Nat) : (s.produce k).axes = s.axes := by
  unfold State.produce; split <;> simp
@[simp] theorem State.produce_ledgers (s : State) (k : Nat) : (s.produce k).ledgers = s.ledgers := by
  unfold State.produce; split <;> simp
@[simp] theorem State.produce_brgs (s : State) (k : Nat) : (s.produce k).brgs = s.brgs := by
  unfold State.produce; split <;> simp
@[simp] theorem State.produce_dies (s : State) (k : Nat) : (s.produce k).dies = s.dies := by
  unfold State.produce; split <;> simp
@[simp] theorem State.produce_live (s : State) (k : Nat) : (s.produce k).live = s.live := by
  unfold State.produce; split <;> simp
@[simp] theorem State.produce_table (s : State) (k : Nat) : (s.produce k).table = s.table := by
  unfold State.produce; split <;> simp
@[simp] theorem State.produce_gate (s : State) (k : Nat) : (s.produce k).gate = s.gate := by
  unfold State.produce; split <;> simp
@[simp] theorem State.produce_encs (s : State) (k : Nat) : (s.produce k).encs = s.encs := by
  unfold State.produce; split <;> simp
@[simp] theorem State.produce_trigs (s : State) (k : Nat) : (s.produce k).trigs = s.trigs := by
  unfold State.produce; split <;> simp
@[simp] theorem State.produce_emus (s : State) (k : Nat) : (s.produce k).emus = s.emus := by
  unfold State.produce; split <;> simp
@[simp] theorem State.produce_tmr (s : State) (k : Nat) : (s.produce k).tmr = s.tmr := by
  unfold State.produce; split <;> simp
@[simp] theorem State.produce_cnvs (s : State) (k : Nat) : (s.produce k).cnvs = s.cnvs := by
  unfold State.produce; split <;> simp
@[simp] theorem State.produce_assay (s : State) (k : Nat) : (s.produce k).assay = s.assay := by
  unfold State.produce; split <;> simp
@[simp] theorem State.produce_wmons (s : State) (k : Nat) : (s.produce k).wmons = s.wmons := by
  unfold State.produce; split <;> simp
@[simp] theorem State.produce_chand (s : State) (k : Nat) : (s.produce k).chand = s.chand := by
  unfold State.produce; split <;> simp
@[simp] theorem State.produce_lchain (s : State) (k : Nat) : (s.produce k).lchain = s.lchain := by
  unfold State.produce; split <;> simp
@[simp] theorem State.produce_twin (s : State) (k : Nat) : (s.produce k).twin = s.twin := by
  unfold State.produce; split <;> simp
@[simp] theorem State.produce_pending (s : State) (k : Nat) : (s.produce k).pending = s.pending := by
  unfold State.produce; split <;> simp

/-! ### modEnc -/

@[simp] theorem State.modEnc_part (s : State) (c : Nat) (f : Enc → Enc) : (s.modEnc c f).part = s.part := by
  unfold State.modEnc; split <;> rfl
@[simp] theorem State.modEnc_serial (s : State) (c : Nat) (f : Enc → Enc) : (s.modEnc c f).serial = s.serial := by
  unfold State.modEnc; split <;> rfl
@[simp] theorem State.modEnc_regs (s : State) (c : Nat) (f : Enc → Enc) : (s.modEnc c f).regs = s.regs := by
  unfold State.modEnc; split <;> rfl
@[simp] theorem State.modEnc_lows (s : State) (c : Nat) (f : Enc → Enc) : (s.modEnc c f).lows = s.lows := by
  unfold State.modEnc; split <;> rfl
@[simp] theorem State.modEnc_unlock (s : State) (c : Nat) (f : Enc → Enc) : (s.modEnc c f).unlock = s.unlock := by
  unfold State.modEnc; split <;> rfl
@[simp] theorem State.modEnc_unitRst (s : State) (c : Nat) (f : Enc → Enc) : (s.modEnc c f).unitRst = s.unitRst := by
  unfold State.modEnc; split <;> rfl
@[simp] theorem State.modEnc_rdata (s : State) (c : Nat) (f : Enc → Enc) : (s.modEnc c f).rdata = s.rdata := by
  unfold State.modEnc; split <;> rfl
@[simp] theorem State.modEnc_free (s : State) (c : Nat) (f : Enc → Enc) : (s.modEnc c f).free = s.free := by
  unfold State.modEnc; split <;> rfl
@[simp] theorem State.modEnc_spi (s : State) (c : Nat) (f : Enc → Enc) : (s.modEnc c f).spi = s.spi := by
  unfold State.modEnc; split <;> rfl
@[simp] theorem State.modEnc_pins (s : State) (c : Nat) (f : Enc → Enc) : (s.modEnc c f).pins = s.pins := by
  unfold State.modEnc; split <;> rfl
@[simp] theorem State.modEnc_sup (s : State) (c : Nat) (f : Enc → Enc) : (s.modEnc c f).sup = s.sup := by
  unfold State.modEnc; split <;> rfl
@[simp] theorem State.modEnc_pwr (s : State) (c : Nat) (f : Enc → Enc) : (s.modEnc c f).pwr = s.pwr := by
  unfold State.modEnc; split <;> rfl
@[simp] theorem State.modEnc_clk (s : State) (c : Nat) (f : Enc → Enc) : (s.modEnc c f).clk = s.clk := by
  unfold State.modEnc; split <;> rfl
@[simp] theorem State.modEnc_fab (s : State) (c : Nat) (f : Enc → Enc) : (s.modEnc c f).fab = s.fab := by
  unfold State.modEnc; split <;> rfl
@[simp] theorem State.modEnc_dma (s : State) (c : Nat) (f : Enc → Enc) : (s.modEnc c f).dma = s.dma := by
  unfold State.modEnc; split <;> rfl
@[simp] theorem State.modEnc_mem (s : State) (c : Nat) (f : Enc → Enc) : (s.modEnc c f).mem = s.mem := by
  unfold State.modEnc; split <;> rfl
@[simp] theorem State.modEnc_nvs (s : State) (c : Nat) (f : Enc → Enc) : (s.modEnc c f).nvs = s.nvs := by
  unfold State.modEnc; split <;> rfl
@[simp] theorem State.modEnc_time (s : State) (c : Nat) (f : Enc → Enc) : (s.modEnc c f).time = s.time := by
  unfold State.modEnc; split <;> rfl
@[simp] theorem State.modEnc_stopN (s : State) (c : Nat) (f : Enc → Enc) : (s.modEnc c f).stopN = s.stopN := by
  unfold State.modEnc; split <;> rfl
@[simp] theorem State.modEnc_axes (s : State) (c : Nat) (f : Enc → Enc) : (s.modEnc c f).axes = s.axes := by
  unfold State.modEnc; split <;> rfl
@[simp] theorem State.modEnc_ledgers (s : State) (c : Nat) (f : Enc → Enc) : (s.modEnc c f).ledgers = s.ledgers := by
  unfold State.modEnc; split <;> rfl
@[simp] theorem State.modEnc_brgs (s : State) (c : Nat) (f : Enc → Enc) : (s.modEnc c f).brgs = s.brgs := by
  unfold State.modEnc; split <;> rfl
@[simp] theorem State.modEnc_dies (s : State) (c : Nat) (f : Enc → Enc) : (s.modEnc c f).dies = s.dies := by
  unfold State.modEnc; split <;> rfl
@[simp] theorem State.modEnc_live (s : State) (c : Nat) (f : Enc → Enc) : (s.modEnc c f).live = s.live := by
  unfold State.modEnc; split <;> rfl
@[simp] theorem State.modEnc_table (s : State) (c : Nat) (f : Enc → Enc) : (s.modEnc c f).table = s.table := by
  unfold State.modEnc; split <;> rfl
@[simp] theorem State.modEnc_gate (s : State) (c : Nat) (f : Enc → Enc) : (s.modEnc c f).gate = s.gate := by
  unfold State.modEnc; split <;> rfl
@[simp] theorem State.modEnc_trigs (s : State) (c : Nat) (f : Enc → Enc) : (s.modEnc c f).trigs = s.trigs := by
  unfold State.modEnc; split <;> rfl
@[simp] theorem State.modEnc_emus (s : State) (c : Nat) (f : Enc → Enc) : (s.modEnc c f).emus = s.emus := by
  unfold State.modEnc; split <;> rfl
@[simp] theorem State.modEnc_tmr (s : State) (c : Nat) (f : Enc → Enc) : (s.modEnc c f).tmr = s.tmr := by
  unfold State.modEnc; split <;> rfl
@[simp] theorem State.modEnc_cnvs (s : State) (c : Nat) (f : Enc → Enc) : (s.modEnc c f).cnvs = s.cnvs := by
  unfold State.modEnc; split <;> rfl
@[simp] theorem State.modEnc_assay (s : State) (c : Nat) (f : Enc → Enc) : (s.modEnc c f).assay = s.assay := by
  unfold State.modEnc; split <;> rfl
@[simp] theorem State.modEnc_wmons (s : State) (c : Nat) (f : Enc → Enc) : (s.modEnc c f).wmons = s.wmons := by
  unfold State.modEnc; split <;> rfl
@[simp] theorem State.modEnc_chand (s : State) (c : Nat) (f : Enc → Enc) : (s.modEnc c f).chand = s.chand := by
  unfold State.modEnc; split <;> rfl
@[simp] theorem State.modEnc_lchain (s : State) (c : Nat) (f : Enc → Enc) : (s.modEnc c f).lchain = s.lchain := by
  unfold State.modEnc; split <;> rfl
@[simp] theorem State.modEnc_twin (s : State) (c : Nat) (f : Enc → Enc) : (s.modEnc c f).twin = s.twin := by
  unfold State.modEnc; split <;> rfl
@[simp] theorem State.modEnc_pending (s : State) (c : Nat) (f : Enc → Enc) : (s.modEnc c f).pending = s.pending := by
  unfold State.modEnc; split <;> rfl

/-! ### The field that an update changes -/

@[simp] theorem State.modSpi_spi (s : State) (f : Spi → Spi) : (s.modSpi f).spi = f s.spi := rfl
@[simp] theorem State.modPins_pins (s : State) (f : Pins → Pins) : (s.modPins f).pins = f s.pins := rfl
@[simp] theorem State.modSup_sup (s : State) (f : Supply → Supply) : (s.modSup f).sup = f s.sup := rfl
@[simp] theorem State.modPwr_pwr (s : State) (f : Power → Power) : (s.modPwr f).pwr = f s.pwr := rfl
@[simp] theorem State.modClk_clk (s : State) (f : Clock → Clock) : (s.modClk f).clk = f s.clk := rfl
@[simp] theorem State.modFab_fab (s : State) (f : Fabric → Fabric) : (s.modFab f).fab = f s.fab := rfl
@[simp] theorem State.modMem_mem (s : State) (f : Mem → Mem) : (s.modMem f).mem = f s.mem := rfl
@[simp] theorem State.modNvs_nvs (s : State) (f : Nvs → Nvs) : (s.modNvs f).nvs = f s.nvs := rfl
@[simp] theorem State.modTime_time (s : State) (f : MTime → MTime) : (s.modTime f).time = f s.time := rfl
@[simp] theorem State.modTable_table (s : State) (f : Table → Table) : (s.modTable f).table = f s.table := rfl
@[simp] theorem State.modGate_gate (s : State) (f : Gate → Gate) : (s.modGate f).gate = f s.gate := rfl
@[simp] theorem State.modAssay_assay (s : State) (f : Assay → Assay) : (s.modAssay f).assay = f s.assay := rfl
@[simp] theorem State.modChand_chand (s : State) (f : Chand → Chand) : (s.modChand f).chand = f s.chand := rfl
@[simp] theorem State.modChain_lchain (s : State) (f : LChain → LChain) : (s.modChain f).lchain = f s.lchain := rfl
@[simp] theorem State.modTwin_twin (s : State) (f : Twin → Twin) : (s.modTwin f).twin = f s.twin := rfl

end Sys2Proof.Machine
end

