-- ==== Sys2Proof/Laws/Ops.lean ====
section
/-! SUPPORT. The laws of the stores, the memories and the register file: a read after a write, what a write leaves alone,
and that every write keeps the canonical form. -/

set_option Elab.async false

namespace Sys2Proof.Machine

/-! ### Lists of (key, value) pairs -/

section Pairs

variable {α : Type}

/-- Insertion before the first higher key, as both kinds of store make it. -/
def insertPair (e : Nat × α) : List (Nat × α) → List (Nat × α)
  | [] => [e]
  | x :: m => if e.1 < x.1 then e :: x :: m else x :: insertPair e m

theorem mem_insertPair (e x : Nat × α) (m : List (Nat × α)) : x ∈ insertPair e m ↔ x = e ∨ x ∈ m := by
  induction m with
  | nil => simp [insertPair]
  | cons y m ih =>
    unfold insertPair
    split
    · simp
    · simp only [List.mem_cons, ih]; tauto

theorem find_insertPair_other (e : Nat × α) (m : List (Nat × α)) (b : Nat) (h : e.1 ≠ b) :
    (insertPair e m).find? (fun x => x.1 == b) = m.find? (fun x => x.1 == b) := by
  induction m with
  | nil => simp [insertPair, h]
  | cons y m ih =>
    unfold insertPair
    split
    · simp only [List.find?_cons, beq_eq_false_iff_ne.mpr h]
    · simp only [List.find?_cons, ih]

theorem find_insertPair_same (e : Nat × α) (m : List (Nat × α)) (h : ∀ x ∈ m, x.1 ≠ e.1) :
    (insertPair e m).find? (fun x => x.1 == e.1) = some e := by
  induction m with
  | nil => simp [insertPair]
  | cons y m ih =>
    have hy := h y (by simp)
    unfold insertPair
    split
    · simp
    · simp [hy, ih (fun x hx => h x (by simp [hx]))]

theorem pairwise_insertPair (e : Nat × α) (m : List (Nat × α)) (hm : m.Pairwise (fun x y => x.1 < y.1))
    (h : ∀ x ∈ m, x.1 ≠ e.1) : (insertPair e m).Pairwise (fun x y => x.1 < y.1) := by
  induction m with
  | nil => simp [insertPair]
  | cons y m ih =>
    obtain ⟨hy, hm⟩ := List.pairwise_cons.mp hm
    unfold insertPair
    split
    · rename_i lt
      refine List.pairwise_cons.mpr ⟨fun z hz => ?_, List.pairwise_cons.mpr ⟨hy, hm⟩⟩
      rcases List.mem_cons.mp hz with rfl | hz
      · exact lt
      · exact lt.trans (hy z hz)
    · rename_i ge
      refine List.pairwise_cons.mpr ⟨fun z hz => ?_, ih hm (fun x hx => h x (by simp [hx]))⟩
      rcases (mem_insertPair e z m).mp hz with rfl | hz
      · have := h y (by simp); omega
      · exact hy z hz

theorem find_filter_other (m : List (Nat × α)) (a b : Nat) (h : a ≠ b) :
    (m.filter (fun x => x.1 != a)).find? (fun x => x.1 == b) = m.find? (fun x => x.1 == b) := by
  induction m with
  | nil => rfl
  | cons y m ih =>
    by_cases ya : y.1 = a
    · have : y.1 ≠ b := fun hb => h (ya ▸ hb)
      simp [ya, ih, h]
    · simp only [List.filter_cons, bne_iff_ne, ne_eq, ya, not_false_eq_true, if_true, List.find?_cons, ih]

theorem find_filter_same (m : List (Nat × α)) (a : Nat) :
    (m.filter (fun x => x.1 != a)).find? (fun x => x.1 == a) = none := by
  simp [List.find?_eq_none]

end Pairs

/-! ### Stores of words -/

theorem Store.insert_eq (e : Nat × Word) (m : Store) : Store.insert e m = insertPair e m := by
  induction m with
  | nil => rfl
  | cons x m ih => simp only [Store.insert, insertPair, ih]

theorem Store.get_set_same (d : Nat → Word) (m : Store) (a : Nat) (v : Word) : Store.get d (Store.set d m a v) a = v := by
  unfold Store.set
  split
  · rename_i h; simp only [Store.get, find_filter_same]; exact h.symm
  · simp only [Store.get, Store.insert_eq]
    rw [show a = ((a, v) : Nat × Word).1 from rfl, find_insertPair_same]
    simp

theorem Store.get_set_other (d : Nat → Word) (m : Store) (a b : Nat) (v : Word) (h : a ≠ b) :
    Store.get d (Store.set d m a v) b = Store.get d m b := by
  unfold Store.set
  split
  · simp only [Store.get, find_filter_other m a b h]
  · simp only [Store.get, Store.insert_eq]
    rw [find_insertPair_other (a, v) _ b h, find_filter_other m a b h]

theorem Store.wf_iff (d : Nat → Word) (m : Store) :
    Store.wf d m = true ↔ m.Pairwise (fun x y => x.1 < y.1) ∧ ∀ e ∈ m, e.2 ≠ d e.1 := by
  simp [Store.wf]

theorem Store.wf_nil (d : Nat → Word) : Store.wf d [] = true := by simp [Store.wf]

theorem Store.wf_filter (d : Nat → Word) (m : Store) (p : Nat × Word → Bool) (h : Store.wf d m = true) :
    Store.wf d (m.filter p) = true := by
  rw [Store.wf_iff] at h ⊢
  exact ⟨h.1.filter p, fun e he => h.2 e (List.mem_filter.mp he).1⟩

theorem Store.wf_set (d : Nat → Word) (m : Store) (a : Nat) (v : Word) (h : Store.wf d m = true) :
    Store.wf d (Store.set d m a v) = true := by
  have hf := Store.wf_filter d m (fun e => e.1 != a) h
  unfold Store.set
  split
  · exact hf
  · rename_i hv
    rw [Store.wf_iff] at hf ⊢
    rw [Store.insert_eq]
    refine ⟨pairwise_insertPair _ _ hf.1 (by simp), fun e he => ?_⟩
    rcases (mem_insertPair _ _ _).mp he with rfl | he
    · exact hv
    · exact hf.2 e he

/-! ### Memories of bytes -/

theorem Cells.insert_eq (e : Host.Cell) (m : List Host.Cell) : Cells.insert e m = insertPair e m := by
  induction m with
  | nil => rfl
  | cons x m ih => simp only [Cells.insert, insertPair, ih]

theorem Cells.get_set_same (d : Nat → Byte) (m : List Host.Cell) (a : Nat) (v : Byte) : Cells.get d (Cells.set d m a v) a = v := by
  unfold Cells.set
  split
  · rename_i h; simp only [Cells.get, find_filter_same]; exact h.symm
  · simp only [Cells.get, Cells.insert_eq]
    rw [show a = ((a, v) : Host.Cell).1 from rfl, find_insertPair_same]
    simp

theorem Cells.get_set_other (d : Nat → Byte) (m : List Host.Cell) (a b : Nat) (v : Byte) (h : a ≠ b) :
    Cells.get d (Cells.set d m a v) b = Cells.get d m b := by
  unfold Cells.set
  split
  · simp only [Cells.get, find_filter_other m a b h]
  · simp only [Cells.get, Cells.insert_eq]
    rw [find_insertPair_other (a, v) _ b h, find_filter_other m a b h]

theorem Memory.wf_iff (d : Nat → Byte) (m : List Host.Cell) :
    Memory.wf d m = true ↔ m.Pairwise (fun x y => x.1 < y.1) ∧ ∀ e ∈ m, e.2 ≠ d e.1 := by
  simp [Memory.wf]

theorem Memory.wf_nil (d : Nat → Byte) : Memory.wf d [] = true := by simp [Memory.wf]

theorem Memory.wf_filter (d : Nat → Byte) (m : List Host.Cell) (p : Host.Cell → Bool) (h : Memory.wf d m = true) :
    Memory.wf d (m.filter p) = true := by
  rw [Memory.wf_iff] at h ⊢
  exact ⟨h.1.filter p, fun e he => h.2 e (List.mem_filter.mp he).1⟩

theorem Memory.wf_set (d : Nat → Byte) (m : List Host.Cell) (a : Nat) (v : Byte) (h : Memory.wf d m = true) :
    Memory.wf d (Cells.set d m a v) = true := by
  have hf := Memory.wf_filter d m (fun e => e.1 != a) h
  unfold Cells.set
  split
  · exact hf
  · rename_i hv
    rw [Memory.wf_iff] at hf ⊢
    rw [Cells.insert_eq]
    refine ⟨pairwise_insertPair _ _ hf.1 (by simp), fun e he => ?_⟩
    rcases (mem_insertPair _ _ _).mp he with rfl | he
    · exact hv
    · exact hf.2 e he

theorem Memory.wf_writeWord (d : Nat → Byte) (m : List Host.Cell) (a : Nat) (v : Word) (h : Memory.wf d m = true) :
    Memory.wf d (writeWord d m a v) = true :=
  Memory.wf_set d _ _ _ (Memory.wf_set d m a _ h)

theorem Memory.wf_writeWords (d : Nat → Byte) (m : List Host.Cell) (a : Nat) (ws : List Word) (h : Memory.wf d m = true) :
    Memory.wf d (writeWords d m a ws) = true := by
  induction ws generalizing m a with
  | nil => exact h
  | cons w ws ih => exact ih _ _ (Memory.wf_writeWord d m a w h)

theorem word_split (v : Word) : v.extractLsb' 8 8 ++ v.extractLsb' 0 8 = v := by
  have h : v.extractLsb' 8 8 ++ v.extractLsb' 0 8 = v.extractLsb' 0 16 := by
    apply BitVec.eq_of_getLsbD_eq
    intro i hi
    simp only [BitVec.getLsbD_append, BitVec.getLsbD_extractLsb']
    by_cases h8 : i < 8
    · simp [h8, hi]
    · simp [h8, show i - 8 < 8 by omega, show 8 + (i - 8) = i by omega, hi]
  rw [h]; simp

theorem readWord_writeWord (d : Nat → Byte) (m : List Host.Cell) (a : Nat) (v : Word) : readWord d (writeWord d m a v) a = v := by
  simp only [readWord, writeWord, Cells.get_set_same, Cells.get_set_other d _ (a + 1) a _ (by omega), word_split]

/-- A word write leaves every byte outside the word alone. -/
theorem get_writeWord_other (d : Nat → Byte) (m : List Host.Cell) (a b : Nat) (v : Word) (h0 : a ≠ b) (h1 : a + 1 ≠ b) :
    Cells.get d (writeWord d m a v) b = Cells.get d m b := by
  simp only [writeWord, Cells.get_set_other d _ _ b _ h1, Cells.get_set_other d _ _ b _ h0]

/-! ### The register file -/

theorem State.reg_setReg_same (s : State) (p o : Nat) (v : Word) : (s.setReg p o v).reg p o = v := Store.get_set_same _ _ _ _

theorem State.reg_setReg_other (s : State) (p o q r : Nat) (v : Word) (h : p * 256 + o ≠ q * 256 + r) :
    (s.setReg p o v).reg q r = s.reg q r := Store.get_set_other _ _ _ _ _ h

theorem State.reg_setReg (s : State) (p o q r : Nat) (v : Word) :
    (s.setReg p o v).reg q r = if p * 256 + o = q * 256 + r then v else s.reg q r := by
  split
  · rename_i h; simp only [State.reg, State.setReg, h, Store.get_set_same]
  · rename_i h; exact s.reg_setReg_other p o q r v h

/-- Two registers of pages and offsets in their ranges lie at one place only if they are the same. -/
theorem key_inj {p o q r : Nat} (ho : o < 256) (hr : r < 256) (h : p * 256 + o = q * 256 + r) : p = q ∧ o = r := by omega

theorem State.reg_congr {s t : State} (h : t.regs = s.regs) (p o : Nat) : t.reg p o = s.reg p o := by simp only [State.reg, h]

end Sys2Proof.Machine
end

