-- ==== Sys2Proof/Laws/Access.lean ====
section
/-! SUPPORT. What an access does that reaches its unit at once, and the pages' kinds. -/

set_option Elab.async false

namespace Sys2Proof.Machine

open Sys2Proof.Safety

/-! ### The kinds of the pages -/

@[simp] theorem pageKind_axPage (n : Ax) : pageKind (axPage n) = .axis n := by revert n; decide
@[simp] theorem pageKind_brPage (n : Ax) : pageKind (brPage n) = .brg n := by revert n; decide
@[simp] theorem pageKind_cnvPage (i : Fin 3) : pageKind (cnvPage i) = .cnv i := by revert i; decide
@[simp] theorem pageKind_dev : pageKind devPage = .dev := rfl
@[simp] theorem pageKind_evt : pageKind evtPage = .evt := rfl
@[simp] theorem pageKind_time : pageKind timePage = .time := rfl
@[simp] theorem pageKind_mem : pageKind memPage = .mem := rfl
@[simp] theorem pageKind_nvs : pageKind nvsPage = .nvs := rfl
@[simp] theorem pageKind_dma : pageKind dmaPage = .dma := rfl
@[simp] theorem pageKind_tmr : pageKind tmrPage = .tmr := rfl
@[simp] theorem pageKind_wmon : pageKind wmonPage = .wmon := rfl
@[simp] theorem pageKind_assay : pageKind assayPage = .assay := rfl
@[simp] theorem pageKind_tally : pageKind tallyPage = .tally := rfl
@[simp] theorem pageKind_emu : pageKind emuPage = .emu := rfl
@[simp] theorem pageKind_ledg : pageKind ledgPage = .ledg := rfl
@[simp] theorem pageKind_fabric : pageKind fabricPage = .fabric := rfl
@[simp] theorem pageKind_gate : pageKind gatePage = .gate := rfl
@[simp] theorem pageKind_supply : pageKind supplyPage = .supply := rfl
@[simp] theorem pageKind_chand : pageKind chandPage = .chand := rfl
@[simp] theorem pageKind_lchain : pageKind lchainPage = .lchain := rfl
@[simp] theorem pageKind_twin : pageKind twinPage = .twin := rfl
@[simp] theorem pageKind_table : pageKind tablePage = .table := rfl

/-! ### Accesses -/

/-- Without an image there is nothing to run. -/
@[simp] theorem State.imageRun_none (s : State) (h : s.nvs.image = none) : s.imageRun = s := by
  unfold State.imageRun; simp [h]

/-- An access that does not wait is the write, and the image that it starts. -/
theorem State.access_now (s : State) (p o : Nat) (v : Word) (h : PortReady s p)
    (hw : s.mustWait (.write p o v) = false) : s.access p o v = (s.writeReg p o v).imageRun := by
  obtain ⟨h1, -, h3⟩ := h
  simp only [State.access, h1, hw, State.busWrite, h3]
  simp

/-- Only a word for WIN_DATA can have to wait. -/
theorem State.mustWait_false (s : State) (p o : Nat) (v : Word) (h : p ≠ memPage ∨ o ≠ 0x0A) :
    s.mustWait (.write p o v) = false := by
  rcases h with h | h <;> simp [State.mustWait, h]

/-- A register command of a ready page is the write. -/
theorem State.access_ready (s : State) (p o : Nat) (v : Word) (h : PortReady s p) (ho : p ≠ memPage ∨ o ≠ 0x0A) :
    s.access p o v = (s.writeReg p o v).imageRun := s.access_now p o v h (s.mustWait_false p o v ho)

/-- A write but the one to KEY consumes the unlock and goes by its offset, unless the tables are busy. -/
theorem State.writeReg_unit (s : State) (p o : Nat) (v : Word) (ho : o ≠ 0x07) (ht : p ≠ tablePage ∨ s.table.busy = false) :
    s.writeReg p o v = (s.setUnlock p false).offsetWrite p o v (s.unlocked p) := by
  have hb : ¬(p = tablePage ∧ s.table.busy = true) := by rcases ht with h | h <;> simp [h]
  simp only [State.writeReg, hb, ho, if_false]

/-- While the tables are busy every write of their page, to KEY too, is only refused (R237). -/
theorem State.writeReg_busy (s : State) (o : Nat) (v : Word) (h : s.table.busy = true) :
    s.writeReg tablePage o v = s.tblRefuse := by
  simp only [State.writeReg, h, and_self, if_true]

end Sys2Proof.Machine
end

