-- ==== Sys2Proof/Laws/Units.lean ====
section
/-! SUPPORT. What the operations that several commands of a unit share can change, said once, for the proofs that cite them. -/

set_option Elab.async false

namespace Sys2Proof.Machine

/-! ### Twin (R409, R412) -/

/-- A valid frame shows itself in the twin's own fields alone. -/
theorem State.frameHeard_only_twin (s : State) (f : Byte) : s.frameHeard f = { s with twin := (s.frameHeard f).twin } := rfl
@[simp] theorem State.frameHeard_peerSafe (s : State) (f : Byte) : (s.frameHeard f).twin.peerSafe = f.getLsbD 1 := rfl
@[simp] theorem State.frameHeard_lastUs (s : State) (f : Byte) : (s.frameHeard f).twin.lastUs = s.mtUs := rfl

/-- Without a rise of SAFE, or without CROSS_STOP_EN, nothing stops. -/
theorem State.crossStop_calm (s : State) (was safe : Bool) (h : safe = false ∨ was = true ∨ s.regBit twinPage 0x08 1 = false) :
    s.crossStop was safe = s := by
  rcases h with rfl | rfl | h <;> simp_all [State.crossStop]

/-! ### Axes and ledgers (R178, R219, R223) -/

/-- Only a run in CHARACTERISE has its end set anew. -/
theorem State.charEndIn_other (s : State) (n : Ax) (m : Mode) (h : (s.axis n).mode ≠ .characterise) : s.charEndIn n m = s := by
  simp [State.charEndIn, h]

/-- A pause leaves an arrival at a barrier standing, and leaving LEDGER withdraws it. -/
@[simp] theorem Ledger.pause_arrived (l : Ledger) : l.pause.arrived = l.arrived := rfl
@[simp] theorem Ledger.leave_arrived (l : Ledger) : l.leave.arrived = false := rfl

/-! ### Switches and the gate port (R270, R291, R302) -/

/-- A written DEAD reaches fields of the gate port alone, and none of its switches. -/
theorem State.deadFollow_only_gate (s : State) : s.deadFollow = { s with gate := s.deadFollow.gate } := rfl
@[simp] theorem State.deadFollow_sw (s : State) : s.deadFollow.gate.sw = s.gate.sw := rfl

/-- A switch whose request had come through keeps its partner off for the dead time from its off command, one that a clear had marked
too. -/
theorem Sw.withdraw_busy (w : Sw) (t dead d : Nat) (hw : w.due = some d) (hd : protCycle d < protCycle t) (hb : w.drop = false) :
    (w.withdraw t dead).busy = t + dead := by
  simp [Sw.withdraw, Sw.onBefore, hw, hd, hb]

/-- A brake's switches are not marked by a clear. -/
theorem State.swHold_brake (s : State) (p : ProtPage) (m : BitVec 8) (h : s.sourceRuns p = false) : s.swHold p m = s := by
  simp [State.swHold, h]

end Sys2Proof.Machine
end

