-- ==== Sys2Proof/Tests/Slice0.lean ====
section
/-! SUPPORT. Tests: ill-formed commands, single commands against the spec's worked examples, and, for each statement of
Obligations.lean, states and operands that meet its hypotheses. Expected values come from the spec's examples and rules. -/

open Sys2Proof Sys2Proof.Machine Sys2Proof.Safety

set_option Elab.async false

namespace Sys2Proof.Tests

/-! ### Small states -/

/-- The device in RUN with full service and every unit enabled. -/
def rdy : State :=
  { pwr := { pstate := .run, bring := 0 }, clk := { onPll := true, pllLock := true, xoRun := true }
    sup := { vmOk := true, vgpOk := true }, mem := { init := false }, nvs := { loadDone := true }
    pins := { drvEn := true, gateEn := true }, dies := Vector.replicate 5 { hbSeen := true, uvArmed := true }
    live := ~~~0#10, encs := Vector.replicate 4 { freshA := false, freshB := false, freshI := false }, twin := { st := .seeking }
    regs := [(0x0601, 1#16), (0x0701, 1#16), (0x0801, 1#16), (0x0901, 1#16), (0x0A01, 1#16), (0x0B01, 1#16), (0x0C01, 1#16),
      (0x0C10, 0xC1#16), (0x0C20, 0xC2#16), (0x0D01, 1#16), (0x0F01, 1#16), (0x1001, 1#16), (0x1101, 1#16), (0x1201, 1#16),
      (0x3001, 1#16), (0x3201, 1#16), (0x3301, 1#16), (0x3401, 1#16), (0x3408, 1#16)] }

/-- An axis with other fields, on `rdy`. -/
def ax (n : Ax) (f : Axis → Axis) : State := rdy.modAxis n f
/-- A register of `rdy` with another value. -/
def rg (p o : Nat) (v : Word) : State := rdy.setReg p o v
/-- `rdy` with the power fields `f`. -/
def pw (f : Power → Power) : State := rdy.modPwr f
/-- `rdy` in bring-up step `k`. -/
def bs (k : Nat) : State := { pwr := { pstate := .waking, bring := k }, mem := { init := decide (k < 5) } }
/-- `rdy` with every page unlocked. -/
def ul : State := { rdy with unlock := ~~~0#64 }
/-- Channel 2 of DMA with other fields, DMA enabled. -/
def dm (f : DmaCh → DmaCh) : State := (rg dmaPage 1 1#16).modDma 2 f
/-- Bridge 0 with other fields, its axis holding. -/
def br (f : Bridge → Bridge) : State := (ax 0 (fun a => { a with mode := .hold })).modBrg 0 f
/-- The gate port with other fields. -/
def gp (f : Gate → Gate) : State := rdy.modGate f
/-- Converter A with other fields. -/
def cv (f : Cnv → Cnv) : State := rdy.modCnv 0 f
/-- Timer 0 running with COUNT 2 and a COMPARE of 1. -/
def tm : State := (((rg tmrPage (tOff 0 0) 0x80#16).setWide tmrPage (tOff 0 6) 1#32).modTmr 0 (fun t => { t with run := true, count := 2#32 }))
/-- String 0 enabled with eight flash lamps and both currents. -/
def st : State := (((rg chandPage (sOff 0 0) 0x0F#16).setReg chandPage (sOff 0 2) 300#16).setReg chandPage (sOff 0 3) 100#16).setReg chandPage (sOff 0 0x10) 5#16
/-- `rdy` mirroring. -/
def tw (f : Twin → Twin) : State := rdy.modTwin (fun t => f { t with st := .mirroring })
/-- NVS unlocked, with a WRITE of type 6 staged. -/
def nv : State := (ul.setReg nvsPage 8 0x36#16).setReg nvsPage 9 8#16
/-- One ledger record of type `k` at HEAD of axis 0, running. -/
def lg (k : Word) (x : LRun) : State :=
  ((ax 0 (fun a => { a with mode := .ledger })).setReg ledgPage 0x22 8#16).modLedger 0 (fun l =>
    { l with st := .running, tail := 1, loaded := [{ words := k :: List.replicate 15 1#16 }], run := some x })
/-- Axis 0 cruising in VELOCITY a quarter microstep before a full step, with other fields. -/
def cz (f : Axis → Axis) : State :=
  ((ax 0 (fun a => f { a with mode := .velocity, chan := { p := 1023 * Ramp.microstep + 3 * (Ramp.microstep / 4), v := Ramp.velUnits 0x8000 } })).setWide
    (axPage 0) 0x24 0x8000#32).setWide (axPage 0) 0x1C 0x8000#32
/-- A ledger record with word 0 `k`, START `st` and PARAM `p`. -/
def rc (k st p : Word) : LRec := { words := [k, 0#16, st, 0#16, 900#16, 0#16, 0x4000#16, 64#16, 0#16, 64#16, 0#16, 0#16, 0#16, 0#16, p, 0x77#16] }
/-- Axis 0 in LEDGER with the records `l` loaded from HEAD on. -/
def lq (l : List LRec) (x : Option LRun) : State :=
  (((ax 0 (fun a => { a with mode := .ledger, lim := { vmax := 0x8000, amax := 0x400000, dmax := 0x400000 } })).setReg ledgPage 0x22 8#16).setReg ledgPage 1
    1#16).modLedger 0 (fun q => { q with st := if x.isSome then .running else .waiting, tail := l.length, loaded := l, run := x })
/-- An axis in FOLLOW of channel 0 under CFG `k`, whose channel has MODE `m`. -/
def fo (k m : Word) : State :=
  (((ax 0 (fun a => { a with mode := .follow })).setReg (axPage 0) 0x31 k).setReg tallyPage (eOff 0 0) m)

/-- The state after a command. -/
def after (s : State) (c : Instr) : State := match exec c s with
  | .next t => t
  | _ => s

/-! ### Ill-formed commands are refused -/

theorem test_wf_burst_write_empty : (Instr.spiBurstWrite 0#6 0#8 []).wf = false := by decide +kernel
theorem test_wf_burst_write_long : (Instr.spiBurstWrite 0#6 0#8 (List.replicate 65 0#16)).wf = false := by decide +kernel
theorem test_wf_burst_read_long : (Instr.spiBurstRead 0#6 0#8 65 true).wf = false := by decide +kernel
theorem test_wf_good_frame_is_no_rejected_frame :
    (Instr.frameRejected [0x12#8, 0x07#8, 0x7A#8, 0x5C#8, 0xD4#8] 0).wf = false := by decide +kernel
theorem test_wf_bad_crc_is_a_rejected_frame :
    (Instr.frameRejected [0x12#8, 0x07#8, 0x7A#8, 0x5C#8, 0xD5#8] 0).wf = true := by decide +kernel
theorem test_wf_scrub_odd_address : (Instr.scrubVisit [(3, 1#22)]).wf = false := by decide +kernel
theorem test_wf_nvs_defined_op : (Instr.nvsUndefinedOp 4#3).wf = false := by decide +kernel
theorem test_wf_sec_phase : (Instr.secHRead 413).wf = false := by decide +kernel
theorem test_wf_mt_us_phase : (Instr.mtUsHRead false 413).wf = false := by decide +kernel
theorem test_wf_apply_phase : (Instr.timeApply 413).wf = false := by decide +kernel
theorem test_wf_tsync_phase : (Instr.tsyncEdge 20 413 0 false).wf = false := by decide +kernel
theorem test_wf_flash_phase : (Instr.flash 0 0#16 0#16 413).wf = false := by decide +kernel
theorem test_wf_clock_loss_phase : (Instr.clockLoss .xi 413).wf = false := by decide +kernel
theorem test_wf_comparator_phase : (Instr.comparatorCrossing 0 .pa true 0 413).wf = false := by decide +kernel
theorem test_wf_scrub_beyond_the_memories : (Instr.scrubVisit [(0x80000, 1#22)]).wf = false := by decide +kernel
theorem test_wf_mirror_blocks : (Instr.mirrorReceive (some ⟨0#8, 0#32, 0#16, [], none⟩)).wf = false := by decide +kernel
theorem test_wf_mirror_chunk :
    (Instr.mirrorReceive (some ⟨0#8, 0#32, 0#16, List.replicate 10 ⟨0#32, 0#16, 0#16, 0#16, 0#32⟩, some (5, [])⟩)).wf = false := by
  decide +kernel

/-! ### No word of the table spells a command -/

theorem test_decode_none : decodeTableWord 16 0 = none := rfl
theorem test_fetch_word_changes_nothing : State.reset.withFetchWord 16 0x1234 = State.reset := rfl

/-! ### Host port -/

/-- The KEY frame of chapter 3's example ends in 0xD4. -/
theorem test_crc_of_the_key_frame : crc8 [0x12#8, 0x07#8, 0x7A#8, 0x5C#8] = 0xD4#8 := by decide +kernel
/-- The same frame spells a single write of 0x7A5C to KEY of AXIS2. -/
theorem test_key_frame_is_read :
    decodeFrame [0x12#8, 0x07#8, 0x7A#8, 0x5C#8, 0xD4#8] 0 = some (.spiSingleWrite 0x12#6 0x07#8 0x7A5C#16) := by decide +kernel
/-- The same frame: AXIS2 is unlocked, the next frame echoes 0x07 and 0x7A5C. -/
theorem test_key_frame_unlocks :
    let t := after rdy (.spiSingleWrite 0x12#6 0x07#8 0x7A5C#16)
    (t.unlocked 0x12, t.spi.echo, t.spi.data) = (true, 0x07#8, 0x7A5C#16) := by decide +kernel
/-- R4, R76: BRG6 is absent on an LN4606. -/
theorem test_absent_page_is_counted :
    ((after { rdy with part := .ln4606 } (.absentPageWrite 0x26#6 8#8 1#16)).reg devPage 0x17) = 1#16 := by decide +kernel
/-- R74: a group read is the OR of the members' events. -/
theorem test_group_read_is_an_or :
    (after ((rg (axPage 0) 3 0x0100#16).setReg (axPage 5) 3 0x0002#16) (.groupPageRead 0x1F#6 3#8)).spi.data = 0x0102#16 := by
  decide +kernel
/-- R61: a burst wraps modulo 256 within its page. -/
theorem test_burst_read_wraps :
    (after (rg (axPage 0) 0xFF 0#16) (.spiBurstRead 0x10#6 0xFF#8 2 true)).rdata = (rdy.peek false 0x10 0) := by decide +kernel
/-- R67: the page is not ready until the reset completes. -/
theorem test_unit_reset_holds_the_page :
    ((after rdy (.unitReset 0x0F#6)).target 0x0F, (after (after rdy (.unitReset 0x0F#6)) (.unitResetComplete 0x0F#6)).target 0x0F)
      = (.notReady, .unit) := by decide +kernel

/-! ### Power, supplies, SAFE -/

/-- R88: DOZE is entered from RUN with nothing moving. -/
theorem test_doze_is_entered : (after (after rdy .pstateReqDoze) .dozeEntryComplete).pwr.pstate = .doze := by decide +kernel
/-- R102: a software cause with its SAFE_EN bit enters SAFE. -/
theorem test_safe_is_entered : (after rdy .enterSafe).pwr.pstate = .safe := by decide +kernel
/-- A reset starts bring-up at step 1. -/
theorem test_reset_pin : (after rdy (.rstNReset 1000000)).pwr.bring = 1 := by decide +kernel

/-! ### Fabric and memory -/

/-- Chapter 5's example: AXIS3's MARK, producer 0x21, pulses line 5. -/
theorem test_mark_pulses_line_5 : ((rg fabricPage 0x0D 0x21#16).produce 0x21).fab.due = [0x20#16] := by decide +kernel
/-- R138: one flipped bit is corrected, on data and on check bits alike. -/
theorem test_one_flip_is_corrected : popcount22 (errMask [(6, 0x100000#22)] 6) = 1 := by decide +kernel
/-- Chapter 6's example: COMMIT of SEQ 0x12 is 0xA5C35A2E, the last two of 20 words. -/
theorem test_commit_of_the_example :
    let r := recordWords 4 2 0x12#32 0#16 0#32 [1#16, 2150#16, 3100#16, 2200#16, 0#16, 0#16, 0#16, 512#16]
    (r.length, r.drop 18) = (20, [0xA5C3#16, 0x5A2E#16]) := by decide +kernel
/-- R142: two words through the window land at successive addresses. -/
theorem test_window_write_lands :
    readWords sramDefault (after (after (after (after (after rdy (.winAddrWrite 0x20#32)) (.winDataWrite 0x1234#16))
      (.winDataWrite 0x5678#16)) .winBufferDrain) .winBufferDrain).mem.sram 0x20 2 = [0x1234#16, 0x5678#16] := by decide +kernel

/-! ### Machine time -/

/-- Chapter 7's example, step 1: a pulse 3 ms early in the master's time gives ERR 0xFFD23940 and a hold. -/
theorem test_backward_error_holds :
    let t := after ((rg timePage 0x18 1#16).modTime (fun t => { t with cur := 100003000000 * nsUnit, armed := some 100000000000 }))
      (.tsyncEdge 100 0 0 false)
    (t.time.due, t.time.undisc) = (.hold (3000000 * nsUnit), true) := by decide +kernel
/-- R162: a read of SEC_H snapshots the second and the nanoseconds. -/
theorem test_sec_read_snapshots :
    (after (rdy.modTime (fun t => { t with cur := 7123456785 * nsUnit + 1 })) (.secHRead 0)).time.snap = ⟨7#32, 123456785#32, 7123456#32⟩ := by
  decide +kernel

/-! ### Axes -/

/-- R177: a request for HOLD is granted on the next tick. -/
theorem test_hold_is_granted : ((after (after rdy (.modeCmd 0 1#16)) (.rampTick true)).axis 0).mode = .hold := by decide +kernel
/-- R184: SET_POS loads POSITION on the tick. -/
theorem test_set_pos :
    ((after (after ((ax 0 (fun a => { a with mode := .hold })).setWide (axPage 0) 0x12 0xFFFFFF00#32) (.setPos 0)) (.rampTick true)).position 0)
      = -256 := by decide +kernel
/-- R192: a slew without jerk limit gains AMAX every tick. -/
theorem test_velocity_slew_first_tick : (Ramp.slewTick {} (Ramp.velUnits 65536) 0x20C49C 0x20C49C 0).1.v = Ramp.accUnits 0x20C49C := by
  decide +kernel
/-- R183: a VCMD beyond the largest velocity is clamped. -/
theorem test_stop_of_a_resting_axis : ((after (ax 0 (fun a => { a with mode := .velocity })) (.axisStop 0)).axis 0).chan.v = 0 := by
  decide +kernel
/-- R256's example: EMF_A 3811 and EMF_B 2200 give the amplitude 4400 and the angle 30 degrees, 341 of 4096. -/
theorem test_load_angle_of_the_example :
    ((((ax 4 (fun a => { a with chan := { v := 0x20C4A * 4294967296 } })).setReg (brPage 4) 0x1B 3811#16).setReg (brPage 4) 0x1C 2200#16).setReg
      (axPage 4) 0x48 2200#16).loadAngle 4 = (341, 4400, 4400) := by decide +kernel

/-! ### Ledgers and tables -/

/-- R205: a tail beyond the queue's length is refused and changes nothing. -/
theorem test_tail_beyond_the_queue :
    ((after (rg ledgPage 0x22 8#16) (.tailWrite 0 8#16)).ledger 0).tail = 0 := by decide +kernel
/-- R236: a word written to TABLE_DATA advances INDEX. -/
theorem test_table_data_advances : ((after (rg tablePage 8 2#16) (.tableDataWrite 0x8001#16)).reg tablePage 9) = 1#16 := by decide +kernel

/-! ### Chopper -/

/-- Chapter 10's example: SET 585 with HYST 32 gives the thresholds 601 and 569. -/
theorem test_thresholds_of_the_example : (threshold 585 32 true, threshold 585 32 false) = (601, 569) := by decide +kernel

/-! ### Protection -/

/-- Chapter 12's example: the B-P high side of AXIS6 shorts: SC_LATCH 0x0010, LAST_FAULT 0x0040, SWITCH_FAULT. -/
theorem test_cable_short :
    let t := after ((rdy.modAxis 6 (fun a => { a with mode := .hold })).modBrg 6 (fun b => { b with phB := { b.phB with on := true } })) (.scDetect 6 4 .didt)
    ((t.brg 6).prot.sc, t.reg 0x26 0x57, (t.reg 0x26 3).getLsbD 8) = (0x10#8, 0x0040#16, true) := by decide +kernel
/-- R282: DRV_EN low holds every switch off. -/
theorem test_drv_en_low : (after (br id) (.drvEnFall 100)).brgSwitchOn 0 0 = false := by decide +kernel

/-! ### Gate port -/

/-- Chapter 13's example: a hall interval of 83333 units is HALL_PERIOD after six of it. -/
theorem test_hall_period_of_the_example :
    (after ((gp (fun g => { g with lastStep := some 0, hall := 1#3, edge := some 100, span := true, ivals := List.replicate 5 83333, comm := #v[0#16, 0#16, 0#16, 0x100#16, 0#16, 0#16, 0#16, 0#16] })).setReg gatePage 0x0A 0x10#16)
      (.hallCodeChange 3#3 83433)).gate.period = 83333 := by decide +kernel
/-- R302: a DEAD of 400 units written in the off time leaves on the low side that turned on after 40. -/
theorem test_dead_waits_for_its_edge :
    let t := (((gp (fun g => { g with st := .run, phases := #v[1, 0, 0], duty := 2048, now := 5100 })).setReg gatePage 0x0A 1#16).setReg gatePage 0x0B
      20#16).gateWrite 0x0C 400#16 true
    (t.reg gatePage 0x0C, t.pwmLow) = (400#16, true) := by decide +kernel
/-- R302, SYNC = 1: at 20 kHz (10000 units of 5 ns) half the period with a DEAD of 100 units leaves both switches off from 5000 to 5100
and from 9900 on. -/
theorem test_sync_gaps :
    let at_ := fun (x : Nat) => ((((gp (fun g => { g with duty := 2048, now := x, dead := ⟨100, 100, 100⟩ })).setReg gatePage 0x0A 1#16).setReg gatePage 0x0B 20#16).setReg
      gatePage 0x0C 100#16)
    [0, 4999, 5000, 5099, 5100, 9899, 9900].map (fun x => ((at_ x).pwmHigh, (at_ x).pwmLow))
      = [(true, false), (true, false), (false, false), (false, false), (false, true), (false, true), (false, false)] := by decide +kernel
theorem test_start_precharges :
    (after (gp (fun g => { g with tableValid := true, hall := 3#3 })) .start).gate.st = .precharge := by decide +kernel

/-! ### Tallyman and emulation -/

/-- R312: 00 to 10 rises. -/
theorem test_quadrature_rises : ((after rdy (.quadratureChange 0 true false 4096)).enc 0).count = 1#32 := by decide +kernel
/-- R311, R318: after a fall of EnI that the filter rejected the rise is no accepted rising edge. -/
theorem test_index_after_a_rejected_fall :
    ((after (after (rdy.modEnc 0 (fun x => { x with i := true, pinI := true })) (.encoderIndex 0 false 0)) (.encoderIndex 0 true 4096)).enc 0).idxSeen
      = false := by decide +kernel
/-- R313: both levels in one sample count nothing and are reported. -/
theorem test_double_transition :
    let t := after rdy (.quadratureChange 0 true true 4096)
    ((t.enc 0).count, t.reg tallyPage 0x1D, t.regBit tallyPage 0x1C 0) = (0#32, 1#16, true) := by decide +kernel
/-- Chapter 14's example, step 2: CMP steps by 20000 from 1250000 and REMAIN falls from 4. -/
theorem test_fly_by_trigger_steps :
    let s := (((rg tallyPage 0x50 0x31#16).setWide tallyPage 0x51 0x1312D0#32).setWide tallyPage 0x53 0x4E20#32).modTrig 0
      (fun t => { t with armed := true, remain := 4, prev := 0x1312CF#32 })
    let t := after ((s.modEnc 1 (fun e => { e with count := 0x1312CF#32 })).setReg tallyPage 0x20 0xC1#16) (.quadratureChange 1 true false 4096)
    (t.wide tallyPage 0x51, (t.trig 0).remain, (t.trig 0).fires) = (0x1360F0#32, 3, 1) := by decide +kernel
/-- R325: the state of OUT_CNT 2 shows A and B high. -/
theorem test_emulation_levels :
    ((rg emuPage 0x10 0xA0#16).modEmu 0 (fun e => { e with out := 6#32, live := true })).emuPins 0 = some (true, true, false) := by decide +kernel

/-! ### Timers -/

/-- Chapter 15's example, step 2: the tick takes 750, matches, and COMPARE becomes 500. -/
theorem test_timer_match_steps :
    let s := (((rg tmrPage 0x30 0x8A#16).setWide tmrPage 0x34 999#32).setWide tmrPage 0x36 750#32).setWide tmrPage 0x38 250#32
    let t := after (s.modTmr 2 (fun t => { t with run := true, count := 751#32, active := 999#32 })) (.timerCountTick 2 false)
    ((t.timer 2).count, t.wide tmrPage 0x36, t.reg tmrPage 0x3E) = (750#32, 500#32, 1#16) := by decide +kernel
/-- The same, step 5: at 0 it matches and zeroes, and COMPARE 0 becomes 750. -/
theorem test_timer_compare_wraps :
    let s := (((rg tmrPage 0x30 0x8A#16).setWide tmrPage 0x34 999#32).setWide tmrPage 0x36 0#32).setWide tmrPage 0x38 250#32
    let t := after (s.modTmr 2 (fun t => { t with run := true, count := 1#32, active := 999#32 })) (.timerCountTick 2 false)
    (t.wide tmrPage 0x36, t.reg tmrPage 0x3E) = (750#32, 3#16) := by decide +kernel
/-- The same, step 6: the tick after 0 reloads. -/
theorem test_timer_reloads :
    let t := after ((rdy.setWide tmrPage 0x34 999#32).modTmr 2 (fun t => { t with run := true })) (.timerCountTick 2 false)
    ((t.timer 2).count, (t.timer 2).active) = (999#32, 999#32) := by decide +kernel

/-! ### Converters and monitors -/

/-- Chapter 16's example: an urgent entry aborts entry 2, and the sequence stays at it. -/
theorem test_inject_aborts_the_entry :
    let t := after ((cv (fun c => { c with work := .seq, seq := true, cur := 2, powered := true, stage := .conv })).setReg 8 0x0B 0x000D#16) (.inject .cnva)
    ((t.cnv 0).work, (t.cnv 0).cur, (t.reg 8 3).getLsbD 8) = (.inj, 2, true) := by decide +kernel
/-- R362: a CNVC reading of VM/20 at half scale is 30 V. -/
theorem test_vm_is_published : (rdy.publishVm 2 0x0D 0x800000).reg 0x0A 0x15 = 3000#16 := by decide +kernel
/-- R370: with CONFIRM 0 one comparison outside is enough. -/
theorem test_monitor_leaves_its_window :
    ((after (((rg wmonPage 8 0xFF#16).setReg wmonPage 0x10 100#16).setReg wmonPage 0x11 500#16) (.wmonCompare 0 (.value 30600))).wmon 0).out = true := by
  decide +kernel

/-! ### Chandler and the lamp chain -/

/-- R380: the ends of the gamma curve, and 4095 (1/2)^2.2 = 891.2 at half level. -/
theorem test_gamma : (gammaOf 0, gammaOf 2048, gammaOf 4095) = (0, 892, 4095) := by decide +kernel
/-- R389: a slope of 10 for each degree, 20 degrees above the knee, leaves 800 of 1000. -/
theorem test_derating : (factorAt 80 80 10 120, factorAt 100 80 10 120, factorAt 120 80 10 120) = (1024, 819, 0) := by decide +kernel
theorem test_flash_lights_its_lamps : ((after st (.flash 0)).lamp 0 0).lit = true := by decide +kernel
/-- R379, the chapter's example: a flash that begins at 0.080 us with FLASH_LEN 4840 holds the string off until 968.080 us. -/
theorem test_hold_off_of_the_example :
    ((((st.modStr 0 (fun g => { g with inFlash := true, flashCode := 300 })).modChand (fun c => { c with began := 80 * nsUnit })).flashEnd 4840).str 0).holdoff
      = 968080 * nsUnit := by decide +kernel
/-- R399: a RESUME while LC_THERM is low is refused. -/
theorem test_resume_is_refused :
    (after (rdy.modPins (fun p => { p with lcTherm := false })) .resume).regBit lchainPage 3 2 = true := by decide +kernel

/-! ### Twin -/

/-- Chapter 18's example: the classes of HOLD, LEDGER moving and PARKED with short-brake. -/
theorem test_orphan_classes : (classOf 0x0031#16, classOf 0x003A#16, classOf 0x0030#16) = (1, 2, 1) := by decide +kernel
/-- R406: a HELLO that echoes the own serial pairs; the lower serial is ELDER. -/
theorem test_hello_pairs :
    let s := { rdy with serial := 0x41A20#32 }
    let t := after s (.helloReceive ⟨0x41A3C#32, 0x4710#16, s.twinHash, 0x41A20#32, 0#8⟩)
    let t := after t .helloSend
    (t.twin.st, t.twin.elder) = (.mirroring, true) := by decide +kernel

/-! ### The hypotheses of the statements can be met -/

theorem test_meets_step_runs_front_command :
    (∃ (s : State) (c : Instr) (rest : List Instr), s.pending = c :: rest) ∧ (∃ s : State, s.pending = []) :=
  ⟨⟨{ rdy with pending := [.start] }, .start, [], rfl⟩, ⟨rdy, rfl⟩⟩

theorem test_meets_step_keeps_memories_canonical : ∃ s t : State, memoriesOk s = true ∧ step s = .next t :=
  ⟨rdy, rdy, by decide +kernel, rfl⟩

/-- States and operands that meet the hypotheses of ReadsCarryTheirWords, clause by clause. -/
theorem test_meets_reads_carry_their_words :
    (fun (s : State) (page : PageNo) => s.portLive = true ∧ PortReady s page.toNat) rdy 0x17#6 ∧
    (fun (s : State) (page : PageNo) => s.portLive = true ∧ PortReady s page.toNat) rdy 0x17#6 ∧
    (fun (s : State) (page : PageNo) => s.portLive = true ∧ PortReady s page.toNat) rdy 0x17#6 ∧
    (fun (s : State) (page : PageNo) (n : Nat) => s.portLive = true ∧ PortReady s page.toNat ∧ page.toNat ≠ memPage ∧ page.toNat ≠ timePage ∧ page.toNat ≠ tmrPage ∧ page.toNat ≠ tablePage ∧ 1 ≤ n ∧ n ≤ 64) rdy 0x17#6 2 := by
  dsimp only [PortReady]; decide +kernel

/-- States and operands that meet the hypotheses of EventRegistersTakeWrites, clause by clause. -/
theorem test_meets_event_registers_take_writes :
    (fun (s : State) (page : PageNo) => PortReady s page.toNat ∧ (page.toNat ≠ tablePage ∨ s.table.busy = false)) rdy 0x17#6 ∧
    (fun (s : State) (page : PageNo) => PortReady s page.toNat ∧ (page.toNat ≠ tablePage ∨ s.table.busy = false)) rdy 0x17#6 ∧
    (fun (s : State) (page : PageNo) => PortReady s page.toNat ∧ (page.toNat ≠ tablePage ∨ s.table.busy = false)) rdy 0x17#6 ∧
    (fun (s : State) (page : PageNo) => s.portLive = true ∧ PortReady s page.toNat ∧ (page.toNat ≠ tablePage ∨ s.table.busy = false)) rdy 0x17#6 ∧
    (fun (s : State) (page : PageNo) => s.portLive = true ∧ PortReady s page.toNat ∧ (page.toNat ≠ tablePage ∨ s.table.busy = false)) rdy 0x17#6 ∧
    (fun (s : State) (page : PageNo) (ws : List Word) => s.portLive = true ∧ PortReady s page.toNat ∧ (page.toNat ≠ tablePage ∨ s.table.busy = false) ∧ page.toNat ≠ devPage ∧ page.toNat ≠ memPage ∧ ws ≠ [] ∧ ws.length ≤ 64) rdy 0x17#6 [0x258#16, 0xb91#16] ∧
    (fun (s : State) => PortReady s evtPage) rdy ∧
    (fun (s : State) => s.pwr.testHold = false ∧ s.pwr.fromReset = false) (pw (fun p => { p with fromReset := false })) := by
  dsimp only [PortReady]; decide +kernel

/-- States and operands that meet the hypotheses of RejectedFrameOnlyReports, clause by clause. -/
theorem test_meets_rejected_frame_only_reports :
    (fun (s : State) => s.portLive = true) ({} : State) := by
  dsimp only; decide +kernel

/-- States and operands that meet the hypotheses of KeysAndUnitResetsReachOnePage, clause by clause. -/
theorem test_meets_keys_and_unit_resets_reach_one_page :
    (fun (s : State) (page : PageNo) => PortReady s page.toNat ∧ (page.toNat ≠ tablePage ∨ s.table.busy = false)) rdy 0x17#6 ∧
    (fun (s : State) (page : PageNo) => PortReady s page.toNat ∧ (page.toNat = fabricPage ∨ page.toNat = dmaPage ∨ page.toNat = lchainPage ∨ page.toNat = wmonPage)) rdy 0x7#6 := by
  dsimp only [PortReady]; decide +kernel

/-- States and operands that meet the hypotheses of GroupAndAbsentPages, clause by clause. -/
theorem test_meets_group_and_absent_pages_a :
    (fun (s : State) (off : Offset) => s.portLive = true ∧ s.spi.waiting = [] ∧ s.nvs.image = none ∧ s.served 0x1C = true ∧ off ≠ 0x00#8 ∧ off ≠ 0x02#8) rdy 0x5c#8 ∧
    (fun (s : State) (br : Bool) (k : Fin 4) (n : Ax) => s.portLive = true ∧ s.spi.waiting = [] ∧ s.nvs.image = none ∧ s.served 0x1C = true ∧ (if br then brPage n else axPage n) ∈ s.members [1, 2, 4, 8][k.val]! (if br then brPage else axPage) ∧ s.unitBusy (if br then brPage n else axPage n) = false) rdy false 3 7 ∧
    (fun (s : State) (br : Bool) (k : Fin 4) (n : Ax) => s.portLive = true ∧ s.spi.waiting = [] ∧ s.nvs.image = none ∧ s.served 0x1C = true ∧ (if br then brPage n else axPage n) ∈ s.members [1, 2, 4, 8][k.val]! (if br then brPage else axPage) ∧ s.unitBusy (if br then brPage n else axPage n) = false) rdy false 3 7 ∧
    (fun (s : State) (k : Fin 4) (n : Ax) => s.portLive = true ∧ s.spi.waiting = [] ∧ s.nvs.image = none ∧ s.served 0x1C = true ∧ axPage n ∈ s.members [1, 2, 4, 8][k.val]! axPage ∧ s.unitBusy (axPage n) = false) rdy 3 1 := by
  dsimp only; decide +kernel

/-- States and operands that meet the hypotheses of GroupAndAbsentPages, clause by clause. -/
theorem test_meets_group_and_absent_pages_b :
    (fun (s : State) (k : Fin 4) (n : Ax) => s.portLive = true ∧ s.spi.waiting = [] ∧ s.nvs.image = none ∧ s.served 0x1C = true ∧ brPage n ∈ s.members [1, 2, 4, 8][k.val]! brPage ∧ s.unitBusy (brPage n) = false) rdy 3 1 ∧
    (fun (s : State) (br : Bool) (k : Fin 4) (n : Ax) => s.portLive = true ∧ s.spi.waiting = [] ∧ s.nvs.image = none ∧ s.served 0x1C = true ∧ (if br then brPage n else axPage n) ∉ s.members [1, 2, 4, 8][k.val]! (if br then brPage else axPage)) rdy false 1 0 ∧
    (fun (s : State) (k : Fin 4) (n : Ax) => s.portLive = true ∧ s.spi.waiting = [] ∧ s.nvs.image = none ∧ s.served 0x1C = true ∧ axPage n ∈ s.members [1, 2, 4, 8][k.val]! axPage ∧ s.unitBusy (axPage n) = false) rdy 3 1 ∧
    (fun (s : State) => s.portLive = true ∧ s.spi.waiting = [] ∧ s.nvs.image = none ∧ s.served 0x1C = true) rdy := by
  dsimp only; decide +kernel

/-- States and operands that meet the hypotheses of GroupAndAbsentPages, clause by clause. -/
theorem test_meets_group_and_absent_pages_c :
    (fun (s : State) (n : Nat) => s.portLive = true ∧ s.spi.waiting = [] ∧ s.nvs.image = none ∧ s.served 0x1C = true ∧ 1 ≤ n ∧ n ≤ 64) rdy 63 ∧
    (fun (s : State) (page : PageNo) => s.portLive = true ∧ s.spi.waiting = [] ∧ s.nvs.image = none ∧ s.target page.toNat = .absent ∧ page.toNat ≠ memPage) rdy 0x38#6 := by
  dsimp only; decide +kernel

/-- States and operands that meet the hypotheses of PowerStatesAndClocksAreJudged, clause by clause. -/
theorem test_meets_power_states_and_clocks_are_judged_a :
    (fun (s : State) => PortReady s devPage ∧ s.pwr.pstate = .run ∧ s.pwr.change = .none ∧ s.pwr.relock = none ∧ s.pwr.testHold = false) rdy ∧
    (fun (s : State) => PortReady s devPage ∧ s.pwr.pstate = .run ∧ s.pwr.change = .none ∧ s.pwr.relock = none ∧ s.pwr.testHold = false) rdy ∧
    (fun (s : State) => PortReady s devPage ∧ s.pwr.pstate = .standby ∧ s.pwr.bring = 0 ∧ s.pwr.change = .none ∧ s.pwr.relock = none ∧ s.pwr.testHold = false) { rdy with pwr := { pstate := .standby, bring := 0 } } ∧
    (fun (s : State) => PortReady s devPage ∧ s.pwr.pstate = .doze ∧ s.pwr.change = .none ∧ s.pwr.relock = none ∧ s.pwr.testHold = false ∧ s.clk.pllFail = false) { rdy with pwr := { pstate := .doze, bring := 0 } } := by
  dsimp only [PortReady]; decide +kernel

/-- States and operands that meet the hypotheses of PowerStatesAndClocksAreJudged, clause by clause. -/
theorem test_meets_power_states_and_clocks_are_judged_b :
    (fun (s : State) => PortReady s devPage ∧ s.pwr.pstate = .doze ∧ s.pwr.change = .none ∧ s.pwr.relock = none ∧ s.pwr.testHold = false ∧ s.clk.pllFail = true) { (pw (fun p => { p with pstate := .doze })) with clk := { xoRun := true, pllFail := true } } ∧
    (fun (s : State) => PortReady s devPage ∧ s.pwr.pstate = .safe ∧ s.pwr.testHold = false) { rdy with pwr := { pstate := .safe, bring := 0 } } ∧
    (fun (s : State) => s.clk.xs = .starting) ({} : State) ∧
    (fun (s : State) => s.clk.xs = .starting) ({} : State) := by
  dsimp only [PortReady]; decide +kernel

/-- States and operands that meet the hypotheses of PowerStatesAndClocksAreJudged, clause by clause. -/
theorem test_meets_power_states_and_clocks_are_judged_c :
    (fun (s : State) (v : Word) => PortReady s devPage ∧ s.unlocked devPage = true ∧ s.regBit devPage 0x0D 1 = false ∧ v.getLsbD 1 = true) (rdy.setUnlock 0 true) 0x7fff#16 ∧
    (fun (s : State) (v : Word) => PortReady s devPage ∧ s.unlocked devPage = true ∧ s.regBit devPage 0x0D 1 = true ∧ v.getLsbD 1 = false) (ul.setReg devPage 0x0D 2#16) 0x2d04#16 ∧
    (fun (s : State) => PortReady s devPage ∧ s.unlocked devPage = false) ({} : State) ∧
    (fun (s : State) => s.effState = .run ∧ s.clk.xoRun = true ∧ s.clk.xoFail = false ∧ s.clk.pllFail = false) rdy := by
  dsimp only [PortReady]; decide +kernel

/-- States and operands that meet the hypotheses of PowerStatesAndClocksAreJudged, clause by clause. -/
theorem test_meets_power_states_and_clocks_are_judged_d :
    (fun (s : State) => s.effState = .run ∧ s.clk.xoRun = true ∧ s.clk.xoFail = false ∧ s.clk.pllFail = true) (rdy.modClk (fun c => { c with pllFail := true })) ∧
    (fun (s : State) => s.effState = .run ∧ s.clk.onPll = true) rdy ∧
    (fun (s : State) (xi : Bool) => s.pwr.relock = some xi ∧ s.pwr.held = none) (pw (fun p => { p with relock := some true })) true ∧
    (fun (s : State) (xi : Bool) => s.pwr.relock = some xi ∧ s.pwr.held = none) (pw (fun p => { p with relock := some true })) true := by
  dsimp only; decide +kernel

/-- States and operands that meet the hypotheses of DozeAndStandbyAreReached, clause by clause. -/
theorem test_meets_doze_and_standby_are_reached :
    (fun (s : State) => s.pwr.change = .dozeEntry ∧ s.canDoze = true ∧ s.pwr.held = none) (pw (fun p => { p with change := .dozeEntry })) ∧
    (fun (s : State) => s.pwr.change = .dozeEntry ∧ s.canDoze = false ∧ s.pwr.held = none) ((pw (fun p => { p with change := .dozeEntry })).modAxis 0 (fun a => { a with mode := .velocity, chan := { v := 1000000 } })) ∧
    (fun (s : State) => s.pwr.change = .dozeExit ∧ s.pwr.held = none) (pw (fun p => { p with pstate := .doze, change := .dozeExit })) ∧
    (fun (s : State) => s.pwr.change = .dozeExit ∧ s.pwr.held = none) (pw (fun p => { p with pstate := .doze, change := .dozeExit })) ∧
    (fun (s : State) => s.pwr.change = .standbyEntry ∧ s.canStandby = true ∧ s.pwr.held = none ∧ s.pwr.heldWake = 0#16) (pw (fun p => { p with change := .standbyEntry })) ∧
    (fun (s : State) => s.pwr.change = .standbyEntry ∧ s.canStandby = false ∧ s.pwr.held = none) ((pw (fun p => { p with change := .standbyEntry })).modAxis 0 (fun a => { a with mode := .hold })) ∧
    (fun (s : State) => s.pwr.change = .none) ({} : State) := by
  dsimp only; decide +kernel

/-- States and operands that meet the hypotheses of WakesStartBringUpWhichStepsInOrder, clause by clause. -/
theorem test_meets_wakes_start_bring_up_which_steps_in_order_a :
    (fun (s : State) => s.pwr.bring = 1 ∧ s.pwr.retryWait = false ∧ s.pwr.testHold = false) ({} : State) ∧
    (fun (s : State) => s.pwr.bring = 2 ∧ s.pwr.testHold = false ∧ (s.reg devPage 0x19 ||| s.activeCauses) &&& s.reg devPage 0x1A = 0#16) (bs 2) ∧
    (fun (s : State) => s.pwr.bring = 2 ∧ s.pwr.testHold = false ∧ s.reg devPage 0x19 &&& s.reg devPage 0x1A ≠ 0#16) (((bs 2).setReg devPage 0x19 0x20#16).setReg devPage 0x1A 0x3F#16) ∧
    (fun (s : State) => s.pwr.bring = 3) (bs 3) := by
  dsimp only; decide +kernel

/-- States and operands that meet the hypotheses of WakesStartBringUpWhichStepsInOrder, clause by clause. -/
theorem test_meets_wakes_start_bring_up_which_steps_in_order_b :
    (fun (s : State) => s.pwr.bring = 4) (bs 4) ∧
    (fun (s : State) => s.pwr.bring = 5 ∧ s.pwr.held = none ∧ s.nvsIdle = false ∧ s.nvs.image = none) ((bs 5).modNvs (fun n => { n with job := .invalidate [0x100000] })) ∧
    (fun (s : State) => s.pwr.bring = 5 ∧ s.pwr.held = none ∧ s.nvsIdle = true ∧ (s.currentRec 1 0).1.all (fun r => !r.flags.getLsbD 0) = true) (bs 5) ∧
    (fun (s : State) => (s.pwr.bring = 1 ∨ s.pwr.bring = 2) ∧ s.pwr.testHold = false ∧ s.pwr.retryWait = false ∧ s.pwr.attempts < 4 ∧ s.nvs.image = none) ({} : State) := by
  dsimp only; decide +kernel

/-- States and operands that meet the hypotheses of WakesStartBringUpWhichStepsInOrder, clause by clause. -/
theorem test_meets_wakes_start_bring_up_which_steps_in_order_c :
    (fun (s : State) => (s.pwr.bring = 1 ∨ s.pwr.bring = 2) ∧ s.pwr.testHold = false ∧ s.pwr.retryWait = false ∧ 4 ≤ s.pwr.attempts ∧ s.nvs.image = none) ((bs 1).modPwr (fun p => { p with attempts := 4 })) ∧
    (fun (s : State) => s.pwr.bring = 3 ∧ s.pwr.testHold = false ∧ s.pwr.retryWait = false ∧ s.nvs.image = none) (bs 3) ∧
    (fun (s : State) => s.pwr.bring = 4 ∧ s.pwr.testHold = false ∧ s.pwr.retryWait = false ∧ s.pwr.pstate = .waking ∧ s.pwr.held = none ∧ s.nvsIdle = false ∧ s.nvs.image = none) ((bs 4).modNvs (fun n => { n with job := .invalidate [0x100000] })) ∧
    (fun (s : State) => s.pwr.bring = 4 ∧ s.pwr.testHold = false ∧ s.pwr.retryWait = false ∧ s.pwr.pstate = .waking ∧ s.pwr.held = none ∧ s.nvsIdle = true ∧ (s.currentRec 1 0).1.all (fun r => !r.flags.getLsbD 0) = true) (bs 4) := by
  dsimp only; decide +kernel

/-- States and operands that meet the hypotheses of WakesStartBringUpWhichStepsInOrder, clause by clause. -/
theorem test_meets_wakes_start_bring_up_which_steps_in_order_d :
    (fun (s : State) => s.pwr.bring = 1 ∧ s.pwr.retryWait = true) ((bs 1).modPwr (fun p => { p with retryWait := true })) ∧
    (fun (s : State) (w : WakeSrc) => s.pwr.pstate = .standby ∧ s.pwr.bring = 0 ∧ s.pwr.testHold = false ∧ s.wakeReaches w = true ∧ s.regBit devPage 0x0E w.bit = true) { rdy with pwr := { pstate := .standby, bring := 0 } } WakeSrc.cs ∧
    (fun (s : State) (w : WakeSrc) => s.regBit devPage 0x0E w.bit = false) ({} : State) WakeSrc.jagor ∧
    (fun (s : State) (w : WakeSrc) => s.pwr.pstate = .run ∧ s.pwr.change = .standbyEntry ∧ s.pwr.testHold = false ∧ s.wakeReaches w = true ∧ s.regBit devPage 0x0E w.bit = true) (pw (fun p => { p with change := .standbyEntry })) WakeSrc.cs := by
  dsimp only; decide +kernel

/-- States and operands that meet the hypotheses of WakesStartBringUpWhichStepsInOrder, clause by clause. -/
theorem test_meets_wakes_start_bring_up_which_steps_in_order_e :
    (fun (s : State) (ticks : Nat) => ticks < (s.wide devPage 0x11).toNat) ((({ rdy with pwr := { pstate := .standby, bring := 0 } } : State).setWide devPage 0x11 5#32).setReg devPage 0x0E 0x3F#16) 0 ∧
    (fun (s : State) (ticks : Nat) => (s.wide devPage 0x11).toNat ≤ ticks ∧ s.wide devPage 0x11 ≠ 0#32 ∧ s.pwr.pstate = .standby ∧ s.pwr.bring = 0 ∧ s.pwr.testHold = false ∧ s.regBit devPage 0x0E 5 = true) ((({ rdy with pwr := { pstate := .standby, bring := 0 } } : State).setWide devPage 0x11 5#32).setReg devPage 0x0E 0x3F#16) 4289 := by
  dsimp only; decide +kernel

/-- States and operands that meet the hypotheses of SafeIsEnteredAndReleased, clause by clause. -/
theorem test_meets_safe_is_entered_and_released :
    (fun (s : State) (c : SafeCause) => (s.pwr.pstate = .run ∨ s.pwr.pstate = .doze ∨ s.pwr.pstate = .waking) ∧ s.pwr.testHold = false ∧ s.regBit devPage 0x1A c.bit = true ∧ (s.safeActive c = true ∨ c = .software ∨ c = .ctrlThermal)) rdy SafeCause.ctrlThermal ∧
    (fun (s : State) (c : SafeCause) => s.pwr.pstate = .standby ∧ s.pwr.testHold = false ∧ s.regBit devPage 0x1A c.bit = true ∧ (s.safeActive c = true ∨ c = .software ∨ c = .ctrlThermal)) ({} : State) SafeCause.ctrlThermal ∧
    (fun (s : State) (c : SafeCause) => s.regBit devPage 0x1A c.bit = false) ((bs 2).setReg devPage 0x1A 0#16) SafeCause.ctrlThermal ∧
    (fun (s : State) => PortReady s devPage ∧ (s.pwr.pstate = .run ∨ s.pwr.pstate = .doze ∨ s.pwr.pstate = .waking) ∧ s.pwr.testHold = false ∧ s.regBit devPage 0x1A 5 = true) rdy ∧
    (fun (s : State) => PortReady s devPage ∧ s.unlocked devPage = true ∧ s.activeCauses = 0#16) (rdy.setUnlock 0 true) ∧
    (fun (s : State) (v : Word) => PortReady s devPage ∧ s.unlocked devPage = true ∧ (s.pwr.pstate = .run ∨ s.pwr.pstate = .doze ∨ s.pwr.pstate = .waking) ∧ s.pwr.testHold = false ∧ v &&& ~~~s.reg devPage 0x1A &&& 0x003F#16 &&& s.activeCauses ≠ 0#16) (((ul.setReg devPage 0x1A 0#16).modPins (fun p => { p with tripN := false })).setLatchAll .trip) 0x3f#16 ∧
    (fun (s : State) (hot : Bool) => PortReady s devPage ∧ s.unlocked devPage = true ∧ s.pwr.pstate = .safe ∧ s.reg devPage 0x19 &&& (s.modSup (fun u => { u with ctrlHot := hot })).activeCauses = 0#16) ((ul.modPwr (fun p => { p with pstate := .safe })).setReg devPage 0x19 0#16) true ∧
    (fun (s : State) (hot : Bool) => PortReady s devPage ∧ s.unlocked devPage = true ∧ s.pwr.pstate = .safe ∧ s.reg devPage 0x19 &&& (s.modSup (fun u => { u with ctrlHot := hot })).activeCauses ≠ 0#16) ((ul.modPwr (fun p => { p with pstate := .safe })).setReg devPage 0x19 0x08#16) true ∧
    (fun (s : State) => PortReady s devPage) ({} : State) ∧
    (fun (s : State) => PortReady s devPage) ({} : State) := by
  dsimp only [PortReady]; decide +kernel

/-- States and operands that meet the hypotheses of ResetsStartBringUpAndNameTheirSource, clause by clause. -/
theorem test_meets_resets_start_bring_up_and_name_their_source :
    (fun (s : State) => PortReady s devPage ∧ s.unlocked devPage = true ∧ s.nvs.snap = none ∧ s.nvs.job = .idle ∧ s.pwr.testHold = false ∧ s.pins.testEn = false) (rdy.setUnlock 0 true) ∧
    (fun (s : State) (v : Word) => PortReady s devPage ∧ (s.unlocked devPage = false ∨ v ≠ 0x5AC3#16)) ({} : State) 0x230#16 ∧
    (fun (s : State) (ns : Nat) => 1000 ≤ ns ∧ s.sup.vio = true ∧ s.nvs.snap = none ∧ s.nvs.job = .idle ∧ s.pwr.testHold = false ∧ s.pins.testEn = false) ({} : State) 1001 ∧
    (fun (s : State) (ns : Nat) => 1000 ≤ ns ∧ s.sup.vio = true ∧ s.nvs.snap.isSome = true) (rdy.modNvs (fun n => { n with snap := some (0, []) })) 1001 ∧
    (fun (ns : Nat) => ns < 200) 2 ∧
    (fun (s : State) (ns : Nat) => 1000 ≤ ns ∧ s.sup.vio = true ∧ s.pins.testEn = false ∧ s.nvs.snap = none ∧ s.nvs.job = .idle ∧ s.pwr.testHold = false) ({} : State) 1001 ∧
    (fun (s : State) => s.pwr.testHold = true) (pw (fun p => { p with testHold := true })) ∧
    (fun (s : State) => s.nvs.snap = none ∧ s.nvs.job = .idle ∧ s.pins.testEn = false) ({} : State) := by
  dsimp only [PortReady]; decide +kernel

/-- States and operands that meet the hypotheses of SupplyChangesAreReported, clause by clause. -/
theorem test_meets_supply_changes_are_reported :
    (fun (s : State) (x : Bool) => s.sup.vmOk ≠ x) ({} : State) true ∧
    (fun (s : State) (x : Bool) => s.sup.vgpOk ≠ x) ({} : State) true ∧
    (fun (s : State) => s.sup.vddLow = false) ({} : State) ∧
    (fun (s : State) => s.sup.vddLow = true) (rdy.modSup (fun u => { u with vddLow := true })) ∧
    (fun (s : State) (d : Die) => s.hasDie d = true) ({} : State) 2 ∧
    (fun (s : State) (d : Die) => s.hasDie d = true) ({} : State) 2 ∧
    (fun (s : State) => PortReady s supplyPage ∧ s.unlocked supplyPage = true) { rdy with unlock := ~~~0#64 } ∧
    (fun (s : State) => PortReady s supplyPage ∧ s.unlocked supplyPage = true) { rdy with unlock := ~~~0#64 } ∧
    (fun (s : State) => PortReady s supplyPage ∧ s.unlocked supplyPage = true) { rdy with unlock := ~~~0#64 } ∧
    (fun (s : State) => PortReady s supplyPage ∧ s.unlocked supplyPage = false) rdy := by
  dsimp only [PortReady]; decide +kernel

/-- States and operands that meet the hypotheses of PowerFailTakesOneSnapshot, clause by clause. -/
theorem test_meets_power_fail_takes_one_snapshot :
    (fun (s : State) (us : Nat) => s.nvs.armed = true ∧ s.nvs.snap = none ∧ s.pwr.testHold = false ∧ s.sup.vio = true ∧ 120 ≤ us) ({} : State) 121 ∧
    (fun (s : State) => s.sup.vio = false) { rdy with sup := { rdy.sup with vio := false } } ∧
    (fun (us : Nat) => us < 120) 119 ∧
    (fun (s : State) (us : Nat) => s.nvs.armed = true ∧ s.nvs.snap = none ∧ s.pwr.testHold = false ∧ 120 ≤ us) ({} : State) 121 ∧
    (fun (s : State) (us : Nat) => (s.nvs.armed = false ∨ s.nvs.snap.isSome = true) ∧ 120 ≤ us) (rdy.modNvs (fun n => { n with armed := false })) 121 ∧
    (fun (s : State) => s.nvs.snap.isSome = true ∧ s.pwr.rstWait = none ∧ s.nvs.autoWait = false) (rdy.modNvs (fun n => { n with snap := some (0, []) })) ∧
    (fun (s : State) => s.nvs.snap.isSome = true ∧ s.pwr.rstWait.isSome = true) ((rdy.modNvs (fun n => { n with snap := some (0, []) })).modPwr (fun p => { p with rstWait := some 1#16 })) := by
  dsimp only; decide +kernel

/-- States and operands that meet the hypotheses of FabricLinesPulse, clause by clause. -/
theorem test_meets_fabric_lines_pulse :
    (fun (s : State) (v : Word) => PortReady s fabricPage ∧ s.regBit fabricPage 0x01 0 = true ∧ s.awake = true ∧ v ≠ 0#16) rdy 0x7#16 ∧
    (fun (s : State) (v : Word) => PortReady s fabricPage ∧ s.regBit fabricPage 0x01 0 = true ∧ s.awake = true ∧ v ≠ 0#16 ∧ s.fab.due.length = 1) ((rdy.setReg fabricPage 0x18 9#16).modFab (fun f => { f with due := [1#16] })) 0xa3df#16 ∧
    (fun (s : State) (l : Fin 16) => s.fabricOn = true ∧ (s.fab.due.find? (fun w => w.getLsbD l.val)).isSome = true) ((rdy.setReg fabricPage 0x18 9#16).modFab (fun f => { f with due := [1#16] })) 0 ∧
    (fun (s : State) (l : Fin 16) => s.fab.due.find? (fun w => w.getLsbD l.val) = none) ({} : State) 6 ∧
    (fun (s : State) => s.fabricOn = true) rdy ∧
    (fun (s : State) (l : Fin 16) (k : Fin 16) (also : Word) (c : Fin 8) => s.fabricOn = true ∧ (s.fab.due.find? (fun w => w.getLsbD l.val)).isSome = true ∧ ((dueTake (linesIn also) ((s.fab.due.find? (fun w => w.getLsbD l.val)).getD 0#16, s.fab.due.erase ((s.fab.due.find? (fun w => w.getLsbD l.val)).getD 0#16))).1).getLsbD k.val = true ∧ s.regBit dmaPage 0x01 0 = true ∧ s.pins.frz = false ∧ s.regBit dmaPage (dOff c.val 0) 5 = true ∧ s.regFld dmaPage (dOff c.val 0) 0 5 = k.val ∧ (s.dmaCh c).st = .armed) (((dm (fun d => { d with st := .armed })).setReg dmaPage (dOff 2 0) 0x23#16).modFab (fun f => { f with due := [0xF#16] })) 3 3 0xca4e#16 2 ∧
    (fun (s : State) (l : Fin 16) (k : Fin 16) (also : Word) (c : Fin 8) => s.fabricOn = true ∧ ((bitWord l.val ||| also) &&& s.fab.pend).getLsbD k.val = true ∧ s.regBit dmaPage 0x01 0 = true ∧ s.pins.frz = false ∧ s.regBit dmaPage (dOff c.val 0) 5 = true ∧ s.regFld dmaPage (dOff c.val 0) 0 5 = 16 + k.val ∧ (s.dmaCh c).st = .armed) (((dm (fun d => { d with st := .armed })).setReg dmaPage (dOff 2 0) 0x33#16).modFab (fun f => { f with due := [8#16], pend := 8#16 })) 15 3 0xee8b#16 2 := by
  dsimp only [PortReady]; decide +kernel

/-- States and operands that meet the hypotheses of DmaChannelsLoadAndMove, clause by clause. -/
theorem test_meets_dma_channels_load_and_move_a :
    (fun (s : State) => PortReady s dmaPage) rdy ∧
    (fun (s : State) (c : Fin 8) => PortReady s dmaPage ∧ s.dma.granted ≠ some c) rdy 7 ∧
    (fun (s : State) (c : Fin 8) => PortReady s dmaPage ∧ s.dma.granted = some c) { dm (fun d => { d with st := .active }) with dma := { (dm (fun d => { d with st := .active })).dma with granted := some 2 } } 2 ∧
    (fun (s : State) => PortReady s dmaPage) rdy := by
  dsimp only [PortReady]; decide +kernel

/-- States and operands that meet the hypotheses of DmaChannelsLoadAndMove, clause by clause. -/
theorem test_meets_dma_channels_load_and_move_b :
    (fun (s : State) (c : Fin 8) => s.dmaLive = true ∧ (s.dmaCh c).loading = true ∧ s.mem.init = false ∧ s.mem.sramErr = [] ∧ s.mem.winBuf = [] ∧ (s.wide dmaPage (dOff c.val 2)).toNat % 16 = 0 ∧ (s.wide dmaPage (dOff c.val 2)).toNat < 0x80000 ∧ (s.dmaCh c).pend = 0 ∧ descBad (readWords sramDefault s.mem.sram (s.wide dmaPage (dOff c.val 2)).toNat 8) = false) ((dm (fun d => { d with st := .active, loading := true })).modMem (fun m => { m with sram := writeWords sramDefault [] 0 [0#16, 1#16, 0#16, 0x100#16, 0#16, 0x200#16, 0#16, 0#16] })) 2 ∧
    (fun (s : State) (c : Fin 8) => s.dmaLive = true ∧ (s.dmaCh c).loading = true ∧ s.mem.init = false ∧ (s.wide dmaPage (dOff c.val 2)).toNat % 16 ≠ 0) ((dm (fun d => { d with st := .active, loading := true })).setWide dmaPage (dOff 2 2) 4#32) 2 ∧
    (fun (s : State) (c : Fin 8) => s.dmaLive = true ∧ (s.dmaCh c).loading = true ∧ s.mem.init = false ∧ s.mem.sramErr = [] ∧ s.mem.winBuf = [] ∧ (s.wide dmaPage (dOff c.val 2)).toNat % 16 = 0 ∧ (s.wide dmaPage (dOff c.val 2)).toNat < 0x80000 ∧ readWord sramDefault s.mem.sram ((s.wide dmaPage (dOff c.val 2)).toNat + 2) = 0#16) (dm (fun d => { d with st := .active, loading := true })) 2 ∧
    (fun (s : State) (c : Fin 8) (k : Nat) => 1 ≤ k ∧ s.dmaLive = true ∧ s.dma.granted = none ∧ (s.dmaCh c).st = .active ∧ (s.dmaCh c).loading = false ∧ (s.dmaCh c).stopReq = false ∧ (∀ d : Fin 8, d < c → (s.dmaCh d).st ≠ .active) ∧ s.mem.init = false ∧ s.mem.sramErr = [] ∧ s.mem.winBuf = [] ∧ s.nvs.image = none ∧ fld (s.dmaCh c).d0 0 4 = 0 ∧ fld (s.dmaCh c).d0 8 4 = 0 ∧ 1 ≤ (s.dmaCh c).remain ∧ (s.dmaCh c).src.toNat % 2 = 0 ∧ (s.dmaCh c).src.toNat < 0x80000 ∧ (s.dmaCh c).dst.toNat % 2 = 0 ∧ (s.dmaCh c).dst.toNat < 0x80000) (dm (fun d => { d with st := .active, remain := 1 })) 2 8 := by
  dsimp only; decide +kernel

/-- States and operands that meet the hypotheses of DmaChannelsLoadAndMove, clause by clause. -/
theorem test_meets_dma_channels_load_and_move_c :
    (fun (s : State) (c : Fin 8) => s.dmaLive = true ∧ s.dma.granted = some c ∧ (s.dmaCh c).left = 0 ∧ (s.dmaCh c).remain = 0 ∧ (s.dmaCh c).stopReq = false ∧ (s.dmaCh c).d0.getLsbD 6 = false) { dm (fun d => { d with st := .active }) with dma := { (dm (fun d => { d with st := .active })).dma with granted := some 2 } } 2 ∧
    (fun (s : State) (c : Fin 8) => s.dmaLive = true ∧ s.dma.granted = some c ∧ (s.dmaCh c).left = 0 ∧ (s.dmaCh c).remain ≠ 0 ∧ (s.dmaCh c).stopReq = true) { dm (fun d => { d with st := .active, remain := 3, stopReq := true }) with dma := { (dm (fun d => { d with st := .active, remain := 3, stopReq := true })).dma with granted := some 2 } } 2 := by
  dsimp only; decide +kernel

/-- States and operands that meet the hypotheses of SramIsClearedScrubbedAndCounted, clause by clause. -/
theorem test_meets_sram_is_cleared_scrubbed_and_counted :
    (fun (s : State) => s.scrubOn = true ∧ s.mem.sramErr = [] ∧ s.mem.winBuf = []) rdy ∧
    (fun (s : State) => notSource s s.mem.scrub = true ∧ s.scrubOn = true ∧ s.mem.scrub % 2 = 0 ∧ s.mem.scrub + 2 < 0x80000 ∧ s.mem.sramErr = [] ∧ s.mem.winBuf = []) rdy ∧
    (fun (s : State) (j : Fin 22) (k : Fin 22) => j ≠ k ∧ notSource s s.mem.scrub = true ∧ s.scrubOn = true ∧ s.mem.scrub % 2 = 0 ∧ s.mem.scrub + 2 < 0x80000 ∧ s.mem.ueArmed = true ∧ s.mem.sramErr = [] ∧ s.mem.winBuf = []) rdy 21 11 ∧
    (fun (s : State) (e : BitVec 22) => s.scrubOn = true ∧ s.mem.scrub + 2 < 0x80000 ∧ s.nvs.mramErr = [] ∧ e ≠ 0#22 ∧ s.mem.sramErr = [] ∧ s.mem.winBuf = []) rdy 0x4800#22 ∧
    (fun (s : State) => s.scrubOn = true ∧ s.mem.scrub + 2 < 0x80000 ∧ s.mem.sramErr = [] ∧ s.mem.winBuf = []) rdy ∧
    (fun (s : State) => PortReady s memPage) rdy := by
  dsimp only [PortReady]; decide +kernel

/-- States and operands that meet the hypotheses of CorrectableErrorIsReturnedCorrected, clause by clause. -/
theorem test_meets_correctable_error_is_returned_corrected :
    (fun (s : State) (a : Nat) => popcount22 (errMask s.mem.sramErr a) = 1 ∧ s.mem.winBuf = [] ∧ s.reg memPage 0x0E ≠ 0xFFFF#16) ((rg memPage 0x08 0#16).modMem (fun m => { m with sramErr := [(0, 1#22)] })) 0 ∧
    (fun (s : State) => PortReady s memPage ∧ s.mem.winBuf = [] ∧ s.winAddr < 0x80000 ∧ popcount22 (errMask s.mem.sramErr s.winAddr) = 1) ((rg memPage 0x08 0#16).modMem (fun m => { m with sramErr := [(0, 1#22)] })) ∧
    (fun (a : Nat) (q : List (Nat × Word)) (e : BitVec 22) => e ≠ 0#22 ∧ (∀ p ∈ q, p.1 ≠ a)) 2 [(34, 0x100#16), (123, 0x4#16), (3, 0x5#16)] 0x4#22 := by
  dsimp only [PortReady]; decide +kernel

/-- States and operands that meet the hypotheses of WindowReachesTheSramInOrder, clause by clause. -/
theorem test_meets_window_reaches_the_sram_in_order :
    (fun (s : State) => PortReady s memPage) rdy ∧
    (fun (s : State) => PortReady s memPage ∧ s.winAddr < 0x80000 ∧ s.mem.sramErr = [] ∧ s.mem.winBuf = []) rdy ∧
    (fun (s : State) => PortReady s memPage ∧ s.winAddr < 0x80000 ∧ (s.mem.winBuf.getLast?).map Prod.fst = some s.winAddr) ((rdy.setWide memPage 8 6#32).modMem (fun m => { m with winBuf := [(6, 1#16)] })) ∧
    (fun (s : State) => PortReady s memPage ∧ s.winAddr < 0x80000 ∧ s.mem.winBuf.length < 64) rdy ∧
    (fun (s : State) => PortReady s memPage ∧ s.winAddr < 0x80000 ∧ s.mem.winBuf.length < 64 ∧ notSource s s.winAddr = true) rdy ∧
    (fun (s : State) => PortReady s memPage ∧ s.winAddr < 0x80000 ∧ 64 ≤ s.mem.winBuf.length) (rdy.modMem (fun m => { m with winBuf := List.replicate 64 (6, 1#16) })) ∧
    (fun (s : State) => PortReady s memPage ∧ s.winAddr < 0x80000 ∧ s.mem.winBuf.length < 64 ∧ notSource s s.winAddr = true) rdy ∧
    (fun (s : State) => s.mem.init = false) rdy ∧
    (fun (e : BitVec 22) => e ≠ 0#22) 0x4#22 := by
  dsimp only [PortReady]; decide +kernel

/-- States and operands that meet the hypotheses of WindowOnlyReadsTheStore, clause by clause. -/
theorem test_meets_window_only_reads_the_store :
    (fun (s : State) => PortReady s memPage ∧ inStore s.winAddr = true ∧ s.nvs.mramErr = []) (rdy.setWide memPage 8 0x100000#32) ∧
    (fun (s : State) => PortReady s memPage ∧ inSram s.winAddr = false ∧ s.mem.winBuf.length < 64) (rdy.setWide memPage 8 0x100000#32) ∧
    (fun (s : State) => PortReady s memPage ∧ inSram s.winAddr = false ∧ inStore s.winAddr = false) (rdy.setWide memPage 8 0x80000#32) := by
  dsimp only [PortReady]; decide +kernel

/-- States and operands that meet the hypotheses of StoreCommandsAndImagesAreJudged, clause by clause. -/
theorem test_meets_store_commands_and_images_are_judged_a :
    (fun (s : State) (op : BitVec 3) => PortReady s nvsPage ∧ s.unlocked nvsPage = true ∧ s.nvs.mramErr = [] ∧ (s.nvsRefusal op.toNat).isSome = true ∧ op ∉ [1#3, 2#3, 3#3, 4#3]) { rdy with unlock := ~~~0#64 } 0x6#3 ∧
    (fun (s : State) (op : BitVec 3) => PortReady s nvsPage ∧ s.unlocked nvsPage = true ∧ s.nvs.mramErr = [] ∧ op ∉ [1#3, 2#3, 3#3, 4#3]) { rdy with unlock := ~~~0#64 } 0x6#3 ∧
    (fun (s : State) => PortReady s nvsPage ∧ s.unlocked nvsPage = true ∧ s.nvs.mramErr = [] ∧ (s.nvsRefusal 1).isSome = true) { rdy with unlock := ~~~0#64 } ∧
    (fun (s : State) => PortReady s nvsPage ∧ s.unlocked nvsPage = true ∧ s.nvs.mramErr = [] ∧ s.nvsRefusal 1 = none ∧ s.mem.init = false ∧ s.mem.sramErr = [] ∧ s.mem.winBuf = []) nv := by
  dsimp only [PortReady]; decide +kernel

/-- States and operands that meet the hypotheses of StoreCommandsAndImagesAreJudged, clause by clause. -/
theorem test_meets_store_commands_and_images_are_judged_b :
    (fun (s : State) => PortReady s nvsPage ∧ s.unlocked nvsPage = true ∧ s.nvs.mramErr = [] ∧ s.nvsRefusal 2 = none) nv ∧
    (fun (s : State) => PortReady s nvsPage ∧ s.unlocked nvsPage = true ∧ s.nvs.mramErr = [] ∧ s.nvsRefusal 4 = none ∧ (s.currentRec s.nvsType s.nvsInst).1 = none) nv ∧
    (fun (s : State) => PortReady s nvsPage ∧ s.unlocked nvsPage = true ∧ s.nvs.mramErr = [] ∧ s.nvsRefusal 4 = none ∧ (s.currentRec s.nvsType s.nvsInst).1.isSome = true) (nv.mramWrites 0x109800 (recordWords 6 3 7#32 0#16 5#32 [1#16,2#16])) ∧
    (fun (s : State) => PortReady s nvsPage ∧ s.unlocked nvsPage = true ∧ s.nvs.mramErr = [] ∧ s.nvsRefusal 3 = none ∧ ((configImage s).bind List.head?).map (fun h => fld h 14 2) = some 3) ((ul.setReg nvsPage 8 0x01#16).mramWrites 0x100000 (recordWords 1 0 7#32 0#16 5#32 [1#16,0#16,2#16,0xC000#16,0x0110#16,3#16])) := by
  dsimp only [PortReady]; decide +kernel

/-- States and operands that meet the hypotheses of StoreCommandsAndImagesAreJudged, clause by clause. -/
theorem test_meets_store_commands_and_images_are_judged_c :
    (fun (s : State) => PortReady s nvsPage ∧ s.unlocked nvsPage = true ∧ s.nvs.mramErr = [] ∧ s.nvsRefusal 3 = none ∧ configImage s = none) { rdy with unlock := ~~~0#64 } ∧
    (fun (s : State) => s.target evtPage = .unit) rdy ∧
    (fun (s : State) => s.target devPage = .unit) ({} : State) ∧
    (fun (s : State) => s.target devPage = .unit) ({} : State) := by
  dsimp only [PortReady]; decide +kernel

/-- States and operands that meet the hypotheses of StoreCommandsAndImagesAreJudged, clause by clause. -/
theorem test_meets_store_commands_and_images_are_judged_d :
    (fun (s : State) => s.nvs.autoWait = false) ({} : State) := by
  dsimp only

/-- States and operands that meet the hypotheses of StoreJobsWriteTheirRecords, clause by clause. -/
theorem test_meets_store_jobs_write_their_records :
    (fun (s : State) => s.mem.init = false ∧ s.nvs.mramErr = [] ∧ s.mem.sramErr = [] ∧ s.mem.winBuf = []) rdy ∧
    (fun (s : State) => s.nvs.autoWait = false ∧ s.nvs.image = none) ({} : State) ∧
    (fun (s : State) => s.nvs.autoWait = false ∧ s.nvs.image = none ∧ s.mem.sramErr = [] ∧ s.mem.winBuf = []) ({} : State) ∧
    (fun (s : State) => s.nvs.autoWait = false ∧ s.nvs.image = none) ({} : State) ∧
    (fun (s : State) => s.nvs.autoWait = false ∧ s.nvs.image = none) ({} : State) ∧
    (fun (s : State) => s.nvs.orphanReq = true ∧ s.nvsFree = true ∧ s.twin.orphan = []) (rdy.modNvs (fun n => { n with orphanReq := true })) ∧
    (fun (s : State) => s.nvs.orphanReq = true ∧ s.nvsFree = true ∧ s.nvs.mramErr = [] ∧ s.twin.orphan ≠ []) ((rdy.modNvs (fun n => { n with orphanReq := true })).modTwin (fun t => { t with orphan := [1#16] })) ∧
    (fun (s : State) => s.nvs.autoWait = false ∧ s.nvs.image = none) ({} : State) ∧
    (fun (s : State) => s.awake = true ∧ s.nvs.loaded = false ∧ s.nvs.mramErr = [] ∧ s.nvs.mram = []) rdy ∧
    (fun (s : State) (n : Ax) => s.awake = true ∧ s.nvs.loaded = false ∧ s.nvs.mramErr = [] ∧ s.hasAxis n = true) rdy 7 ∧
    (fun (s : State) (i : Fin 3) => s.awake = true ∧ s.nvs.loaded = false ∧ s.nvs.mramErr = [] ∧ (i ≠ 1 ∨ s.part.hasCnvB = true)) rdy 1 ∧
    (fun (s : State) => s.awake = true ∧ s.nvs.loaded = false ∧ s.nvs.mramErr = [] ∧ s.part.hasTwin = true) rdy := by
  dsimp only; decide +kernel

/-- States and operands that meet the hypotheses of TimeIsReadSetAndArmed, clause by clause. -/
theorem test_meets_time_is_read_set_and_armed :
    (fun (s : State) => PortReady s timePage) rdy ∧
    (fun (s : State) => PortReady s timePage) rdy ∧
    (fun (s : State) => PortReady s timePage) rdy ∧
    (fun (s : State) (ph : Nat) => PortReady s timePage ∧ (s.wide timePage 0x12).toNat < 1000000000 ∧ (s.timeAt ph).time.cur ≤ timeOf (s.wide timePage 0x10) (s.wide timePage 0x12) * nsUnit) (ax 0 (fun a => { a with mode := .velocity, chan := { v := 1000000 } })) 0 ∧
    (fun (s : State) => PortReady s timePage ∧ 1000000000 ≤ (s.wide timePage 0x12).toNat) (rdy.setWide timePage 0x12 1000000000#32) ∧
    (fun (s : State) (ph : Nat) => PortReady s timePage ∧ (s.wide timePage 0x12).toNat < 1000000000 ∧ s.regBit timePage 0x01 3 = false ∧ timeOf (s.wide timePage 0x10) (s.wide timePage 0x12) * nsUnit < (s.timeAt ph).time.cur) rdy 88567 ∧
    (fun (s : State) (ph : Nat) => PortReady s timePage ∧ (s.wide timePage 0x12).toNat < 1000000000 ∧ s.regBit timePage 0x01 3 = true ∧ timeOf (s.wide timePage 0x10) (s.wide timePage 0x12) * nsUnit < (s.timeAt ph).time.cur) ((rg timePage 1 9#16).modTime (fun t => { t with cur := 5000000000 * 68719476736 })) 61043 ∧
    (fun (s : State) => PortReady s timePage) rdy ∧
    (fun (s : State) => PortReady s timePage) rdy ∧
    (fun (s : State) => PortReady s timePage ∧ s.regBit timePage 0x18 0 = false) rdy := by
  dsimp only [PortReady]; decide +kernel

/-- States and operands that meet the hypotheses of TsyncPulseIsJudged, clause by clause. -/
theorem test_meets_tsync_pulse_is_judged :
    (fun (s : State) (hi : Nat) => s.awake = true ∧ s.sup.vio = true ∧ hi < 10) rdy 9 ∧
    (fun (s : State) (hi : Nat) (iv : Nat) => s.awake = true ∧ s.sup.vio = true ∧ s.regBit timePage 0x18 0 = true ∧ 20 ≤ hi ∧ s.time.seen = true ∧ iv < (s.reg timePage 0x19).toNat * 500000) ((rg timePage 0x18 1#16).modTime (fun t => { t with seen := true })) 500001 1 ∧
    (fun (s : State) (hi : Nat) (iv : Nat) => s.awake = true ∧ s.sup.vio = true ∧ s.regBit timePage 0x18 0 = true ∧ 20 ≤ hi ∧ (s.time.seen = false ∨ (s.reg timePage 0x19).toNat * 500000 ≤ iv) ∧ s.time.armed = none) (rg timePage 0x18 1#16) 20 0 ∧
    (fun (s : State) (hi : Nat) (iv : Nat) => s.awake = true ∧ s.sup.vio = true ∧ s.regBit timePage 0x18 0 = true ∧ 20 ≤ hi ∧ (s.time.seen = false ∨ (s.reg timePage 0x19).toNat * 500000 ≤ iv) ∧ s.time.corr = .none ∧ s.time.applied = false) (rg timePage 0x18 1#16) 20 0 ∧
    (fun (s : State) (hi : Nat) (iv : Nat) => s.awake = true ∧ s.sup.vio = true ∧ s.regBit timePage 0x18 0 = true ∧ 20 ≤ hi ∧ (s.time.seen = false ∨ (s.reg timePage 0x19).toNat * 500000 ≤ iv) ∧ s.time.corr ≠ .none ∧ s.time.applied = false) ((rg timePage 0x18 1#16).modTime (fun t => { t with corr := .hold 5 })) 500000 500000 ∧
    (fun (s : State) (hi : Nat) (iv : Nat) => s.awake = true ∧ s.sup.vio = true ∧ s.regBit timePage 0x18 0 = true ∧ 20 ≤ hi ∧ (s.time.seen = false ∨ (s.reg timePage 0x19).toNat * 500000 ≤ iv) ∧ s.time.applied = true) ((rg timePage 0x18 1#16).modTime (fun t => { t with applied := true })) 20 1 ∧
    (fun (s : State) (hi : Nat) (ph : Nat) (iv : Nat) (nx : Nat) => s.awake = true ∧ s.sup.vio = true ∧ s.regBit timePage 0x18 0 = true ∧ 20 ≤ hi ∧ s.time.seen = true ∧ s.time.applied = false ∧ (s.reg timePage 0x19).toNat * 500000 ≤ iv ∧ 0 < iv ∧ ((nx : Int) - (s.timeAt ph).capture).natAbs ≤ (s.reg timePage 0x1A).toNat * 10) (((rg timePage 0x18 1#16).setReg timePage 0x19 0#16).modTime (fun t => { t with cur := 500 * nsUnit, seen := true })) 778 10 9 20 ∧
    (fun (s : State) (hi : Nat) (ph : Nat) (iv : Nat) => s.awake = true ∧ s.sup.vio = true ∧ s.regBit timePage 0x18 0 = true ∧ 20 ≤ hi ∧ (s.time.seen = false ∨ (s.reg timePage 0x19).toNat * 500000 ≤ iv) ∧ (s.wide timePage 0x12).toNat < 1000000000 ∧ (s.timeAt ph).time.cur ≤ timeOf (s.wide timePage 0x10) (s.wide timePage 0x12) * nsUnit) (rg timePage 0x18 1#16) 500000 0 500000 ∧
    (fun (s : State) => s.awake = true ∧ s.regBit timePage 0x18 0 = true) (rg timePage 0x18 1#16) := by
  dsimp only; decide +kernel

/-- States and operands that meet the hypotheses of CorrectionsOfTimeEnd, clause by clause. -/
theorem test_meets_corrections_of_time_end :
    (fun (s : State) (e : Nat) => s.time.corr = .none ∧ s.time.realign = false ∧ s.time.cur + usUnit + e + 1 < timeSpan) ({} : State) 2 ∧
    (fun (s : State) (e : Nat) => s.time.corr = .none ∧ s.time.realign = false ∧ e ≤ s.time.cur ∧ s.time.cur + usUnit < timeSpan) (ax 0 (fun a => { a with mode := .velocity, chan := { v := 1000000 } })) 0 ∧
    (fun (s : State) (l : Nat) => 8 * l ≤ usUnit - s.time.run ∧ s.time.cur + 7 * l < timeSpan) ({} : State) 2 ∧
    (fun (s : State) (l : Nat) => l ≤ usUnit - s.time.run ∧ s.time.cur < timeSpan) ({} : State) 2 ∧
    (fun (s : State) (l : Nat) => usUnit - s.time.run < 8 * l) (rdy.modTime (fun t => { t with run := usUnit - 1 })) 9 ∧
    (fun (s : State) (l : Nat) => usUnit - s.time.run < l) (rdy.modTime (fun t => { t with run := usUnit - 1 })) 314 ∧
    (fun (s : State) => 50000 ≤ s.time.holdTicks ∧ s.time.tbDone = false) (rdy.modTime (fun t => { t with cur := 5000000000 * 68719476736, holdTicks := 50000 })) := by
  dsimp only; decide +kernel

/-- States and operands that meet the hypotheses of RequestsAreJudgedOnTheTick, clause by clause. -/
theorem test_meets_requests_are_judged_on_the_tick :
    (fun (s : State) (n : Ax) => PortReady s (axPage n)) rdy 7 ∧
    (fun (s : State) (n : Ax) => PortReady s (axPage n)) rdy 7 ∧
    (fun (s : State) (n : Ax) => PortReady s (axPage n)) rdy 7 ∧
    (fun (s : State) (n : Ax) => PortReady s (axPage n)) rdy 7 ∧
    (fun (s : State) => s.awake = false) ({} : State) ∧
    (fun (s : State) => s.awake = true ∧ s.time.corr = .none ∧ s.time.due = .none ∧ s.time.ticked = false ∧ s.time.realign = false) rdy ∧
    (fun (s : State) (n : Ax) => s.awake = true ∧ s.hasAxis n = true ∧ (s.axis n).frozen = none) rdy 1 ∧
    (fun (s : State) (n : Ax) => s.awake = true ∧ ((s.axis n).mode = .parked ∨ (s.axis n).mode = .hold) ∧ (s.axis n).stopping = none ∧ (s.axis n).chan.v = 0 ∧ (s.axis n).req = {} ∧ (s.axis n).invReq = none ∧ s.reg (axPage n) 0x3C = 0#16 ∧ (s.axis n).settleLeft = none) rdy 1 ∧
    (fun (s : State) (n : Ax) => s.awake = true ∧ s.hasAxis n = true ∧ s.regBit (axPage n) 0x01 0 = true ∧ (s.axis n).mode = .velocity ∧ (s.axis n).stopping = none ∧ (s.axis n).req = {} ∧ s.stopN = false ∧ s.reg (axPage n) 0x3C = 0#16 ∧ s.regBit (axPage n) 0x40 0 = false ∧ s.softLimits n = none) (ax 0 (fun a => { a with mode := .velocity, chan := { v := 1000000 } })) 0 ∧
    (fun (s : State) (n : Ax) => s.awake = true ∧ s.hasAxis n = true ∧ (s.axis n).mode = .parked ∧ s.reg (axPage n) 0x3C = 0#16) rdy 1 ∧
    (fun (s : State) (n : Ax) => s.awake = true ∧ s.hasAxis n = true ∧ (s.axis n).mode = .parked ∧ s.reg (axPage n) 0x3C = 0#16) rdy 0 := by
  dsimp only [PortReady]; decide +kernel

/-- States and operands that meet the hypotheses of AxisCommandsLimitsAndConfiguration, clause by clause. -/
theorem test_meets_axis_commands_limits_and_configuration_a :
    (fun (s : State) (n : Ax) => PortReady s (axPage n) ∧ (s.axis n).mode.moving = true ∧ (s.axis n).stopping = none ∧ (s.axis n).chan.v ≠ 0) (ax 0 (fun a => { a with mode := .velocity, chan := { v := 1000000 } })) 0 ∧
    (fun (s : State) (n : Ax) => PortReady s (axPage n) ∧ (s.axis n).mode.moving = true ∧ (s.axis n).stopping = none ∧ (s.axis n).chan.v = 0) (ax 0 (fun a => { a with mode := .velocity })) 0 ∧
    (fun (s : State) (n : Ax) => PortReady s (axPage n) ∧ (s.axis n).mode.moving = false) rdy 7 ∧
    (fun (s : State) (n : Ax) => PortReady s (axPage n)) rdy 7 := by
  dsimp only [PortReady]; decide +kernel

/-- States and operands that meet the hypotheses of AxisCommandsLimitsAndConfiguration, clause by clause. -/
theorem test_meets_axis_commands_limits_and_configuration_b :
    (fun (s : State) (n : Ax) => PortReady s (axPage n) ∧ s.pins.frz = false ∧ ((s.axis n).mode = .parked ∨ (s.axis n).mode = .hold) ∧ (s.axis n).stopping = none) rdy 7 ∧
    (fun (s : State) (n : Ax) (v : Word) => PortReady s (axPage n) ∧ s.pins.frz = false ∧ (s.axis n).mode ≠ .parked ∧ (s.axis n).mode ≠ .hold ∧ v.getLsbD 8 ≠ s.dirInv n) (ax 0 (fun a => { a with mode := .velocity, chan := { v := 1000000 } })) 0 0x33ba#16 ∧
    (fun (s : State) (n : Ax) => PortReady s (axPage n)) rdy 7 ∧
    (fun (s : State) (n : Ax) => PortReady s (axPage n)) rdy 7 := by
  dsimp only [PortReady]; decide +kernel

/-- States and operands that meet the hypotheses of AxisCommandsLimitsAndConfiguration, clause by clause. -/
theorem test_meets_axis_commands_limits_and_configuration_c :
    (fun (s : State) (n : Ax) => PortReady s (axPage n) ∧ (s.axis n).stopping = none) rdy 7 ∧
    (fun (s : State) (n : Ax) => PortReady s (axPage n) ∧ (s.axis n).stopping ≠ none) (ax 0 (fun a => { a with mode := .velocity, stopping := some .hold })) 0 ∧
    (fun (s : State) (n : Ax) (v : Wide) => PortReady s (axPage n) ∧ (v ≠ 0#32 ∨ ((s.axis n).mode ≠ .velocity ∧ (s.axis n).mode ≠ .follow))) rdy 7 0x5de0d#32 ∧
    (fun (s : State) (n : Ax) (r : JogReg) (v : Wide) => PortReady s (axPage n) ∧ v ≠ 0#32 ∧ r ≠ .vmax) rdy 7 JogReg.dmax 0x75ed225c#32 := by
  dsimp only [PortReady]; decide +kernel

/-- States and operands that meet the hypotheses of AxisCommandsLimitsAndConfiguration, clause by clause. -/
theorem test_meets_axis_commands_limits_and_configuration_d :
    (fun (s : State) (n : Ax) (r : JogReg) => PortReady s (axPage n) ∧ ((s.axis n).mode = .velocity ∨ (s.axis n).mode = .follow) ∧ (r = .vmax ∨ r = .amax ∨ r = .dmax)) (ax 0 (fun a => { a with mode := .velocity, chan := { v := 1000000 } })) 0 JogReg.dmax ∧
    (fun (s : State) (n : Ax) => PortReady s (axPage n)) rdy 7 ∧
    (fun (s : State) (n : Ax) (r : JogReg) => PortReady s (axPage n) ∧ (r = .jmax ∨ r = .stopJerk ∨ ((r = .amax ∨ r = .dmax ∨ r = .vmax) ∧ (s.axis n).mode ≠ .velocity ∧ (s.axis n).mode ≠ .follow))) rdy 7 JogReg.dmax ∧
    (fun (s : State) (n : Ax) (hi : Bool) (v : Wide) => PortReady s (axPage n) ∧ if hi then (s.wide (axPage n) 0x2A).toInt < v.toInt else v.toInt < (s.wide (axPage n) 0x2C).toInt) rdy 7 true 0x75ed225c#32 := by
  dsimp only [PortReady]; decide +kernel

/-- States and operands that meet the hypotheses of AxisCommandsLimitsAndConfiguration, clause by clause. -/
theorem test_meets_axis_commands_limits_and_configuration_e :
    (fun (s : State) (n : Ax) (hi : Bool) (v : Wide) => PortReady s (axPage n) ∧ ¬(if hi then (s.wide (axPage n) 0x2A).toInt < v.toInt else v.toInt < (s.wide (axPage n) 0x2C).toInt)) (rdy.setWide (axPage 0) 0x2A 0x40#32) 0 true 0x0#32 := by
  dsimp only [PortReady]; decide +kernel

/-- States and operands that meet the hypotheses of WatchdogAndPinsStopMotion, clause by clause. -/
theorem test_meets_watchdog_and_pins_stop_motion :
    (fun (s : State) (ns : Nat) => s.awake = true ∧ s.sup.vio = true ∧ 50 ≤ ns) rdy 88567 ∧
    (fun (ns : Nat) => ns < 20) 2 ∧
    (fun (s : State) (n : Ax) => s.awake = true ∧ s.sup.vio = true ∧ s.pins.frz = false ∧ s.hasAxis n = true ∧ s.regBit (axPage n) 0x0B 2 = true ∧ (s.axis n).mode.moving = true ∧ (s.axis n).stopping = none ∧ (s.axis n).chan.v ≠ 0) (ax 0 (fun a => { a with mode := .velocity, chan := { v := 1000000 } })) 0 ∧
    (fun (s : State) (n : Ax) => s.regBit (axPage n) 0x0B 2 = false) (rg (axPage 0) 0x0B 0#16) 0 ∧
    (fun (s : State) (n : Ax) => s.pins.frz = true ∧ s.hasAxis n = true ∧ s.regBit (axPage n) 0x0B 3 = true ∧ (s.axis n).frozen.isSome = true ∧ (s.axis n).noResume = false ∧ (s.axis n).stopping = none) (((ax 0 (fun a => { a with frozen := some .velocity })).setReg (axPage 0) 0x0B 8#16).modPins (fun p => { p with frz := true })) 0 ∧
    (fun (s : State) (n : Ax) => (s.axis n).settleLeft = some 0 ∧ (s.reg (axPage n) 0x3E).toNat < (s.wide (axPage n) 0x3A).toInt.natAbs) (((ax 0 (fun a => { a with settleLeft := some 0 })).setWide (axPage 0) 0x3A 30#32).setReg (axPage 0) 0x3E 29#16) 0 ∧
    (fun (s : State) (n : Ax) => (s.axis n).settleLeft = some 0 ∧ (s.wide (axPage n) 0x3A).toInt.natAbs ≤ (s.reg (axPage n) 0x3E).toNat ∧ s.regFld (axPage n) 0x0B 6 2 = 1) ((ax 0 (fun a => { a with settleLeft := some 0 })).setReg (axPage 0) 0x0B 0x40#16) 0 ∧
    (fun (s : State) (n : Ax) => (s.axis n).settleLeft = some 0 ∧ (s.wide (axPage n) 0x3A).toInt ≠ 0 ∧ (s.wide (axPage n) 0x3A).toInt.natAbs ≤ (s.reg (axPage n) 0x3E).toNat ∧ s.regFld (axPage n) 0x0B 6 2 = 2 ∧ (s.axis n).mode = .ledger ∧ (s.axis n).stopping = none ∧ (s.jogLimits n).vmax ≠ 0 ∧ (s.jogLimits n).amax ≠ 0 ∧ (s.jogLimits n).dmax ≠ 0) ((((((((ax 0 (fun a => { a with mode := .ledger, settleLeft := some 0 })).setReg (axPage 0) 0x0B 0x80#16).setReg (axPage 0) 0x3E 5#16).setWide (axPage 0) 0x3A 4#32).setWide (axPage 0) 0x1C 100#32).setWide (axPage 0) 0x1E 100#32).setWide (axPage 0) 0x20 100#32)) 0 ∧
    (fun (s : State) (n : Ax) => (s.axis n).settleLeft = some 0 ∧ (s.wide (axPage n) 0x3A).toInt.natAbs ≤ (s.reg (axPage n) 0x3E).toNat ∧ (s.regFld (axPage n) 0x0B 6 2 = 0 ∨ s.regFld (axPage n) 0x0B 6 2 = 3 ∨ (s.regFld (axPage n) 0x0B 6 2 = 2 ∧ ((s.axis n).mode ≠ .ledger ∨ (s.axis n).stopping ≠ none ∨ (s.wide (axPage n) 0x3A).toInt = 0)))) (((ax 0 (fun a => { a with mode := .hold, settleLeft := some 0 })).setReg (axPage 0) 0x3E 5#16).setWide (axPage 0) 0x3A 5#32) 0 ∧
    (fun (s : State) => s.watchCounts = true ∧ s.pwr.hostExpired = false) ((rg devPage 0x10 5#16).setReg devPage 0x16 5#16) ∧
    (fun (s : State) => s.watchCounts = true ∧ s.pwr.hostExpired = true ∧ s.regBit devPage 0x14 1 = true ∧ s.nvs.snap = none ∧ s.pwr.testHold = false ∧ s.pins.testEn = false) (((rg devPage 0x14 3#16).modPwr (fun p => { p with hostExpired := true })).setReg devPage 0x16 5#16) := by
  dsimp only; decide +kernel

/-- States and operands that meet the hypotheses of ModeRequestsAreGrantedOrRefused, clause by clause. -/
theorem test_meets_mode_requests_are_granted_or_refused_a :
    (fun (s : State) (n : Ax) (k : Nat) => tickQuiet s n ∧ ((s.axis n).mode = .parked ∨ (s.axis n).mode = .hold ∨ ((s.axis n).mode.moving = true ∧ (s.axis n).chan.v = 0)) ∧ (k = 0 ∨ k = 1 ∨ k = 3) ∧ some (s.axis n).mode ≠ Mode.ofCode k ∧ s.modeRefusal n (Mode.ofCode k) = none) rdy 2 3 ∧
    (fun (s : State) (n : Ax) => tickQuiet s n ∧ (s.axis n).mode ≠ .characterise ∧ s.modeRefusal n (some .characterise) = none) rdy 1 ∧
    (fun (s : State) (n : Ax) => tickQuiet s n ∧ (s.axis n).mode ≠ .ledger ∧ (s.axis n).chan.v = 0 ∧ (s.ledger n).run = none ∧ s.fill n = 0 ∧ s.modeRefusal n (some .ledger) = none) rdy 1 ∧
    (fun (s : State) (n : Ax) (k : Fin 2) => tickQuiet s n ∧ (s.axis n).mode.moving = true ∧ (s.axis n).chan.v ≠ 0 ∧ s.modeRefusal n (Mode.ofCode k.val) = none) (ax 0 (fun a => { a with mode := .velocity, chan := { v := 1000000 } })) 0 0 := by
  dsimp only [tickQuiet, tickCalm]; decide +kernel

/-- States and operands that meet the hypotheses of ModeRequestsAreGrantedOrRefused, clause by clause. -/
theorem test_meets_mode_requests_are_granted_or_refused_b :
    (fun (s : State) (n : Ax) (k : Nat) => tickQuiet s n ∧ ((s.axis n).mode = .parked ∨ (s.axis n).mode = .hold ∨ (s.axis n).mode = .velocity) ∧ some (s.axis n).mode ≠ Mode.ofCode k ∧ (s.modeRefusal n (Mode.ofCode k)).isSome = true) rdy 1 50 ∧
    (fun (s : State) (n : Ax) (m : Mode) => tickQuiet s n ∧ (s.axis n).mode.moving = true ∧ (m = .parked ∨ m = .hold)) (ax 0 (fun a => { a with mode := .velocity })) 0 Mode.parked ∧
    (fun (s : State) (n : Ax) => runsQuiet s n ∧ (headRec s n).type = 1) (lg 1#16 { left := 1 }) 0 ∧
    (fun (s : State) (n : Ax) => tickQuiet s n ∧ ((s.axis n).mode = .parked ∨ (s.axis n).mode = .hold ∨ (s.axis n).mode = .velocity)) rdy 1 := by
  dsimp only [tickQuiet, tickCalm, runsQuiet]; decide +kernel

/-- States and operands that meet the hypotheses of ModeRequestsAreGrantedOrRefused, clause by clause. -/
theorem test_meets_mode_requests_are_granted_or_refused_c :
    (fun (s : State) (n : Ax) => tickQuiet s n ∧ (s.axis n).mode.moving = true) (ax 0 (fun a => { a with mode := .velocity, chan := { v := 1000000 } })) 0 ∧
    (fun (s : State) (n : Ax) => s.awake = true ∧ s.hasAxis n = true ∧ (s.axis n).frozen = none) rdy 1 := by
  dsimp only [tickQuiet, tickCalm]; decide +kernel

/-- States and operands that meet the hypotheses of FollowAndBindingOnATick, clause by clause. -/
theorem test_meets_follow_and_binding_on_a_tick_a :
    (fun (s : State) (n : Ax) => s.awake = true ∧ s.hasAxis n = true ∧ s.bound n = true) (rg (axPage 0) 0x35 4#16) 0 ∧
    (fun (s : State) (n : Ax) => s.awake = true ∧ s.hasAxis n = true) rdy 1 ∧
    (fun (s : State) (n : Ax) => tickCalm s n ∧ (s.axis n).mode.moving = true ∧ (s.axis n).ferr = false ∧ s.regBit (axPage n) 0x40 0 = false ∧ s.regFld (axPage n) 0x0B 4 2 = 1) ((ax 0 (fun a => { a with mode := .velocity })).setReg (axPage 0) 0x0B 0x10#16) 0 ∧
    (fun (s : State) (n : Ax) => tickCalm s n ∧ (s.axis n).mode = .velocity ∧ s.regBit (axPage n) 0x40 0 = false ∧ s.regFld (axPage n) 0x0B 4 2 = 0) (ax 0 (fun a => { a with mode := .velocity, chan := { v := 1000000 } })) 0 := by
  dsimp only [tickCalm]; decide +kernel

/-- States and operands that meet the hypotheses of FollowAndBindingOnATick, clause by clause. -/
theorem test_meets_follow_and_binding_on_a_tick_b :
    (fun (s : State) (n : Ax) => tickQuiet s n ∧ (s.axis n).mode = .follow ∧ s.softLimits n = none ∧ if s.regBit (axPage n) 0x31 2 then s.encQuadOk (s.regFld (axPage n) 0x31 0 2) = true else s.encStepOk (s.regFld (axPage n) 0x31 0 2) = true) (fo 4#16 1#16) 0 ∧
    (fun (s : State) (n : Ax) => tickQuiet s n ∧ (s.axis n).mode = .follow ∧ s.softLimits n = none ∧ s.reduced = false ∧ s.regBit (axPage n) 0x31 2 = false ∧ s.encStepOk (s.regFld (axPage n) 0x31 0 2) = true) (fo 0#16 2#16) 0 ∧
    (fun (s : State) (n : Ax) => tickQuiet s n ∧ (s.axis n).mode = .follow ∧ if s.regBit (axPage n) 0x31 2 then s.encQuadOk (s.regFld (axPage n) 0x31 0 2) = false else s.encStepOk (s.regFld (axPage n) 0x31 0 2) = false) (ax 0 (fun a => { a with mode := .follow })) 0 ∧
    (fun (s : State) (n : Ax) (ch : Nat) => (s.axis n).mode = .follow ∧ (s.axis n).stopping = none ∧ s.regBit (axPage n) 0x31 2 = false ∧ s.regFld (axPage n) 0x31 0 2 = ch ∧ s.hasAxis n = true) (ax 0 (fun a => { a with mode := .follow })) 0 0 := by
  dsimp only [tickQuiet, tickCalm]; decide +kernel

/-- States and operands that meet the hypotheses of CurrentsFollowTheAxis, clause by clause. -/
theorem test_meets_currents_follow_the_axis :
    (fun (s : State) (n : Ax) => tickQuiet s n ∧ (s.axis n).mode = .hold ∧ (s.axis n).goal = .none ∧ (s.axis n).chan.v = 0 ∧ (s.axis n).chan.a = 0) (br (fun b => { b with phA := { b.phA with on := true } })) 0 ∧
    (fun (s : State) (n : Ax) => cruises s n ∧ s.regBit (axPage n) 0x40 0 = false ∧ (s.axis n).chan.v ≠ 0) (cz id) 0 ∧
    (fun (s : State) (n : Ax) => tickQuiet s n ∧ (s.axis n).mode ≠ .parked) (ax 0 (fun a => { a with mode := .velocity, chan := { v := 1000000 } })) 0 ∧
    (fun (s : State) (n : Ax) => tickQuiet s n ∧ ((s.axis n).mode = .hold ∨ (s.axis n).mode = .velocity)) (ax 0 (fun a => { a with mode := .velocity, chan := { v := 1000000 } })) 0 ∧
    (fun (s : State) (n : Ax) => tickQuiet s n ∧ (s.axis n).mode = .parked) rdy 1 := by
  dsimp only [tickQuiet, tickCalm, cruises]; decide +kernel

/-- States and operands that meet the hypotheses of LoadAngleAndStallAreJudged, clause by clause. -/
theorem test_meets_load_angle_and_stall_are_judged_a :
    (fun (s : State) (n : Ax) => cruises s n ∧ s.regBit (axPage n) 0x40 0 = false) (ax 0 (fun a => { a with mode := .velocity })) 0 ∧
    (fun (s : State) (n : Ax) => cruises s n ∧ (s.axis n).stall.smpA = true ∧ (s.axis n).stall.smpB = true ∧ slowerThan (s.axis n).chan.v (s.reg (axPage n) 0x41).toNat = false ∧ fullStep (s.dirInv n) (s.axis n).ofs (s.position n) (cruisePos s n) = true ∧ ¬stallMet (cruised s n) n (s.axis n).chan.v) (cz (fun a => { a with stall := { a.stall with smpA := true, smpB := true } })) 0 := by
  dsimp only [cruises, tickCalm, stallMet]; decide +kernel

/-- States and operands that meet the hypotheses of LoadAngleAndStallAreJudged, clause by clause. -/
theorem test_meets_load_angle_and_stall_are_judged_b :
    (fun (s : State) (n : Ax) => cruises s n ∧ (s.axis n).stall.smpA = true ∧ (s.axis n).stall.smpB = true ∧ slowerThan (s.axis n).chan.v (s.reg (axPage n) 0x41).toNat = false ∧ fullStep (s.dirInv n) (s.axis n).ofs (s.position n) (cruisePos s n) = true ∧ stallMet (cruised s n) n (s.axis n).chan.v ∧ (s.axis n).stall.cnt + 1 < s.regFld (axPage n) 0x40 1 4) (((cz (fun a => { a with stall := { a.stall with smpA := true, smpB := true } })).setReg (axPage 0) 0x40 0xF07#16).setReg (axPage 0) 0x48 0xFFFF#16) 0 ∧
    (fun (s : State) (n : Ax) => cruises s n ∧ (s.axis n).stall.smpA = true ∧ (s.axis n).stall.smpB = true ∧ slowerThan (s.axis n).chan.v (s.reg (axPage n) 0x41).toNat = false ∧ fullStep (s.dirInv n) (s.axis n).ofs (s.position n) (cruisePos s n) = true ∧ stallMet (cruised s n) n (s.axis n).chan.v ∧ s.regFld (axPage n) 0x40 1 4 ≤ (s.axis n).stall.cnt + 1) (((cz (fun a => { a with stall := { a.stall with smpA := true, smpB := true } })).setReg (axPage 0) 0x40 0xF03#16).setReg (axPage 0) 0x48 0xFFFF#16) 0 := by
  dsimp only [cruises, tickCalm, stallMet]; decide +kernel

/-- States and operands that meet the hypotheses of LoadAngleAndStallAreJudged, clause by clause. -/
theorem test_meets_load_angle_and_stall_are_judged_c :
    (fun (s : State) (n : Ax) => cruises s n ∧ slowerThan (s.axis n).chan.v (s.reg (axPage n) 0x41).toNat = false ∧ (fullStep (s.dirInv n) (s.axis n).ofs (s.position n) (cruisePos s n) = false ∨ ((s.axis n).stall.busyA = true ∧ (s.axis n).stall.smpA = false) ∨ ((s.axis n).stall.busyB = true ∧ (s.axis n).stall.smpB = false))) (cz (fun a => { a with stall := { a.stall with busyA := true } })) 0 ∧
    (fun (s : State) (n : Ax) => tickCalm s n ∧ s.reg (axPage n) 0x3C = 0#16 ∧ (((s.axis n).mode = .hold ∧ (s.axis n).chan.v = 0 ∧ s.reg (axPage n) 0x41 ≠ 0#16) ∨ (s.axis n).mode = .parked ∨ (s.axis n).mode = .characterise ∨ (cruises s n ∧ slowerThan (s.axis n).chan.v (s.reg (axPage n) 0x41).toNat = true))) rdy 1 := by
  dsimp only [tickCalm, cruises]; decide +kernel

/-- States and operands that meet the hypotheses of LedgerQueueWritesAreJudged, clause by clause. -/
theorem test_meets_ledger_queue_writes_are_judged_a :
    (fun (s : State) (n : Ax) (v : Wide) => PortReady s ledgPage ∧ s.hasAxis n = true ∧ s.reg ledgPage (lOff n 8) = 0#16 ∧ (s.axis n).mode ≠ .ledger ∧ v.toNat % 32 = 0 ∧ 2 ≤ s.ledgLen n ∧ s.ledgLen n ≤ 4096 ∧ v.toNat + 32 * s.ledgLen n ≤ 0x80000) rdy 0 0x0#32 ∧
    (fun (s : State) (n : Ax) (v : Wide) => PortReady s ledgPage ∧ s.hasAxis n = true ∧ ((s.axis n).mode = .ledger ∨ v.toNat % 32 ≠ 0 ∨ 0x80000 < v.toNat + 32 * s.ledgLen n)) rdy 7 0x5de0d#32 ∧
    (fun (s : State) (n : Ax) (v : Wide) => PortReady s ledgPage ∧ s.hasAxis n = true ∧ s.reg ledgPage (lOff n 8) = 0#16 ∧ (s.axis n).mode ≠ .ledger ∧ s.ledgBase n % 32 = 0 ∧ 2 ≤ fld v.lo 0 13 ∧ fld v.lo 0 13 ≤ 4096 ∧ s.ledgBase n + 32 * fld v.lo 0 13 ≤ 0x80000) rdy 8 0x4#32 ∧
    (fun (s : State) (n : Ax) (v : Wide) => PortReady s ledgPage ∧ s.hasAxis n = true ∧ ((s.axis n).mode = .ledger ∨ fld v.lo 0 13 < 2 ∨ 4096 < fld v.lo 0 13 ∨ 0x80000 < s.ledgBase n + 32 * fld v.lo 0 13)) rdy 7 0x5de0d#32 := by
  dsimp only [PortReady]; decide +kernel

/-- States and operands that meet the hypotheses of LedgerQueueWritesAreJudged, clause by clause. -/
theorem test_meets_ledger_queue_writes_are_judged_b :
    (fun (s : State) (n : Ax) (v : Word) => PortReady s ledgPage ∧ s.hasAxis n = true ∧ fld v 0 12 < s.ledgLen n ∧ (s.ledger n).loaded.length ≤ (fld v 0 12 + s.ledgLen n - (s.ledger n).head) % s.ledgLen n ∧ s.reg ledgPage (lOff n 8) = 0#16) rdy 5 0x2#16 ∧
    (fun (s : State) (n : Ax) (v : Word) => PortReady s ledgPage ∧ s.hasAxis n = true ∧ (s.ledgLen n ≤ fld v 0 12 ∨ (fld v 0 12 + s.ledgLen n - (s.ledger n).head) % s.ledgLen n < (s.ledger n).loaded.length)) rdy 7 0xde0d#16 ∧
    (fun (s : State) (n : Ax) (v : Word) => PortReady s ledgPage ∧ s.hasAxis n = true ∧ s.reg ledgPage (lOff n 8) = 0#16 ∧ ((s.ledger n).st = .stopped ∨ (s.ledger n).st = .fault) ∧ fld v 0 12 < s.ledgLen n) rdy 5 0x2#16 ∧
    (fun (s : State) (n : Ax) (v : Word) => PortReady s ledgPage ∧ s.hasAxis n = true ∧ (((s.ledger n).st ≠ .stopped ∧ (s.ledger n).st ≠ .fault) ∨ s.ledgLen n ≤ fld v 0 12)) rdy 7 0xde0d#16 := by
  dsimp only [PortReady]; decide +kernel

/-- States and operands that meet the hypotheses of LedgerQueueWritesAreJudged, clause by clause. -/
theorem test_meets_ledger_queue_writes_are_judged_c :
    (fun (s : State) (n : Ax) => PortReady s ledgPage ∧ s.hasAxis n = true ∧ s.reg ledgPage (lOff n 8) = 0#16 ∧ (s.ledger n).st = .fault) (rdy.modLedger 0 (fun l => { l with st := .fault, tail := 1 })) 0 ∧
    (fun (s : State) (n : Ax) => PortReady s ledgPage ∧ s.hasAxis n = true ∧ (s.ledger n).st ≠ .fault) rdy 7 ∧
    (fun (s : State) (n : Ax) => PortReady s ledgPage ∧ s.hasAxis n = true ∧ s.reg ledgPage (lOff n 8) = 0#16 ∧ (s.ledger n).st = .fault) (rdy.modLedger 0 (fun l => { l with st := .fault, tail := 1 })) 0 ∧
    (fun (s : State) (n : Ax) => PortReady s ledgPage ∧ s.hasAxis n = true ∧ (s.axis n).mode ≠ .ledger ∧ 2 ≤ s.ledgLen n ∧ s.reg ledgPage (lOff n 8) ≠ 0#16 ∧ (s.reg ledgPage (lOff n 8)).toNat < s.fill n) (((rg ledgPage 0x22 8#16).setReg ledgPage (lOff 0 8) 2#16).modLedger 0 (fun l => { l with tail := 6 })) 0 := by
  dsimp only [PortReady]; decide +kernel

/-- States and operands that meet the hypotheses of LedgerQueueWritesAreJudged, clause by clause. -/
theorem test_meets_ledger_queue_writes_are_judged_d :
    (fun (s : State) (n : Ax) => PortReady s ledgPage ∧ s.hasAxis n = true ∧ s.reg ledgPage (lOff n 8) = 0#16 ∧ (s.axis n).mode ≠ .ledger) rdy 7 ∧
    (fun (s : State) (n : Ax) => PortReady s ledgPage ∧ s.hasAxis n = true ∧ (s.axis n).mode = .ledger) (lg 3#16 { left := 1 }) 0 := by
  dsimp only [PortReady]; decide +kernel

/-- States and operands that meet the hypotheses of LedgerFetchesAndCompletesRecords, clause by clause. -/
theorem test_meets_ledger_fetches_and_completes_records :
    (fun (s : State) (n : Ax) => s.hasAxis n = true ∧ s.awake = true ∧ s.regBit (axPage n) 0x01 0 = true ∧ s.mem.init = false ∧ (s.ledger n).st ≠ .fault ∧ (s.ledger n).loaded.length < 3 ∧ (s.ledger n).loaded.length < s.fill n ∧ s.mem.sramErr = [] ∧ s.mem.winBuf = []) ((lg 1#16 {}).modLedger 0 (fun l => { l with loaded := [], run := none })) 0 ∧
    (fun (s : State) (n : Ax) (r : LRec) => (s.recordFault n r (s.ledger n).paused.isSome).isSome = true) ({} : State) 5 { words := [0x98#16, 0xffff#16, 0x21c#16, 0x7#16, 0x4#16, 0x5c9f#16, 0x5ac3#16, 0x20#16, 0x2#16, 0xf945#16, 0x88b1#16, 0xcfc5#16, 0xffff#16, 0x258#16, 0x1#16, 0x1#16], ue := false } ∧
    (fun (s : State) (n : Ax) => (s.countOver n 3).isSome = true ∧ (s.countOver n 3).map LRec.last = some false ∧ s.fill n = 1 ∧ (s.ledger n).tail = ((s.ledger n).head + 1) % s.ledgLen n) (lg 3#16 {}) 0 ∧
    (fun (s : State) (n : Ax) => (s.countOver n 7).isSome = true ∧ (s.countOver n 7).map LRec.last = some false ∧ (s.countOver n 7).map LRec.target ≠ some 0#32 ∧ s.fill n = 1 ∧ (s.ledger n).tail = ((s.ledger n).head + 1) % s.ledgLen n) (lg 7#16 {}) 0 ∧
    (fun (s : State) (n : Ax) => (s.countOver n 3).map LRec.last = some true ∧ (s.axis n).chan.v = 0) (lg 0x83#16 {}) 0 ∧
    (fun (s : State) (n : Ax) => (s.countOver n 3).map LRec.last = some true ∧ (s.axis n).chan.v ≠ 0) ((lg 0x83#16 {}).modAxis 0 (fun a => { a with chan := { v := 1000000 } })) 0 ∧
    (fun (s : State) (n : Ax) => (s.countOver n 3).map LRec.last = some false ∧ 2 ≤ (s.ledger n).loaded.length ∧ 2 ≤ s.fill n ∧ (s.axis n).correcting = false ∧ s.regBit ledgPage 0x01 0 = true ∧ (secondRec s n).type = 3 ∧ ((secondRec s n).timed = false ∨ 0 ≤ s.lateness (secondRec s n)) ∧ (secondRec s n).barrier = false ∧ s.recordFault n (secondRec s n) false = none) (((lg 3#16 {}).modLedger 0 (fun l => { l with tail := 2, loaded := [{ words := 3#16 :: List.replicate 15 1#16 }, { words := 3#16 :: List.replicate 15 0#16 }] })).setReg ledgPage 1 1#16) 0 := by
  dsimp only; decide +kernel

/-- States and operands that meet the hypotheses of ChopperPhasesAndSettings, clause by clause. -/
theorem test_meets_chopper_phases_and_settings_a :
    (fun (s : State) (n : Ax) => s.hasAxis n = true ∧ (s.axis n).mode = .parked) ({} : State) 2 ∧
    (fun (s : State) (n : Ax) (p : Phase) (x : Nat) => s.hasAxis n = true ∧ (s.axis n).mode ≠ .parked ∧ s.selfTesting n = false ∧ ((s.brg n).ph p).on = true ∧ 500 ≤ x ∧ (((s.dieTime n (((s.brg n).ph p).t0 + x)).brg n).ph p).blanked (s.chopSet n p) (((s.brg n).ph p).t0 + x) = false) (br (fun b => { b with phA := { b.phA with on := true } })) 0 Phase.pa 501 ∧
    (fun (s : State) (n : Ax) (p : Phase) (x : Nat) => s.hasAxis n = true ∧ (s.axis n).mode ≠ .parked ∧ s.selfTesting n = false ∧ ((s.brg n).ph p).on = true ∧ x < 500 ∧ (((s.dieTime n (((s.brg n).ph p).t0 + x)).brg n).ph p).blanked (s.chopSet n p) (((s.brg n).ph p).t0 + x) = false) (br (fun b => { b with phA := { b.phA with on := true } })) 0 Phase.pa 499 ∧
    (fun (s : State) (n : Ax) (p : Phase) (x : Nat) => s.hasAxis n = true ∧ (s.axis n).mode ≠ .parked ∧ s.selfTesting n = false ∧ ((s.brg n).ph p).on = false ∧ (s.chopSet n p).mode = 0 ∧ (((s.dieTime n (((s.brg n).ph p).t0 + x)).brg n).ph p).blanked (s.chopSet n p) (((s.brg n).ph p).t0 + x) = false ∧ ((s.brg n).ph p).offMayEnd (s.chopSet n p) (((s.brg n).ph p).t0 + x) = true) (ax 0 (fun a => { a with mode := .velocity, chan := { v := 1000000 } })) 0 Phase.pa 23316 := by
  dsimp only; decide +kernel

/-- States and operands that meet the hypotheses of ChopperPhasesAndSettings, clause by clause. -/
theorem test_meets_chopper_phases_and_settings_b :
    (fun (s : State) (n : Ax) (p : Phase) (x : Nat) => s.hasAxis n = true ∧ (s.axis n).mode ≠ .parked ∧ ((s.brg n).ph p).on = true ∧ ((s.brg n).ph p).passed = true ∧ 500 ≤ x) (br (fun b => { b with phA := { b.phA with on := true } })) 0 Phase.pa 501 ∧
    (fun (s : State) (n : Ax) (p : Phase) (x : Nat) => s.hasAxis n = true ∧ (s.axis n).mode ≠ .parked ∧ s.selfTesting n = false ∧ (((s.dieTime n (((s.brg n).ph p).t0 + x)).brg n).ph p).blanked (s.chopSet n p) (((s.brg n).ph p).t0 + x) = true) (br (fun b => { b with phA := { b.phA with on := true, t0 := 1000, now := 1000, edge := some 1000 } })) 0 Phase.pa 3 ∧
    (fun (s : State) (n : Ax) (p : Phase) => s.hasAxis n = true ∧ ((s.brg n).ph p).passed = false) (br (fun b => { b with phA := { b.phA with on := false, passed := false } })) 0 Phase.pa ∧
    (fun (s : State) (n : Ax) (p : Phase) => s.hasAxis n = true ∧ (s.axis n).mode ≠ .parked ∧ (s.chopSet n p).mode = 0) (ax 0 (fun a => { a with mode := .hold })) 0 Phase.pb := by
  dsimp only; decide +kernel

/-- States and operands that meet the hypotheses of ChopperPhasesAndSettings, clause by clause. -/
theorem test_meets_chopper_phases_and_settings_c :
    (fun (s : State) (n : Ax) (p : Phase) => s.hasAxis n = true ∧ (s.axis n).mode ≠ .parked ∧ (s.chopSet n p).mode = 1) (br (fun b => { b with phA := { b.phA with on := true, set := { b.phA.set with mode := 1 } } })) 0 Phase.pa ∧
    (fun (s : State) (n : Ax) (p : Phase) => s.hasAxis n = true ∧ (s.axis n).mode ≠ .parked ∧ (s.chopSet n p).mode = 1 ∧ ((s.brg n).ph p).on = true) (br (fun b => { b with phA := { b.phA with on := true, set := { b.phA.set with mode := 1 } } })) 0 Phase.pa ∧
    (fun (s : State) (n : Ax) => PortReady s (brPage n) ∧ s.stagedChop n = none) ((br id).setReg (brPage 0) 0x13 200#16) 0 ∧
    (fun (s : State) (n : Ax) => PortReady s (brPage n) ∧ (s.stagedChop n).isSome = true) rdy 7 := by
  dsimp only [PortReady]; decide +kernel

/-- States and operands that meet the hypotheses of ChopperPhasesAndSettings, clause by clause. -/
theorem test_meets_chopper_phases_and_settings_d :
    (fun (s : State) (n : Ax) (v : Word) => PortReady s (brPage n) ∧ (fld v 0 3 = 0 ∨ ∀ m : Ax, m ≠ n → s.reg (brPage m) 0x25 = 0#16)) rdy 7 0xde0d#16 ∧
    (fun (s : State) (n : Ax) (m : Ax) (v : Word) => PortReady s (brPage n) ∧ fld v 0 3 ≠ 0 ∧ m ≠ n ∧ s.hasAxis m = true ∧ s.reg (brPage m) 0x25 ≠ 0#16) ((br id).setReg (brPage 0) 0x25 5#16) 9 0 0x3#16 ∧
    (fun (s : State) (n : Ax) => s.hasAxis n = true ∧ (s.axis n).mode ≠ .parked ∧ (s.axis n).mode ≠ .characterise ∧ (s.axis n).running = false ∧ s.reg (brPage n) 0x0B ≠ 0#16 ∧ (s.brg n).rest.isSome = true) ((br (fun b => { b with rest := some 100 })).setReg (brPage 0) 0x0B 7#16) 0 ∧
    (fun (s : State) (n : Ax) => ((s.axis n).running = true ∨ s.reg (brPage n) 0x0B = 0#16)) (ax 0 (fun a => { a with mode := .velocity, chan := { v := 1000000 } })) 0 := by
  dsimp only [PortReady]; decide +kernel

/-- States and operands that meet the hypotheses of CharacterisationAndTables, clause by clause. -/
theorem test_meets_characterisation_and_tables_a :
    (fun (s : State) (n : Ax) => s.charRunning n = true ∧ (s.axis n).char.step = 2 ∧ 100 ≤ (s.meanOf n (s.drivenPhases n 4) (s.phaseR n)).1 ∧ (s.meanOf n (s.drivenPhases n 4) (s.phaseR n)).1 ≤ 20000 ∧ (s.axis n).char.todo = 0#5 ∧ s.regBit (axPage n) 0x50 5 = false ∧ ((s.axis n).char.from_ = .parked ∨ (s.axis n).char.from_ = .hold)) ((((((ax 0 (fun a => { a with mode := .characterise, char := { a.char with step := 2 } })).setReg (brPage 0) 0x23 600#16).setReg (brPage 0) 0x19 240#16).setReg (brPage 0) 0x1F 100#16).setReg (brPage 0) 0x20 100#16).setReg (axPage 0) 0x50 0#16) 0 ∧
    (fun (s : State) (n : Ax) => s.charRunning n = true ∧ (s.axis n).char.step = 3 ∧ ((s.meanOf n (s.drivenPhases n 1) (s.phaseL n)).1 < 50 ∨ 60000 < (s.meanOf n (s.drivenPhases n 1) (s.phaseL n)).1) ∧ ((s.axis n).char.from_ = .parked ∨ (s.axis n).char.from_ = .hold)) ((((((ax 0 (fun a => { a with mode := .characterise, char := { a.char with step := 3 } })).setReg (brPage 0) 0x23 600#16).setReg (brPage 0) 0x19 0#16).setReg (brPage 0) 0x1F 100#16).setReg (brPage 0) 0x20 100#16).setReg (axPage 0) 0x50 0#16) 0 ∧
    (fun (s : State) (n : Ax) => s.charRunning n = true ∧ (s.axis n).char.step = 1 ∧ (s.axis n).char.selfSw = 8 ∧ s.reg (axPage n) 0x59 = 0#16 ∧ (nextStep (s.axis n).char.todo = 2 ∨ nextStep (s.axis n).char.todo = 3)) (ax 0 (fun a => { a with mode := .characterise, char := { a.char with step := 1, selfSw := 8, todo := 2#5 } })) 0 ∧
    (fun (s : State) (n : Ax) (k : Fin 8) => s.charRunning n = true ∧ (s.axis n).char.step = 1 ∧ (s.axis n).char.selfSw = k.val) (ax 0 (fun a => { a with mode := .characterise, char := { a.char with step := 1, todo := 2#5 } })) 0 0 := by
  dsimp only; decide +kernel

/-- States and operands that meet the hypotheses of CharacterisationAndTables, clause by clause. -/
theorem test_meets_characterisation_and_tables_b :
    (fun (s : State) (n : Ax) => s.charRunning n = true ∧ (s.axis n).chan.v = 0 ∧ ((s.axis n).char.from_ = .parked ∨ (s.axis n).char.from_ = .hold)) (ax 0 (fun a => { a with mode := .characterise, char := { a.char with step := 1, todo := 2#5 } })) 0 ∧
    (fun (s : State) (n : Ax) => PortReady s (axPage n) ∧ s.resUsable n = true ∧ s.regFld (axPage n) 0x50 8 3 = 0) (ax 0 (fun a => { a with char := { a.char with valid := true, ops := 0x1F#5 } })) 0 ∧
    (fun (s : State) (n : Ax) => PortReady s (axPage n) ∧ s.resUsable n = true ∧ s.nvsIdle = true ∧ s.sup.vddLow = false ∧ s.nvs.mramErr = []) (ax 0 (fun a => { a with char := { a.char with valid := true, ops := 0x1F#5 } })) 0 ∧
    (fun (s : State) (n : Ax) => PortReady s (axPage n) ∧ s.resUsable n = true ∧ s.nvsIdle = false) ((ax 0 (fun a => { a with char := { a.char with valid := true, ops := 0x1F#5 } })).modNvs (fun n => { n with job := .invalidate [0x100000] })) 0 := by
  dsimp only [PortReady]; decide +kernel

/-- States and operands that meet the hypotheses of CharacterisationAndTables, clause by clause. -/
theorem test_meets_characterisation_and_tables_c :
    (fun (s : State) (n : Ax) => PortReady s (axPage n) ∧ s.resUsable n = true) (ax 0 (fun a => { a with char := { a.char with valid := true, ops := 0x1F#5 } })) 0 ∧
    (fun (s : State) (n : Ax) => PortReady s (axPage n) ∧ s.resUsable n = false) rdy 7 ∧
    (fun (s : State) => PortReady s tablePage ∧ s.table.busy = false ∧ s.bankLocked s.tblBank = false ∧ s.tblBank < 5) rdy ∧
    (fun (s : State) => PortReady s tablePage ∧ (s.table.busy = true ∨ s.bankLocked s.tblBank = true)) ((rg tablePage 8 2#16).modTable (fun t => { t with busy := true })) := by
  dsimp only [PortReady]; decide +kernel

/-- States and operands that meet the hypotheses of CharacterisationAndTables, clause by clause. -/
theorem test_meets_characterisation_and_tables_d :
    (fun (s : State) => PortReady s tablePage) rdy ∧
    (fun (s : State) => PortReady s tablePage ∧ s.table.busy = false ∧ s.bankLocked s.tblBank = false) rdy ∧
    (fun (s : State) => PortReady s tablePage ∧ (s.table.busy = true ∨ s.bankLocked s.tblBank = true)) ((rg tablePage 8 2#16).modTable (fun t => { t with busy := true })) ∧
    (fun (s : State) => PortReady s tablePage ∧ (s.table.busy = true ∨ s.bankLocked s.tblBank = true)) ((rg tablePage 8 2#16).modTable (fun t => { t with busy := true })) := by
  dsimp only [PortReady]; decide +kernel

/-- States and operands that meet the hypotheses of CharacterisationAndTables, clause by clause. -/
theorem test_meets_characterisation_and_tables_e :
    (fun (s : State) => PortReady s tablePage ∧ s.table.busy = true) ((rg tablePage 8 2#16).modTable (fun t => { t with busy := true })) ∧
    (fun (s : State) => s.table.busy = true ∧ 1 ≤ s.tblBank ∧ s.tblBank < 5) ((rg tablePage 8 2#16).modTable (fun t => { t with busy := true })) ∧
    (fun (s : State) => PortReady s tablePage ∧ s.table.busy = false ∧ s.bankLocked s.tblBank = false ∧ s.tblBank < 5) rdy ∧
    (fun (s : State) (n : Ax) (v : Word) => PortReady s (brPage n) ∧ s.bankValid (fld v 0 3) = true ∧ fld v 0 3 < 5) rdy 2 0x230#16 := by
  dsimp only [PortReady]; decide +kernel

/-- States and operands that meet the hypotheses of CharacterisationAndTables, clause by clause. -/
theorem test_meets_characterisation_and_tables_f :
    (fun (s : State) (n : Ax) (v : Word) => PortReady s (brPage n) ∧ s.bankValid (fld v 0 3) = false ∧ fld v 0 3 < 5) rdy 8 0x5a39#16 ∧
    (fun (s : State) (n : Ax) (v : Word) => PortReady s (brPage n) ∧ 5 ≤ fld v 0 3) rdy 7 0xde0d#16 := by
  dsimp only [PortReady]; decide +kernel

/-- States and operands that meet the hypotheses of RecordsStartAsTheirTypesSay, clause by clause. -/
theorem test_meets_records_start_as_their_types_say_a :
    (fun (s : State) (n : Ax) => dwellLeadsOn s n ∧ (secondRec s n).timed = true ∧ s.lateness (secondRec s n) < 0) (lq [rc 3 0 0, rc 0x11 1 0] (some {})) 0 ∧
    (fun (s : State) (n : Ax) => dwellLeadsOn s n ∧ (secondRec s n).barrier = true ∧ s.participates n (secondRec s n).barrierId = true) (lq [rc 3 0 0, rc 0x23 0 0] (some {})) 0 ∧
    (fun (s : State) (n : Ax) => dwellLeadsOn s n ∧ ((secondRec s n).timed = false ∨ 0 ≤ s.lateness (secondRec s n)) ∧ ((secondRec s n).barrier = false ∨ s.participates n (secondRec s n).barrierId = false) ∧ (s.recordFault n (secondRec s n) false).isSome = true) (lq [rc 3 0 0, rc 9 0 0] (some {})) 0 ∧
    (fun (s : State) (n : Ax) => dwellLeadsOn s n ∧ mayStart s n (secondRec s n) ∧ (s.ledger n).loaded.length = 2) (((lg 3#16 {}).modLedger 0 (fun l => { l with tail := 2, loaded := [{ words := 3#16 :: List.replicate 15 1#16 }, { words := 3#16 :: List.replicate 15 0#16 }] })).setReg ledgPage 1 1#16) 0 := by
  dsimp only [dwellLeadsOn, mayStart]; decide +kernel

/-- States and operands that meet the hypotheses of RecordsStartAsTheirTypesSay, clause by clause. -/
theorem test_meets_records_start_as_their_types_say_b :
    (fun (s : State) (n : Ax) => dwellLeadsOn s n ∧ mayStart s n (secondRec s n) ∧ (secondRec s n).type = 1 ∧ ((s.axis n).chan.v ≠ 0 ∨ s.position n ≠ (s.clampTarget n (s.recTarget n (secondRec s n))).1)) (lq [rc 3 0 0, rc 1 0 0] (some {})) 0 ∧
    (fun (s : State) (n : Ax) => dwellLeadsOn s n ∧ mayStart s n (secondRec s n) ∧ (secondRec s n).type = 4) (lq [rc 3 0 0, rc 4 0 2] (some {})) 0 ∧
    (fun (s : State) (n : Ax) => dwellLeadsOn s n ∧ mayStart s n (secondRec s n) ∧ (secondRec s n).type = 2 ∧ s.reduced = false ∧ (s.axis n).chan.v ≠ Ramp.velUnits (secondRec s n).velocity) (lq [rc 3 0 0, rc 2 0 0] (some {})) 0 ∧
    (fun (s : State) (n : Ax) => dwellLeadsOn s n ∧ mayStart s n (secondRec s n) ∧ ((secondRec s n).type = 5 ∨ (secondRec s n).type = 6)) (lq [rc 3 0 0, rc 5 0 55] (some {})) 0 := by
  dsimp only [dwellLeadsOn, mayStart]; decide +kernel

/-- States and operands that meet the hypotheses of RecordsStartAsTheirTypesSay, clause by clause. -/
theorem test_meets_records_start_as_their_types_say_c :
    (fun (s : State) (n : Ax) => dwellLeadsOn s n ∧ mayStart s n (secondRec s n) ∧ (secondRec s n).type = 7) (lq [rc 3 0 0, rc 7 0 3] (some {})) 0 ∧
    (fun (s : State) (n : Ax) => tickQuiet s n ∧ (s.axis n).mode = .ledger ∧ (s.axis n).correcting = false ∧ (s.ledger n).st ≠ .fault ∧ (s.ledger n).loaded ≠ [] ∧ s.fill n ≠ 0 ∧ s.regBit ledgPage 0x01 0 = true ∧ ((headRec s n).type = 1 ∨ (headRec s n).type = 3) ∧ s.recordFault n (headRec s n) true = none ∧ ((s.axis n).chan.v ≠ 0 ∨ (headRec s n).type = 3)) (((lg 3#16 {}).modLedger 0 (fun l => { l with tail := 2, loaded := [{ words := 3#16 :: List.replicate 15 1#16 }, { words := 3#16 :: List.replicate 15 0#16 }] })).setReg ledgPage 1 1#16) 0 := by
  dsimp only [tickQuiet, tickCalm, dwellLeadsOn, mayStart]; decide +kernel

/-- States and operands that meet the hypotheses of RecordsCompleteAsTheirTypesSay, clause by clause. -/
theorem test_meets_records_complete_as_their_types_say_a :
    (fun (s : State) (n : Ax) (g : Int) => runsQuiet s n ∧ (headRec s n).type = 1 ∧ (Ramp.moveTick (s.axis n).chan g (s.runLimits (s.axis n).lim) (s.axis n).reversing).2 = .reached) (lg 1#16 { left := 1 }) 0 0 ∧
    (fun (s : State) (n : Ax) (v : Int) => runsQuiet s n ∧ (headRec s n).type = 2 ∧ (s.ledger n).run.map LRun.hit = some false ∧ s.reduced = false ∧ (Ramp.slewTick (s.axis n).chan (Ramp.velUnits v) (s.axis n).lim.amax (s.axis n).lim.dmax (s.axis n).lim.jmax).2 = true) (lg 2#16 { left := 1 }) 0 0 ∧
    (fun (s : State) (n : Ax) => runsQuiet s n ∧ (headRec s n).type = 4 ∧ (s.ledger n).run.map LRun.hit = some false ∧ (s.ledger n).run.map LRun.seen = some true) (lq [rc 4 0 0] (some { seen := true })) 0 ∧
    (fun (s : State) (n : Ax) (g : Int) => runsQuiet s n ∧ (headRec s n).type = 4 ∧ (s.ledger n).run.map LRun.hit = some false ∧ (s.ledger n).run.map LRun.seen = some false ∧ (Ramp.moveTick (s.axis n).chan g (s.runLimits (s.axis n).lim) (s.axis n).reversing).2 = .reached) (lq [rc 4 0 0] (some {})) 0 0 := by
  dsimp only [runsQuiet, tickQuiet, tickCalm]; decide +kernel

/-- States and operands that meet the hypotheses of RecordsCompleteAsTheirTypesSay, clause by clause. -/
theorem test_meets_records_complete_as_their_types_say_b :
    (fun (s : State) (n : Ax) => runsQuiet s n ∧ ((headRec s n).type = 4 ∨ (headRec s n).type = 2) ∧ (s.ledger n).run.map LRun.hit = some true ∧ (Ramp.stopTick (s.axis n).chan (s.axis n).lim.dmax (s.axis n).lim.jmax).2 = true) (lq [rc 4 0 0] (some { hit := true })) 0 ∧
    (fun (s : State) (n : Ax) => runsQuiet s n ∧ (s.axis n).goal = .none ∧ ((headRec s n).type = 5 ∨ (headRec s n).type = 6 ∨ ((headRec s n).type = 7 ∧ (s.ledger n).run.map LRun.seen = some true))) (lq [rc 6 0 0] (some {})) 0 ∧
    (fun (s : State) (n : Ax) (k : Fin 16) => tickQuiet s n ∧ (s.axis n).mode = .ledger ∧ (s.axis n).correcting = false ∧ (s.ledger n).run = none ∧ (s.ledger n).paused = none ∧ (s.ledger n).st ≠ .fault ∧ s.fill n ≠ 0 ∧ s.regBit ledgPage 0x01 0 = true ∧ s.participates n k.val = true ∧ (∀ m : Ax, s.participates m k.val = true → s.atBarrier m k.val = true) ∧ (headRec s n).type = 3 ∧ (headRec s n).action < 4 ∧ ((headRec s n).ue) = false) (((lq [rc 0x3023 0 0] none).setReg ledgPage 0x13 1#16).modLedger 0 (fun l => { l with arrived := true })) 0 3 := by
  dsimp only [tickQuiet, tickCalm, runsQuiet]; decide +kernel

/-- States and operands that meet the hypotheses of ShortLatchesOnlyItsSwitch, clause by clause. -/
theorem test_meets_short_latches_only_its_switch :
    (fun (s : State) (n : Ax) (k : Fin 8) (x : Nat) (y : Option Nat) => s.hasAxis n = true ∧ (s.dieTold n x).brgSwitchOn n k = true ∧ ((s.dieTold n x).scForce (.brg n) k.val ((s.dieTold n x).brg n).sw[k]).slopeFires 1000 y = true ∧ s.parkPolicy n = false ∧ (s.axis n).mode ≠ .characterise) ((rg (brPage 0) 0x46 0#16).setReg gatePage 0x46 0#16) 0 3 1000 (some 33829) ∧
    (fun (s : State) (n : Ax) (k : Fin 8) (on : Nat) (x : Nat) (y : Option Nat) => s.hasAxis n = true ∧ (s.dieTold n x).brgSwitchOn n k = true ∧ ((s.dieTold n x).scForce (.brg n) k.val ((s.dieTold n x).brg n).sw[k]).vdsFires on y = true ∧ s.parkPolicy n = false ∧ (s.axis n).mode ≠ .characterise) ((rg (brPage 0) 0x46 0#16).setReg gatePage 0x46 0#16) 0 1 37683 43 none ∧
    (fun (s : State) (n : Ax) (k : Fin 8) (x : Nat) (y : Option Nat) => s.hasAxis n = true ∧ (s.dieTold n x).brgSwitchOn n k = true ∧ ((s.dieTold n x).scForce (.brg n) k.val ((s.dieTold n x).brg n).sw[k]).slopeFires 1000 y = true ∧ s.parkPolicy n = true ∧ (s.axis n).mode ≠ .characterise) rdy 7 5 1001 (some 18312) ∧
    (fun (s : State) (n : Ax) (k : Fin 8) (x : Nat) (y : Option Nat) => s.hasAxis n = true ∧ ((s.dieTold n x).brgSwitchOn n k = false ∨ ((s.dieTold n x).scForce (.brg n) k.val ((s.dieTold n x).brg n).sw[k]).slopeFires 1000 y = false)) ({} : State) 2 7 1000 (some 25) ∧
    (fun (s : State) (n : Ax) (k : Fin 8) (on : Nat) (x : Nat) (y : Option Nat) => s.hasAxis n = true ∧ ((s.dieTold n x).brgSwitchOn n k = false ∨ ((s.dieTold n x).scForce (.brg n) k.val ((s.dieTold n x).brg n).sw[k]).vdsFires on y = false)) ({} : State) 2 7 630 68 (some 60) ∧
    (fun (s : State) (n : Ax) => s.hasAxis n = false) { rdy with part := .ln4606 } 9 ∧
    (fun (s : State) (k : Fin 6) (on : Nat) (x : Nat) (y : Option Nat) => s.part.hasGate = true ∧ s.gatePolicy = 0 ∧ (s.gateTold x).gateSwitchOn k = true ∧ ((s.gateTold x).scForce .gate k.val (s.gateTold x).gate.sw[k]).vdsFires on y = true) ((gp (fun g => { g with st := .braked, phases := #v[2, 2, 2] })).setReg gatePage 0x46 0#16) 1 80050 0 (some 19602) ∧
    (fun (s : State) (k : Fin 6) (on : Nat) (x : Nat) (y : Option Nat) => ((s.gateTold x).gateSwitchOn k = false ∨ ((s.gateTold x).scForce .gate k.val (s.gateTold x).gate.sw[k]).vdsFires on y = false)) ({} : State) 4 555 630 (some 25) ∧
    (fun (s : State) (x : Nat) (y : Option Nat) => s.part.hasGate = true ∧ s.gatePolicy = 0 ∧ (∃ j : Fin 6, ((s.gateTold x).gateOnNow.getLsbD j.val && ((s.gateTold x).scForce .gate j.val (s.gateTold x).gate.sw[j]).slopeFires 10 y) = true)) ((gp (fun g => { g with st := .braked, phases := #v[2, 2, 2] })).setReg gatePage 0x46 0#16) 11 none ∧
    (fun (s : State) (x : Nat) (y : Option Nat) => (∀ j : Fin 6, ((s.gateTold x).gateOnNow.getLsbD j.val && ((s.gateTold x).scForce .gate j.val (s.gateTold x).gate.sw[j]).slopeFires 10 y) = false)) ({} : State) 2 (some 67) ∧
    (fun (s : State) => s.part.hasGate = false) { rdy with part := .ln4606 } := by
  dsimp only; decide +kernel

/-- States and operands that meet the hypotheses of UndervoltageAndHeatHoldSwitchesOff, clause by clause. -/
theorem test_meets_undervoltage_and_heat_hold_switches_off :
    (fun (s : State) (d : Die) (n : Ax) (k : Fin 8) => s.hasDie d = true ∧ axisDie n = d ∧ s.dies[d].uvArmed = true ∧ k.val % 2 = 0) rdy 4 8 6 ∧
    (fun (s : State) (d : Die) => s.hasDie d = true ∧ s.dies[d].uvArmed = false) ({} : State) 2 ∧
    (fun (s : State) => s.part.hasGate = true) ({} : State) ∧
    (fun (s : State) => s.part.hasGate = true ∧ s.gate.bstLow = 0#3) ({} : State) ∧
    (fun (s : State) (d : Die) (n : Ax) => s.hasDie d = true ∧ axisDie n = d) ({} : State) 2 5 ∧
    (fun (s : State) => s.part.hasGate = true) ({} : State) ∧
    (fun (s : State) => s.part.hasGate = true) ({} : State) ∧
    (fun (s : State) (d : Die) (n : Ax) => s.hasDie d = true ∧ axisDie n = d ∧ s.dies[d].vcpLow = true) { rdy with dies := Vector.replicate 5 { hbSeen := true, uvArmed := true, vcpLow := true } } 2 4 ∧
    (fun (s : State) (d : Die) => s.hasDie d = true ∧ s.dies[d].vcpLow = false) ({} : State) 2 ∧
    (fun (s : State) (d : Die) (n : Ax) => s.hasDie d = true ∧ axisDie n = d) ({} : State) 2 5 ∧
    (fun (s : State) (d : Die) (n : Ax) => s.hasDie d = true ∧ axisDie n = d) ({} : State) 2 5 ∧
    (fun (s : State) (d : Die) (n : Ax) => s.hasDie d = true ∧ axisDie n = d) ({} : State) 2 5 ∧
    (fun (s : State) (d : Die) (n : Ax) => s.hasDie d = true ∧ axisDie n = d) ({} : State) 2 5 := by
  dsimp only; decide +kernel

/-- States and operands that meet the hypotheses of LatchesClearOnlyAfterTheirTest, clause by clause. -/
theorem test_meets_latches_clear_only_after_their_test :
    (fun (s : State) (p : ProtPage) (c : FaultClass) => s.hasProt p c = true ∧ (c = .ot ∨ c = .trip ∨ c = .ov) ∧ (s.prot p).has c = true ∧ s.autoClear p c = true ∧ (s.prot p).stuck[c.idx].getLsbD 0 = false ∧ s.causeActive p c = false) ((rdy.forAxes allAxes (fun n s => s.modBrg n (fun b => { b with prot := { b.prot with ot := true, trip := true, ov := true } }))).setReg (brPage 0) 0x48 0#16) (ProtPage.brg 8) FaultClass.ot ∧
    (fun (s : State) (p : ProtPage) (c : FaultClass) => s.hasProt p c = true ∧ (c = .ot ∨ c = .trip ∨ c = .ov) ∧ (s.prot p).has c = true ∧ s.autoClear p c = true ∧ (s.prot p).stuck[c.idx].getLsbD 0 = false ∧ s.causeActive p c = true) ((List.range 5).foldl (fun s k => s.setReg (brPage 0) (0x48 + 2 * k) 0#16) ((rdy.forAxes allAxes (fun n s => s.modBrg n (fun b => { b with prot := { b.prot with ot := true, trip := true, ov := true, hot := true } }))))) (ProtPage.brg 3) FaultClass.ot ∧
    (fun (s : State) (p : ProtPage) (m : BitVec 8) => s.hasProt p .uv = true ∧ s.autoClear p .uv = true ∧ m &&& (s.prot p).uv &&& ~~~(s.prot p).stuck[1] ≠ 0#8) (br (fun b => { b with prot := { b.prot with uvLow := 0x55#8, uv := 1#8, sc := 1#8 } })) (ProtPage.brg 0) 0x1#8 ∧
    (fun (s : State) (p : ProtPage) (m : BitVec 8) => s.hasProt p .sc = true ∧ s.autoClear p .sc = true ∧ m &&& (s.prot p).sc &&& ~~~(s.prot p).stuck[0] ≠ 0#8) (((br (fun b => { b with prot := { b.prot with sc := 1#8 } })).setReg (brPage 0) 0x48 0#16).setReg (brPage 0) 0x4A 0#16) (ProtPage.brg 0) 0x3d#8 ∧
    (fun (s : State) (p : ProtPage) (c : FaultClass) => s.hasProt p c = true ∧ (s.prot p).has c = false) ({} : State) ProtPage.gate FaultClass.uv ∧
    (fun (s : State) (p : ProtPage) (c : FaultClass) => (s.prot p).has c = true) (br (fun b => { b with prot := { b.prot with uvLow := 0x55#8, uv := 1#8, sc := 1#8 } })) (ProtPage.brg 0) FaultClass.uv ∧
    (fun (s : State) (n : Ax) => (s.prot (.brg n)).check ≠ []) ((br (fun b => { b with prot := { b.prot with sc := 1#8, check := [(false, 1#8)] } })).setReg (brPage 0) 0x46 0xFFFF#16) 0 ∧
    (fun (s : State) => (s.prot .gate).check ≠ []) (gp (fun g => { g with prot := { g.prot with sc := 3#8, check := [(false, 3#8)] } })) ∧
    (fun (s : State) (d : Die) => s.hasDie d = true ∧ s.sup.logic[d] = true) ({} : State) 2 ∧
    (fun (s : State) (d : Die) (n : Ax) (k : Fin 8) => s.hasDie d = true ∧ s.dies[d].hbSeen = true ∧ s.pwr.pstate ≠ .standby ∧ axisDie n = d ∧ k.val % 2 = 0) rdy 4 8 6 ∧
    (fun (s : State) (d : Die) => s.hasDie d = true ∧ s.dies[d].hbSeen = true) rdy 2 ∧
    (fun (s : State) => s.part.hasGate = true) ({} : State) := by
  dsimp only; decide +kernel

/-- States and operands that meet the hypotheses of GatePortStartsAndPinsAct, clause by clause. -/
theorem test_meets_gate_port_starts_and_pins_act_a :
    (fun (s : State) => PortReady s gatePage ∧ s.startRefusal.isSome = true) rdy ∧
    (fun (s : State) => PortReady s gatePage ∧ s.startRefusal = none ∧ (s.gate.st = .idle ∨ s.gate.st = .braked) ∧ s.enabled gatePage = true) (gp (fun g => { g with tableValid := true })) ∧
    (fun (s : State) => s.part.hasGate = true ∧ s.gate.st = .precharge ∧ s.pins.gateEn = true) (gp (fun g => { g with st := .precharge })) ∧
    (fun (s : State) => PortReady s gatePage ∧ s.gate.st = .run ∧ s.gate.chan.v ≠ 0) (gp (fun g => { g with st := .run, chan := { v := 5000000 }, phases := #v[1, 2, 0] })) := by
  dsimp only [PortReady]; decide +kernel

/-- States and operands that meet the hypotheses of GatePortStartsAndPinsAct, clause by clause. -/
theorem test_meets_gate_port_starts_and_pins_act_b :
    (fun (s : State) => PortReady s gatePage ∧ (s.gate.st = .precharge ∨ (s.gate.st = .run ∧ s.gate.chan.v = 0))) (gp (fun g => { g with st := .precharge })) ∧
    (fun (s : State) => PortReady s gatePage ∧ s.gate.st = .idle ∧ (∀ i : Fin 6, fld (s.stagedComm (i.val + 1)) 0 2 ≠ 3 ∧ fld (s.stagedComm (i.val + 1)) 2 2 ≠ 3 ∧ fld (s.stagedComm (i.val + 1)) 4 2 ≠ 3 ∧ fld (s.stagedComm (i.val + 1)) 8 3 < 6) ∧ (∀ i j : Fin 6, i ≠ j → fld (s.stagedComm (i.val + 1)) 8 3 ≠ fld (s.stagedComm (j.val + 1)) 8 3)) ((List.range 6).foldl (fun s k => s.setReg gatePage (0x11 + k) (BitVec.ofNat 16 (0x100 * k))) rdy) ∧
    (fun (s : State) => PortReady s gatePage ∧ s.gate.st ≠ .idle) (gp (fun g => { g with st := .precharge })) ∧
    (fun (s : State) => PortReady s gatePage) rdy := by
  dsimp only [PortReady]; decide +kernel

/-- States and operands that meet the hypotheses of GatePortStartsAndPinsAct, clause by clause. -/
theorem test_meets_gate_port_starts_and_pins_act_c :
    (fun (s : State) (ns : Nat) (n : Ax) => s.sup.vio = true ∧ s.pins.tripN = true ∧ 100 ≤ ns ∧ s.hasAxis n = true) ({} : State) 101 5 ∧
    (fun (ns : Nat) => ns < 80) 2 ∧
    (fun (s : State) (ns : Nat) (n : Ax) => s.sup.vio = true ∧ s.pins.drvEn = true ∧ 100 ≤ ns ∧ s.awake = true ∧ s.hasAxis n = true) rdy 88567 1 ∧
    (fun (s : State) (ns : Nat) => s.sup.vio = true ∧ s.pins.drvEn = false ∧ ns < 10000) ({} : State) 2 := by
  dsimp only; decide +kernel

/-- States and operands that meet the hypotheses of GatePortStartsAndPinsAct, clause by clause. -/
theorem test_meets_gate_port_starts_and_pins_act_d :
    (fun (s : State) (ns : Nat) (n : Ax) => s.sup.vio = true ∧ s.pins.drvEn = false ∧ 10000 ≤ ns ∧ s.awake = true ∧ s.hasAxis n = true ∧ s.pins.tripN = true) (bs 1) 10001 7 ∧
    (fun (s : State) (ns : Nat) => s.sup.vio = true ∧ s.pins.gateEn = false ∧ ns < 10000) ({} : State) 2 ∧
    (fun (s : State) (ns : Nat) => s.sup.vio = true ∧ s.pins.gateEn = true ∧ 100 ≤ ns ∧ s.awake = true) rdy 88567 ∧
    (fun (s : State) (ns : Nat) => s.sup.vio = true ∧ s.pins.gateEn = false ∧ 10000 ≤ ns ∧ s.awake = true ∧ s.part.hasGate = true ∧ s.pins.tripN = true) (bs 1) 10001 := by
  dsimp only; decide +kernel

/-- States and operands that meet the hypotheses of HallsAndPwmDriveThePhases, clause by clause. -/
theorem test_meets_halls_and_pwm_drive_the_phases_a :
    (fun (s : State) (c : BitVec 3) (x : Nat) => s.gateLive = true ∧ s.sup.vio = true ∧ c ≠ 0#3 ∧ c ≠ 7#3 ∧ (s.gate.st = .run ∨ s.gate.st = .stopping) ∧ (∀ i : Fin 3, s.gate.refDead[i] = (s.gateDead, s.gateDead)) ∧ s.gate.refresh.all (fun r => match r with | some u => decide (u + (2 * s.regFld gatePage 0x0C 0 9 + s.regFld gatePage 0x25 0 9) ≤ x) | none => true) = true) (gp (fun g => { g with st := .run, chan := { v := 5000000 }, phases := #v[1, 2, 0] })) 0x5#3 3 ∧
    (fun (s : State) (c : BitVec 3) (x : Nat) => s.gateLive = true ∧ s.sup.vio = true ∧ c ≠ 0#3 ∧ c ≠ 7#3 ∧ (s.gate.st = .run ∨ s.gate.st = .stopping) ∧ (∀ i : Fin 3, s.gate.refDead[i] = (s.gateDead, s.gateDead)) ∧ s.gate.refresh.any (fun r => match r with | some u => decide (x < u + (2 * s.regFld gatePage 0x0C 0 9 + s.regFld gatePage 0x25 0 9)) | none => false) = true) ((gp (fun g => { g with st := .run, phases := #v[1, 2, 0], hall := 3#3, refresh := #v[some 100, none, none], commWait := true })).setReg gatePage 0x25 50#16) 0x2#3 2 ∧
    (fun (s : State) (x : Nat) => s.gateLive = true ∧ (s.gate.st = .run ∨ s.gate.st = .stopping) ∧ s.gate.commWait = true ∧ (∀ i : Fin 3, s.gate.refDead[i] = (s.gateDead, s.gateDead)) ∧ s.gate.refresh.all (fun r => match r with | some u => decide (u + (2 * s.regFld gatePage 0x0C 0 9 + s.regFld gatePage 0x25 0 9) ≤ x) | none => true) = true) ((gp (fun g => { g with st := .run, phases := #v[1, 2, 0], hall := 3#3, refresh := #v[some 100, none, none], commWait := true })).setReg gatePage 0x25 50#16) 335 ∧
    (fun (s : State) (c : BitVec 3) => s.gateLive = true ∧ s.sup.vio = true ∧ c ≠ 0#3 ∧ c ≠ 7#3 ∧ s.gate.lastStep.isSome = true ∧ s.gate.edge.isSome = true ∧ s.gate.span = true ∧ s.regBit gatePage 0x0A 4 = false) ((gp (fun g => { g with lastStep := some 1, edge := some 100, span := true, hall := 3#3 })).setReg gatePage 0x0A 0#16) 0x4#3 := by
  dsimp only; decide +kernel

/-- States and operands that meet the hypotheses of HallsAndPwmDriveThePhases, clause by clause. -/
theorem test_meets_halls_and_pwm_drive_the_phases_b :
    (fun (s : State) (c : BitVec 3) => s.gateLive = true ∧ s.sup.vio = true ∧ (c = 0#3 ∨ c = 7#3)) rdy 0x7#3 ∧
    (fun (s : State) => s.gateLive = true ∧ (s.gate.st = .run ∨ s.gate.st = .stopping) ∧ s.gate.commWait = false ∧ s.regBit gatePage 0x0A 3 = false ∧ s.wide gatePage 0x30 ≠ 0#32) (gp (fun g => { g with st := .run, chan := { v := 5000000 }, phases := #v[1, 2, 0] })) ∧
    (fun (s : State) => s.gateLive = true ∧ (s.gate.st = .run ∨ s.gate.st = .stopping) ∧ s.gate.commWait = false ∧ s.regBit gatePage 0x0A 3 = true ∧ (s.gate.flipped = true ∨ s.gate.vd / 4294967296 = 0)) ((gp (fun g => { g with st := .run, phases := #v[1, 2, 0] })).setReg gatePage 0x0A 8#16) ∧
    (fun (s : State) => s.gateLive = true ∧ (s.gate.st = .run ∨ s.gate.st = .stopping) ∧ s.gate.commWait = false ∧ s.regBit gatePage 0x0A 3 = true ∧ s.gate.flipped = false ∧ s.gate.vd / 4294967296 ≠ 0) ((gp (fun g => { g with st := .run, phases := #v[1, 2, 0], vd := 50000000000 })).setReg gatePage 0x0A 8#16) := by
  dsimp only; decide +kernel

/-- States and operands that meet the hypotheses of HallsAndPwmDriveThePhases, clause by clause. -/
theorem test_meets_halls_and_pwm_drive_the_phases_c :
    (fun (s : State) => s.gateLive = true ∧ s.gate.st.driving = false) rdy ∧
    (fun (s : State) (p : Fin 3) (x : Nat) => s.gateLive = true ∧ (s.gate.st = .run ∨ s.gate.st = .stopping) ∧ s.gate.commWait = false ∧ s.gate.phases[p] = 1 ∧ s.gate.refresh[p] = none ∧ 0 < x) (gp (fun g => { g with st := .run, chan := { v := 5000000 }, phases := #v[1, 2, 0] })) 0 2 ∧
    (fun (s : State) (x : Nat) => s.gateLive = true ∧ (s.gate.st = .run ∨ s.gate.st = .stopping) ∧ s.gate.commWait = false ∧ s.reg gatePage 0x29 ≠ 0#16 ∧ (s.gateTold x).gate.ilim = false) ((gp (fun g => { g with st := .run, lastStep := some 1, edge := some 100, span := true, hall := 3#3 })).setReg gatePage 0x29 5#16) 0 ∧
    (fun (s : State) (x : Nat) => (s.gateTold x).gate.ilim = true) (gp (fun g => { g with st := .run, lastStep := some 1, edge := some 100, span := true, ilim := true })) 31 := by
  dsimp only; decide +kernel

/-- States and operands that meet the hypotheses of HallsAndPwmDriveThePhases, clause by clause. -/
theorem test_meets_halls_and_pwm_drive_the_phases_d :
    (fun (s : State) (p : Fin 3) (w : Option Bool) => s.gateLive = true ∧ (s.edgeNow p w).gate.part[p] ≠ 3) rdy 2 (some true) ∧
    (fun (s : State) (p : Fin 3) (x : Nat) (w : Option Bool) => s.gateLive = true ∧ (s.edgeNow p w).gate.part[p] ≠ 3 ∧ (s.edgeNow p w).gate.driveNow[edgeSw p w].1 ≤ x) (ax 0 (fun a => { a with mode := .hold })) 0 54 (some true) ∧
    (fun (s : State) (p : Fin 3) (x : Nat) (w : Option Bool) => ((s.edgeNow p w).gate.part[p] = 3 ∨ x < (s.edgeNow p w).gate.driveNow[edgeSw p w].1)) ({} : State) 1 2 (some true) ∧
    (fun (s : State) (p : Fin 3) (w : Option Bool) => (s.edgeNow p w).gate.part[p] = 3) ({} : State) 1 (some false) := by
  dsimp only; decide +kernel

/-- States and operands that meet the hypotheses of HallsAndPwmDriveThePhases, clause by clause. -/
theorem test_meets_halls_and_pwm_drive_the_phases_e :
    (fun (s : State) (p : Fin 3) (b : Bool) => s.gateLive = true ∧ s.gateHeldOff (edgeSw p (some b)) = true) (rdy.modPins (fun p => { p with drvEn := false, gateEn := false })) 1 true ∧
    (fun (s : State) (p : Fin 3) (b : Bool) => s.gateLive = true ∧ s.gateHeldOff (edgeSw p (some b)) = false) rdy 1 true ∧
    (fun (s : State) => s.gateLive = true) rdy := by
  dsimp only; decide +kernel

/-- States and operands that meet the hypotheses of ChannelsCountEveryEdge, clause by clause. -/
theorem test_meets_channels_count_every_edge :
    (fun (s : State) (c : Fin 4) (a : Bool) (b : Bool) (held : Nat) (hb : Nat) (cy : Nat) => s.encLive c.val = true ∧ ((s.encStood c.val cy).enc c.val).freshA = false ∧ (s.filtSamples c.val + 1) * s.filtPeriod c.val ≤ held ∧ ((s.encStood c.val cy).enc c.val).freshB = false ∧ (s.filtSamples c.val + 1) * s.filtPeriod c.val ≤ hb ∧ s.encMode c.val = 1 ∧ (¬(((s.encStood c.val cy).enc c.val).a ≠ a ∧ ((s.encStood c.val cy).enc c.val).b ≠ b) ∧ (((s.encStood c.val cy).enc c.val).a ≠ a ∨ ((s.encStood c.val cy).enc c.val).b ≠ b))) ((rg devPage 0x10 5#16).setReg devPage 0x16 5#16) 0 true false 64070 74933 8 ∧
    (fun (s : State) (c : Fin 4) (a : Bool) (b : Bool) (held : Nat) (hb : Nat) (cy : Nat) => s.encLive c.val = true ∧ ((s.encStood c.val cy).enc c.val).freshA = false ∧ (s.filtSamples c.val + 1) * s.filtPeriod c.val ≤ held ∧ ((s.encStood c.val cy).enc c.val).freshB = false ∧ (s.filtSamples c.val + 1) * s.filtPeriod c.val ≤ hb ∧ s.encMode c.val = 1 ∧ ((s.encStood c.val cy).enc c.val).a ≠ a ∧ ((s.encStood c.val cy).enc c.val).b ≠ b) (((rg devPage 0x14 3#16).modPwr (fun p => { p with hostExpired := true })).setReg devPage 0x16 5#16) 0 true true 757 821 2 ∧
    (fun (s : State) (c : Fin 4) (held : Nat) (hb : Nat) (cy : Nat) => s.hasEnc c.val = true ∧ s.sup.vio = true ∧ (s.filtSamples c.val + 1) * s.filtPeriod c.val ≤ held ∧ (s.filtSamples c.val + 1) * s.filtPeriod c.val ≤ hb ∧ (s.encLive c.val = false ∨ (((s.encStood c.val cy).enc c.val).freshA = true ∧ ((s.encStood c.val cy).enc c.val).freshB = true) ∨ s.encMode c.val = 0)) ({} : State) 1 69970 835 2 ∧
    (fun (s : State) (c : Fin 4) (held : Nat) (cy : Nat) => s.encLive c.val = true ∧ ((s.encStood c.val cy).enc c.val).freshA = false ∧ (s.filtSamples c.val + 1) * s.filtPeriod c.val ≤ held ∧ s.encMode c.val = 2 ∧ (((s.encStood c.val cy).enc c.val).a = false ∨ ((s.encStood c.val cy).enc c.val).pinA = true)) (ax 0 (fun a => { a with mode := .hold })) 1 1070 3 ∧
    (fun (s : State) (c : Fin 4) (held : Nat) (hb : Nat) => s.encLive c.val = true ∧ held < (s.filtSamples c.val - 1) * s.filtPeriod c.val + 1 ∧ hb < (s.filtSamples c.val - 1) * s.filtPeriod c.val + 1) rdy 0 0 1 ∧
    (fun (s : State) (c : Fin 4) (held : Nat) (hb : Nat) => s.encLive c.val = true ∧ (s.filtSamples c.val + 1) * s.filtPeriod c.val ≤ held ∧ hb < (s.filtSamples c.val - 1) * s.filtPeriod c.val + 1 ∧ s.encMode c.val = 1) rdy 0 1003 2 ∧
    (fun (s : State) (c : Fin 4) => PortReady s tallyPage ∧ s.hasEnc c.val = true) rdy 3 ∧
    (fun (s : State) (c : Fin 4) => s.hasEnc c.val = true ∧ s.awake = true ∧ s.regBit tallyPage 0x01 0 = true ∧ (s.enc c.val).winLeft = 0) (rdy.modEnc 0 (fun x => { x with winLeft := 0 })) 0 ∧
    (fun (s : State) (c : Fin 4) => (s.enc c.val).winLeft ≠ 0) ({} : State) 2 := by
  dsimp only [PortReady]; decide +kernel

/-- States and operands that meet the hypotheses of IndexLatchesAndChecksLines, clause by clause. -/
theorem test_meets_index_latches_and_checks_lines :
    (fun (s : State) (c : Fin 4) (held : Nat) (cy : Nat) => s.encLive c.val = true ∧ ((s.encStood c.val cy).enc c.val).freshI = false ∧ (((s.encStood c.val cy).enc c.val).i = false ∨ ((s.encStood c.val cy).enc c.val).pinI = true) ∧ (s.filtSamples c.val + 1) * s.filtPeriod c.val ≤ held ∧ s.encMode c.val ≠ 0 ∧ (s.regBit tallyPage (eOff c.val 0) 11 = false ∨ (((s.encStood c.val cy).enc c.val).a = true ∧ ((s.encStood c.val cy).enc c.val).b = true))) rdy 0 10 11 ∧
    (fun (s : State) (c : Fin 4) (held : Nat) (cy : Nat) => s.encLive c.val = true ∧ ((s.encStood c.val cy).enc c.val).freshI = false ∧ (((s.encStood c.val cy).enc c.val).i = false ∨ ((s.encStood c.val cy).enc c.val).pinI = true) ∧ (s.filtSamples c.val + 1) * s.filtPeriod c.val ≤ held ∧ s.encMode c.val ≠ 0 ∧ (s.regBit tallyPage (eOff c.val 0) 11 = false ∨ (((s.encStood c.val cy).enc c.val).a = true ∧ ((s.encStood c.val cy).enc c.val).b = true)) ∧ s.encMode c.val = 1 ∧ ((s.encStood c.val cy).enc c.val).lastIdx.isSome = true) (rdy.modEnc 0 (fun x => { x with lastIdx := some 5#32, count := 400#32, a := true, b := true })) 0 21 10 ∧
    (fun (s : State) (c : Fin 4) (held : Nat) => s.encLive c.val = true ∧ (s.filtSamples c.val + 1) * s.filtPeriod c.val ≤ held) (ax 0 (fun a => { a with mode := .hold })) 3 54 ∧
    (fun (s : State) (c : Fin 4) (held : Nat) (cy : Nat) => s.encLive c.val = true ∧ (s.filtSamples c.val + 1) * s.filtPeriod c.val ≤ held ∧ ((s.regBit tallyPage (eOff c.val 0) 11 = true ∧ (((s.encStood c.val cy).enc c.val).a = false ∨ ((s.encStood c.val cy).enc c.val).b = false)) ∨ ((s.encStood c.val cy).enc c.val).freshI = true ∨ s.encMode c.val = 0 ∨ (((s.encStood c.val cy).enc c.val).i = true ∧ ((s.encStood c.val cy).enc c.val).pinI = false))) rdy 3 10 2 ∧
    (fun (s : State) (c : Fin 4) => s.hasEnc c.val = true ∧ s.awake = true ∧ s.regBit tallyPage 0x01 0 = true ∧ s.reg tallyPage (eOff c.val 0xB) ≠ 0#16 ∧ (s.reg tallyPage (eOff c.val 0xB)).toNat ≤ (s.enc c.val).idxMs ∧ (s.enc c.val).missing = false) ((rg tallyPage (eOff 0 0xB) 3#16).modEnc 0 (fun x => { x with idxMs := 3 })) 0 ∧
    (fun (s : State) (c : Fin 4) => (s.reg tallyPage (eOff c.val 0xB) = 0#16 ∨ (s.enc c.val).missing = true)) ({} : State) 2 := by
  dsimp only; decide +kernel

/-- States and operands that meet the hypotheses of TriggersFireAndEmulationLosesNoCount, clause by clause. -/
theorem test_meets_triggers_fire_and_emulation_loses_no_count_a :
    (fun (s : State) => PortReady s tallyPage) rdy ∧
    (fun (s : State) => PortReady s tallyPage) rdy ∧
    (fun (s : State) => PortReady s tallyPage) rdy ∧
    (fun (s : State) (c : Fin 4) (p : Fin 4) (a : Bool) (b : Bool) (held : Nat) (hb : Nat) (cy : Nat) => s.encLive c.val = true ∧ ((s.encStood c.val cy).enc c.val).freshA = false ∧ (s.filtSamples c.val + 1) * s.filtPeriod c.val ≤ held ∧ ((s.encStood c.val cy).enc c.val).freshB = false ∧ (s.filtSamples c.val + 1) * s.filtPeriod c.val ≤ hb ∧ s.encMode c.val = 1 ∧ (¬(((s.encStood c.val cy).enc c.val).a ≠ a ∧ ((s.encStood c.val cy).enc c.val).b ≠ b) ∧ (((s.encStood c.val cy).enc c.val).a ≠ a ∨ ((s.encStood c.val cy).enc c.val).b ≠ b)) ∧ ((if ((s.encStood c.val cy).enc c.val).a ≠ a then a ≠ ((s.encStood c.val cy).enc c.val).b else b = ((s.encStood c.val cy).enc c.val).a) ↔ s.regBit tallyPage (eOff c.val 0) 2 = false) ∧ s.trigSrc p = 0x10 + c.val ∧ (s.trig p).armed = true ∧ (s.trig p).late = none ∧ (s.trig p).prev = ((s.encStood c.val cy).enc c.val).count ∧ s.wide tallyPage (pOff p.val 1) = ((s.encStood c.val cy).enc c.val).count + 1#32) ([0, 1, 2, 3].foldl (fun s (p : Fin 4) => ((s.setReg tallyPage (pOff p.val 0) 0x10#16).setWide tallyPage (pOff p.val 1) 1#32).modTrig p (fun t => { t with armed := true })) rdy) 0 3 true false 538 508 0 := by
  dsimp only [PortReady]; decide +kernel

/-- States and operands that meet the hypotheses of TriggersFireAndEmulationLosesNoCount, clause by clause. -/
theorem test_meets_triggers_fire_and_emulation_loses_no_count_b :
    (fun (s : State) => PortReady s tallyPage ∧ s.regBit tallyPage 0x01 0 = false) (bs 1) ∧
    (fun (s : State) => PortReady s tallyPage ∧ (∃ n : Ax, n ∈ s.present ∧ ((s.axis n).mode = .follow ∨ s.bound n = true))) (ax 0 (fun a => { a with mode := .follow })) ∧
    (fun (s : State) => PortReady s tallyPage ∧ (∀ n : Ax, n ∈ s.present → (s.axis n).mode ≠ .follow ∧ s.bound n = false)) rdy ∧
    (fun (s : State) (x : Fin 2) => PortReady s emuPage ∧ s.hasEmu x = true ∧ (s.srcValue (s.emuSrc x)).isSome = true) ((rg emuPage (xOff 0 0) 0x10#16).setReg emuPage (xOff 0 2) 3000#16) 0 := by
  dsimp only [PortReady]; decide +kernel

/-- States and operands that meet the hypotheses of TriggersFireAndEmulationLosesNoCount, clause by clause. -/
theorem test_meets_triggers_fire_and_emulation_loses_no_count_c :
    (fun (s : State) (c : Fin 4) (x : Fin 2) (a : Bool) (b : Bool) (held : Nat) (hb : Nat) (acc : Int) (bl : Int) (cy : Nat) => s.encLive c.val = true ∧ ((s.encStood c.val cy).enc c.val).freshA = false ∧ (s.filtSamples c.val + 1) * s.filtPeriod c.val ≤ held ∧ ((s.encStood c.val cy).enc c.val).freshB = false ∧ (s.filtSamples c.val + 1) * s.filtPeriod c.val ≤ hb ∧ s.encMode c.val = 1 ∧ (¬(((s.encStood c.val cy).enc c.val).a ≠ a ∧ ((s.encStood c.val cy).enc c.val).b ≠ b) ∧ (((s.encStood c.val cy).enc c.val).a ≠ a ∨ ((s.encStood c.val cy).enc c.val).b ≠ b)) ∧ s.hasEmu x = true ∧ s.regBit emuPage 0x01 0 = true ∧ s.emuSrc x = 0x10 + c.val ∧ s.reg emuPage (xOff x.val 2) ≠ 0#16 ∧ acc.natAbs < (s.reg emuPage (xOff x.val 2)).toNat ∧ bl.natAbs ≤ 20000) ((rg emuPage (xOff 0 0) 0x10#16).setReg emuPage (xOff 0 2) 3000#16) 0 0 true false 180 20000 (-1430) 40 0 ∧
    (fun (s : State) (c : Fin 4) (x : Fin 2) (a : Bool) (b : Bool) (held : Nat) (hb : Nat) (cy : Nat) => s.encLive c.val = true ∧ ((s.encStood c.val cy).enc c.val).freshA = false ∧ (s.filtSamples c.val + 1) * s.filtPeriod c.val ≤ held ∧ ((s.encStood c.val cy).enc c.val).freshB = false ∧ (s.filtSamples c.val + 1) * s.filtPeriod c.val ≤ hb ∧ s.encMode c.val = 1 ∧ (¬(((s.encStood c.val cy).enc c.val).a ≠ a ∧ ((s.encStood c.val cy).enc c.val).b ≠ b) ∧ (((s.encStood c.val cy).enc c.val).a ≠ a ∨ ((s.encStood c.val cy).enc c.val).b ≠ b)) ∧ s.hasEmu x = true ∧ (s.emu x).overrun = true ∧ s.emuSrc x = 0x10 + c.val) (((rg emuPage (xOff 0 0) 0x10#16).setReg emuPage (xOff 0 2) 3000#16).modEmu 0 (fun e => { e with overrun := true, backlog := 32767 })) 0 0 true false 60 66312 2 ∧
    (fun (s : State) (x : Fin 2) (bl : Int) => s.hasEmu x = true ∧ s.awake = true ∧ s.regBit emuPage 0x01 0 = true ∧ s.srcAbsent (s.emuSrc x) = false ∧ bl ≠ 0) rdy 1 701 ∧
    (fun (s : State) (x : Fin 2) => ((s.emu x).backlog = 0 ∨ s.regBit emuPage 0x01 0 = false ∨ s.hasEmu x = false ∨ s.srcAbsent (s.emuSrc x) = true)) ({} : State) 0 := by
  dsimp only; decide +kernel

/-- States and operands that meet the hypotheses of TimersCountMatchLinkAndCapture, clause by clause. -/
theorem test_meets_timers_count_match_link_and_capture_a :
    (fun (s : State) (n : Fin 8) (pin : Bool) => s.tmrLive n = true ∧ (s.regFld tmrPage (tOff n.val 0) 8 5 = 0 ∨ s.gateInput (s.regFld tmrPage (tOff n.val 0) 8 5) pin = s.regBit tmrPage (tOff n.val 0) 5)) tm 0 true ∧
    (fun (s : State) (n : Fin 8) (pin : Bool) => s.tmrLive n = true ∧ (s.regFld tmrPage (tOff n.val 0) 8 5 = 0 ∨ s.gateInput (s.regFld tmrPage (tOff n.val 0) 8 5) pin = s.regBit tmrPage (tOff n.val 0) 5) ∧ 1 < (s.timer n).count.toNat ∧ (s.timer n).count - 1#32 = s.wide tmrPage (tOff n.val 6) ∧ s.regBit tmrPage (tOff n.val 0) 7 = true) tm 0 true ∧
    (fun (s : State) (n : Fin 8) (pin : Bool) => s.tmrLive n = true ∧ (s.regFld tmrPage (tOff n.val 0) 8 5 = 0 ∨ s.gateInput (s.regFld tmrPage (tOff n.val 0) 8 5) pin = s.regBit tmrPage (tOff n.val 0) 5) ∧ (s.timer n).count = 1#32) (tm.modTmr 0 (fun t => { t with count := 1#32 })) 0 false ∧
    (fun (s : State) (n : Fin 8) (pin : Bool) => s.tmrLive n = true ∧ (s.regFld tmrPage (tOff n.val 0) 8 5 = 0 ∨ s.gateInput (s.regFld tmrPage (tOff n.val 0) 8 5) pin = s.regBit tmrPage (tOff n.val 0) 5) ∧ 1 < (s.timer n).count.toNat ∧ ((s.timer n).count - 1#32 ≠ s.wide tmrPage (tOff n.val 6) ∨ s.regBit tmrPage (tOff n.val 0) 7 = false)) (tm.modTmr 0 (fun t => { t with count := 5#32 })) 0 true := by
  dsimp only; decide +kernel

/-- States and operands that meet the hypotheses of TimersCountMatchLinkAndCapture, clause by clause. -/
theorem test_meets_timers_count_match_link_and_capture_b :
    (fun (s : State) (n : Fin 8) => ((s.timer n).run = false ∨ s.regBit tmrPage 0x01 0 = false ∨ s.awake = false ∨ (s.pins.frz = true ∧ s.regBit tmrPage (tOff n.val 0) 6 = true))) ({} : State) 6 ∧
    (fun (s : State) (n : Fin 8) (pin : Bool) => s.regFld tmrPage (tOff n.val 0) 8 5 ≠ 0 ∧ s.gateInput (s.regFld tmrPage (tOff n.val 0) 8 5) pin ≠ s.regBit tmrPage (tOff n.val 0) 5) (tm.setReg tmrPage (tOff 0 0) 0xD80#16) 0 true ∧
    (fun (s : State) => PortReady s tmrPage) rdy ∧
    (fun (s : State) => PortReady s tmrPage) rdy := by
  dsimp only [PortReady]; decide +kernel

/-- States and operands that meet the hypotheses of TimersCountMatchLinkAndCapture, clause by clause. -/
theorem test_meets_timers_count_match_link_and_capture_c :
    (fun (s : State) => s.tmr.links = []) ({} : State) ∧
    (fun (s : State) (n : Fin 8) (pin : Bool) => s.tmrLive n = true ∧ (s.regFld tmrPage (tOff n.val 0) 8 5 = 0 ∨ s.gateInput (s.regFld tmrPage (tOff n.val 0) 8 5) pin = s.regBit tmrPage (tOff n.val 0) 5) ∧ (s.regFld tmrPage (tOff n.val 0xD) 9 2 = 1 ∨ s.regFld tmrPage (tOff n.val 0xD) 9 2 = 2) ∧ s.regBit tmrPage (tOff n.val 0xD) 11 = true ∧ (s.timer n).count = 1#32 ∧ s.regBit tmrPage (tOff n.val 0) 7 = false) (((tm.modTmr 0 (fun t => { t with count := 1#32 })).setReg tmrPage (tOff 0 0) 0#16).setReg tmrPage (tOff 0 0xD) 0xA00#16) 0 true ∧
    (fun (s : State) => PortReady s tmrPage) rdy ∧
    (fun (s : State) (l : Fin 16) (k : Fin 16) (also : Word) (n : Fin 8) => s.fabricOn = true ∧ (s.fab.due.find? (fun w => w.getLsbD l.val)).isSome = true ∧ ((dueTake (linesIn also) ((s.fab.due.find? (fun w => w.getLsbD l.val)).getD 0#16, s.fab.due.erase ((s.fab.due.find? (fun w => w.getLsbD l.val)).getD 0#16))).1).getLsbD k.val = true ∧ s.awake = true ∧ s.regBit tmrPage 0x01 0 = true ∧ s.regBit tmrPage (tOff n.val 0xD) 5 = true ∧ s.regFld tmrPage (tOff n.val 0xD) 0 5 = k.val) (([0, 1, 2, 3, 4, 5, 6, 7].foldl (fun s n => s.setReg tmrPage (tOff n 0xD) 0x20#16) (rg fabricPage 1 1#16)).modFab (fun f => { f with due := [0xFFFF#16] })) 2 0 0x258#16 5 := by
  dsimp only [PortReady]; decide +kernel

/-- States and operands that meet the hypotheses of TimersCountMatchLinkAndCapture, clause by clause. -/
theorem test_meets_timers_count_match_link_and_capture_d :
    (fun (s : State) (n : Fin 8) (sleep : Nat) => s.pwr.bring = 2 ∧ s.pwr.testHold = false ∧ s.pwr.fromReset = false ∧ s.regBit tmrPage 0x01 0 = true ∧ (s.timer n).run = true ∧ s.regFld tmrPage (tOff n.val 0) 8 5 = 0 ∧ (s.tmr.entryFrz = false ∨ s.regBit tmrPage (tOff n.val 0) 6 = false) ∧ s.regBit tmrPage (tOff n.val 0) 4 = false ∧ sleep < 4294967296) (((bs 2).modTmr 0 (fun t => { t with run := true, count := 2#32 })).setReg tmrPage 1 1#16 |> fun s => s.modPwr (fun p => { p with fromReset := false })) 0 12374 ∧
    (fun (s : State) (n : Fin 8) => s.pwr.bring = 2 ∧ s.pwr.testHold = false ∧ s.pwr.fromReset = false ∧ ((s.timer n).run = false ∨ s.regFld tmrPage (tOff n.val 0) 8 5 ≠ 0 ∨ (s.tmr.entryFrz = true ∧ s.regBit tmrPage (tOff n.val 0) 6 = true))) (((bs 2).modTmr 0 (fun t => { t with run := true, count := 2#32 })).setReg tmrPage 1 1#16 |> fun s => s.modPwr (fun p => { p with fromReset := false })) 3 ∧
    (fun (s : State) => PortReady s tmrPage) rdy := by
  dsimp only [PortReady]; decide +kernel

/-- States and operands that meet the hypotheses of LoadOnlyWhileStopped, clause by clause. -/
theorem test_meets_load_only_while_stopped :
    (fun (s : State) (n : Fin 8) => PortReady s tmrPage ∧ (s.timer n).run = false) rdy 7 ∧
    (fun (s : State) (n : Fin 8) => PortReady s tmrPage ∧ (s.timer n).run = true) tm 0 ∧
    (fun (s : State) => PortReady s tmrPage) rdy ∧
    (fun (s : State) => PortReady s tmrPage) rdy ∧
    (fun (s : State) => PortReady s tmrPage ∧ s.portLive = true) rdy ∧
    (fun (s : State) => PortReady s tmrPage ∧ s.portLive = true) rdy := by
  dsimp only [PortReady]; decide +kernel

/-- States and operands that meet the hypotheses of ConverterCommandsAndStages, clause by clause. -/
theorem test_meets_converter_commands_and_stages_a :
    (fun (s : State) (c : Conv) => PortReady s (cnvPage (convIdx c)) ∧ s.cnvLive (convIdx c) = true ∧ (s.cnv (convIdx c)).seq = false ∧ (∀ k : Fin 16, k.val ≤ s.cnvLast (convIdx c) → entryOk (convIdx c) (s.entryA (convIdx c) k.val) (s.entryB (convIdx c) k.val) = true)) rdy Conv.cnva ∧
    (fun (s : State) (c : Conv) (k : Fin 16) => PortReady s (cnvPage (convIdx c)) ∧ s.cnvLive (convIdx c) = true ∧ (s.cnv (convIdx c)).seq = false ∧ k.val ≤ s.cnvLast (convIdx c) ∧ entryOk (convIdx c) (s.entryA (convIdx c) k.val) (s.entryB (convIdx c) k.val) = false) ((rg (cnvPage 0) 0x20 0x1F#16).setReg (cnvPage 0) 0x0B 0x1E#16) Conv.cnva 0 ∧
    (fun (s : State) (c : Conv) => PortReady s (cnvPage (convIdx c)) ∧ s.cnvLive (convIdx c) = true ∧ (s.cnv (convIdx c)).seq = true) (cv (fun c => { c with work := .seq, seq := true, powered := true })) Conv.cnva ∧
    (fun (s : State) (c : Conv) => PortReady s (cnvPage (convIdx c)) ∧ s.regBit (cnvPage (convIdx c)) 0x01 0 = false) (bs 1) Conv.cnvc := by
  dsimp only [PortReady]; decide +kernel

/-- States and operands that meet the hypotheses of ConverterCommandsAndStages, clause by clause. -/
theorem test_meets_converter_commands_and_stages_b :
    (fun (s : State) (c : Conv) => PortReady s (cnvPage (convIdx c)) ∧ ((convIdx c = 1 → s.part.hasCnvB = true))) rdy Conv.cnva ∧
    (fun (s : State) (c : Conv) => PortReady s (cnvPage (convIdx c)) ∧ s.cnvLive (convIdx c) = true ∧ (s.cnv (convIdx c)).injWait = false ∧ (s.cnv (convIdx c)).work ≠ .inj ∧ (s.cnv (convIdx c)).work ≠ .cal true ∧ entryOk (convIdx c) (s.reg (cnvPage (convIdx c)) 0x0B) (s.reg (cnvPage (convIdx c)) 0x0C) = true) rdy Conv.cnva ∧
    (fun (s : State) (c : Conv) => PortReady s (cnvPage (convIdx c)) ∧ s.cnvLive (convIdx c) = true ∧ ((s.cnv (convIdx c)).injWait = true ∨ (s.cnv (convIdx c)).work = .inj)) (cv (fun c => { c with work := .inj, powered := true, stage := .conv })) Conv.cnva ∧
    (fun (s : State) (c : Conv) => PortReady s (cnvPage (convIdx c)) ∧ s.cnvLive (convIdx c) = true ∧ (s.cnv (convIdx c)).injWait = false ∧ (s.cnv (convIdx c)).work ≠ .inj ∧ entryOk (convIdx c) (s.reg (cnvPage (convIdx c)) 0x0B) (s.reg (cnvPage (convIdx c)) 0x0C) = false) ((rg (cnvPage 0) 0x20 0x1F#16).setReg (cnvPage 0) 0x0B 0x1E#16) Conv.cnva := by
  dsimp only [PortReady]; decide +kernel

/-- States and operands that meet the hypotheses of ConverterCommandsAndStages, clause by clause. -/
theorem test_meets_converter_commands_and_stages_c :
    (fun (s : State) (c : Conv) => PortReady s (cnvPage (convIdx c))) rdy Conv.cnva ∧
    (fun (s : State) (c : Conv) => PortReady s (cnvPage (convIdx c)) ∧ s.cnvLive (convIdx c) = true) rdy Conv.cnva ∧
    (fun (s : State) (c : Conv) => s.cnvLive (convIdx c) = true ∧ s.regBit (cnvPage (convIdx c)) 0x08 1 = true) rdy Conv.cnva ∧
    (fun (s : State) (c : Conv) => s.regBit (cnvPage (convIdx c)) 0x08 1 = false) ((cv (fun c => { c with work := .seq, seq := true, powered := true, stage := .delay })).setReg (cnvPage 0) 8 4#16) Conv.cnva := by
  dsimp only [PortReady]; decide +kernel

/-- States and operands that meet the hypotheses of ConverterCommandsAndStages, clause by clause. -/
theorem test_meets_converter_commands_and_stages_d :
    (fun (s : State) (c : Conv) => s.cnvLive (convIdx c) = true ∧ s.regBit (cnvPage (convIdx c)) 0x08 1 = true ∧ (s.cnv (convIdx c)).work = .none) rdy Conv.cnva ∧
    (fun (s : State) (c : Conv) => (s.cnv (convIdx c)).work ≠ .none) (cv (fun c => { c with work := .seq, seq := true, powered := true })) Conv.cnva ∧
    (fun (s : State) (c : Conv) => s.cnvLive (convIdx c) = true ∧ (s.cnv (convIdx c)).stage = .startup ∧ (s.cnv (convIdx c)).work ≠ .none) (cv (fun c => { c with work := .seq, seq := true, powered := true })) Conv.cnva ∧
    (fun (s : State) (c : Conv) => s.cnvLive (convIdx c) = true ∧ (s.cnv (convIdx c)).stage = .delay ∧ ((s.cnv (convIdx c)).work = .seq ∨ (s.cnv (convIdx c)).work = .inj)) ((cv (fun c => { c with work := .seq, seq := true, powered := true, stage := .delay })).setReg (cnvPage 0) 8 4#16) Conv.cnva := by
  dsimp only; decide +kernel

/-- States and operands that meet the hypotheses of ConverterCommandsAndStages, clause by clause. -/
theorem test_meets_converter_commands_and_stages_e :
    (fun (s : State) (c : Conv) => (s.cnv (convIdx c)).stage = .conv) (cv (fun c => { c with work := .seq, seq := true, powered := true, stage := .conv })) Conv.cnva ∧
    (fun (s : State) (c : Conv) => s.cnvLive (convIdx c) = true ∧ (s.cnv (convIdx c)).calVref = false) rdy Conv.cnva ∧
    (fun (s : State) (c : Conv) (err : Int) => s.cnvLive (convIdx c) = true ∧ (s.cnv (convIdx c)).calVref = true ∧ 16 * (s.cnv (convIdx c)).bgOfs.toInt < 0xD55555 + err) (cv (fun c => { c with work := .cal true, powered := true, stage := .conv, calVref := true })) Conv.cnva 1295 := by
  dsimp only; decide +kernel

/-- States and operands that meet the hypotheses of ConversionsWriteTheirResults, clause by clause. -/
theorem test_meets_conversions_write_their_results :
    (fun (s : State) (c : Conv) => s.cnvLive (convIdx c) = true ∧ (s.cnv (convIdx c)).work = .seq ∧ (s.cnv (convIdx c)).stage = .conv ∧ (s.cnv (convIdx c)).stream = false ∧ (s.cnv (convIdx c)).cur < 16) (cv (fun c => { c with work := .seq, seq := true, powered := true, stage := .conv })) Conv.cnva ∧
    (fun (s : State) (c : Conv) => s.cnvLive (convIdx c) = true ∧ (s.cnv (convIdx c)).work = .inj ∧ (s.cnv (convIdx c)).stage = .conv ∧ (s.cnv (convIdx c)).stream = false) (cv (fun c => { c with work := .inj, powered := true, stage := .conv })) Conv.cnva ∧
    (fun (s : State) (c : Conv) => s.cnvLive (convIdx c) = true ∧ (s.cnv (convIdx c)).work = .seq ∧ (s.cnv (convIdx c)).stream = true ∧ (s.cnv (convIdx c)).cur = 0 ∧ s.cnvLast (convIdx c) = 0 ∧ s.cnvCont (convIdx c) = true) ((cv (fun c => { c with work := .seq, seq := true, powered := true, stage := .conv, stream := true })).setReg (cnvPage 0) 8 4#16) Conv.cnva ∧
    (fun (s : State) (c : Conv) => (s.cnv (convIdx c)).stream = false) ({} : State) Conv.cnva ∧
    (fun (s : State) (c : Conv) => ((s.cnv (convIdx c)).stage ≠ .conv ∨ (s.cnv (convIdx c)).stream = true ∨ (s.cnv (convIdx c)).work = .none)) ({} : State) Conv.cnva ∧
    (fun (s : State) => s.cnvLive 0 = true ∧ (s.cnv 0).work = .assay ∧ (s.cnv 0).stage = .conv ∧ (s.cnv 0).stream = false ∧ (s.cnv 0).assay.head? = some 0x0C ∧ s.assay.ab = 3 ∧ s.assay.bRefx.isSome = true) { cv (fun c => { c with work := .assay, assay := [0x0C], powered := true, stage := .conv }) with assay := { busy := true, ab := 3, bRefx := some 7000000 } } := by
  dsimp only; decide +kernel

/-- States and operands that meet the hypotheses of AssayRunsAndWindowsAreWatched, clause by clause. -/
theorem test_meets_assay_runs_and_windows_are_watched :
    (fun (s : State) => PortReady s assayPage ∧ s.assayLive = true ∧ s.assay.busy = false ∧ s.regBit assayPage 0x08 9 = true ∧ s.inUnitReset (cnvPage 0) = false ∧ s.inUnitReset (cnvPage 2) = false) rdy ∧
    (fun (s : State) => PortReady s assayPage ∧ s.assayLive = true ∧ s.assay.busy = false ∧ s.regFld assayPage 0x08 8 3 = 0) (rg assayPage 8 0#16) ∧
    (fun (s : State) => PortReady s assayPage ∧ s.assayLive = true ∧ s.assay.busy = true) { rdy with assay := { busy := true } } ∧
    (fun (s : State) => s.assayLive = true ∧ s.assay.busy = false ∧ s.regFld assayPage 0x08 0 8 ≠ 0 ∧ s.regBit assayPage 0x08 9 = true ∧ s.inUnitReset (cnvPage 0) = false ∧ s.inUnitReset (cnvPage 2) = false) (((cv (fun c => { c with work := .seq, seq := true })).modCnv 2 (fun c => { c with work := .seq, seq := true })).setReg assayPage 8 0x305#16) ∧
    (fun (s : State) => (s.assay.busy = true ∨ s.regFld assayPage 0x08 0 8 = 0 ∨ s.regBit assayPage 0x01 0 = false)) ({} : State) ∧
    (fun (s : State) (m : Fin 8) (x : WmonIn) => s.wmonOn m = true ∧ (s.wmonLevel m x).isSome = true ∧ (decide ((s.wmonLevel m x).getD 0 < (s.reg wmonPage (0x10 + 2 * m.val)).toNat * 1000000 + (if (s.wmon m).lo then 1638400 else 0)) || decide ((s.reg wmonPage (0x11 + 2 * m.val)).toNat * 1000000 - (if (s.wmon m).hi then 1638400 else 0) < (s.wmonLevel m x).getD 0)) ≠ (s.wmon m).out) (((rg wmonPage 8 0xFF#16).setReg wmonPage 0x10 100#16).setReg wmonPage 0x11 500#16) 1 (WmonIn.value (-1925)) ∧
    (fun (s : State) (m : Fin 8) (x : WmonIn) => s.wmonOn m = true ∧ (s.wmonLevel m x).isSome = true ∧ (decide ((s.wmonLevel m x).getD 0 < (s.reg wmonPage (0x10 + 2 * m.val)).toNat * 1000000 + (if (s.wmon m).lo then 1638400 else 0)) || decide ((s.reg wmonPage (0x11 + 2 * m.val)).toNat * 1000000 - (if (s.wmon m).hi then 1638400 else 0) < (s.wmonLevel m x).getD 0)) = (s.wmon m).out) (((rg wmonPage 8 0xFF#16).setReg wmonPage 0x10 100#16).setReg wmonPage 0x11 500#16) 7 (WmonIn.value 40) ∧
    (fun (s : State) (m : Fin 8) => s.wmonOn m = false) ({} : State) 6 ∧
    (fun (s : State) => PortReady s wmonPage) rdy := by
  dsimp only [PortReady]; decide +kernel

/-- States and operands that meet the hypotheses of FlashesStartEndAndRest, clause by clause. -/
theorem test_meets_flashes_start_end_and_rest_a :
    (fun (s : State) (n : Fin 4) (li : Word) (de : Word) (cy : Nat) => PortReady s chandPage ∧ ((li = 0#16 ∧ de = 0#16) ∨ (s.fab.due = [] ∧ s.fab.pend = 0#16)) ∧ s.regBit chandPage 0x01 0 = true ∧ s.regBit chandPage (sOff n.val 0) 0 = true ∧ allLamps.any (s.lampFlash n) = true ∧ s.flashing = false ∧ (s.str n).holdoff ≤ (s.timeAt cy).time.total ∧ s.pwr.pstate = .run ∧ s.reduced = false ∧ s.chand.cutoff = false ∧ s.chand.stale = 0#2) st 0 0x7#16 0x21c#16 1 ∧
    (fun (s : State) (li : Word) (de : Word) => PortReady s chandPage ∧ ((li = 0#16 ∧ de = 0#16) ∨ (s.fab.due = [] ∧ s.fab.pend = 0#16)) ∧ (s.pwr.pstate ≠ .run ∨ s.reduced = true)) { rdy with pwr := { pstate := .safe, bring := 0 } } 0x973f#16 0xcd81#16 ∧
    (fun (s : State) (n : Fin 4) (li : Word) (de : Word) => PortReady s chandPage ∧ ((li = 0#16 ∧ de = 0#16) ∨ (s.fab.due = [] ∧ s.fab.pend = 0#16)) ∧ s.pwr.pstate = .run ∧ s.reduced = false ∧ (s.regBit chandPage 0x01 0 = false ∨ s.regBit chandPage (sOff n.val 0) 0 = false ∨ allLamps.any (s.lampFlash n) = false)) rdy 3 0xde0d#16 0x225c#16 ∧
    (fun (s : State) (n : Fin 4) (li : Word) (de : Word) (cy : Nat) => PortReady s chandPage ∧ ((li = 0#16 ∧ de = 0#16) ∨ (s.fab.due = [] ∧ s.fab.pend = 0#16)) ∧ s.regBit chandPage 0x01 0 = true ∧ s.regBit chandPage (sOff n.val 0) 0 = true ∧ allLamps.any (s.lampFlash n) = true ∧ s.pwr.pstate = .run ∧ s.reduced = false ∧ (s.flashing = true ∨ (s.timeAt cy).time.total < (s.str n).holdoff ∨ s.chand.cutoff = true ∨ s.chand.stale ≠ 0#2)) ((st.modStr 0 (fun g => { g with inFlash := true })).modChand (fun c => { c with watch := 1#3 })) 0 0x8c5b#16 0x7fff#16 1 := by
  dsimp only [PortReady]; decide +kernel

/-- States and operands that meet the hypotheses of FlashesStartEndAndRest, clause by clause. -/
theorem test_meets_flashes_start_end_and_rest_b :
    (fun (s : State) (n : Fin 4) (m : Fin 4) (l : Fin 16) (cy : Nat) => PortReady s chandPage ∧ s.regBit chandPage 0x01 0 = true ∧ s.regBit chandPage (sOff n.val 0) 0 = true ∧ allLamps.any (s.lampFlash n) = true ∧ s.flashing = false ∧ (s.str n).holdoff ≤ (s.timeAt cy).time.total ∧ s.regBit chandPage (sOff m.val 0) 0 = true ∧ allLamps.any (s.lampFlash m) = true ∧ (s.str m).holdoff ≤ (s.timeAt cy).time.total ∧ s.pwr.pstate = .run ∧ s.reduced = false ∧ s.chand.cutoff = false ∧ s.chand.stale = 0#2 ∧ s.fabricOn = true ∧ s.fab.due = [bitWord l.val] ∧ s.regBit chandPage (sOff m.val 1) 5 = true ∧ s.regFld chandPage (sOff m.val 1) 0 5 = l.val ∧ (∀ k : Fin 4, k ≠ m → s.regBit chandPage (sOff k.val 1) 5 = false)) (((([0, 1, 2, 3].foldl (fun s n => ((s.setReg chandPage (sOff n 0) 0x0F#16).setReg chandPage (sOff n 2) 300#16).setReg chandPage (sOff n 0x10) 5#16) rdy).setReg fabricPage 1 1#16).setReg chandPage (sOff 1 1) 0x20#16).modFab (fun f => { f with due := [1#16] })) 0 1 0 4 ∧
    (fun (s : State) (g : Fin 3) (ti : Nat) => s.flashing = true ∧ s.chand.watch.getLsbD g.val = true ∧ s.chand.ended.getLsbD g.val = false ∧ ti ≤ 100 * s.flashMax ∧ (∀ n : Fin 4, (s.str n).broken = 0#9)) ((st.modStr 0 (fun g => { g with inFlash := true, flashUs := 20, flashCode := 300 })).modChand (fun c => { c with watch := 7#3 })) 0 99 ∧
    (fun (s : State) (g : Fin 3) (ti : Nat) => (s.flashing = false ∨ s.chand.watch.getLsbD g.val = false ∨ s.chand.ended.getLsbD g.val = true ∨ 100 * s.flashMax < ti)) ({} : State) 1 99 ∧
    (fun (s : State) (n : Fin 4) => (s.str n).inFlash = true) ((st.modStr 0 (fun g => { g with inFlash := true })).modChand (fun c => { c with watch := 1#3 })) 0 := by
  dsimp only [PortReady]; decide +kernel

/-- States and operands that meet the hypotheses of FlashesStartEndAndRest, clause by clause. -/
theorem test_meets_flashes_start_end_and_rest_c :
    (fun (s : State) => s.flashing = false) ({} : State) := by
  dsimp only; decide +kernel

/-- States and operands that meet the hypotheses of LampsFadeDimAndFollowTheirColour, clause by clause. -/
theorem test_meets_lamps_fade_dim_and_follow_their_colour :
    (fun (s : State) => PortReady s chandPage) rdy ∧
    (fun (s : State) (n : Fin 4) => s.chandLive = true ∧ (s.str n).fading = true ∧ (s.str n).fadeAt + 1 < (s.str n).fadeLen) (st.modStr 0 (fun g => { g with fading := true, fadeLen := 2 })) 0 ∧
    (fun (s : State) (n : Fin 4) => s.chandLive = true ∧ (s.str n).fading = true ∧ 0 < (s.str n).fadeLen ∧ (s.str n).fadeLen ≤ (s.str n).fadeAt + 1) (st.modStr 0 (fun g => { g with fading := true, fadeLen := 1 })) 0 ∧
    (fun (s : State) (n : Fin 4) => ((s.str n).fading = false ∨ (s.str n).fadeLen = 0)) ({} : State) 2 ∧
    (fun (s : State) (n : Fin 4) => s.chandLive = true ∧ (s.str n).inFlash = false ∧ ((s.str n).fading = false ∨ (s.str n).fadeLen ≠ 0) ∧ s.strOn n = true ∧ s.regFld chandPage 0x1E 0 3 = 0 ∧ (s.str n).broken = 0#9 ∧ (∀ k : Fin 8, (s.lamp n k).level ≤ 4095)) st 0 ∧
    (fun (s : State) (n : Fin 4) => s.chandLive = true ∧ (s.str n).inFlash = false ∧ ((s.str n).fading = false ∨ (s.str n).fadeLen ≠ 0) ∧ s.strOn n = false) rdy 3 ∧
    (fun (s : State) (n : Fin 4) => ((s.str n).inFlash = true ∨ s.chandLive = false)) ({} : State) 2 ∧
    (fun (s : State) => s.chandLive = true ∧ s.chand.dirty = false) rdy ∧
    (fun (s : State) => s.chandLive = true ∧ s.chand.dirty = true) (rdy.modChand (fun c => { c with dirty := true })) := by
  dsimp only [PortReady]; decide +kernel

/-- States and operands that meet the hypotheses of LampFaultsAndHeatAreJudged, clause by clause. -/
theorem test_meets_lamp_faults_and_heat_are_judged_a :
    (fun (s : State) (n : Fin 4) (k : Fin 8) (v : Byte) => s.chandLive = true ∧ s.strLit n = true ∧ k.val < s.lampCount n ∧ s.lampOpens n k = true ∧ ((s.str n).inFlash = false ∨ (s.str n).headroom = false ∨ v.toNat < s.strReg n 7)) (st.modLamp 0 0 (fun l => { l with window := 820 })) 0 0 0xf#8 ∧
    (fun (s : State) (n : Fin 4) (k : Fin 8) (v : Byte) => s.chandLive = true ∧ s.strLit n = true ∧ k.val < s.lampCount n ∧ (s.lamp n k).lit = true ∧ (s.str n).broken = 0#9 ∧ (s.str n).inFlash = true ∧ (s.str n).headroom = true ∧ s.strReg n 7 ≤ v.toNat) ([0, 1, 2, 3, 4, 5, 6, 7].foldl (fun s (k : Fin 8) => s.modLamp 0 k (fun l => { l with lit := true })) ((st.setReg chandPage (sOff 0 7) 20#16).modStr 0 (fun g => { g with inFlash := true, flashCode := 300, headroom := true }))) 0 5 0xff#8 ∧
    (fun (s : State) (n : Fin 4) (k : Fin 8) => (s.strLit n = false ∨ s.lampCount n ≤ k.val ∨ s.lampOpens n k = false)) ({} : State) 2 7 ∧
    (fun (s : State) (n : Fin 4) (k : Fin 8) => k.val < s.lampCount n ∧ (s.str n).broken = 0#9 ∧ (s.str n).bypass = 0#8) ({} : State) 2 7 := by
  dsimp only; decide +kernel

/-- States and operands that meet the hypotheses of LampFaultsAndHeatAreJudged, clause by clause. -/
theorem test_meets_lamp_faults_and_heat_are_judged_b :
    (fun (s : State) (n : Fin 4) (k : Fin 8) (v : Nat) => s.chandLive = true ∧ (s.str n).suspect = 0#9 ∧ (s.str n).broken = 0#9 ∧ s.suspects n (allLamps.map (fun j => (if j = k then some v else (s.lamp n j).sample))) = []) rdy 3 5 50 ∧
    (fun (s : State) (n : Fin 4) => s.chandLive = true ∧ (∀ k : Fin 8, (s.lamp n k).sample = none) ∧ (s.str n).suspect = 0#9) rdy 3 ∧
    (fun (s : State) (n : Fin 4) => s.chandLive = true ∧ (s.str n).inFlash = false) rdy 3 ∧
    (fun (s : State) (n : Fin 4) => s.chandLive = true ∧ (s.str n).inFlash = true ∧ (s.str n).broken = 0#9) ((st.modStr 0 (fun g => { g with inFlash := true })).modChand (fun c => { c with watch := 1#3 })) 0 := by
  dsimp only; decide +kernel

/-- States and operands that meet the hypotheses of LampFaultsAndHeatAreJudged, clause by clause. -/
theorem test_meets_lamp_faults_and_heat_are_judged_c :
    (fun (s : State) => PortReady s chandPage) rdy ∧
    (fun (s : State) (n : Fin 4) (mv : Nat) => (s.str n).tapBusy = true ∧ 1000 < mv ∧ (s.str n).tapWait = 0#9) (rdy.modStr 0 (fun g => { g with tapBusy := true, tapAt := 3 })) 0 1001 ∧
    (fun (s : State) (n : Fin 4) (mv : Nat) => (s.str n).tapBusy = true ∧ mv ≤ 1000 ∧ (s.str n).tapWait = 0#9) (rdy.modStr 0 (fun g => { g with tapBusy := true, tapAt := 3 })) 0 2 ∧
    (fun (s : State) (n : Fin 4) (mv : Nat) (j : Fin 8) => (s.str n).tapBusy = true ∧ 1000 < mv ∧ 1 ≤ j.val ∧ j.val < s.lampCount n ∧ (s.str n).tapWait = 1#9 <<< j.val ∧ (s.str n).suspect.getLsbD j.val = true ∧ (s.str n).broken.getLsbD j.val = false ∧ j.val ≠ (s.str n).tapAt ∧ s.regBit chandPage (sOff n.val 0) 5 = true ∧ s.strLit n = true ∧ s.flashing = false) ((st.setReg chandPage (sOff 0 0) 0x2F#16).modStr 0 (fun g => { g with tapBusy := true, tapAt := 3, suspect := 0x0E#9, tapWait := 2#9 })) 0 1001 1 := by
  dsimp only [PortReady]; decide +kernel

/-- States and operands that meet the hypotheses of LampFaultsAndHeatAreJudged, clause by clause. -/
theorem test_meets_lamp_faults_and_heat_are_judged_d :
    (fun (s : State) (n : Fin 4) => (s.str n).tapBusy = false) ({} : State) 2 ∧
    (fun (s : State) => PortReady s chandPage) rdy ∧
    (fun (s : State) (c : Int) => s.chandLive = true ∧ s.derateSrc = 1 ∧ -1000 < c ∧ c < 1000 ∧ (c ≤ 150 ∨ s.sup.ctrlHot = true)) rdy 40 ∧
    (fun (s : State) (k : Fin 2) => s.chandLive = true ∧ (s.derateSrc = 4 ∨ s.derateSrc = 2 + k.val)) (rg chandPage 0x20 2#16) 0 := by
  dsimp only [PortReady]; decide +kernel

/-- States and operands that meet the hypotheses of LampFaultsAndHeatAreJudged, clause by clause. -/
theorem test_meets_lamp_faults_and_heat_are_judged_e :
    (fun (s : State) (c : Int) => (s.derateSrc ≠ 1 ∨ s.chandLive = false) ∧ (c ≤ 150 ∨ s.sup.ctrlHot = true)) ({} : State) 40 ∧
    (fun (s : State) (k : Fin 2) => (s.chandLive = false ∨ (s.derateSrc ≠ 4 ∧ s.derateSrc ≠ 2 + k.val))) ({} : State) 0 := by
  dsimp only; decide +kernel

/-- States and operands that meet the hypotheses of ChainShiftsBlinksAndBlanks, clause by clause. -/
theorem test_meets_chain_shifts_blinks_and_blanks :
    (fun (s : State) (b : Nat) => s.chainLive = true ∧ b < s.regFld lchainPage 0x08 0 9 ∧ b < 256) rdy 0 ∧
    (fun (s : State) => s.chainLive = false) ({} : State) ∧
    (fun (s : State) => s.chainLive = true) rdy ∧
    (fun (s : State) (us : Nat) => s.chainLive = true ∧ s.sup.vio = true ∧ 1000 ≤ us) rdy 88567 ∧
    (fun (s : State) (us : Nat) => s.sup.vio = true ∧ (s.chainLive = false ∨ us < 1000)) ({} : State) 2 ∧
    (fun (s : State) => s.sup.vio = false) { rdy with sup := { rdy.sup with vio := false } } ∧
    (fun (s : State) (us : Nat) => (s.chainLive = false ∨ us < 1000)) ({} : State) 2 ∧
    (fun (s : State) (ms : Nat) => s.chainLive = true ∧ 1000 ≤ ms) rdy 88567 ∧
    (fun (s : State) => PortReady s lchainPage) rdy := by
  dsimp only [PortReady]; decide +kernel

/-- States and operands that meet the hypotheses of TwinsPairMirrorAndPart, clause by clause. -/
theorem test_meets_twins_pair_mirror_and_part :
    (fun (s : State) => s.pairing = true ∧ s.twin.st ≠ .mirroring ∧ s.twin.ready = true) (rdy.modTwin (fun t => { t with ready := true, seen := some 7#32 })) ∧
    (fun (s : State) => s.pairing = true ∧ s.twin.st ≠ .mirroring ∧ s.twin.ready = false) rdy ∧
    (fun (s : State) => (s.twin.st = .mirroring ∨ s.pairing = false)) ({} : State) ∧
    (fun (s : State) => s.pairing = true ∧ s.twin.st ≠ .mirroring) rdy ∧
    (fun (s : State) (hl : Hello) => s.pairing = true ∧ s.twin.st = .mirroring ∧ (hl.flags.getLsbD 1 = false ∨ s.twin.peerSafe = true ∨ s.regBit twinPage 0x08 1 = false)) (tw id) { serial := 0xe5158718#32, part := 0xffff#16, hash := 0xfffffecd#32, seen := 0xd8ac5a7b#32, flags := 0xb9#8 } ∧
    (fun (s : State) => s.linkOn = true) rdy ∧
    (fun (s : State) (m : Mirror) => s.pairing = true ∧ s.twin.st = .mirroring ∧ m.hash ≠ s.twinHash ∧ (m.flags.getLsbD 1 = false ∨ s.twin.peerSafe = true ∨ s.regBit twinPage 0x08 1 = false)) (tw id) ⟨0#8, 5#32, 7#16, List.replicate 10 ⟨0#32, 0#16, 0#16, 0#16, 0#32⟩, none⟩ ∧
    (fun (s : State) (m : Mirror) => s.pairing = true ∧ s.twin.st = .mirroring ∧ 10 ≤ m.blocks.length) (tw id) ⟨0#8, 5#32, 7#16, List.replicate 10 ⟨0#32, 0#16, 0#16, 0#16, 0#32⟩, none⟩ ∧
    (fun (s : State) => s.pairing = true) rdy ∧
    (fun (s : State) => s.linkOn = true ∧ s.pairing = false) (rg twinPage 8 0#16) ∧
    (fun (s : State) => s.linkOn = true ∧ (s.pairing = false ∨ s.twin.st ≠ .mirroring)) rdy ∧
    (fun (s : State) => PortReady s twinPage ∧ s.pairing = true ∧ (s.twin.st = .mirroring ∨ s.twin.st = .refused)) (tw id) ∧
    (fun (s : State) => s.linkOn = true) rdy ∧
    (fun (s : State) => PortReady s twinPage ∧ s.awake = true ∧ s.part.hasTwin = true) rdy := by
  dsimp only [PortReady]; decide +kernel

/-- States and operands that meet the hypotheses of LossKeepsAnOrphanThatAReplacementLoads, clause by clause. -/
theorem test_meets_loss_keeps_an_orphan_that_a_replacement_loads_a :
    (fun (s : State) => s.pairing = true ∧ s.twin.st = .mirroring ∧ s.regBit twinPage 0x08 5 = false) (tw id) ∧
    (fun (s : State) (n : Ax) => s.pairing = true ∧ s.twin.st = .mirroring ∧ s.regBit twinPage 0x08 5 = true ∧ n ∈ s.present ∧ (s.axis n).mode.moving = true ∧ (s.axis n).stopping = none ∧ (s.axis n).chan.v ≠ 0) (((tw id).setReg twinPage 8 0x21#16).modAxis 0 (fun a => { a with mode := .velocity, chan := { v := 5000 } })) 0 ∧
    (fun (s : State) (n : Ax) => s.pairing = true ∧ s.twin.st = .mirroring ∧ s.regBit twinPage 0x08 5 = true ∧ n ∈ s.present ∧ (s.axis n).mode.moving = true ∧ (s.axis n).stopping = none ∧ (s.axis n).chan.v = 0) (((tw id).setReg twinPage 8 0x21#16).modAxis 0 (fun a => { a with mode := .velocity })) 0 ∧
    (fun (s : State) (n : Ax) => s.pairing = true ∧ s.twin.st = .mirroring ∧ s.regBit twinPage 0x08 5 = true ∧ n ∈ s.present ∧ ((s.axis n).stopping.isSome = true ∨ (s.axis n).mode = .parked ∨ (s.axis n).mode = .hold)) ((tw id).setReg twinPage 8 0x21#16) 9 := by
  dsimp only; decide +kernel

/-- States and operands that meet the hypotheses of LossKeepsAnOrphanThatAReplacementLoads, clause by clause. -/
theorem test_meets_loss_keeps_an_orphan_that_a_replacement_loads_b :
    (fun (s : State) (n : Ax) => s.pairing = true ∧ s.twin.st = .mirroring ∧ s.regBit twinPage 0x08 5 = true ∧ n ∈ s.present ∧ (s.axis n).mode = .characterise ∧ (s.axis n).char.ending ≠ some .parked) (((tw id).setReg twinPage 8 0x21#16).modAxis 0 (fun a => { a with mode := .characterise })) 0 ∧
    (fun (s : State) => s.pairing = true ∧ s.twin.st = .mirroring ∧ s.regBit twinPage 0x08 5 = true ∧ s.gate.st = .run ∧ s.gate.chan.v ≠ 0) (((tw id).setReg twinPage 8 0x21#16).modGate (fun g => { g with st := .run, chan := { g.chan with v := 5000 } })) ∧
    (fun (s : State) => s.pairing = true ∧ s.twin.st = .mirroring ∧ s.regBit twinPage 0x08 5 = true ∧ (s.gate.st = .precharge ∨ (s.gate.st = .run ∧ s.gate.chan.v = 0))) (((tw id).setReg twinPage 8 0x21#16).modGate (fun g => { g with st := .precharge })) ∧
    (fun (s : State) => (s.pairing = false ∨ s.twin.st ≠ .mirroring)) ({} : State) := by
  dsimp only; decide +kernel

/-- States and operands that meet the hypotheses of LossKeepsAnOrphanThatAReplacementLoads, clause by clause. -/
theorem test_meets_loss_keeps_an_orphan_that_a_replacement_loads_c :
    (fun (s : State) => s.pairing = true ∧ s.twin.st = .mirroring ∧ s.twin.held = false ∧ s.twin.offer = none) (tw id) ∧
    (fun (s : State) => (s.pairing = false ∨ s.twin.st ≠ .mirroring)) ({} : State) ∧
    (fun (s : State) => s.twin.load = true) (tw (fun t => { t with load := true })) ∧
    (fun (s : State) => s.twin.load = false) ({} : State) := by
  dsimp only; decide +kernel

/-- States and operands that meet the hypotheses of LossKeepsAnOrphanThatAReplacementLoads, clause by clause. -/
theorem test_meets_loss_keeps_an_orphan_that_a_replacement_loads_d :
    (fun (s : State) => PortReady s twinPage) rdy ∧
    (fun (s : State) => PortReady s twinPage ∧ s.part.hasTwin = true) rdy ∧
    (fun (s : State) => PortReady s twinPage) rdy := by
  dsimp only [PortReady]; decide +kernel

/-- States and operands that meet the hypotheses of TwinsStopAndPassOrphansAndConfirm, clause by clause. -/
theorem test_meets_twins_stop_and_pass_orphans_and_confirm :
    (fun (s : State) (n : Ax) => s.pairing = true ∧ s.twin.st = .mirroring ∧ s.regBit twinPage 0x08 1 = true ∧ s.twin.peerSafe = false ∧ n ∈ s.present ∧ (s.axis n).mode.moving = true ∧ (s.axis n).stopping = none) (((tw id).setReg twinPage 8 0x23#16).modAxis 0 (fun a => { a with mode := .velocity, chan := { v := 5000 } })) 0 ∧
    (fun (s : State) (n : Ax) => s.pairing = true ∧ s.twin.st = .mirroring ∧ s.regBit twinPage 0x08 1 = true ∧ s.twin.peerSafe = false ∧ n ∈ s.present ∧ (s.axis n).mode.moving = true ∧ (s.axis n).stopping = none) (((tw id).setReg twinPage 8 0x23#16).modAxis 0 (fun a => { a with mode := .velocity, chan := { v := 5000 } })) 0 ∧
    (fun (s : State) => s.pairing = true ∧ s.twin.st = .mirroring ∧ (s.regBit twinPage 0x08 1 = false ∨ s.twin.peerSafe = true)) (tw id) ∧
    (fun (s : State) => s.pairing = true ∧ s.twin.st = .mirroring ∧ s.twin.held = true ∧ s.regBit twinPage 0x08 2 = true ∧ s.twin.offering = false ∧ s.twin.last.isSome = true) ((tw (fun t => { t with held := true, last := some ⟨0#8, 5#32, 7#16, [], none⟩ })).setReg twinPage 8 0x25#16) ∧
    (fun (s : State) => s.pairing = true ∧ s.twin.st = .mirroring ∧ s.twin.offering = true) ((tw (fun t => { t with offering := true })).setReg twinPage 8 1#16) ∧
    (fun (s : State) => s.pairing = true ∧ s.twin.st = .mirroring ∧ s.twin.rx.length = 4) ((tw (fun t => { t with rx := List.replicate 4 [] })).setReg twinPage 8 1#16) ∧
    (fun (s : State) => s.pairing = true ∧ s.twin.st = .mirroring ∧ s.twin.asked = true) ((tw (fun t => { t with asked := true })).setReg twinPage 8 1#16) ∧
    (fun (s : State) => s.pairing = true ∧ s.twin.st = .mirroring ∧ s.twin.asked = false) (tw id) ∧
    (fun (s : State) (c : Fin 4) (n : Ax) (held : Nat) (cy : Nat) => s.encLive c.val = true ∧ ((s.encStood c.val cy).enc c.val).freshI = false ∧ (((s.encStood c.val cy).enc c.val).i = false ∨ ((s.encStood c.val cy).enc c.val).pinI = true) ∧ (s.filtSamples c.val + 1) * s.filtPeriod c.val ≤ held ∧ s.encMode c.val ≠ 0 ∧ (s.regBit tallyPage (eOff c.val 0) 11 = false ∨ (((s.encStood c.val cy).enc c.val).a = true ∧ ((s.encStood c.val cy).enc c.val).b = true)) ∧ s.encMode c.val = 1 ∧ n ∈ s.present ∧ s.bound n = true ∧ s.regFld (axPage n) 0x35 0 2 = c.val ∧ (s.axis n).uncertain = true ∧ s.regBit twinPage 0x08 4 = true) (((rg (axPage 0) 0x35 4#16).modAxis 0 (fun a => { a with uncertain := true })).setReg twinPage 8 0x10#16) 0 0 32 0 := by
  dsimp only; decide +kernel
end Sys2Proof.Tests
end

section
/-! SUPPORT. What a write to a page of an axis or of a bridge neither uses nor changes: the host port and the words of an image.
Every operation that such a write can reach is shown to commute with an exchange of the two; so do the words of a group (R72). -/

set_option Elab.async false

namespace Sys2Proof.Machine

open Sys2Proof.Safety

/-- The state with another host port, and with the words of an image under way rewritten by `h`. -/
def State.swapPort (s : State) (p : Spi) (h : List Word → List Word) : State :=
  { s with spi := p, nvs := { s.nvs with image := s.nvs.image.map h } }

/-- A page that a group delivers to: one of an axis or of a bridge (R72). -/
def MemberPage (q : Nat) : Prop := ∃ n : Ax, q = axPage n ∨ q = brPage n

section Swap
variable (s : State) (p : Spi) (h : List Word → List Word)

/-! ### Reads

The proofs stand in brackets so that `simp` rewrites by them with a proof, not by unfolding: the tests of an `if` that it rewrites
then keep a decision procedure of their own. -/

@[simp] theorem State.swapPort_sup : (s.swapPort p h).sup = s.sup := (rfl)
@[simp] theorem State.swapPort_time : (s.swapPort p h).time = s.time := (rfl)
@[simp] theorem State.swapPort_stopN : (s.swapPort p h).stopN = s.stopN := (rfl)
@[simp] theorem State.swapPort_reg (q o : Nat) : (s.swapPort p h).reg q o = s.reg q o := (rfl)
@[simp] theorem State.swapPort_regBit (q o k : Nat) : (s.swapPort p h).regBit q o k = s.regBit q o k := (rfl)
@[simp] theorem State.swapPort_regFld (q o l w : Nat) : (s.swapPort p h).regFld q o l w = s.regFld q o l w := (rfl)
@[simp] theorem State.swapPort_wide (q o : Nat) : (s.swapPort p h).wide q o = s.wide q o := (rfl)
@[simp] theorem State.swapPort_heldLow (q o : Nat) : (s.swapPort p h).heldLow q o = s.heldLow q o := (rfl)
@[simp] theorem State.swapPort_unlocked (q : Nat) : (s.swapPort p h).unlocked q = s.unlocked q := (rfl)
@[simp] theorem State.swapPort_unitBusy (q : Nat) : (s.swapPort p h).unitBusy q = s.unitBusy q := (rfl)
@[simp] theorem State.swapPort_axis (n : Ax) : (s.swapPort p h).axis n = s.axis n := (rfl)
@[simp] theorem State.swapPort_brg (n : Ax) : (s.swapPort p h).brg n = s.brg n := (rfl)
@[simp] theorem State.swapPort_present : (s.swapPort p h).present = s.present := (rfl)
@[simp] theorem State.swapPort_awake : (s.swapPort p h).awake = s.awake := (rfl)
@[simp] theorem State.swapPort_mtUs : (s.swapPort p h).mtUs = s.mtUs := (rfl)
@[simp] theorem State.swapPort_dirInv (n : Ax) : (s.swapPort p h).dirInv n = s.dirInv n := (rfl)
@[simp] theorem State.swapPort_axisFrozen (n : Ax) : (s.swapPort p h).axisFrozen n = s.axisFrozen n := (rfl)
@[simp] theorem State.swapPort_stopLimits (n : Ax) : (s.swapPort p h).stopLimits n = s.stopLimits n := (rfl)
@[simp] theorem State.swapPort_fill (n : Ax) : (s.swapPort p h).fill n = s.fill n := (rfl)
@[simp] theorem State.swapPort_outsideLimits (n : Ax) : (s.swapPort p h).outsideLimits n = s.outsideLimits n := (rfl)
@[simp] theorem State.swapPort_encQuadOk (c : Nat) : (s.swapPort p h).encQuadOk c = s.encQuadOk c := (rfl)
@[simp] theorem State.swapPort_bankInUse (k : Nat) : (s.swapPort p h).bankInUse k = s.bankInUse k := (rfl)
@[simp] theorem State.swapPort_bankValid (k : Nat) : (s.swapPort p h).bankValid k = s.bankValid k := (rfl)
@[simp] theorem State.swapPort_resUsable (n : Ax) : (s.swapPort p h).resUsable n = s.resUsable n := (rfl)
@[simp] theorem State.swapPort_axisPayload (n : Ax) : (s.swapPort p h).axisPayload n = s.axisPayload n := (rfl)
@[simp] theorem State.swapPort_asks (q : ProtPage) : (s.swapPort p h).asks q = s.asks q := (rfl)
@[simp] theorem State.swapPort_deadNs (q : ProtPage) : (s.swapPort p h).deadNs q = s.deadNs q := (rfl)
@[simp] theorem State.swapPort_chops (n : Ax) : (s.swapPort p h).chops n = s.chops n := (rfl)
@[simp] theorem State.swapPort_chopSet (n : Ax) (f : Phase) : (s.swapPort p h).chopSet n f = s.chopSet n f := (rfl)
@[simp] theorem State.swapPort_stagedChop (n : Ax) : (s.swapPort p h).stagedChop n = s.stagedChop n := (rfl)
@[simp] theorem State.swapPort_brgSwitchOn (n : Ax) (k : Fin 8) : (s.swapPort p h).brgSwitchOn n k = s.brgSwitchOn n k := (rfl)
@[simp] theorem State.swapPort_scForce (q : ProtPage) (k : Nat) (w : Sw) : (s.swapPort p h).scForce q k w = s.scForce q k w := (rfl)
@[simp] theorem State.swapPort_mram : (s.swapPort p h).nvs.mram = s.nvs.mram := (rfl)
@[simp] theorem State.swapPort_mramErr : (s.swapPort p h).nvs.mramErr = s.nvs.mramErr := (rfl)
@[simp] theorem State.swapPort_image : (s.swapPort p h).nvs.image = s.nvs.image.map h := (rfl)

@[simp] theorem State.swapPort_nvsIdle : (s.swapPort p h).nvsIdle = s.nvsIdle := by
  unfold State.nvsIdle State.nvsFree
  rw [show (s.swapPort p h).nvs.image = s.nvs.image.map h from rfl, Option.isNone_map]
  rfl

/-! ### Updates -/

@[simp] theorem State.ite_swapPort (c : Prop) {_ : Decidable c} (t : State) :
    (if c then s.swapPort p h else t.swapPort p h) = (if c then s else t).swapPort p h := by split <;> rfl

@[simp] theorem State.setReg_swapPort (q o : Nat) (v : Word) :
    (s.swapPort p h).setReg q o v = (s.setReg q o v).swapPort p h := (rfl)
@[simp] theorem State.setFld_swapPort (q o l w v : Nat) :
    (s.swapPort p h).setFld q o l w v = (s.setFld q o l w v).swapPort p h := (rfl)
@[simp] theorem State.setWide_swapPort (q o : Nat) (v : Wide) :
    (s.swapPort p h).setWide q o v = (s.setWide q o v).swapPort p h := (rfl)
@[simp] theorem State.event_swapPort (q k : Nat) : (s.swapPort p h).event q k = (s.event q k).swapPort p h := (rfl)
@[simp] theorem State.eventIf_swapPort (c : Bool) (q k : Nat) :
    (s.swapPort p h).eventIf c q k = (s.eventIf c q k).swapPort p h := by cases c <;> rfl
@[simp] theorem State.resetPage_swapPort (q : Nat) (keep : Nat → Bool) :
    (s.swapPort p h).resetPage q keep = (s.resetPage q keep).swapPort p h := (rfl)
@[simp] theorem State.setUnlock_swapPort (q : Nat) (b : Bool) :
    (s.swapPort p h).setUnlock q b = (s.setUnlock q b).swapPort p h := (rfl)
@[simp] theorem State.setUnitReset_swapPort (q : Nat) (b : Bool) :
    (s.swapPort p h).setUnitReset q b = (s.setUnitReset q b).swapPort p h := (rfl)
@[simp] theorem State.holdLow_swapPort (q o : Nat) (v : Word) :
    (s.swapPort p h).holdLow q o v = (s.holdLow q o v).swapPort p h := (rfl)
@[simp] theorem State.dropLow_swapPort (q o : Nat) : (s.swapPort p h).dropLow q o = (s.dropLow q o).swapPort p h := (rfl)
@[simp] theorem State.setAxis_swapPort (n : Ax) (a : Axis) :
    (s.swapPort p h).setAxis n a = (s.setAxis n a).swapPort p h := (rfl)
@[simp] theorem State.modAxis_swapPort (n : Ax) (f : Axis → Axis) :
    (s.swapPort p h).modAxis n f = (s.modAxis n f).swapPort p h := (rfl)
@[simp] theorem State.modLedger_swapPort (n : Ax) (f : Ledger → Ledger) :
    (s.swapPort p h).modLedger n f = (s.modLedger n f).swapPort p h := (rfl)
@[simp] theorem State.modBrg_swapPort (n : Ax) (f : Bridge → Bridge) :
    (s.swapPort p h).modBrg n f = (s.modBrg n f).swapPort p h := (rfl)
@[simp] theorem State.modPh_swapPort (n : Ax) (q : Phase) (f : ChopPh → ChopPh) :
    (s.swapPort p h).modPh n q f = (s.modPh n q f).swapPort p h := (rfl)
@[simp] theorem State.phEdge_swapPort (n : Ax) (q : Phase) (t : Nat) (own : Bool) :
    (s.swapPort p h).phEdge n q t own = (s.phEdge n q t own).swapPort p h := (rfl)
@[simp] theorem State.modSw_swapPort (q : ProtPage) (m : BitVec 8) (f : Sw → Sw) :
    (s.swapPort p h).modSw q m f = (s.modSw q m f).swapPort p h := by cases q <;> rfl
@[simp] theorem State.modChar_swapPort (n : Ax) (f : CharRun → CharRun) :
    (s.swapPort p h).modChar n f = (s.modChar n f).swapPort p h := (rfl)
@[simp] theorem State.putBank_swapPort (k : Nat) (l : List Int) :
    (s.swapPort p h).putBank k l = (s.putBank k l).swapPort p h := (rfl)
@[simp] theorem State.setCharResult_swapPort (n : Ax) (r : Nat) :
    (s.swapPort p h).setCharResult n r = (s.setCharResult n r).swapPort p h := (rfl)
@[simp] theorem State.axisRefuse_swapPort (n : Ax) (k : Nat) :
    (s.swapPort p h).axisRefuse n k = (s.axisRefuse n k).swapPort p h := (rfl)
@[simp] theorem State.paramClamped_swapPort (n : Ax) :
    (s.swapPort p h).paramClamped n = (s.paramClamped n).swapPort p h := (rfl)
@[simp] theorem State.nvsRefuse_swapPort (k : Nat) :
    (s.swapPort p h).nvsRefuse k = (s.nvsRefuse k).swapPort p h := (rfl)
@[simp] theorem State.draw_swapPort (k : Nat) :
    (s.swapPort p h).draw k = ((s.draw k).1, (s.draw k).2.swapPort p h) := (rfl)

@[simp] theorem State.plainWrite_swapPort (q o : Nat) (v : Word) (u : Bool) :
    (s.swapPort p h).plainWrite q o v u = ((s.plainWrite q o v u).1.swapPort p h, (s.plainWrite q o v u).2) := by
  unfold State.plainWrite
  cases regDef (pageKind q) o <;> rfl

/-! ### Switches of a bridge -/

@[simp] theorem State.brgHalfFollow_swapPort (n : Ax) (ask : BitVec 8) (j : Fin 4) :
    (s.swapPort p h).brgHalfFollow n ask j = (s.brgHalfFollow n ask j).swapPort p h := by
  simp [State.brgHalfFollow]

@[simp] theorem State.brgFollow_swapPort (n : Ax) : (s.swapPort p h).brgFollow n = (s.brgFollow n).swapPort p h :=
  List.foldl_hom (fun t : State => t.swapPort p h) (fun t j => t.brgHalfFollow_swapPort p h n _ j)

@[simp] theorem State.interlocked_swapPort (q : ProtPage) (b : Bool) :
    (s.swapPort p h).interlocked q b = (s.interlocked q b).swapPort p h := by
  cases b <;> rfl

@[simp] theorem State.brgHalf_swapPort (n : Ax) (j : Fin 4) (ask : BitVec 8) (t : Nat) :
    (s.swapPort p h).brgHalf n j ask t = (s.brgHalf n j ask t).swapPort p h := by
  simp [State.brgHalf]

@[simp] theorem State.swEdge_swapPort (n : Ax) (q : Phase) (t : Nat) (f : ChopPh → ChopPh) :
    (s.swapPort p h).swEdge n q t f = (s.swEdge n q t f).swapPort p h := by
  cases q <;> simp [State.swEdge]

@[simp] theorem State.phaseTime_swapPort (n : Ax) (q : Phase) (t : Nat) :
    (s.swapPort p h).phaseTime n q t = (s.phaseTime n q t).swapPort p h := by
  unfold State.phaseTime
  simp only [State.swapPort_brg, State.swapPort_chopSet]
  cases ((s.brg n).ph q).slowAt (s.chopSet n q) <;> simp

@[simp] theorem State.dieSync_swapPort (n : Ax) : (s.swapPort p h).dieSync n = (s.dieSync n).swapPort p h := by
  simp [State.dieSync, State.dieReach, State.dieTime]

@[simp] theorem State.scChange_swapPort (n : Ax) : (s.swapPort p h).scChange n = (s.scChange n).swapPort p h := by
  simp only [State.scChange, State.dieSync_swapPort]
  exact List.foldl_hom (fun t : State => t.swapPort p h) (fun t k => by simp)

/-! ### Modes of an axis -/

@[simp] theorem State.ledgFlag_swapPort (n : Ax) (k : Nat) : (s.swapPort p h).ledgFlag n k = (s.ledgFlag n k).swapPort p h := (rfl)

@[simp] theorem State.ledgerEnter_swapPort (n : Ax) : (s.swapPort p h).ledgerEnter n = (s.ledgerEnter n).swapPort p h := by
  simp [State.ledgerEnter]

@[simp] theorem State.bridgeOff_swapPort (n : Ax) : (s.swapPort p h).bridgeOff n = (s.bridgeOff n).swapPort p h := by
  simp only [State.bridgeOff, State.modBrg_swapPort, State.setReg_swapPort]

@[simp] theorem State.followEnter_swapPort (n : Ax) : (s.swapPort p h).followEnter n = (s.followEnter n).swapPort p h := (rfl)

@[simp] theorem State.enterMode_swapPort (n : Ax) (m : Mode) :
    (s.swapPort p h).enterMode n m = (s.enterMode n m).swapPort p h := by
  cases m <;> simp [State.enterMode, State.ledgerLeave]

@[simp] theorem State.startStop_swapPort (n : Ax) (m : Mode) :
    (s.swapPort p h).startStop n m = (s.startStop n m).swapPort p h := by
  unfold State.startStop
  cases hs : (s.axis n).stopping <;> simp [hs, State.stopDone, State.ledgerPause]

@[simp] theorem State.freezeAxis_swapPort (n : Ax) : (s.swapPort p h).freezeAxis n = (s.freezeAxis n).swapPort p h := by
  simp [State.freezeAxis, State.haltAxis, State.charInterrupt, State.charEndIn, State.ledgerPause]

/-! ### The store's record of an axis -/

@[simp] theorem State.mramRead_swapPort (a : Nat) :
    (s.swapPort p h).mramRead a = ((s.mramRead a).1, (s.mramRead a).2.1, (s.mramRead a).2.2.swapPort p h) := by
  simp only [State.mramRead, State.swapPort_mram, State.swapPort_mramErr, State.draw_swapPort]
  split
  · rfl
  · by_cases drawn : 3 ≤ popcount22 (errMask s.nvs.mramErr a)
    · simp only [drawn, decide_true, if_true]
      split <;> simp
    · simp only [drawn, decide_false, Bool.false_eq_true, if_false]
      split <;> simp

@[simp] theorem State.mramReads_swapPort (a k : Nat) :
    (s.swapPort p h).mramReads a k = ((s.mramReads a k).1, (s.mramReads a k).2.1, (s.mramReads a k).2.2.swapPort p h) := by
  induction k generalizing s a with
  | zero => simp only [State.mramReads]
  | succ k ih => simp only [State.mramReads, State.mramRead_swapPort, ih]

@[simp] theorem State.slotCheck_swapPort (ty i a m : Nat) :
    (s.swapPort p h).slotCheck ty i a m = ((s.slotCheck ty i a m).1, (s.slotCheck ty i a m).2.swapPort p h) := by
  simp only [State.slotCheck, State.mramReads_swapPort]
  split
  · simp only
  · split <;> simp only

@[simp] theorem State.currentRec_swapPort (ty i : Nat) :
    (s.swapPort p h).currentRec ty i = ((s.currentRec ty i).1, (s.currentRec ty i).2.1, (s.currentRec ty i).2.2.swapPort p h) := by
  unfold State.currentRec
  cases slotMap ty i with
  | none => simp only
  | some m =>
    simp only [State.slotCheck_swapPort]
    split
    · split <;> simp only
    all_goals simp only

theorem State.modJob_swapPort (j : NvsJob) :
    (s.swapPort p h).modNvs (fun g => { g with job := j }) = (s.modNvs (fun g => { g with job := j })).swapPort p h := (rfl)

@[simp] theorem State.nvsWriteAxis_swapPort (n : Ax) (l : List Word) :
    (s.swapPort p h).nvsWriteAxis n l = (s.nvsWriteAxis n l).swapPort p h := by
  simp only [State.nvsWriteAxis, State.writeJob, State.currentRec_swapPort, State.swapPort_mtUs, State.modJob_swapPort]

@[simp] theorem State.saveNow_swapPort (n : Ax) : (s.swapPort p h).saveNow n = (s.saveNow n).swapPort p h := by
  simp only [State.saveNow, State.swapPort_nvsIdle, State.swapPort_sup]
  split <;> simp

@[simp] theorem State.acceptNow_swapPort (n : Ax) :
    (s.swapPort p h).acceptNow n = ((s.acceptNow n).1, (s.acceptNow n).2.swapPort p h) := by
  simp only [State.acceptNow, State.swapPort_regFld, State.swapPort_reg, State.swapPort_axis, State.swapPort_bankInUse]
  split <;> simp

@[simp] theorem State.charCmd_swapPort (n : Ax) (v : Word) : (s.swapPort p h).charCmd n v = (s.charCmd n v).swapPort p h := by
  simp [State.charCmd]

/-! ### Writes of an axis page -/

@[simp] theorem State.axisCmd_swapPort (n : Ax) (v : Word) : (s.swapPort p h).axisCmd n v = (s.axisCmd n v).swapPort p h := by
  simp [State.axisCmd, State.stopCmd]

@[simp] theorem State.limitsNow_swapPort (n : Ax) : (s.swapPort p h).limitsNow n = (s.limitsNow n).swapPort p h := by
  simp [State.limitsNow]

@[simp] theorem State.axisCfg_swapPort (n : Ax) (v : Word) : (s.swapPort p h).axisCfg n v = (s.axisCfg n v).swapPort p h := by
  simp [State.axisCfg]

@[simp] theorem State.encBind_swapPort (n : Ax) (v : Word) : (s.swapPort p h).encBind n v = (s.encBind n v).swapPort p h := by
  simp [State.encBind]

@[simp] theorem State.axisWrite_swapPort (n : Ax) (o : Nat) (v : Word) (u : Bool) :
    (s.swapPort p h).axisWrite n o v u = (s.axisWrite n o v u).swapPort p h := by
  unfold State.axisWrite
  split <;> simp [State.modeRequest]

@[simp] theorem State.jogWrite_swapPort (n : Ax) (o : Nat) (v : Wide) :
    (s.swapPort p h).jogWrite n o v = (s.jogWrite n o v).swapPort p h := by
  unfold State.jogWrite
  split <;> simp

@[simp] theorem State.axisWideWrite_swapPort (n : Ax) (o : Nat) (v : Wide) :
    (s.swapPort p h).axisWideWrite n o v = (s.axisWideWrite n o v).swapPort p h := by
  unfold State.axisWideWrite
  split <;> simp [State.vcmdNow, State.posLimit]

@[simp] theorem State.axisEnable_swapPort (n : Ax) (en : Bool) :
    (s.swapPort p h).axisEnable n en = (s.axisEnable n en).swapPort p h := by
  cases en
  · simp [State.axisEnable]
  · unfold State.axisEnable
    rw [if_pos rfl, if_pos rfl]
    exact State.brgFollow_swapPort { s.setFld (axPage n) 1 0 1 1 with live := s.live ||| (1#10 <<< n.val) } p h n

@[simp] theorem State.calWords_swapPort (q : Nat) : (s.swapPort p h).calWords q = (s.calWords q).swapPort p h :=
  List.foldl_hom (fun t : State => t.swapPort p h) (fun t e => by simp)

@[simp] theorem State.axisReset_swapPort (n : Ax) : (s.swapPort p h).axisReset n = (s.axisReset n).swapPort p h := by
  simp [State.axisReset]

/-! ### Writes of a bridge page -/

@[simp] theorem State.levelWrite_swapPort (n : Ax) (o : Nat) (v : Word) :
    (s.swapPort p h).levelWrite n o v = (s.levelWrite n o v).swapPort p h := by
  simp [State.levelWrite, State.clampFresh, State.clampNote]

@[simp] theorem State.tableSelect_swapPort (n : Ax) (v : Word) :
    (s.swapPort p h).tableSelect n v = (s.tableSelect n v).swapPort p h := by
  simp [State.tableSelect]

@[simp] theorem State.readbackSelect_swapPort (n : Ax) (v : Word) :
    (s.swapPort p h).readbackSelect n v = (s.readbackSelect n v).swapPort p h := by
  simp [State.readbackSelect]

@[simp] theorem State.applyChop_swapPort (n : Ax) : (s.swapPort p h).applyChop n = (s.applyChop n).swapPort p h := by
  simp only [State.applyChop, State.swapPort_stagedChop]
  split <;> simp

@[simp] theorem State.brgWrite_swapPort (n : Ax) (o : Nat) (v : Word) (u : Bool) :
    (s.swapPort p h).brgWrite n o v u = (s.brgWrite n o v u).swapPort p h := by
  unfold State.brgWrite
  split <;> simp

@[simp] theorem State.brgReset_swapPort (n : Ax) : (s.swapPort p h).brgReset n = (s.brgReset n).swapPort p h := by
  simp [State.brgReset, State.protReset]

/-! ### Writes by page -/

theorem State.peek_axis_swapPort (n : Ax) (o : Nat) : (s.swapPort p h).peek false (axPage n) o = s.peek false (axPage n) o := by
  unfold State.peek State.unitRead
  simp only [pageKind_axPage]
  rfl

theorem State.unitWrite_axis_swapPort (n : Ax) (o : Nat) (v : Word) (u : Bool) :
    (s.swapPort p h).unitWrite (axPage n) o v u = (s.unitWrite (axPage n) o v u).swapPort p h := by
  simp [State.unitWrite, State.wideWrite, State.wordWrite, State.peek_axis_swapPort]

theorem State.unitWrite_brg_swapPort (n : Ax) (o : Nat) (v : Word) (u : Bool) :
    (s.swapPort p h).unitWrite (brPage n) o v u = (s.unitWrite (brPage n) o v u).swapPort p h := by
  simp [State.unitWrite, State.wordWrite, isHeldLow]

theorem State.ctrlWrite_axis_swapPort (n : Ax) (v : Word) :
    (s.swapPort p h).ctrlWrite (axPage n) v = (s.ctrlWrite (axPage n) v).swapPort p h := by
  simp [State.ctrlWrite, State.unitResetNow, State.resetAccepted, State.unitClear, State.resetRefused, State.enableWrite]

theorem State.ctrlWrite_brg_swapPort (n : Ax) (v : Word) :
    (s.swapPort p h).ctrlWrite (brPage n) v = (s.ctrlWrite (brPage n) v).swapPort p h := by
  simp [State.ctrlWrite, State.unitResetNow, State.resetAccepted, State.unitClear, State.resetRefused, State.enableWrite,
    alwaysEnabled]

theorem MemberPage.offsetWrite_swapPort {q : Nat} (hq : MemberPage q) (o : Nat) (v : Word) (u : Bool) :
    (s.swapPort p h).offsetWrite q o v u = (s.offsetWrite q o v u).swapPort p h := by
  unfold State.offsetWrite
  obtain ⟨n, rfl | rfl⟩ := hq
  · split <;> simp [State.ctrlWrite_axis_swapPort, State.unitWrite_axis_swapPort]
  · split <;> simp [State.ctrlWrite_brg_swapPort, State.unitWrite_brg_swapPort]

theorem axPage_lt (n : Ax) : axPage n < 0x1A := by unfold axPage; omega
theorem brPage_lt (n : Ax) : brPage n < 0x2A := by unfold brPage; omega

theorem MemberPage.lt {q : Nat} (hq : MemberPage q) : q < 0x2A := by
  obtain ⟨n, rfl | rfl⟩ := hq
  · have := axPage_lt n; omega
  · exact brPage_lt n

theorem MemberPage.ne_table {q : Nat} (hq : MemberPage q) : q ≠ tablePage := by
  have := hq.lt; unfold tablePage; omega

theorem MemberPage.writeReg_swapPort {q : Nat} (hq : MemberPage q) (o : Nat) (v : Word) :
    (s.swapPort p h).writeReg q o v = (s.writeReg q o v).swapPort p h := by
  simp [State.writeReg, hq.ne_table, hq.offsetWrite_swapPort]

/-- A word for a group neither uses nor changes the host port, nor the words of an image. -/
theorem State.groupWrite_swapPort (ms : List Nat) (hm : ∀ q ∈ ms, MemberPage q) (o : Nat) (v : Word) :
    (s.swapPort p h).groupWrite ms o v = (s.groupWrite ms o v).swapPort p h := by
  unfold State.groupWrite
  split
  · rfl
  · induction ms generalizing s with
    | nil => rfl
    | cons q ms ih =>
      obtain ⟨hq, hm⟩ := List.forall_mem_cons.mp hm
      simp only [List.foldl_cons, State.swapPort_unitBusy, hq.writeReg_swapPort, State.ite_swapPort]
      exact ih _ hm

end Swap

theorem State.swapPort_id (s : State) (p : Spi) : s.swapPort p id = { s with spi := p } := by
  simp [State.swapPort]

theorem State.swapPort_self (s : State) : s.swapPort s.spi id = s := by
  rw [State.swapPort_id]

theorem State.groupWrite_spi (s : State) (ms : List Nat) (hm : ∀ q ∈ ms, MemberPage q) (o : Nat) (v : Word) :
    (s.groupWrite ms o v).spi = s.spi := by
  have h := s.groupWrite_swapPort s.spi id ms hm o v
  rw [s.swapPort_self] at h
  rw [h]; rfl

/-- Lengthening the words of an image changes no state that has none, so that what a group's word leaves there holds an image equal
to a longer one: none. -/
theorem State.groupWrite_image (s : State) (ms : List Nat) (hm : ∀ q ∈ ms, MemberPage q) (o : Nat) (v : Word)
    (hi : s.nvs.image = none) : (s.groupWrite ms o v).nvs.image = none := by
  have same : s.swapPort s.spi (0#16 :: ·) = s := by
    unfold State.swapPort
    rw [hi, Option.map_none, ← hi]
  have h := congrArg (fun t : State => t.nvs.image) (s.groupWrite_swapPort s.spi (0#16 :: ·) ms hm o v)
  rw [same] at h
  change (s.groupWrite ms o v).nvs.image = (s.groupWrite ms o v).nvs.image.map (0#16 :: ·) at h
  cases hg : (s.groupWrite ms o v).nvs.image with
  | none => rfl
  | some l => simp [hg] at h

end Sys2Proof.Machine
end

section
/-! SUPPORT. A word for a group, member by member (R72, R75), and what single registers of the members take. -/

set_option Elab.async false

namespace Sys2Proof.Machine

open Sys2Proof.Safety

/-! ### The members that a word reaches -/

/-- What a write leaves of an observation, its word leaves for a group. -/
theorem State.groupWrite_keeps {α : Type} (get : State → α) (ms : List Nat) (o : Nat) (v : Word) (s : State)
    (hk : ∀ u : State, ∀ r ∈ ms, get (u.writeReg r o v) = get u) : get (s.groupWrite ms o v) = get s := by
  unfold State.groupWrite
  split
  · rfl
  · induction ms generalizing s with
    | nil => rfl
    | cons r ms ih =>
      obtain ⟨hr, hk⟩ : (∀ u : State, get (u.writeReg r o v) = get u) ∧ ∀ u : State, ∀ q ∈ ms, get (u.writeReg q o v) = get u := by
        simpa [forall_and] using hk
      rw [List.foldl_cons, ih _ hk]
      split
      · rfl
      · exact hr s

/-- Where the writes to the other members leave an observation and the member's readiness, the member's own write alone shows. -/
theorem State.groupWrite_at {α : Type} (get : State → α) {ms : List Nat} {q o : Nat} {v : Word} {s : State} (hnd : ms.Nodup)
    (hq : q ∈ ms) (h0 : o ≠ 0) (h2 : o ≠ 2) (hb : s.unitBusy q = false)
    (hk : ∀ u : State, ∀ r ∈ ms, r ≠ q → get (u.writeReg r o v) = get u ∧ (u.writeReg r o v).unitBusy q = u.unitBusy q) :
    ∃ u : State, get u = get s ∧ get (s.groupWrite ms o v) = get (u.writeReg q o v) := by
  obtain ⟨l, l', rfl⟩ := List.append_of_mem hq
  obtain ⟨hl, hl'⟩ : q ∉ l ∧ q ∉ l' := by
    simp only [List.nodup_append, List.nodup_cons] at hnd
    exact ⟨fun h => hnd.2.2 q h q (by simp) rfl, hnd.2.1.1⟩
  have hk1 (u : State) (r : Nat) (hr : r ∈ l) := hk u r (by simp [hr]) (fun e => hl (e ▸ hr))
  have hk2 (u : State) (r : Nat) (hr : r ∈ l') := hk u r (by simp [hr]) (fun e => hl' (e ▸ hr))
  have ready : (s.groupWrite l o v).unitBusy q = false :=
    (State.groupWrite_keeps (fun u => u.unitBusy q) l o v s (fun u r hr => (hk1 u r hr).2)).trans hb
  have parts : s.groupWrite (l ++ q :: l') o v = ((s.groupWrite l o v).writeReg q o v).groupWrite l' o v := by
    have hn : ¬(o = 0 ∨ o = 2) := by simp [h0, h2]
    simp only [State.groupWrite, hn, if_false] at ready ⊢
    rw [List.foldl_append, List.foldl_cons, ready]
    simp
  refine ⟨s.groupWrite l o v, State.groupWrite_keeps get l o v s (fun u r hr => (hk1 u r hr).1), ?_⟩
  rw [parts]
  exact State.groupWrite_keeps get l' o v _ (fun u r hr => (hk2 u r hr).1)

theorem axPage_inj {m n : Ax} : axPage m = axPage n ↔ m = n := by
  simp [axPage, Fin.ext_iff]

theorem brPage_inj {m n : Ax} : brPage m = brPage n ↔ m = n := by
  simp [brPage, Fin.ext_iff]

theorem State.present_nodup (s : State) : s.present.Nodup := List.Nodup.filter _ (by decide)

theorem State.members_nodup (s : State) (k : Nat) {page : Ax → Nat} (hp : page.Injective) : (s.members k page).Nodup :=
  (s.present_nodup.filter _).map hp

/-! ### Writes of single registers -/

@[simp] theorem State.reg_setUnlock (s : State) (r : Nat) (b : Bool) (q o : Nat) : (s.setUnlock r b).reg q o = s.reg q o := rfl

theorem State.unlocked_setUnlock (s : State) (r q : Nat) (b : Bool) (hr : r < 64) :
    (s.setUnlock r b).unlocked q = if q = r then b else s.unlocked q := by
  have bit : (1#64 <<< r).getLsbD q = decide (q = r) := by
    rw [BitVec.getLsbD_shiftLeft, BitVec.getLsbD_one, Bool.eq_iff_iff]
    simp
    omega
  have low : s.unlock.getLsbD q = true → q < 64 := BitVec.lt_of_getLsbD
  by_cases h : q = r
  · cases b <;> simp [State.setUnlock, State.unlocked, h, hr]
  · cases b <;> simp [State.setUnlock, State.unlocked, bit, h]
    exact low

section Member
variable {r : Nat} (hr : MemberPage r) (u : State) (v : Word)
include hr

theorem MemberPage.write_unit (o : Nat) (ho : o ≠ 0x07) :
    u.writeReg r o v = (u.setUnlock r false).offsetWrite r o v (u.unlocked r) :=
  u.writeReg_unit r o v ho (.inl hr.ne_table)

theorem MemberPage.write_event :
    u.writeReg r 0x03 v = (u.setUnlock r false).setReg r 0x03 (u.reg r 0x03 &&& ~~~v) := hr.write_unit u v 0x03 (by decide)

theorem MemberPage.write_eventEn :
    u.writeReg r 0x04 v = (u.setUnlock r false).setReg r 0x04 (v &&& eventMask (pageKind r)) := hr.write_unit u v 0x04 (by decide)

theorem MemberPage.write_route (hi : Bool) :
    u.writeReg r (if hi then 0x06 else 0x05) v
      = (u.setUnlock r false).setReg r (if hi then 0x06 else 0x05) (v &&& routeMask (eventMask (pageKind r)) hi) := by
  cases hi <;> exact hr.write_unit u v _ (by decide)

theorem MemberPage.write_key : u.writeReg r 0x07 v = u.setUnlock r (v == 0x7A5C#16) := by
  simp [State.writeReg, hr.ne_table]

end Member

theorem State.write_modeCmd (u : State) (m : Ax) (v : Word) :
    u.writeReg (axPage m) 0x09 v = (u.setUnlock (axPage m) false).modeRequest m v := by
  rw [MemberPage.write_unit ⟨m, .inl rfl⟩ u v 0x09 (by decide)]
  simp [State.offsetWrite, State.unitWrite, State.wordWrite, State.axisWrite, isHeldLow]

theorem State.write_group (u : State) (m : Ax) (v : Word) :
    u.writeReg (axPage m) 0x08 v
      = (u.setUnlock (axPage m) false).setReg (axPage m) 0x08 ((u.reg (axPage m) 0x08 &&& ~~~0x0007#16) ||| (v &&& 0x0007#16)) := by
  have ones (w : Word) : w &&& 0xFFFF#16 = w := BitVec.and_allOnes
  have hd : regDef (.axis m) 0x08 = some ⟨0x08, 0x0007#16, 0x0000#16, 0x0000#16, 0x0000#16, []⟩ := rfl
  rw [MemberPage.write_unit ⟨m, .inl rfl⟩ u v 0x08 (by decide)]
  simp [State.offsetWrite, State.unitWrite, State.wordWrite, State.axisWrite, isHeldLow, State.plainWrite, hd, mergeWord,
    State.eventIf, ones]

theorem State.write_level (u : State) (m : Ax) (o : Nat) (ho : o = 0x08 ∨ o = 0x09) (v : Word) :
    u.writeReg (brPage m) o v = (u.setUnlock (brPage m) false).levelWrite m o v := by
  rcases ho with rfl | rfl <;>
    rw [MemberPage.write_unit ⟨m, .inr rfl⟩ u v _ (by decide)] <;>
    simp [State.offsetWrite, State.unitWrite, State.wordWrite, State.brgWrite, isHeldLow]

/-- Judging a level against CUR_LIMIT can set CUR_CLAMPED of its bridge, and no other register. -/
theorem State.reg_clampFresh_other (u : State) (m : Ax) (b l q x : Nat) (hx : brPage m * 256 + 0x03 ≠ q * 256 + x) :
    (u.clampFresh m b l).reg q x = u.reg q x := by
  unfold State.clampFresh State.clampNote
  split
  · rw [State.event, State.reg_setReg_other _ _ _ _ _ _ hx]
    rfl
  · rfl

@[simp] theorem State.clampFresh_axes (u : State) (m : Ax) (b l : Nat) : (u.clampFresh m b l).axes = u.axes := by
  unfold State.clampFresh State.clampNote
  split <;> rfl

@[simp] theorem State.clampFresh_unitBusy (u : State) (m : Ax) (b l q : Nat) :
    (u.clampFresh m b l).unitBusy q = u.unitBusy q := by
  unfold State.clampFresh State.clampNote
  split <;> rfl

theorem State.reg_levelWrite_same (u : State) (m : Ax) (o : Nat) (ho : o ≠ 0x03) (v : Word) :
    (u.levelWrite m o v).reg (brPage m) o = v &&& 0x03FF#16 := by
  rw [State.levelWrite, State.reg_clampFresh_other _ _ _ _ _ _ (by omega), State.reg_setReg_same]

theorem State.reg_levelWrite_other (u : State) (m : Ax) (o : Nat) (v : Word) (q x : Nat) (hq : q ≠ brPage m) (hx : x < 256)
    (ho : o < 256) : (u.levelWrite m o v).reg q x = u.reg q x := by
  rw [State.levelWrite, State.reg_clampFresh_other _ _ _ _ _ _ (by omega), State.reg_setReg_other _ _ _ _ _ _ (by omega)]

/-! ### Route masks (R84) -/

theorem getLsbD_foldl_or (c : Nat → Bool) (w : Nat → Word) (l : List Nat) (m : Word) (b : Nat) :
    (l.foldl (fun m i => if c i then m ||| w i else m) m).getLsbD b = (m.getLsbD b || l.any (fun i => c i && (w i).getLsbD b)) := by
  induction l generalizing m with
  | nil => simp
  | cons i l ih => cases hc : c i <;> simp [ih, hc, Bool.or_assoc]

/-- Two bits of a route register belong to each event. -/
theorem getLsbD_routeMask (ev : Word) (hi : Bool) (b : Fin 16) :
    (routeMask ev hi).getLsbD b.val = ev.getLsbD ((if hi then 8 else 0) + b.val / 2) := by
  have pair : ∀ (b : Fin 16) (i : Fin 8), (3#16 <<< (2 * i.val)).getLsbD b.val = decide (b.val / 2 = i.val) := by decide
  rw [routeMask, getLsbD_foldl_or, BitVec.getLsbD_zero, Bool.false_or, Bool.eq_iff_iff, List.any_eq_true]
  constructor
  · rintro ⟨i, hi8, h⟩
    rw [Bool.and_eq_true, pair b ⟨i, List.mem_range.mp hi8⟩, decide_eq_true_eq] at h
    cases hi <;> simp_all [Nat.add_comm]
  · intro h
    refine ⟨b.val / 2, List.mem_range.mpr (by omega), ?_⟩
    rw [Bool.and_eq_true, pair b ⟨b.val / 2, by omega⟩]
    cases hi <;> simp_all [Nat.add_comm]

/-! ### What a group's word leaves in its members -/

/-- Where a write consumes the unlock and stores one word at its own place, a group's word stores it in each member. -/
theorem State.reg_groupWrite_stored {ms : List Nat} {q o : Nat} {v : Word} (f : Nat → Word → Word) (s : State) (hnd : ms.Nodup)
    (hq : q ∈ ms) (ho : o < 256) (h0 : o ≠ 0) (h2 : o ≠ 2) (hb : s.unitBusy q = false)
    (hf : ∀ u : State, ∀ r ∈ ms, u.writeReg r o v = (u.setUnlock r false).setReg r o (f r (u.reg r o))) :
    (s.groupWrite ms o v).reg q o = f q (s.reg q o) := by
  obtain ⟨u, hu, h⟩ := State.groupWrite_at (fun u => u.reg q o) (s := s) (v := v) hnd hq h0 h2 hb (fun u r hr hne => by
    simp only [hf u r hr]
    exact ⟨State.reg_setReg_other _ _ _ _ _ _ (fun h => hne (key_inj ho ho h).1), rfl⟩)
  rw [h, hf u q hq, State.reg_setReg_same, hu]

/-- Such a word changes no register of a page outside the group. -/
theorem State.reg_groupWrite_outside {ms : List Nat} {q o : Nat} {v : Word} (f : Nat → Word → Word) (s : State) (hq : q ∉ ms)
    (ho : o < 256) (x : Nat) (hx : x < 256)
    (hf : ∀ u : State, ∀ r ∈ ms, u.writeReg r o v = (u.setUnlock r false).setReg r o (f r (u.reg r o))) :
    (s.groupWrite ms o v).reg q x = s.reg q x :=
  State.groupWrite_keeps (fun u => u.reg q x) ms o v s (fun u r hr => by
    simp only [hf u r hr]
    exact State.reg_setReg_other _ _ _ _ _ _ (fun h => hq ((key_inj ho hx h).1 ▸ hr)))

theorem State.axis_modAxis_same (s : State) (n : Ax) (f : Axis → Axis) : (s.modAxis n f).axis n = f (s.axis n) := by
  simp [State.modAxis, State.setAxis, State.axis]

theorem State.axis_modAxis_other (s : State) (m n : Ax) (f : Axis → Axis) (h : m ≠ n) : (s.modAxis m f).axis n = s.axis n := by
  have hv : m.val ≠ n.val := fun e => h (Fin.ext e)
  simp [State.modAxis, State.setAxis, State.axis, hv]

/-- MODE_CMD for a group is a request to each member (R177). -/
theorem State.groupWrite_modeCmd {ms : List Nat} {n : Ax} (s : State) (v : Word) (hm : ∀ r ∈ ms, ∃ m, r = axPage m)
    (hnd : ms.Nodup) (hn : axPage n ∈ ms) (hb : s.unitBusy (axPage n) = false) :
    ((s.groupWrite ms 0x09 v).axis n).req.mode = some (fld v 0 3) := by
  obtain ⟨u, -, h⟩ := State.groupWrite_at (fun u => (u.axis n).req.mode) (s := s) (v := v) (o := 0x09) hnd hn (by decide)
    (by decide) hb (fun u r hr hne => by
      obtain ⟨m, rfl⟩ := hm r hr
      simp only [u.write_modeCmd m v, State.modeRequest]
      rw [State.axis_modAxis_other _ _ _ _ (fun e => hne (axPage_inj.mpr e))]
      exact ⟨rfl, rfl⟩)
  rw [h, u.write_modeCmd, State.modeRequest, State.axis_modAxis_same]

/-- MODE_CMD changes no register. -/
theorem State.groupWrite_modeCmd_reg {ms : List Nat} (s : State) (v : Word) (hm : ∀ r ∈ ms, ∃ m, r = axPage m) (q x : Nat) :
    (s.groupWrite ms 0x09 v).reg q x = s.reg q x :=
  State.groupWrite_keeps (fun u => u.reg q x) ms 0x09 v s (fun u r hr => by
    obtain ⟨m, rfl⟩ := hm r hr
    simp only [u.write_modeCmd m v]
    rfl)

/-- MODE_CMD reaches no axis outside the group. -/
theorem State.groupWrite_modeCmd_outside {ms : List Nat} {n : Ax} (s : State) (v : Word) (hm : ∀ r ∈ ms, ∃ m, r = axPage m)
    (hn : axPage n ∉ ms) : (s.groupWrite ms 0x09 v).axis n = s.axis n :=
  State.groupWrite_keeps (fun u => u.axis n) ms 0x09 v s (fun u r hr => by
    obtain ⟨m, rfl⟩ := hm r hr
    simp only [u.write_modeCmd m v, State.modeRequest]
    rw [State.axis_modAxis_other _ _ _ _ (fun e : m = n => hn (e ▸ hr))]
    rfl)

/-- KEY for a group unlocks each member's page, or cancels its unlock (R69, R70). -/
theorem State.groupWrite_key {ms : List Nat} {q : Nat} (s : State) (v : Word) (hm : ∀ r ∈ ms, MemberPage r) (hnd : ms.Nodup)
    (hq : q ∈ ms) (hb : s.unitBusy q = false) : (s.groupWrite ms 0x07 v).unlocked q = decide (v = 0x7A5C#16) := by
  have lt (r : Nat) (hr : r ∈ ms) : r < 64 := by have := (hm r hr).lt; omega
  obtain ⟨u, -, h⟩ := State.groupWrite_at (fun u => u.unlocked q) (s := s) (v := v) (o := 0x07) hnd hq (by decide) (by decide) hb
    (fun u r hr hne => by
      simp only [(hm r hr).write_key, u.unlocked_setUnlock r q _ (lt r hr), if_neg (Ne.symm hne)]
      exact ⟨trivial, rfl⟩)
  rw [h, (hm q hq).write_key, u.unlocked_setUnlock q q _ (lt q hq), if_pos rfl]
  rfl

/-- A level for a group is stored in each member (R231). -/
theorem State.reg_groupWrite_level {ms : List Nat} {n : Ax} {o : Nat} (ho : o = 0x08 ∨ o = 0x09) (s : State) (v : Word)
    (hm : ∀ r ∈ ms, ∃ m, r = brPage m) (hnd : ms.Nodup) (hn : brPage n ∈ ms) (hb : s.unitBusy (brPage n) = false) :
    (s.groupWrite ms o v).reg (brPage n) o = v &&& 0x03FF#16 := by
  obtain ⟨u, -, h⟩ := State.groupWrite_at (fun u => u.reg (brPage n) o) (s := s) (v := v) (o := o) hnd hn (by omega) (by omega) hb
    (fun u r hr hne => by
      obtain ⟨m, rfl⟩ := hm r hr
      simp only [u.write_level m o ho v]
      rw [State.reg_levelWrite_other _ _ _ _ _ _ (Ne.symm hne) (by omega) (by omega)]
      exact ⟨rfl, State.clampFresh_unitBusy _ _ _ _ _⟩)
  rw [h, u.write_level n o ho v, State.reg_levelWrite_same _ _ _ (by omega)]

/-- A level for a group changes no register of a page outside it. -/
theorem State.reg_groupWrite_level_outside {ms : List Nat} {q o : Nat} (ho : o = 0x08 ∨ o = 0x09) (s : State) (v : Word)
    (hm : ∀ r ∈ ms, ∃ m, r = brPage m) (hq : q ∉ ms) (x : Nat) (hx : x < 256) :
    (s.groupWrite ms o v).reg q x = s.reg q x :=
  State.groupWrite_keeps (fun u => u.reg q x) ms o v s (fun u r hr => by
    obtain ⟨m, rfl⟩ := hm r hr
    simp only [u.write_level m o ho v]
    rw [State.reg_levelWrite_other _ _ _ _ _ _ (fun e : q = brPage m => hq (e ▸ hr)) hx (by omega)]
    rfl)

theorem State.axes_groupWrite_level {ms : List Nat} {o : Nat} (ho : o = 0x08 ∨ o = 0x09) (s : State) (v : Word)
    (hm : ∀ r ∈ ms, ∃ m, r = brPage m) : (s.groupWrite ms o v).axes = s.axes :=
  State.groupWrite_keeps (fun u => u.axes) ms o v s (fun u r hr => by
    obtain ⟨m, rfl⟩ := hm r hr
    simp only [u.write_level m o ho v]
    exact State.clampFresh_axes _ _ _ _)

end Sys2Proof.Machine
end

section
/-! SUPPORT. Frames for group pages and for absent pages: which accesses they bring, and what the port shows (R61 to R65, R73 to R76). -/

set_option Elab.async false

namespace Sys2Proof.Machine

open Sys2Proof.Safety

/-! ### Group pages -/

/-- The page of group `k` of the axes, or of the bridges (R82). -/
def groupPage (br : Bool) (k : Fin 4) : PageNo := BitVec.ofNat 6 ((if br then 0x2C else 0x1C) + k.val)

/-- The page of an axis or of its bridge. -/
def unitPage (br : Bool) (n : Ax) : Nat := if br then brPage n else axPage n

/-- The members of group `k` of the axes, or of the bridges (R72). -/
def State.groupMembers (s : State) (br : Bool) (k : Fin 4) : List Nat :=
  s.members [1, 2, 4, 8][k.val]! (if br then brPage else axPage)

/-- Those that take a word: not in UNIT_RESET (R75). -/
def State.readyMembers (s : State) (br : Bool) (k : Fin 4) : List Nat :=
  (s.groupMembers br k).filter (fun q => !s.unitBusy q)

/-- What a good frame restarts besides the port itself: the watchdog (R80). -/
def State.fed (s : State) : State := { s with pwr := { s.pwr with hostExpired := false } }

theorem MemberPage.unitPage (br : Bool) (n : Ax) : MemberPage (unitPage br n) := by
  cases br
  · exact ⟨n, .inl rfl⟩
  · exact ⟨n, .inr rfl⟩

theorem State.mem_groupMembers {s : State} {br : Bool} {k : Fin 4} {q : Nat} (h : q ∈ s.groupMembers br k) :
    ∃ n : Ax, q = unitPage br n := by
  obtain ⟨n, -, rfl⟩ := List.mem_map.mp h
  exact ⟨n, by cases br <;> rfl⟩

theorem State.mem_readyMembers {s : State} {br : Bool} {k : Fin 4} {q : Nat} :
    q ∈ s.readyMembers br k ↔ q ∈ s.groupMembers br k ∧ s.unitBusy q = false := by
  simp [State.readyMembers]

theorem State.readyMembers_page {s : State} {br : Bool} {k : Fin 4} (q : Nat) (h : q ∈ s.readyMembers br k) :
    ∃ n : Ax, q = unitPage br n := State.mem_groupMembers (State.mem_readyMembers.mp h).1

theorem State.readyMembers_member {s : State} {br : Bool} {k : Fin 4} (q : Nat) (h : q ∈ s.readyMembers br k) : MemberPage q := by
  obtain ⟨n, rfl⟩ := State.readyMembers_page q h
  exact MemberPage.unitPage br n

theorem State.readyMembers_nodup (s : State) (br : Bool) (k : Fin 4) : (s.readyMembers br k).Nodup := by
  have inj : (if br then brPage else axPage).Injective := by
    cases br
    · exact fun _ _ h => axPage_inj.mp h
    · exact fun _ _ h => brPage_inj.mp h
  exact (s.members_nodup _ inj).filter _

theorem pageKind_groupPage : ∀ (br : Bool) (k : Fin 4), pageKind (groupPage br k).toNat
    = if br then .brgGroup [1, 2, 4, 8][k.val]! else .axisGroup [1, 2, 4, 8][k.val]! := by decide

/-- A group page is served with the others but DEV, and gives its members. -/
theorem State.target_groupPage (s : State) (br : Bool) (k : Fin 4) (h : s.served 0x1C = true) :
    s.target (groupPage br k).toNat = .group (s.groupMembers br k) := by
  have other : ∀ (br : Bool) (k : Fin 4), ((groupPage br k).toNat == devPage) = (0x1C == devPage) := by decide
  have hs : s.served (groupPage br k).toNat = true := by
    rw [← h, State.served, State.served, other]
  simp only [State.target, hs, pageKind_groupPage]
  cases br <;> rfl

/-- A group page has no port: the offsets of a burst's words rise (R61). -/
theorem burstOff_groupPage (br : Bool) (k : Fin 4) (o j : Nat) : burstOff (groupPage br k).toNat o j = (o + j) % 256 := by
  have page : ∀ (br : Bool) (k : Fin 4), (groupPage br k).toNat ≠ 0x03 ∧ (groupPage br k).toNat ≠ 0x35 := by decide
  simp [burstOff, isPort, page]

/-- A frame for a group page is seen by the port and by the watchdog; a read of it is reported (R65, R80). -/
theorem State.frameSeen_groupPage (s : State) (br : Bool) (k : Fin 4) (o : Offset) (miso : List Byte) (data : Word) (read : Bool)
    (hw : s.spi.waiting = []) (hs : s.served 0x1C = true) : s.frameSeen miso (groupPage br k).toNat o.toNat data read
      = { s.fed with spi := { miso := miso, echo := o, data := data, bcast := read } } := by
  simp [State.frameSeen, State.noteTarget, s.target_groupPage br k hs, hw, State.fed, State.modSpi, State.modPwr]

/-- An event between two ticks only tells the time. -/
theorem State.timeAt_only_time (s : State) (cy : Nat) : ∃ m : MTime, s.timeAt cy = { s with time := m } := by
  unfold State.timeAt
  split
  · exact ⟨_, rfl⟩
  · exact ⟨s.time, rfl⟩

/-! ### Write frames -/

/-- The words of a group frame run one after the other; none waits. -/
theorem State.portRun_group (ms : List Nat) (l : List (Nat × Word)) (s : State) :
    s.portRun (l.map (fun e => .group ms e.1 e.2))
      = (l.foldl (fun t e => t.groupWrite ms e.1 e.2) s).modSpi (fun p => { p with waiting := [] }) := by
  induction l generalizing s with
  | nil => rfl
  | cons e l ih => exact ih (s.groupWrite ms e.1 e.2)

theorem State.groupWrites_swapPort (ms : List Nat) (hm : ∀ q ∈ ms, MemberPage q) (l : List (Nat × Word)) (s : State) (p : Spi)
    (h : List Word → List Word) : l.foldl (fun t e => t.groupWrite ms e.1 e.2) (s.swapPort p h)
      = (l.foldl (fun t e => t.groupWrite ms e.1 e.2) s).swapPort p h :=
  List.foldl_hom (fun t : State => t.swapPort p h) (fun t e => t.groupWrite_swapPort p h ms hm e.1 e.2)

theorem State.groupWrites_image (ms : List Nat) (hm : ∀ q ∈ ms, MemberPage q) (l : List (Nat × Word)) (s : State)
    (hi : s.nvs.image = none) : (l.foldl (fun t e => t.groupWrite ms e.1 e.2) s).nvs.image = none := by
  induction l generalizing s with
  | nil => exact hi
  | cons e l ih => exact ih _ (s.groupWrite_image ms hm e.1 e.2 hi)

/-- The words of a frame with the offsets that they are for, where the page has no port (R61). -/
def wordsAt (o : Nat) (ws : List Word) : List (Nat × Word) :=
  (ws.zip (List.range ws.length)).map (fun e => ((o + e.2) % 256, e.1))

theorem State.burstAccesses_groupPage (s : State) (br : Bool) (k : Fin 4) (o : Nat) (ws : List Word)
    (hs : s.served 0x1C = true) : s.burstAccesses (groupPage br k).toNat o ws
      = (wordsAt o ws).map (fun e => .group (s.readyMembers br k) e.1 e.2) := by
  simp only [State.burstAccesses, s.target_groupPage br k hs, burstOff_groupPage, wordsAt, List.map_map]
  rfl

/-- A write frame for a group: its words reach the ready members that it found, and the port shows its echo. -/
theorem State.groupWriteFrame (s : State) (br : Bool) (k : Fin 4) (o : Offset) (ws : List Word) (miso : List Byte) (data : Word)
    (hw : s.spi.waiting = []) (hi : s.nvs.image = none) (hs : s.served 0x1C = true) : ∃ p : Spi, p.echo = o ∧ p.bcast = false ∧
      ((s.frameSeen miso (groupPage br k).toNat o.toNat data false).portAdd
          (s.burstAccesses (groupPage br k).toNat o.toNat ws)).imageRun
        = ((wordsAt o.toNat ws).foldl (fun t e => t.groupWrite (s.readyMembers br k) e.1 e.2) s.fed).swapPort p id := by
  let p : Spi := { miso := miso, echo := o, data := data }
  refine ⟨p, rfl, rfl, ?_⟩
  rw [s.frameSeen_groupPage br k o miso data false hw hs, ← State.swapPort_id, s.burstAccesses_groupPage br k _ ws hs]
  show State.imageRun ((s.fed.swapPort p id).portRun ([] ++ _)) = _
  rw [List.nil_append, State.portRun_group, State.groupWrites_swapPort _ State.readyMembers_member, State.imageRun_none]
  · rfl
  · simp [State.groupWrites_image _ State.readyMembers_member _ s.fed hi]

section Frames
variable {s : State} (hl : s.portLive = true) (hw : s.spi.waiting = []) (hi : s.nvs.image = none) (hs : s.served 0x1C = true)
include hl hw hi hs

/-- A word written to a group page is the word for its ready members, but for the port. -/
theorem runs_groupPageWrite (br : Bool) (k : Fin 4) (o : Offset) (v : Word) {P : State → Prop}
    (hP : ∀ p : Spi, p.echo = o → p.bcast = false →
      P ((s.fed.groupWrite (s.readyMembers br k) o.toNat v).swapPort p id)) :
    Runs (.groupPageWrite (groupPage br k) o v) s P := by
  obtain ⟨p, hecho, hbcast, frame⟩ := s.groupWriteFrame br k o [v] s.singleMiso v hw hi hs
  have first : wordsAt o.toNat [v] = [(o.toNat, v)] := by
    simp [wordsAt, Nat.mod_eq_of_lt o.isLt]
  refine ⟨_, rfl, ?_⟩
  rw [State.singleWrite, if_pos hl, frame, first]
  exact hP p hecho hbcast

/-- A burst written to a group page is its words for the ready members that its frame found, but for the port. -/
theorem runs_groupBurstWrite (br : Bool) (k : Fin 4) (o : Offset) (ws : List Word) (cy : Nat) {P : State → Prop}
    (hP : ∀ p : Spi, P (((wordsAt o.toNat ws).foldl (fun t e => t.groupWrite (s.readyMembers br k) e.1 e.2)
      (s.timeAt cy).fed).swapPort p id)) :
    Runs (.spiBurstWrite (groupPage br k) o ws cy) s P := by
  obtain ⟨m, ht⟩ := s.timeAt_only_time cy
  have sameReady : (s.timeAt cy).readyMembers br k = s.readyMembers br k := by rw [ht]; rfl
  obtain ⟨p, -, -, frame⟩ := (s.timeAt cy).groupWriteFrame br k o ws ((s.timeAt cy).writeMiso ws.length) 0#16
    (by rw [ht]; exact hw) (by rw [ht]; exact hi) (by rw [ht]; exact hs)
  have hl' : (s.timeAt cy).portLive = true := by rw [ht]; exact hl
  refine ⟨_, rfl, ?_⟩
  rw [State.burstWrite, if_pos hl', frame, sameReady]
  exact hP p

end Frames

/-! ### Read frames -/

/-- What a frame changes besides the registers shows in no register of an axis or a bridge. -/
theorem MemberPage.peek_frame {q : Nat} (hq : MemberPage q) (s : State) (p : Spi) (b : Bool) (m : MTime) (o : Nat) :
    ({ s with spi := p, pwr := { s.pwr with hostExpired := b }, time := m } : State).peek false q o = s.peek false q o := by
  unfold State.peek State.unitRead
  obtain ⟨n, rfl | rfl⟩ := hq
  · simp only [pageKind_axPage]; rfl
  · simp only [pageKind_brPage]; rfl

theorem State.groupRead_frame (s : State) (ms : List Nat) (hm : ∀ q ∈ ms, MemberPage q) (p : Spi) (b : Bool) (m : MTime) (o : Nat) :
    ({ s with spi := p, pwr := { s.pwr with hostExpired := b }, time := m } : State).groupRead ms o = s.groupRead ms o := by
  unfold State.groupRead
  split
  · exact List.foldl_ext _ _ _ (fun w q hq => by rw [(hm q hq).peek_frame])
  · rfl

theorem State.groupMembers_member {s : State} {br : Bool} {k : Fin 4} (q : Nat) (h : q ∈ s.groupMembers br k) : MemberPage q := by
  obtain ⟨n, rfl⟩ := State.mem_groupMembers h
  exact MemberPage.unitPage br n

/-- A word read from a group page, with no effect (R74). -/
theorem State.busRead_groupPage (s : State) (br : Bool) (k : Fin 4) (sec : Bool) (o : Nat) (hs : s.served 0x1C = true) :
    s.busRead false sec (groupPage br k).toNat o = (s.groupRead (s.groupMembers br k) o, s) := by
  rw [State.busRead, s.target_groupPage br k hs]

theorem State.burstFetch_groupPage (s : State) (br : Bool) (k : Fin 4) (o : Nat) (hs : s.served 0x1C = true) (n j : Nat) (sec : Bool) :
    s.burstFetch (groupPage br k).toNat o n j sec
      = ((List.range n).map (fun i => s.groupRead (s.groupMembers br k) ((o + (j + i)) % 256)), s) := by
  induction n generalizing j sec with
  | zero => rfl
  | succ n ih =>
    rw [State.burstFetch, burstOff_groupPage, s.busRead_groupPage br k sec _ hs]
    simp [ih, List.range_succ_eq_map, Function.comp_def, Nat.add_assoc, Nat.add_comm 1]

section Frames
variable {s : State} (hl : s.portLive = true) (hw : s.spi.waiting = []) (hi : s.nvs.image = none) (hs : s.served 0x1C = true)
include hl hw hi hs

/-- A single read of a group page: its word waits for the next frame, which reports BCAST_READ. -/
theorem runs_groupPageRead (br : Bool) (k : Fin 4) (o : Offset) {P : State → Prop}
    (hP : ∀ p : Spi, p.bcast = true → p.absent = false → p.data = s.groupRead (s.groupMembers br k) o.toNat →
      P ({ s.fed with spi := p, rdata := p.data } : State)) :
    Runs (.groupPageRead (groupPage br k) o) s P := by
  let w := s.groupRead (s.groupMembers br k) o.toNat
  let p : Spi := { miso := s.singleMiso, echo := o, bcast := true }
  let t : State := { s.fed with spi := p }
  have seen : s.frameSeen s.singleMiso (groupPage br k).toNat o.toNat 0#16 true = t :=
    s.frameSeen_groupPage br k o s.singleMiso 0#16 true hw hs
  have late : t.noteLate (groupPage br k).toNat = t := by
    simp [State.noteLate, t.target_groupPage br k hs]
  have word : t.busRead false false (groupPage br k).toNat o.toNat = (w, t) := by
    rw [t.busRead_groupPage br k false o.toNat hs]
    exact congrArg (·, t) (s.groupRead_frame _ State.groupMembers_member p false s.time o.toNat)
  have single : s.singleRead (groupPage br k).toNat o.toNat = { s.fed with spi := { p with data := w }, rdata := w } := by
    rw [State.singleRead, if_pos hl, seen, s.target_groupPage br k hs, if_neg (by simp)]
    show (t.portDo (.read (groupPage br k).toNat o.toNat true)).portRun [] = _
    rw [State.portDo, late, word]
    rfl
  refine ⟨_, rfl, ?_⟩
  rw [single, State.imageRun_none]
  · exact hP { p with data := w } rfl rfl rfl
  · exact hi

/-- A burst read of a group page: its words are in this frame, and the next reports BCAST_READ. -/
theorem runs_groupBurstRead (br : Bool) (k : Fin 4) (o : Offset) (n cy : Nat) {P : State → Prop}
    (hP : ∀ t : State, t.spi.bcast = true → t.regs = s.regs →
      t.spi.miso = s.readMiso ((List.range n).map (fun i => s.groupRead (s.groupMembers br k) ((o.toNat + i) % 256))) → P t) :
    Runs (.spiBurstRead (groupPage br k) o n true cy) s P := by
  obtain ⟨m, ht⟩ := s.timeAt_only_time cy
  let u : State := { s with time := m }
  let ws := (List.range n).map (fun i => s.groupRead (s.groupMembers br k) ((o.toNat + i) % 256))
  have flush : u.portFlush u.spi.waiting.length = u := by
    rw [show u.spi.waiting = [] from hw]
    rfl
  have fetch : u.burstFetch (groupPage br k).toNat o.toNat n 0 false = (ws, u) := by
    rw [u.burstFetch_groupPage br k o.toNat hs]
    refine congrArg (·, u) (List.map_congr_left fun i _ => ?_)
    rw [Nat.zero_add]
    exact s.groupRead_frame _ State.groupMembers_member s.spi s.pwr.hostExpired m _
  have read : u.burstRead (groupPage br k).toNat o.toNat n true = { u.fed with
      rdata := ws.getLast?.getD s.rdata, spi := { miso := s.readMiso ws, echo := o, bcast := true, waiting := s.spi.waiting } } := by
    rw [State.burstRead, if_pos (show u.portLive = true from hl)]
    simp only [flush, fetch, if_true, u.frameSeen_groupPage br k o _ 0#16 true hw hs]
    rfl
  refine ⟨_, rfl, ?_⟩
  rw [ht, read, State.imageRun_none]
  · exact hP _ rfl rfl rfl
  · exact hi

end Frames

/-! ### Absent pages -/

/-- A write frame to an absent page is counted and reported, and does nothing else (R4, R76). -/
theorem runs_absentPageWrite {s : State} (page : PageNo) (o : Offset) (v : Word) (hl : s.portLive = true) (hw : s.spi.waiting = [])
    (hi : s.nvs.image = none) (ha : s.target page.toNat = .absent) {P : State → Prop}
    (hP : ∀ p : Spi, p.absent = true → P ((s.fed.count devPage 0x17).swapPort p id)) : Runs (.absentPageWrite page o v) s P := by
  let p : Spi := { miso := s.singleMiso, echo := o, data := v, absent := true }
  let t : State := s.fed.swapPort p id
  have seen : s.frameSeen s.singleMiso page.toNat o.toNat v false = t := by
    simp [State.frameSeen, State.noteTarget, ha, hw, State.fed, State.modSpi, State.modPwr, p, t, State.swapPort]
  have absent : t.target page.toNat = .absent := ha
  have wait (o : Nat) : t.mustWait (.write page.toNat o v) = false := by simp [State.mustWait, absent]
  have late : t.noteLate page.toNat = t := by simp [State.noteLate, absent]
  have single : s.singleWrite page.toNat o.toNat v = (s.fed.count devPage 0x17).swapPort p id := by
    rw [State.singleWrite, if_pos hl, seen, State.burstAccesses, ha]
    show t.portRun [.write page.toNat _ v] = _
    rw [State.portRun, wait, if_neg (by simp), State.portDo, late, State.busWrite, absent]
    rfl
  refine ⟨_, rfl, ?_⟩
  rw [single, State.imageRun_none _ (by simp [hi, State.fed])]
  exact hP p rfl

end Sys2Proof.Machine
end

section
/-! The statements of spec/00_scope.md: group pages, absent pages and the memories after reset. -/

set_option Elab.async false

namespace Sys2Proof.Machine

open Sys2Proof.Safety

theorem fld_merge_low (a v : Word) : fld ((a &&& ~~~0x0007#16) ||| (v &&& 0x0007#16)) 0 3 = fld v 0 3 := by
  have low (w : Word) : fld w 0 3 = (w.setWidth 3).toNat := by simp [fld]
  have bits : ((a &&& ~~~0x0007#16) ||| (v &&& 0x0007#16)).setWidth 3 = v.setWidth 3 := by
    ext i hi
    interval_cases i <;> simp
  rw [low, low, bits]

section Clauses
variable {s : State} (hl : s.portLive = true) (hw : s.spi.waiting = []) (hi : s.nvs.image = none) (hs : s.served 0x1C = true)
include hl hw hi hs

/-- R72, R75: a word for a group is the same write to each ready member in turn, but for the port. -/
theorem groupWrite_reaches_each_member (br : Bool) (k : Fin 4) (o : Offset) (v : Word) (h0 : o ≠ 0x00#8) (h2 : o ≠ 0x02#8) :
    Runs (.groupPageWrite (groupPage br k) o v) s (fun t => { t with spi := s.spi }
      = (s.readyMembers br k).foldl (fun u p => if u.unitBusy p then u else u.writeReg p o.toNat v) s.fed ∧
        t.spi.echo = o ∧ t.spi.bcast = false) := by
  refine runs_groupPageWrite hl hw hi hs br k o v (fun p hecho hbcast => ⟨?_, hecho, hbcast⟩)
  have delivered : ¬(o.toNat = 0x00 ∨ o.toNat = 0x02) := by
    rintro (h | h)
    · exact h0 (BitVec.eq_of_toNat_eq h)
    · exact h2 (BitVec.eq_of_toNat_eq h)
  have port := s.fed.groupWrite_spi (s.readyMembers br k) State.readyMembers_member o.toNat v
  rw [State.swapPort_id]
  show { s.fed.groupWrite (s.readyMembers br k) o.toNat v with spi := s.fed.spi } = _
  rw [← port, State.groupWrite, if_neg delivered]

section Inside
variable {br : Bool} {k : Fin 4} {n : Ax} (hn : unitPage br n ∈ s.groupMembers br k) (hb : s.unitBusy (unitPage br n) = false)
  (v : Word)
include hn hb

/-- R19, R68, R69: a ready member's EVENT, EVENT_EN and KEY take the group's word. -/
theorem group_common_registers :
    Runs (.groupPageWrite (groupPage br k) 0x03#8 v) s (fun t => t.reg (unitPage br n) 0x03 = s.reg (unitPage br n) 0x03 &&& ~~~v) ∧
    Runs (.groupPageWrite (groupPage br k) 0x04#8 v) s (fun t =>
      t.reg (unitPage br n) 0x04 = v &&& eventMask (pageKind (unitPage br n))) ∧
    Runs (.groupPageWrite (groupPage br k) 0x07#8 v) s (fun t => t.unlocked (unitPage br n) = decide (v = 0x7A5C#16)) := by
  have hq := State.mem_readyMembers.mpr ⟨hn, hb⟩
  have hnd := s.readyMembers_nodup br k
  refine ⟨runs_groupPageWrite hl hw hi hs br k _ v (fun p _ _ => ?_), runs_groupPageWrite hl hw hi hs br k _ v (fun p _ _ => ?_),
    runs_groupPageWrite hl hw hi hs br k _ v (fun p _ _ => ?_)⟩
  · exact s.fed.reg_groupWrite_stored (fun _ w => w &&& ~~~v) hnd hq (by decide) (by decide) (by decide) hb
      (fun u r hr => (State.readyMembers_member r hr).write_event u v)
  · exact s.fed.reg_groupWrite_stored (fun r _ => v &&& eventMask (pageKind r)) hnd hq (by decide) (by decide) (by decide) hb
      (fun u r hr => (State.readyMembers_member r hr).write_eventEn u v)
  · exact s.fed.groupWrite_key v State.readyMembers_member hnd hq hb

/-- R84: its routes take the two bits of each event that it defines. -/
theorem group_routes (high : Bool) :
    Runs (.groupPageWrite (groupPage br k) (if high then 0x06#8 else 0x05#8) v) s (fun t => ∀ b : Fin 16,
      (t.reg (unitPage br n) (if high then 0x06 else 0x05)).getLsbD b.val
        = (v.getLsbD b.val && (eventMask (pageKind (unitPage br n))).getLsbD ((if high then 8 else 0) + b.val / 2))) := by
  refine runs_groupPageWrite hl hw hi hs br k _ v (fun p _ _ b => ?_)
  have offset : (if high then 0x06#8 else 0x05#8).toNat = if high then 0x06 else 0x05 := by cases high <;> rfl
  have stored := s.fed.reg_groupWrite_stored (o := if high then 0x06 else 0x05)
    (fun r _ => v &&& routeMask (eventMask (pageKind r)) high) (s.readyMembers_nodup br k) (State.mem_readyMembers.mpr ⟨hn, hb⟩)
    (by split <;> decide) (by split <;> decide) (by split <;> decide) hb
    (fun u r hr => (State.readyMembers_member r hr).write_route u v high)
  rw [State.swapPort_reg, offset, stored, BitVec.getLsbD_and, getLsbD_routeMask]

end Inside

section Axis
variable {k : Fin 4} {n : Ax} (hn : axPage n ∈ s.groupMembers false k) (hb : s.unitBusy (axPage n) = false)
include hn hb

/-- R177: MODE_CMD requests the mode of each ready axis. -/
theorem group_modeCmd (v : Word) :
    Runs (.groupPageWrite (groupPage false k) 0x09#8 v) s (fun t => (t.axis n).req.mode = some (fld v 0 3)) :=
  runs_groupPageWrite hl hw hi hs false k _ v (fun _ _ _ =>
    s.fed.groupWrite_modeCmd v State.readyMembers_page (s.readyMembers_nodup false k) (State.mem_readyMembers.mpr ⟨hn, hb⟩) hb)

/-- R73: the words of a burst reach the axes that its frame found, although the first changes GROUP. -/
theorem group_burst (v w : Word) : Runs (.spiBurstWrite (groupPage false k) 0x08#8 [v, w]) s (fun t =>
    t.regFld (axPage n) 0x08 0 3 = fld v 0 3 ∧ (t.axis n).req.mode = some (fld w 0 3)) := by
  refine runs_groupBurstWrite hl hw hi hs false k _ _ 0 (fun p => ?_)
  have hq := State.mem_readyMembers.mpr ⟨hn, hb⟩
  have hnd := s.readyMembers_nodup false k
  obtain ⟨m, hm⟩ := s.timeAt_only_time 0
  have hb' : (s.timeAt 0).fed.unitBusy (axPage n) = false := by rw [hm]; exact hb
  have writes : ∀ u : State, ∀ r ∈ s.readyMembers false k, u.writeReg r 0x08 v
      = (u.setUnlock r false).setReg r 0x08 ((u.reg r 0x08 &&& ~~~0x0007#16) ||| (v &&& 0x0007#16)) := by
    intro u r hr
    obtain ⟨m, rfl⟩ := State.readyMembers_page r hr
    exact u.write_group m v
  have ready : ((s.timeAt 0).fed.groupWrite (s.readyMembers false k) 0x08 v).unitBusy (axPage n) = false :=
    (State.groupWrite_keeps (fun u => u.unitBusy (axPage n)) _ _ _ _ (fun u r hr => by rw [writes u r hr]; rfl)).trans hb'
  show State.regFld (State.groupWrite (State.groupWrite _ _ 0x08 v) _ 0x09 w) _ _ _ _ = _ ∧
    ((State.groupWrite (State.groupWrite _ _ 0x08 v) _ 0x09 w).axis n).req.mode = _
  refine ⟨?_, State.groupWrite_modeCmd _ w State.readyMembers_page hnd hq ready⟩
  rw [State.regFld, State.groupWrite_modeCmd_reg _ w State.readyMembers_page,
    State.reg_groupWrite_stored (fun _ old => (old &&& ~~~0x0007#16) ||| (v &&& 0x0007#16)) _ hnd hq (by decide) (by decide)
      (by decide) hb' writes, fld_merge_low]

end Axis

/-- R231: RUN_CURRENT is stored in each ready bridge. -/
theorem group_runCurrent {k : Fin 4} {n : Ax} (hn : brPage n ∈ s.groupMembers true k) (hb : s.unitBusy (brPage n) = false) (v : Word) :
    Runs (.groupPageWrite (groupPage true k) 0x08#8 v) s (fun t => t.reg (brPage n) 0x08 = v &&& 0x03FF#16) :=
  runs_groupPageWrite hl hw hi hs true k _ v (fun _ _ _ =>
    s.fed.reg_groupWrite_level (.inl rfl) v State.readyMembers_page (s.readyMembers_nodup true k)
      (State.mem_readyMembers.mpr ⟨hn, hb⟩) hb)

/-- R72: an axis or bridge outside the group keeps its registers and its requests. -/
theorem group_outside {br : Bool} {k : Fin 4} {n : Ax} (hn : unitPage br n ∉ s.groupMembers br k) (v : Word) :
    Runs (.groupPageWrite (groupPage br k) 0x04#8 v) s (fun t => t.reg (unitPage br n) 0x04 = s.reg (unitPage br n) 0x04) ∧
    Runs (.groupPageWrite (groupPage br k) 0x09#8 v) s (fun t => (t.axis n).req = (s.axis n).req ∧
      t.reg (unitPage br n) 0x09 = s.reg (unitPage br n) 0x09) := by
  have hq : unitPage br n ∉ s.readyMembers br k := fun h => hn (State.mem_readyMembers.mp h).1
  refine ⟨runs_groupPageWrite hl hw hi hs br k _ v (fun _ _ _ => ?_), runs_groupPageWrite hl hw hi hs br k _ v (fun _ _ _ => ?_)⟩
  · exact s.fed.reg_groupWrite_outside (fun r _ => v &&& eventMask (pageKind r)) hq (by decide) 0x04 (by decide)
      (fun u r hr => (State.readyMembers_member r hr).write_eventEn u v)
  · cases br with
    | false => exact ⟨congrArg Axis.req (s.fed.groupWrite_modeCmd_outside v State.readyMembers_page hq),
        s.fed.groupWrite_modeCmd_reg v State.readyMembers_page _ _⟩
    | true => exact ⟨congrArg (fun a : Vector Axis 10 => a[n].req) (s.fed.axes_groupWrite_level (.inr rfl) v State.readyMembers_page),
        s.fed.reg_groupWrite_level_outside (.inr rfl) v State.readyMembers_page hq 0x09 (by decide)⟩

/-- R74: a read shows the OR of the members at STATUS and EVENT, and changes no register. -/
theorem group_read (br : Bool) (k : Fin 4) (o : Offset) : Runs (.groupPageRead (groupPage br k) o) s (fun t =>
    t.spi.bcast = true ∧ t.spi.absent = false ∧ t.regs = s.regs ∧
    t.spi.data = if o = 0x02#8 ∨ o = 0x03#8 then (s.groupMembers br k).foldl (fun w p => w ||| s.peek false p o.toNat) 0#16 else 0#16) := by
  refine runs_groupPageRead hl hw hi hs br k o (fun p hbcast habsent hdata => ⟨hbcast, habsent, rfl, ?_⟩)
  have offset : (o.toNat = 0x02 ∨ o.toNat = 0x03) = (o = 0x02#8 ∨ o = 0x03#8) := by
    simp [← BitVec.toNat_inj]
  rw [hdata]
  simp only [State.groupRead, offset]

/-- R74: so does a burst, at the offsets that follow modulo 256. -/
theorem group_burstRead (br : Bool) (k : Fin 4) (o : Offset) (n : Nat) :
    Runs (.spiBurstRead (groupPage br k) o n true) s (fun t => t.spi.bcast = true ∧ t.regs = s.regs ∧
      t.spi.miso = s.readMiso ((List.range n).map (fun i => if (o.toNat + i) % 256 = 2 ∨ (o.toNat + i) % 256 = 3 then
        (s.groupMembers br k).foldl (fun w p => w ||| s.peek false p ((o.toNat + i) % 256)) 0#16 else 0#16))) :=
  runs_groupBurstRead hl hw hi hs br k o n 0 (fun _ hbcast hregs hmiso => ⟨hbcast, hregs, hmiso⟩)

end Clauses

/-- R4, R76: a write to an absent page is reported and counted, and changes nothing else. -/
theorem absent_write {s : State} (hl : s.portLive = true) (hw : s.spi.waiting = []) (hi : s.nvs.image = none) (page : PageNo)
    (ha : s.target page.toNat = .absent) (o : Offset) (v : Word) : Runs (.absentPageWrite page o v) s (fun t =>
      t.spi.absent = true ∧ t.reg devPage 0x17 = satInc (s.reg devPage 0x17) ∧ SameRegsBut [(devPage, 0x17)] s t ∧
      t.unlock = s.unlock ∧ t.axes = s.axes) := by
  refine runs_absentPageWrite page o v hl hw hi ha (fun p habsent => ⟨habsent, ?_, fun q x hx hne => ?_, rfl, rfl⟩)
  · exact s.fed.reg_setReg_same devPage 0x17 _
  · refine s.fed.reg_setReg_other devPage 0x17 q x _ (fun h => hne ?_)
    obtain ⟨rfl, rfl⟩ := key_inj (by decide) hx h
    exact List.mem_singleton_self _

end Sys2Proof.Machine

namespace Sys2Proof
open Machine Safety

/-- Settles O8: what a frame for a group page brings its members is split off from the port, which no such word uses, and then
judged member by member; what an absent page's frame leaves is its count. -/
theorem groupAndAbsentPages : Obligations.GroupAndAbsentPages := by
  refine ⟨?_, ?_, ?_, ?_, ?_, ?_, ?_, ?_, ?_, ?_⟩
  · intro s br k off v hl hw hi hs h0 h2
    exact groupWrite_reaches_each_member hl hw hi hs br k off v h0 h2
  · intro s br k n v hl hw hi hs hn hb
    exact group_common_registers hl hw hi hs hn hb v
  · intro s br k n v high hl hw hi hs hn hb
    exact group_routes hl hw hi hs hn hb v high
  · intro s k n v hl hw hi hs hn hb
    exact group_modeCmd hl hw hi hs hn hb v
  · intro s k n v hl hw hi hs hn hb
    exact group_runCurrent hl hw hi hs hn hb v
  · intro s br k n v hl hw hi hs hn
    exact group_outside hl hw hi hs hn v
  · intro s k n v w hl hw hi hs hn hb
    exact group_burst hl hw hi hs hn hb v w
  · intro s br k off hl hw hi hs
    exact group_read hl hw hi hs br k off
  · intro s br k off n hl hw hi hs _ _
    exact group_burstRead hl hw hi hs br k off n
  · intro s page off v hl hw hi ha _
    exact absent_write hl hw hi page ha off v

/-- Settles O2: every memory after reset is empty, and an empty one is in its canonical form. -/
theorem resetMemoriesCanonical : Obligations.ResetMemoriesCanonical := by
  refine ⟨?_, rfl, rfl, rfl, rfl⟩
  simp [memoriesOk, State.reset, Store.wf_nil, Memory.wf_nil]

end Sys2Proof
end
section
/-! SUPPORT. What the operations of a ramp tick leave alone: those of no axis every axis and bridge, those of one axis the others, and of
its own bridge the standstill current, the settings of CUR and the table that it uses. -/

namespace Sys2Proof.Machine

open Sys2Proof.Safety

/-! ### What is observed -/

/-- What all axes share: the part and the service it is in, the tables, and the STOP_N latch. -/
structure Shared where
  part : Part
  pwr : Power
  clk : Clock
  table : Table
  stopN : Bool

/-- One axis with its bridge and the registers of their pages. -/
structure Drive where
  axis : Axis
  brg : Bridge
  axReg : Fin 256 → Word
  brReg : Fin 256 → Word

def State.shared (s : State) : Shared := ⟨s.part, s.pwr, s.clk, s.table, s.stopN⟩

def State.drive (s : State) (n : Ax) : Drive := ⟨s.axis n, s.brg n, fun o => s.reg (axPage n) o, fun o => s.reg (brPage n) o⟩

/-- What an operation of no axis leaves alone. -/
def State.motors (s : State) : Shared × (Ax → Drive) := (s.shared, s.drive)

/-- What an operation of axis `m` leaves alone: the other axes, and of its own bridge SS_CURRENT, SS_DELAY, CUR_SLEW, CUR_LIMIT and
TABLE_SEL (R231, R235). -/
def State.outside (s : State) (m : Ax) : Shared × (Fin 5 → Word) × (Ax → Option Drive) :=
  (s.shared, fun i => s.reg (brPage m) (0x0A + i), fun n => if n = m then none else some (s.drive n))

/-- One axis with what all share. -/
def State.about (s : State) (n : Ax) : Shared × Drive := (s.shared, s.drive n)

section Observed
variable {s t : State} {m n : Ax}

theorem State.drive_ext (ha : t.axis n = s.axis n) (hb : t.brg n = s.brg n) (hx : ∀ o < 256, t.reg (axPage n) o = s.reg (axPage n) o)
    (hr : ∀ o < 256, t.reg (brPage n) o = s.reg (brPage n) o) : t.drive n = s.drive n := by
  simp only [State.drive, ha, hb, hx _ (Fin.isLt _), hr _ (Fin.isLt _)]

theorem State.outside_ext (hs : t.shared = s.shared) (hset : ∀ o, 0x0A ≤ o → o ≤ 0x0E → t.reg (brPage m) o = s.reg (brPage m) o)
    (hd : ∀ n, n ≠ m → t.drive n = s.drive n) : t.outside m = s.outside m := by
  refine Prod.ext hs (Prod.ext (funext fun i => hset _ (by omega) (by omega)) (funext fun n => ?_))
  show (if n = m then none else some (t.drive n)) = if n = m then none else some (s.drive n)
  split
  · rfl
  · rename_i h; rw [hd n h]

theorem State.motors_congr (hs : t.shared = s.shared) (ha : t.axes = s.axes) (hb : t.brgs = s.brgs)
    (hr : ∀ a, 0x1000 ≤ a → a < 0x2A00 → Store.get resetWord t.regs a = Store.get resetWord s.regs a) : t.motors = s.motors := by
  refine Prod.ext hs (funext fun n => State.drive_ext ?_ ?_ (fun o ho => hr _ ?_ ?_) (fun o ho => hr _ ?_ ?_))
  · simp only [State.axis, ha]
  · simp only [State.brg, hb]
  all_goals simp only [axPage, brPage]; omega

theorem State.drive_of_motors (h : t.motors = s.motors) (n : Ax) : t.drive n = s.drive n := congrFun (congrArg Prod.snd h) n

theorem State.shared_of_motors (h : t.motors = s.motors) : t.shared = s.shared := congrArg Prod.fst h

theorem State.about_of_motors (h : t.motors = s.motors) (n : Ax) : t.about n = s.about n :=
  Prod.ext (State.shared_of_motors h) (State.drive_of_motors h n)

theorem State.reg_axPage_of_drive (h : t.drive n = s.drive n) {o : Nat} (ho : o < 256) : t.reg (axPage n) o = s.reg (axPage n) o :=
  congrFun (congrArg Drive.axReg h) ⟨o, ho⟩

theorem State.reg_brPage_of_drive (h : t.drive n = s.drive n) {o : Nat} (ho : o < 256) : t.reg (brPage n) o = s.reg (brPage n) o :=
  congrFun (congrArg Drive.brReg h) ⟨o, ho⟩

theorem State.axis_of_drive (h : t.drive n = s.drive n) : t.axis n = s.axis n := congrArg Drive.axis h

theorem State.brg_of_drive (h : t.drive n = s.drive n) : t.brg n = s.brg n := congrArg Drive.brg h

theorem State.outside_of_motors (h : t.motors = s.motors) (m : Ax) : t.outside m = s.outside m :=
  State.outside_ext (State.shared_of_motors h) (fun _ _ _ => State.reg_brPage_of_drive (State.drive_of_motors h m) (by omega))
    (fun n _ => State.drive_of_motors h n)

theorem State.shared_of_outside (h : t.outside m = s.outside m) : t.shared = s.shared := congrArg Prod.fst h

theorem State.about_of_outside (h : t.outside m = s.outside m) (hn : n ≠ m) : t.about n = s.about n := by
  have hd := congrFun (congrArg (fun x => x.2.2) h) n
  simp only [State.outside, if_neg hn, Option.some.injEq] at hd
  exact Prod.ext (State.shared_of_outside h) hd

/-- TABLE_SEL of every axis is outside each operation of a tick. -/
theorem State.tableSel_of_outside (h : t.outside m = s.outside m) (n : Ax) : t.tableSel n = s.tableSel n := by
  have same : t.reg (brPage n) 0x0E = s.reg (brPage n) 0x0E := by
    by_cases hn : n = m
    · subst hn; exact congrFun (congrArg (fun x => x.2.1) h) 4
    · exact State.reg_brPage_of_drive (congrArg Prod.snd (State.about_of_outside h hn)) (by decide)
  simp only [State.tableSel, State.regFld, same]

end Observed

/-! ### Updates of the state -/

theorem State.brg_modBrg_same (s : State) (n : Ax) (f : Bridge → Bridge) : (s.modBrg n f).brg n = f (s.brg n) := by
  simp [State.modBrg, State.setBrg, State.brg]

theorem State.brg_modBrg_other (s : State) (m n : Ax) (f : Bridge → Bridge) (h : m ≠ n) : (s.modBrg m f).brg n = s.brg n := by
  have hv : m.val ≠ n.val := fun e => h (Fin.ext e)
  simp [State.modBrg, State.setBrg, State.brg, hv]

/-- A page of no axis and of no bridge. -/
def Aside (p : Nat) : Prop := p < 0x10 ∨ 0x2A ≤ p

@[simp] theorem aside_ledgPage : Aside ledgPage := .inl (by decide)
@[simp] theorem aside_timePage : Aside timePage := .inl (by decide)
@[simp] theorem aside_tallyPage : Aside tallyPage := .inl (by decide)
@[simp] theorem aside_emuPage : Aside emuPage := .inl (by decide)
@[simp] theorem aside_gatePage : Aside gatePage := .inr (by decide)

@[simp] theorem lOff_lt (n : Ax) (k : Nat) (hk : k < 16) : lOff n k + 1 < 256 := by unfold lOff; omega

section Motors
variable (s : State)

@[simp] theorem State.motors_setReg (p o : Nat) (v : Word) (hp : Aside p) (ho : o < 256) : (s.setReg p o v).motors = s.motors :=
  State.motors_congr rfl rfl rfl (fun a _ _ => Store.get_set_other _ _ _ _ _ (by rcases hp with h | h <;> omega))

@[simp] theorem State.motors_event (p k : Nat) (hp : Aside p) : (s.event p k).motors = s.motors := s.motors_setReg p 3 _ hp (by decide)

@[simp] theorem State.motors_eventIf (c : Bool) (p k : Nat) (hp : Aside p) : (s.eventIf c p k).motors = s.motors := by
  cases c
  · rfl
  · exact s.motors_event p k hp

@[simp] theorem State.motors_count (p o : Nat) (hp : Aside p) (ho : o < 256) : (s.count p o).motors = s.motors :=
  s.motors_setReg p o _ hp ho

@[simp] theorem State.motors_setWide (p o : Nat) (v : Wide) (hp : Aside p) (ho : o + 1 < 256) : (s.setWide p o v).motors = s.motors :=
  (State.motors_setReg _ p (o + 1) _ hp ho).trans (s.motors_setReg p o _ hp (by omega))

@[simp] theorem State.motors_produce (k : Nat) : (s.produce k).motors = s.motors :=
  State.motors_congr (by simp [State.shared]) (by simp) (by simp) (by simp)

@[simp] theorem State.motors_modGate (f : Gate → Gate) : (s.modGate f).motors = s.motors := (rfl)
@[simp] theorem State.motors_modTime (f : MTime → MTime) : (s.modTime f).motors = s.motors := (rfl)
@[simp] theorem State.motors_modTrig (p : Fin 4) (f : Trig → Trig) : (s.modTrig p f).motors = s.motors := (rfl)
@[simp] theorem State.motors_modEmu (x : Fin 2) (f : Emu → Emu) : (s.modEmu x f).motors = s.motors := (rfl)
@[simp] theorem State.motors_modEnc (c : Nat) (f : Enc → Enc) : (s.modEnc c f).motors = s.motors := by
  unfold State.modEnc; split <;> rfl

@[simp] theorem State.motors_ledgFlag (n : Ax) (k : Nat) : (s.ledgFlag n k).motors = s.motors := by
  have := lOff_lt n 0xB (by decide)
  rw [State.ledgFlag, State.motors_event _ _ _ aside_ledgPage, State.motors_setReg _ _ _ _ aside_ledgPage (by omega)]

/-- What every step of a fold leaves of an observation, the fold leaves. -/
theorem foldl_keeps {α β : Type} (get : State → α) (f : State → β → State) (l : List β) (s : State)
    (hk : ∀ u, ∀ x ∈ l, get u = get s → get (f u x) = get s) : get (l.foldl f s) = get s := by
  suffices ∀ u, get u = get s → get (l.foldl f u) = get s from this s rfl
  induction l with
  | nil => exact fun _ h => h
  | cons x l ih =>
    exact fun u h => ih (fun u y hy => hk u y (List.mem_cons_of_mem x hy)) _ (hk u x List.mem_cons_self h)

theorem State.forAxes_keeps {α : Type} (get : State → α) (f : Ax → State → State) (l : List Ax)
    (hk : ∀ u, ∀ n ∈ l, get u = get s → get (f n u) = get s) : get (s.forAxes l f) = get s :=
  foldl_keeps get (fun s n => f n s) l s hk

/-- Where the operations of the other axes leave an observation, the axis's own alone shows. -/
theorem State.forAxes_at {α : Type} (get : State → α) (f : Ax → State → State) {l : List Ax} {n : Ax} (hnd : l.Nodup) (hn : n ∈ l)
    (hk : ∀ u m, m ≠ n → get (f m u) = get u) : ∃ u, get u = get s ∧ get (s.forAxes l f) = get (f n u) := by
  obtain ⟨l, l', rfl⟩ := List.append_of_mem hn
  obtain ⟨hl, hl'⟩ : n ∉ l ∧ n ∉ l' := by
    simp only [List.nodup_append, List.nodup_cons] at hnd
    exact ⟨fun h => hnd.2.2 n h n (by simp) rfl, hnd.2.1.1⟩
  have parts : s.forAxes (l ++ n :: l') f = (f n (s.forAxes l f)).forAxes l' f := by
    simp only [State.forAxes, List.foldl_append, List.foldl_cons]
  refine ⟨s.forAxes l f, s.forAxes_keeps get f l (fun u m hm hu => ?_), ?_⟩
  · rw [hk u m (fun e => hl (e ▸ hm)), hu]
  · rw [parts]
    exact State.forAxes_keeps _ get f l' (fun u m hm hu => by rw [hk u m (fun e => hl' (e ▸ hm)), hu])

end Motors

section Outside
variable (s : State) (m : Ax)

@[simp] theorem State.outside_modAxis (f : Axis → Axis) : (s.modAxis m f).outside m = s.outside m :=
  State.outside_ext rfl (fun _ _ _ => rfl)
    (fun n hn => State.drive_ext (s.axis_modAxis_other m n f hn.symm) rfl (fun _ _ => rfl) (fun _ _ => rfl))

@[simp] theorem State.outside_modBrg (f : Bridge → Bridge) : (s.modBrg m f).outside m = s.outside m :=
  State.outside_ext rfl (fun _ _ _ => rfl)
    (fun n hn => State.drive_ext rfl (s.brg_modBrg_other m n f hn.symm) (fun _ _ => rfl) (fun _ _ => rfl))

theorem State.outside_setReg (p o : Nat) (v : Word) (ho : o < 256) (hp : p = axPage m ∨ p = brPage m ∧ ¬(0x0A ≤ o ∧ o ≤ 0x0E)) :
    (s.setReg p o v).outside m = s.outside m := by
  have ax (k n : Ax) : axPage k ≠ brPage n := by unfold axPage brPage; omega
  refine State.outside_ext rfl (fun r h0 h1 => s.reg_setReg_other _ _ _ _ _ (fun h => ?_)) (fun n hn => State.drive_ext rfl rfl
    (fun r hr => s.reg_setReg_other _ _ _ _ _ (fun h => ?_)) (fun r hr => s.reg_setReg_other _ _ _ _ _ (fun h => ?_)))
  all_goals obtain ⟨hq, rfl⟩ := key_inj ho (by omega) h
  · rcases hp with rfl | ⟨-, hp⟩
    · exact ax m m hq
    · exact hp ⟨h0, h1⟩
  · rcases hp with rfl | ⟨rfl, -⟩
    · exact hn (axPage_inj.mp hq).symm
    · exact ax n m hq.symm
  · rcases hp with rfl | ⟨rfl, -⟩
    · exact ax m n hq
    · exact hn (brPage_inj.mp hq).symm

@[simp] theorem State.outside_setReg_ax (o : Nat) (v : Word) (ho : o < 256) : (s.setReg (axPage m) o v).outside m = s.outside m :=
  s.outside_setReg m _ o v ho (.inl rfl)

@[simp] theorem State.outside_setReg_br (o : Nat) (v : Word) (ho : o < 256) (h : ¬(0x0A ≤ o ∧ o ≤ 0x0E)) :
    (s.setReg (brPage m) o v).outside m = s.outside m := s.outside_setReg m _ o v ho (.inr ⟨rfl, h⟩)

@[simp] theorem State.outside_event_ax (k : Nat) : (s.event (axPage m) k).outside m = s.outside m :=
  s.outside_setReg_ax m 3 _ (by decide)

@[simp] theorem State.outside_event_br (k : Nat) : (s.event (brPage m) k).outside m = s.outside m :=
  s.outside_setReg_br m 3 _ (by decide) (by decide)

@[simp] theorem State.outside_eventIf_ax (c : Bool) (k : Nat) : (s.eventIf c (axPage m) k).outside m = s.outside m := by
  cases c
  · rfl
  · exact s.outside_event_ax m k

@[simp] theorem State.outside_setFld_ax (o l w v : Nat) (ho : o < 256) : (s.setFld (axPage m) o l w v).outside m = s.outside m :=
  s.outside_setReg_ax m o _ ho

@[simp] theorem State.outside_setWide_ax (o : Nat) (v : Wide) (ho : o + 1 < 256) :
    (s.setWide (axPage m) o v).outside m = s.outside m :=
  (State.outside_setReg_ax _ m (o + 1) _ ho).trans (s.outside_setReg_ax m o _ (by omega))

@[simp] theorem State.outside_count_ax (o : Nat) (ho : o < 256) : (s.count (axPage m) o).outside m = s.outside m :=
  s.outside_setReg_ax m o _ ho

@[simp] theorem State.outside_count_br (o : Nat) (ho : o < 256) (h : ¬(0x0A ≤ o ∧ o ≤ 0x0E)) :
    (s.count (brPage m) o).outside m = s.outside m := s.outside_setReg_br m o _ ho h

@[simp] theorem State.outside_modLedger (n : Ax) (f : Ledger → Ledger) : (s.modLedger n f).outside m = s.outside m := (rfl)

@[simp] theorem State.outside_ledgFlag (n : Ax) (k : Nat) : (s.ledgFlag n k).outside m = s.outside m :=
  State.outside_of_motors (s.motors_ledgFlag n k) m

@[simp] theorem State.outside_produce (k : Nat) : (s.produce k).outside m = s.outside m :=
  State.outside_of_motors (s.motors_produce k) m

@[simp] theorem State.outside_setReg_ledg (n : Ax) (k : Nat) (v : Word) (hk : k < 16) :
    (s.setReg ledgPage (lOff n k) v).outside m = s.outside m :=
  State.outside_of_motors (s.motors_setReg _ _ v aside_ledgPage (by have := lOff_lt n k hk; omega)) m

@[simp] theorem State.outside_setWide_ledg (n : Ax) (k : Nat) (v : Wide) (hk : k < 16) :
    (s.setWide ledgPage (lOff n k) v).outside m = s.outside m :=
  State.outside_of_motors (s.motors_setWide _ _ v aside_ledgPage (lOff_lt n k hk)) m

@[simp] theorem State.outside_ite (c : Prop) {_ : Decidable c} (t : State) :
    (if c then s else t).outside m = if c then s.outside m else t.outside m := apply_ite (fun u : State => u.outside m) c s t

end Outside

end Sys2Proof.Machine
end
section
/-! SUPPORT. The parts of a ramp tick that are no axis's: machine time, channels, lamp chain, gate port, barriers, triggers and
emulation. They leave every axis and bridge alone. -/

namespace Sys2Proof.Machine

open Sys2Proof.Safety

section
variable (s : State)

@[simp] theorem State.motors_timeTick : s.timeTick.motors = s.motors := by
  have undisc (u : State) : u.undiscipline.motors = u.motors := by simp [State.undiscipline]
  have corr (u : State) : u.beginCorr.motors = u.motors := by
    unfold State.beginCorr
    split <;> simp [State.timeEvent, undisc]
  unfold State.timeTick
  split <;> simp [corr]

@[simp] theorem State.motors_encTicks : s.encTicks.motors = s.motors := by
  unfold State.encTicks
  split
  · refine foldl_keeps State.motors _ _ s (fun u c _ hu => ?_)
    split <;> simpa [State.encTick] using hu
  · rfl

@[simp] theorem State.motors_chainTick : s.chainTick.motors = s.motors := by
  unfold State.chainTick
  split <;> rfl

/-! ### The gate port -/

@[simp] theorem State.motors_gateHalf (j : Fin 3) (ask : BitVec 8) (t : Nat) : (s.gateHalf j ask t).motors = s.motors := by
  simp only [State.gateHalf, State.interlocked, ProtPage.page]
  split <;> simp

@[simp] theorem State.motors_gateEdge (t : Nat) : (s.gateEdge t).motors = s.motors := by simp [State.gateEdge]

@[simp] theorem State.motors_gateFollow : s.gateFollow.motors = s.motors :=
  foldl_keeps State.motors _ _ s (fun u j _ hu => by simpa [State.gateHalfFollow] using hu)

@[simp] theorem State.motors_gateEnter (st : GState) : (s.gateEnter st).motors = s.motors := by
  unfold State.gateEnter
  split <;> simp

@[simp] theorem State.motors_commutate (t : Nat) : (s.commutate t).motors = s.motors := by
  unfold State.commutate
  split_ifs <;> simp

@[simp] theorem State.motors_gateAt (t : Nat) : (s.gateAt t).motors = s.motors := by
  simp only [State.gateAt, State.gateEdges, State.motors_modGate]
  split_ifs <;> simp [State.deadFollow]

@[simp] theorem State.motors_gateClock (ns : Nat) : (s.gateClock ns).motors = s.motors := by
  simp only [State.gateClock, State.gateTime, State.motors_modGate, State.motors_gateAt, State.gateUpTo]
  split
  · rfl
  · exact foldl_keeps State.motors _ _ s (fun u t _ hu => by simpa using hu)

@[simp] theorem State.motors_gateStopDone : s.gateStopDone.motors = s.motors := by
  simp [State.gateStopDone, State.gateQuiet, State.gateEvent]

@[simp] theorem State.motors_gateTick : s.gateTick.motors = s.motors := by
  unfold State.gateTick
  extract_lets told g stopped vm vc vt am moved v sg turned held
  have hstopped : stopped.motors = s.motors := by
    unfold stopped
    split <;> simp [State.gateQuiet, State.gateEvent, told]
  have hmoved : moved.motors = s.motors := by
    rw [← hstopped]
    unfold moved
    split
    · simp
    · dsimp only
      split <;> simp
    · rfl
  have hheld : held.motors = s.motors := by
    unfold held
    split <;> simp [turned, hmoved]
  split
  · exact hmoved
  · split <;> simp [hheld]

@[simp] theorem State.motors_gatePolicyNow : s.gatePolicyNow.motors = s.motors := by
  unfold State.gatePolicyNow
  split
  · rfl
  · simp [State.gateFaultNow]

theorem State.motors_gateLatch (m : BitVec 8) : (s.setLatch .gate .uv m).motors = s.motors := by
  unfold State.setLatch
  extract_lets pg fresh exhausted latched evented sw named timed spent
  have htimed : timed.motors = s.motors := by
    have hlatched : latched.motors = s.motors := by
      simp [latched, State.modProt, State.ovFollow, State.pageEdges, State.swForget, State.modSw]
    simp [timed, named, pg, ProtPage.page, evented, FaultClass.eventBit, hlatched]
  have hspent : spent.motors = s.motors := by
    rw [← htimed]
    unfold spent
    split
    · simp [pg, ProtPage.page, State.modProt]
    · rfl
  simp [State.gatePull, hspent]

@[simp] theorem State.motors_bstWatch : s.bstWatch.motors = s.motors := by
  refine foldl_keeps State.motors _ _ s (fun u k _ hu => ?_)
  dsimp only
  split
  · rw [State.motors_gateLatch, hu]
  · exact hu

/-! ### Barriers, triggers and emulation -/

@[simp] theorem State.motors_releaseBarriers : s.releaseBarriers.motors = s.motors := by
  refine foldl_keeps State.motors _ _ s (fun u b _ hu => ?_)
  dsimp only
  split
  · rw [State.motors_event _ _ _ aside_ledgPage, ← hu]
    exact u.forAxes_keeps State.motors _ _ (fun v n _ hv => hv)
  · exact hu

@[simp] theorem State.motors_trigFire (p : Fin 4) (r : Bool) (prev new : Wide) : (s.trigFire p r prev new).motors = s.motors := by
  have place (k : Nat) (hk : k < 8) : pOff p k + 1 < 256 := by unfold pOff; omega
  simp only [State.trigFire]
  split <;> simp [place]

@[simp] theorem State.motors_trigEval (p : Fin 4) (new : Wide) : (s.trigEval p new).motors = s.motors := by
  simp only [State.trigEval]
  split
  · simp
  · split
    · simp
    · split <;> simp

@[simp] theorem State.motors_emuMove (x : Fin 2) (v : Wide) : (s.emuMove x v).motors = s.motors := by
  simp only [State.emuMove]
  split <;> simp

@[simp] theorem State.motors_sourceMoved (code : Nat) : (s.sourceMoved code).motors = s.motors := by
  have trigs (u : State) : (u.trigsOf code).motors = u.motors := by
    unfold State.trigsOf
    split
    · rfl
    · exact foldl_keeps State.motors _ _ u (fun v p _ hv => by split <;> simpa using hv)
  have emus (u : State) : (u.emusOf code).motors = u.motors := by
    unfold State.emusOf
    split
    · rfl
    · split
      · rfl
      · exact foldl_keeps State.motors _ _ u (fun v p _ hv => by split <;> simpa using hv)
  rw [State.sourceMoved, emus, trigs]

@[simp] theorem State.motors_axisSources : s.axisSources.motors = s.motors :=
  s.forAxes_keeps State.motors _ _ (fun u n _ hu => by simpa using hu)

/-- Without a latch STOP_N only shows its level. -/
theorem State.motors_stopTick (high : Bool) (h : s.stopN = false) : (s.stopTick high).motors = s.motors := by
  have : (s.modPins (fun p => { p with stopN := high })).stopN = false := h
  rw [State.stopTick, this]
  rfl

theorem State.drive_stopClear (high : Bool) (n : Ax) : (s.stopClear high).drive n = s.drive n := by
  unfold State.stopClear
  split <;> rfl

end

end Sys2Proof.Machine
end
section
/-! SUPPORT. What the operations of one axis in a ramp tick leave alone: everything outside that axis (`State.outside`). One lemma for
each operation, in the order of the model. -/

namespace Sys2Proof.Machine

open Sys2Proof.Safety

section
variable (s : State) (n : Ax)

/-! ### Switches of the bridge -/

@[simp] theorem State.outside_modPh (p : Phase) (f : ChopPh → ChopPh) : (s.modPh n p f).outside n = s.outside n :=
  s.outside_modBrg n _

@[simp] theorem State.outside_interlocked (b : Bool) : (s.interlocked (.brg n) b).outside n = s.outside n := by
  unfold State.interlocked
  split <;> simp [ProtPage.page]

@[simp] theorem State.outside_brgHalf (j : Fin 4) (ask : BitVec 8) (t : Nat) : (s.brgHalf n j ask t).outside n = s.outside n := by
  simp [State.brgHalf, State.phEdge]

@[simp] theorem State.outside_swEdge (p : Phase) (t : Nat) (f : ChopPh → ChopPh) : (s.swEdge n p t f).outside n = s.outside n := by
  cases p <;> simp [State.swEdge]

@[simp] theorem State.outside_phaseTime (p : Phase) (t : Nat) : (s.phaseTime n p t).outside n = s.outside n := by
  unfold State.phaseTime
  dsimp only
  split
  · simp
  · split <;> simp

@[simp] theorem State.outside_dieTick (ns : Nat) : (s.dieTick ns n).outside n = s.outside n := by
  simp [State.dieTick, State.dieReach, State.dieTime]

@[simp] theorem State.outside_brgFollow : (s.brgFollow n).outside n = s.outside n :=
  foldl_keeps (fun u => u.outside n) _ _ s (fun u j _ hu => by simpa [State.brgHalfFollow, State.phEdge] using hu)

/-! ### Modes -/

@[simp] theorem State.outside_axisRefuse (code : Nat) : (s.axisRefuse n code).outside n = s.outside n := by
  simp [State.axisRefuse]

@[simp] theorem State.outside_ledgerEnter : (s.ledgerEnter n).outside n = s.outside n := by simp [State.ledgerEnter]

@[simp] theorem State.outside_bridgeOff : (s.bridgeOff n).outside n = s.outside n := by simp [State.bridgeOff]

@[simp] theorem State.outside_enterMode (m : Mode) : (s.enterMode n m).outside n = s.outside n := by
  cases m <;> simp [State.enterMode, State.ledgerLeave, State.followEnter]

@[simp] theorem State.outside_charFail (r : Nat) (m : Mode) : (s.charFail n r m).outside n = s.outside n := by
  simp [State.charFail, State.setCharResult]

@[simp] theorem State.outside_charEndIn (m : Mode) : (s.charEndIn n m).outside n = s.outside n := by simp [State.charEndIn]

@[simp] theorem State.outside_stopDone (m : Mode) : (s.stopDone n m).outside n = s.outside n := by simp [State.stopDone]

@[simp] theorem State.outside_startStop (m : Mode) : (s.startStop n m).outside n = s.outside n := by
  unfold State.startStop
  dsimp only
  split
  · split <;> simp [State.ledgerPause]
  · rfl

@[simp] theorem State.outside_parkNow : (s.parkNow n).outside n = s.outside n := by
  unfold State.parkNow
  split <;> simp

/-! ### Profiles -/

@[simp] theorem State.outside_profileStart : (s.profileStart n).outside n = s.outside n := by simp [State.profileStart]

@[simp] theorem State.outside_planMove (t : Int) (l : Limits) : (s.planMove n t l).outside n = s.outside n := by
  simp [State.planMove]

@[simp] theorem State.outside_targetReached : (s.targetReached n).outside n = s.outside n := by simp [State.targetReached]

@[simp] theorem State.outside_planTravel (t : Int) (leg : Nat) : (s.planTravel n t leg).outside n = s.outside n := by
  simp [State.planTravel]

@[simp] theorem State.outside_charBegin (step : Nat) : (s.charBegin n step).outside n = s.outside n := by
  unfold State.charBegin
  dsimp only
  split
  · split <;> simp
  · simp

@[simp] theorem State.outside_charStart : (s.charStart n).outside n = s.outside n := by
  simp [State.charStart]

/-! ### Requests -/

@[simp] theorem State.outside_dirInvNow : (s.dirInvNow n).outside n = s.outside n := by
  unfold State.dirInvNow
  split <;> simp

@[simp] theorem State.outside_judgeSetPos : (s.judgeSetPos n).outside n = s.outside n := by
  unfold State.judgeSetPos
  extract_lets a placed
  have hplaced : placed.outside n = s.outside n := by simp [placed, State.loadPosition]
  clear_value placed
  split
  · exact hplaced
  · simp

@[simp] theorem State.outside_grantMode (m : Mode) : (s.grantMode n m).outside n = s.outside n := by
  simp only [State.grantMode]
  split <;> simp

@[simp] theorem State.outside_judgeMode (code : Nat) : (s.judgeMode n code).outside n = s.outside n := by
  unfold State.judgeMode
  dsimp only
  split
  · split <;> simp [State.recordStop]
  · split
    · rfl
    · split
      · simp
      · split <;> simp

@[simp] theorem State.outside_judgeRt : (s.judgeRt n).outside n = s.outside n := by simp [State.judgeRt]

@[simp] theorem State.outside_judgeRequests : (s.judgeRequests n).outside n = s.outside n := by
  simp only [State.judgeRequests]
  split <;> split <;> simp

/-! ### Motion -/

@[simp] theorem State.outside_setChan (c : Chan) : (s.setChan n c).outside n = s.outside n := s.outside_modAxis n _

@[simp] theorem State.outside_goalTick : (s.goalTick n).2.outside n = s.outside n := by
  unfold State.goalTick
  dsimp only
  split
  · simp [State.cruiseTick]
  · split <;> simp [State.reversalDone]
  · split <;> simp
  · split <;> simp

@[simp] theorem State.outside_limitStop : (s.limitStop n).outside n = s.outside n := by simp [State.limitStop]

@[simp] theorem State.outside_velocityTick : (s.velocityTick n).outside n = s.outside n := by
  unfold State.velocityTick
  extract_lets
  split
  · exact s.outside_setChan n _
  · rw [State.outside_ite, State.outside_limitStop, ite_self]
    exact s.outside_setChan n _

@[simp] theorem State.outside_stopAdvance (m : Mode) : (s.stopAdvance n m).outside n = s.outside n := by
  simp [State.stopAdvance]

@[simp] theorem State.outside_followLag (d : Int) : (s.followLag n d).outside n = s.outside n := by simp [State.followLag]

@[simp] theorem State.outside_followTrack : (s.followTrack n).outside n = s.outside n := by
  unfold State.followTrack
  dsimp only
  split <;> simp

@[simp] theorem State.outside_followTick : (s.followTick n).outside n = s.outside n := by
  unfold State.followTick
  extract_lets src refused
  rw [State.outside_ite, State.outside_followTrack]
  refine ite_eq_left_iff.mpr (fun _ => ?_)
  split <;> simp [refused]

@[simp] theorem State.outside_travelTick (t : Int) : (s.travelTick n t).outside n = s.outside n := by
  unfold State.travelTick
  dsimp only
  split <;> simp [State.cruiseSample]

@[simp] theorem State.outside_charTick : (s.charTick n).outside n = s.outside n := by
  unfold State.charTick
  dsimp only
  split
  · simp
  · split <;> simp

@[simp] theorem State.outside_resumeFrozen : (s.resumeFrozen n).outside n = s.outside n := by
  unfold State.resumeFrozen
  dsimp only
  split <;> simp

@[simp] theorem State.outside_axisMotion : (s.axisMotion n).2.outside n = s.outside n := by
  unfold State.axisMotion
  dsimp only
  split
  · rfl
  · split
    · simp
    · split <;> simp

/-! ### Load angle, deviation and limits -/

@[simp] theorem State.outside_declareStall : (s.declareStall n).outside n = s.outside n := by
  simp only [State.declareStall]
  split
  · simp [State.markSeen]
  · split <;> simp

@[simp] theorem State.outside_estimateNow : (s.estimateNow n).outside n = s.outside n := by
  simp [State.estimateNow]

@[simp] theorem State.outside_stallTick (old : Int) : (s.stallTick n old).outside n = s.outside n := by
  simp [State.stallTick]

@[simp] theorem State.outside_deviationTick : (s.deviationTick n).outside n = s.outside n := by
  unfold State.deviationTick
  extract_lets pg aligned shown lim beyond was judged noted
  have hjudged : judged.outside n = s.outside n := by simp [judged, shown, aligned, pg, State.encAlignNow]
  split
  · split <;> simp [noted, pg, hjudged]
  · exact hjudged

@[simp] theorem State.outside_limitTick : (s.limitTick n).outside n = s.outside n := by
  simp only [State.limitTick]
  split <;> simp

@[simp] theorem State.outside_axisTick : (s.axisTick n).2.outside n = s.outside n := by
  simp [State.axisTick, State.settleTick]

/-! ### The ledger -/

@[simp] theorem State.outside_ledgerFault (c : Nat) : (s.ledgerFault n c).outside n = s.outside n := by simp [State.ledgerFault]

@[simp] theorem State.outside_lowWater (k : Nat) : (s.lowWater n k).outside n = s.outside n := by simp [State.lowWater]

@[simp] theorem State.outside_completeRecord (r : LRec) : (s.completeRecord n r).outside n = s.outside n := by
  simp [State.completeRecord]

@[simp] theorem State.outside_clampNote (b l : Nat) : (s.clampNote n b l).outside n = s.outside n := by simp [State.clampNote]

@[simp] theorem State.outside_recordCurrent (o c : Nat) (ho : o < 0x0A) : (s.recordCurrent n o c).outside n = s.outside n := by
  have h : ¬(0x0A ≤ o ∧ o ≤ 0x0E) := by omega
  simp [State.recordCurrent, State.clampFresh, h, show o < 256 by omega]

@[simp] theorem State.outside_startEffect (r : LRec) (p : Option LRun) : (s.startEffect n r p).2.outside n = s.outside n := by
  unfold State.startEffect
  dsimp only
  split <;> simp [apply_ite Prod.snd]

@[simp] theorem State.outside_startRecord (r : LRec) : (s.startRecord n r).2.outside n = s.outside n := by
  unfold State.startRecord
  extract_lets resume free fast resumed late lit produced
  split
  · exact s.outside_ledgerFault n _
  · simp [produced, lit, late, resumed, fast, free]

@[simp] theorem State.outside_runRecords (k : Nat) : (State.runRecords n k s).outside n = s.outside n := by
  induction k generalizing s with
  | zero => rfl
  | succ k ih =>
    unfold State.runRecords
    extract_lets a l
    split
    · rfl
    split
    · simp
    split
    · simp
    next r rest hl =>
    extract_lets arrived
    have harrived : arrived.outside n = s.outside n := by simp [arrived]
    split
    · simp [harrived]
    · have hstart := arrived.outside_startRecord n r
      rw [harrived] at hstart
      split <;> simp_all

@[simp] theorem State.outside_seekHit (r : LRec) : (s.seekHit n r).outside n = s.outside n := by
  simp [State.seekHit]

@[simp] theorem State.outside_recordProgress (ev : MEv) : (s.recordProgress n ev).outside n = s.outside n := by
  unfold State.recordProgress
  dsimp only
  split
  · split <;> simp
  · rfl

@[simp] theorem State.outside_ledgerTick (ev : MEv) : (s.ledgerTick n ev).outside n = s.outside n := by
  simp [State.ledgerTick]

/-! ### Currents -/

@[simp] theorem State.outside_setpointsIn : (s.setpointsIn n).outside n = s.outside n := by
  unfold State.setpointsIn
  split
  · rfl
  · simp

@[simp] theorem State.outside_currentTick : (s.currentTick n).outside n = s.outside n := by
  simp only [State.currentTick]
  split <;> simp

end

end Sys2Proof.Machine
end
section
/-! SUPPORT. What the currents of an axis follow (R229 to R234), and what the parts of a ramp tick make of it for an axis at rest, in
VELOCITY or PARKED. -/

namespace Sys2Proof.Machine

open Sys2Proof.Safety

/-! ### What the currents follow -/

/-- The fields of an axis that its currents, and the parts of a tick before them, go by. -/
def Axis.gist (a : Axis) : Axis :=
  { mode := a.mode, goal := a.goal, stopping := a.stopping, req := a.req, chan := { v := a.chan.v, a := a.chan.a } }

/-- The fields of a bridge that hold its currents. -/
def Bridge.gist (b : Bridge) : Bridge := { level := b.level, rest := b.rest, iEff := b.iEff, clamped := b.clamped, next := b.next }

/-- ENABLE, the jog limits, VCMD, FERR_LIMIT and STALL_CFG. -/
def axHeeds (o : Nat) : Bool := o == 0x01 || (0x1C ≤ o && o < 0x26) || o == 0x3C || o == 0x40

/-- The levels, SS_DELAY, CUR_SLEW, CUR_LIMIT and TABLE_SEL. -/
def brHeeds (o : Nat) : Bool := 0x08 ≤ o && o < 0x0F

structure Gist where
  shared : Shared
  axis : Axis
  brg : Bridge
  /-- Soft limits are on. -/
  limited : Bool
  axReg : Fin 256 → Word
  brReg : Fin 256 → Word
  setA : Word
  setB : Word

def State.gist (s : State) (n : Ax) : Gist where
  shared := s.shared
  axis := (s.axis n).gist
  brg := (s.brg n).gist
  limited := s.regBit (axPage n) 0x0B 1
  axReg o := if axHeeds o then s.reg (axPage n) o else 0#16
  brReg o := if brHeeds o then s.reg (brPage n) o else 0#16
  setA := s.reg (brPage n) 0x23
  setB := s.reg (brPage n) 0x24

/-- The setpoints formed on the tick before are in force (R27). -/
def Gist.taken (g : Gist) : Gist :=
  match g.brg.next with
  | none => g
  | some (a, b) => { g with brg := { g.brg with next := none }, setA := a, setB := b }

/-- The axis with another velocity and acceleration. -/
def Gist.moved (g : Gist) (v a : Int) : Gist := { g with axis := { g.axis with chan := { v := v, a := a } } }

section Taken
variable (g : Gist)

@[simp] theorem Gist.taken_shared : g.taken.shared = g.shared := by unfold Gist.taken; split <;> rfl
@[simp] theorem Gist.taken_axis : g.taken.axis = g.axis := by unfold Gist.taken; split <;> rfl
@[simp] theorem Gist.taken_limited : g.taken.limited = g.limited := by unfold Gist.taken; split <;> rfl
@[simp] theorem Gist.taken_axReg : g.taken.axReg = g.axReg := by unfold Gist.taken; split <;> rfl
@[simp] theorem Gist.taken_brReg : g.taken.brReg = g.brReg := by unfold Gist.taken; split <;> rfl

theorem Gist.taken_brg : g.taken.brg = { g.brg with next := none } := by
  unfold Gist.taken
  split
  · rename_i h; rw [← h]
  · rfl

end Taken

section
variable {s t : State} {n : Ax}

theorem State.gist_ext (hs : t.shared = s.shared) (ha : (t.axis n).gist = (s.axis n).gist) (hb : (t.brg n).gist = (s.brg n).gist)
    (hl : t.regBit (axPage n) 0x0B 1 = s.regBit (axPage n) 0x0B 1)
    (hx : ∀ o < 256, axHeeds o = true → t.reg (axPage n) o = s.reg (axPage n) o)
    (hr : ∀ o < 256, brHeeds o = true ∨ o = 0x23 ∨ o = 0x24 → t.reg (brPage n) o = s.reg (brPage n) o) : t.gist n = s.gist n := by
  unfold State.gist
  congr 1
  · exact funext fun o => ite_congr rfl (hx o o.isLt) (fun _ => rfl)
  · exact funext fun o => ite_congr rfl (fun h => hr o o.isLt (.inl h)) (fun _ => rfl)
  · exact hr 0x23 (by decide) (.inr (.inl rfl))
  · exact hr 0x24 (by decide) (.inr (.inr rfl))

theorem State.gist_of_about (h : t.about n = s.about n) : t.gist n = s.gist n := by
  have hd : t.drive n = s.drive n := congrArg Prod.snd h
  exact State.gist_ext (congrArg Prod.fst h) (by rw [State.axis_of_drive hd]) (by rw [State.brg_of_drive hd])
    (by rw [State.regBit, State.reg_axPage_of_drive hd (by decide)]; rfl)
    (fun _ ho _ => State.reg_axPage_of_drive hd ho) (fun _ ho _ => State.reg_brPage_of_drive hd ho)

theorem State.reg_axPage_of_gist (h : (t.gist n).axReg = (s.gist n).axReg) (o : Nat) (ho : o < 256) (hh : axHeeds o = true) :
    t.reg (axPage n) o = s.reg (axPage n) o := by
  have := congrFun h ⟨o, ho⟩
  simpa [State.gist, hh] using this

theorem State.reg_brPage_of_gist (h : (t.gist n).brReg = (s.gist n).brReg) (o : Nat) (ho : o < 256) (hh : brHeeds o = true) :
    t.reg (brPage n) o = s.reg (brPage n) o := by
  have := congrFun h ⟨o, ho⟩
  simpa [State.gist, hh] using this

end

section
variable (s : State) (n : Ax)

theorem State.gist_modAxis_at (f : Axis → Axis) (h : (f (s.axis n)).gist = (s.axis n).gist) : (s.modAxis n f).gist n = s.gist n :=
  State.gist_ext rfl (by rw [s.axis_modAxis_same, h]) rfl rfl (fun _ _ _ => rfl) (fun _ _ _ => rfl)

theorem State.gist_modAxis (f : Axis → Axis) (h : ∀ a, (f a).gist = a.gist := by intro _; rfl) :
    (s.modAxis n f).gist n = s.gist n :=
  s.gist_modAxis_at n f (h _)

theorem State.gist_modBrg (f : Bridge → Bridge) (h : ∀ b, (f b).gist = b.gist := by intro _; rfl) :
    (s.modBrg n f).gist n = s.gist n :=
  State.gist_ext rfl rfl (by rw [s.brg_modBrg_same, h]) rfl (fun _ _ _ => rfl) (fun _ _ _ => rfl)

theorem State.gist_setReg_ax (o : Nat) (v : Word) (ho : o < 256) (hh : axHeeds o = false)
    (hb : o = 0x0B → v.getLsbD 1 = s.regBit (axPage n) 0x0B 1) : (s.setReg (axPage n) o v).gist n = s.gist n := by
  refine State.gist_ext rfl rfl rfl ?_ (fun r hr hx => s.reg_setReg_other _ _ _ _ _ (fun h => ?_))
    (fun r hr _ => s.reg_setReg_other _ _ _ _ _ (by unfold axPage brPage; omega))
  · by_cases h : o = 0x0B
    · subst h
      rw [State.regBit, s.reg_setReg_same, hb rfl]
    · rw [State.regBit, s.reg_setReg_other _ _ _ _ _ (by omega)]; rfl
  · obtain ⟨-, rfl⟩ := key_inj ho hr h
    exact absurd hx (by simp [hh])

theorem State.gist_setReg_shown (o : Nat) (v : Word) (ho : o < 256 := by decide) (hh : axHeeds o = false := by decide)
    (hb : o ≠ 0x0B := by decide) : (s.setReg (axPage n) o v).gist n = s.gist n :=
  s.gist_setReg_ax n o v ho hh (fun h => absurd h hb)

theorem State.gist_setReg_br (o : Nat) (v : Word) (ho : o < 256 := by decide) (hh : brHeeds o = false := by decide)
    (ha : o ≠ 0x23 := by decide) (hb : o ≠ 0x24 := by decide) :
    (s.setReg (brPage n) o v).gist n = s.gist n := by
  have hx (r : Nat) (hr : r < 256) : (s.setReg (brPage n) o v).reg (axPage n) r = s.reg (axPage n) r :=
    s.reg_setReg_other _ _ _ _ _ (by unfold axPage brPage; omega)
  refine State.gist_ext rfl rfl rfl (by rw [State.regBit, hx _ (by decide)]; rfl) (fun r hr _ => hx r hr)
    (fun r hr hx => s.reg_setReg_other _ _ _ _ _ (fun h => ?_))
  obtain ⟨-, rfl⟩ := key_inj ho hr h
  simp_all

/-! ### The bridge's die -/

@[simp] theorem State.gist_modPh (p : Phase) (f : ChopPh → ChopPh) : (s.modPh n p f).gist n = s.gist n :=
  s.gist_modBrg n _ (fun _ => by cases p <;> rfl)

@[simp] theorem State.gist_modSwitches (f : Bridge → Vector Sw 8) : (s.modBrg n (fun b => { b with sw := f b })).gist n = s.gist n :=
  s.gist_modBrg n _

@[simp] theorem State.gist_modDieTick (f : Bridge → Nat) : (s.modBrg n (fun b => { b with tick := f b })).gist n = s.gist n :=
  s.gist_modBrg n _

@[simp] theorem State.gist_interlocked (b : Bool) : (s.interlocked (.brg n) b).gist n = s.gist n := by
  unfold State.interlocked
  split
  · exact (State.gist_setReg_br _ n 0x03 _).trans
      (s.gist_setReg_br n 0x54 _)
  · rfl

@[simp] theorem State.gist_ite (c : Prop) {_ : Decidable c} (t : State) :
    (if c then s else t).gist n = if c then s.gist n else t.gist n := apply_ite (fun u : State => u.gist n) c s t

@[simp] theorem State.gist_brgHalf (j : Fin 4) (ask : BitVec 8) (t : Nat) : (s.brgHalf n j ask t).gist n = s.gist n := by
  simp [State.brgHalf, State.phEdge]

@[simp] theorem State.gist_swEdge (p : Phase) (t : Nat) (f : ChopPh → ChopPh) : (s.swEdge n p t f).gist n = s.gist n := by
  cases p <;> simp [State.swEdge]

@[simp] theorem State.gist_phaseTime (p : Phase) (t : Nat) : (s.phaseTime n p t).gist n = s.gist n := by
  unfold State.phaseTime
  dsimp only
  split
  · simp
  · split <;> simp

@[simp] theorem State.gist_dieTick (ns : Nat) : (s.dieTick ns n).gist n = s.gist n := by
  simp [State.dieTick, State.dieReach, State.dieTime]

@[simp] theorem State.gist_brgFollow : (s.brgFollow n).gist n = s.gist n :=
  foldl_keeps (fun u => u.gist n) _ _ s (fun u j _ hu => by simpa [State.brgHalfFollow, State.phEdge] using hu)

/-! ### The setpoints of the tick before -/

/-- New setpoints in force show in SET_A and SET_B. -/
theorem State.gist_setSetpoints (x y : Word) :
    (((s.modBrg n (fun b => { b with next := none })).setReg (brPage n) 0x23 x).setReg (brPage n) 0x24 y).gist n
      = { s.gist n with brg := { (s.gist n).brg with next := none }, setA := x, setB := y } := by
  set u := s.modBrg n (fun b => { b with next := none })
  have hax (o : Nat) (ho : o < 256) : ((u.setReg (brPage n) 0x23 x).setReg (brPage n) 0x24 y).reg (axPage n) o = s.reg (axPage n) o := by
    rw [State.reg_setReg_other _ _ _ _ _ _ (by unfold axPage brPage; omega),
      State.reg_setReg_other _ _ _ _ _ _ (by unfold axPage brPage; omega)]
    rfl
  have hbr (o : Nat) (ha : o ≠ 0x23) (hb : o ≠ 0x24) :
      ((u.setReg (brPage n) 0x23 x).setReg (brPage n) 0x24 y).reg (brPage n) o = s.reg (brPage n) o := by
    rw [State.reg_setReg_other _ _ _ _ _ _ (by omega), State.reg_setReg_other _ _ _ _ _ _ (by omega)]
    rfl
  unfold State.gist State.regBit
  congr 1
  · show (u.brg n).gist = _
    rw [s.brg_modBrg_same]
    rfl
  · rw [hax 0x0B (by decide)]
  · funext o; rw [hax o o.isLt]
  · exact funext fun o => ite_congr rfl (fun h => hbr o (fun e => by simp [e, brHeeds] at h) (fun e => by simp [e, brHeeds] at h))
      (fun _ => rfl)
  · rw [State.reg_setReg_other _ _ _ _ _ _ (by omega), State.reg_setReg_same]
  · rw [State.reg_setReg_same]

theorem State.gist_setpointsIn : (s.setpointsIn n).gist n = (s.gist n).taken := by
  have hnext : (s.gist n).brg.next = (s.brg n).next := rfl
  unfold State.setpointsIn Gist.taken
  rw [hnext]
  cases (s.brg n).next with
  | none => rfl
  | some p =>
    dsimp only
    rw [State.gist_ite, State.gist_brgFollow, ite_self, State.gist_modAxis _ n _, s.gist_setSetpoints]

/-! ### Requests -/

theorem State.gist_dirInvNow : (s.dirInvNow n).gist n = s.gist n := by
  unfold State.dirInvNow
  split
  · rfl
  · refine (State.gist_modAxis _ n _).trans (s.gist_setReg_ax n 0x0B _ (by decide) (by decide) (fun _ => ?_))
    have outsideField : (BitVec.ofNat 16 ((2 ^ 1 - 1) <<< 8)).getLsbD 1 = false := by decide
    simp only [BitVec.getLsbD_or, BitVec.getLsbD_and, BitVec.getLsbD_not, outsideField]
    simp [State.regBit]

/-- Without a request only a change of DIR_INV takes effect. -/
theorem State.judgeRequests_none (h : (s.axis n).req = {}) :
    s.judgeRequests n = (s.dirInvNow n).modAxis n (fun a => { a with req := {} }) := by
  have hreq : ((s.dirInvNow n).axis n).req = {} := (congrArg (fun g => g.axis.req) (s.gist_dirInvNow n)).trans h
  simp only [State.judgeRequests, hreq]
  rfl

theorem State.gist_judgeRequests (h : (s.axis n).req = {}) : (s.judgeRequests n).gist n = s.gist n := by
  have hreq : ((s.dirInvNow n).axis n).req = {} := (congrArg (fun g => g.axis.req) (s.gist_dirInvNow n)).trans h
  rw [s.judgeRequests_none n h, State.gist_modAxis_at, s.gist_dirInvNow]
  simp [Axis.gist, hreq]

end

end Sys2Proof.Machine
end
section
/-! SUPPORT. The motion of an axis on a tick that nothing else touches: at rest or PARKED it stays, in VELOCITY only its velocity and
acceleration change, and a cruise keeps those too (R186, R192). -/

namespace Sys2Proof.Machine

open Sys2Proof.Safety

/-- Neither a STOP nor a request acts on the enabled axis, and neither a following error nor a stall is watched for. -/
def State.undisturbed (s : State) (n : Ax) : Prop :=
  s.regBit (axPage n) 0x01 0 = true ∧ (s.axis n).stopping = none ∧ (s.axis n).req = {} ∧ s.reg (axPage n) 0x3C = 0#16 ∧
    s.regBit (axPage n) 0x40 0 = false

theorem State.undisturbed_of_gist {s t : State} {n : Ax} (h : s.undisturbed n) (hx : (t.gist n).axReg = (s.gist n).axReg)
    (hstop : (t.axis n).stopping = (s.axis n).stopping) (hreq : (t.axis n).req = (s.axis n).req) : t.undisturbed n := by
  unfold State.undisturbed State.regBit at h ⊢
  rwa [State.reg_axPage_of_gist hx 0x01 (by decide) rfl, State.reg_axPage_of_gist hx 0x3C (by decide) rfl,
    State.reg_axPage_of_gist hx 0x40 (by decide) rfl, hstop, hreq]

section
variable (s : State) (n : Ax)

/-! ### What follows the motion -/

theorem State.gist_setWide_deviation (v : Wide) : (s.setWide (axPage n) 0x3A v).gist n = s.gist n :=
  (State.gist_setReg_shown _ n 0x3B _).trans
    (s.gist_setReg_shown n 0x3A _)

theorem State.gist_settleTick : (s.settleTick n).gist n = s.gist n := s.gist_modAxis n _

/-- Where no stall is watched for, an estimate only shows itself. -/
theorem State.gist_estimateNow (h : s.regBit (axPage n) 0x40 0 = false) : (s.estimateNow n).gist n = s.gist n := by
  unfold State.estimateNow
  split
  next la amp exp _ =>
  extract_lets pg shown ke met c
  have hshown : shown.gist n = s.gist n :=
    (State.gist_setReg_shown _ n 0x45 _).trans
      ((State.gist_setReg_shown _ n 0x44 _).trans
        (s.gist_setReg_shown n 0x43 _))
  have hmet : met = false := by
    have : shown.regBit (axPage n) 0x40 0 = false := by
      rw [← h, State.regBit, State.reg_axPage_of_gist (congrArg Gist.axReg hshown) 0x40 (by decide) rfl]; rfl
    simp only [met, pg, this, Bool.false_and]
  rw [hmet, if_neg (by simp), State.gist_modAxis _ n _, hshown]

theorem State.gist_stallTick (old : Int) (h : s.regBit (axPage n) 0x40 0 = false) : (s.stallTick n old).gist n = s.gist n := by
  unfold State.stallTick
  extract_lets a st counts begun
  have hbegun : begun.gist n = s.gist n := s.gist_modAxis n _
  split
  · exact s.gist_modAxis n _
  split
  · split
    · exact (begun.gist_estimateNow n h).trans hbegun
    · exact hbegun
  · rfl

/-- Without a limit DEVIATION only shows itself. -/
theorem State.gist_deviationTick (hreq : (s.axis n).req = {}) (hlim : s.reg (axPage n) 0x3C = 0#16) :
    (s.deviationTick n).gist n = s.gist n := by
  unfold State.deviationTick
  extract_lets pg aligned shown lim beyond was judged noted
  have haligned : aligned = s := if_neg (by simp [hreq])
  have hshown : shown.gist n = s.gist n := by
    rw [← haligned]; exact State.gist_setWide_deviation _ n _
  have hbeyond : beyond = false := by
    have : lim = 0 := by
      simp only [lim, pg, State.reg_axPage_of_gist (congrArg Gist.axReg hshown) 0x3C (by decide) rfl, hlim]
      rfl
    simp [beyond, this]
  rw [hbeyond, Bool.false_and, if_neg (by simp)]
  exact (shown.gist_modAxis n _).trans hshown

theorem State.gist_limitTick : (s.limitTick n).gist n = s.gist n := by
  unfold State.limitTick
  extract_lets free
  have hfree : free.gist n = s.gist n := by
    unfold free
    split
    · exact s.gist_modAxis n _
    · rfl
  split
  · exact (free.gist_modAxis n _).trans hfree
  · split
    · exact (free.gist_modAxis n _).trans hfree
    · exact hfree

/-- What a tick makes of an axis that stays undisturbed is its motion. -/
theorem State.gist_axisTick (h : ((s.settleTick n).axisMotion n).2.undisturbed n) :
    (s.axisTick n).2.gist n = ((s.settleTick n).axisMotion n).2.gist n := by
  obtain ⟨-, -, hreq, hlim, hstall⟩ := h
  set u := ((s.settleTick n).axisMotion n).2
  show (((u.stallTick n _).deviationTick n).limitTick n).gist n = u.gist n
  have hst := u.gist_stallTick n (s.position n) hstall
  rw [State.gist_limitTick, State.gist_deviationTick, hst]
  · exact (congrArg (fun g => g.axis.req) hst).trans hreq
  · rw [State.reg_axPage_of_gist (congrArg Gist.axReg hst) 0x3C (by decide) rfl, hlim]

/-! ### Motion -/

theorem State.axisMotion_rest (h : s.undisturbed n) (hm : (s.axis n).mode = .hold ∨ (s.axis n).mode = .parked) :
    (s.axisMotion n).2 = s := by
  obtain ⟨hen, hstop, -⟩ := h
  unfold State.axisMotion
  rcases hm with hm | hm <;> simp [hen, hstop, hm]

theorem State.axisMotion_velocity (h : s.undisturbed n) (hm : (s.axis n).mode = .velocity) :
    (s.axisMotion n).2 = s.velocityTick n := by
  obtain ⟨hen, hstop, -⟩ := h
  simp [State.axisMotion, hen, hstop, hm]

theorem State.gist_setChan (c : Chan) : (s.setChan n c).gist n = (s.gist n).moved c.v c.a := by
  unfold State.gist Gist.moved State.setChan
  rw [s.axis_modAxis_same]
  rfl

theorem State.gist_limitStop : (s.limitStop n).gist n = s.gist n := by
  unfold State.limitStop
  split
  · rfl
  · exact (State.gist_setReg_shown _ n 0x03 _).trans (s.gist_modAxis n _)

theorem State.gist_velocityTick : ∃ v a, (s.velocityTick n).gist n = (s.gist n).moved v a := by
  unfold State.velocityTick
  extract_lets
  split
  · exact ⟨_, _, s.gist_setChan n _⟩
  · rw [State.gist_ite, State.gist_limitStop, ite_self]
    exact ⟨_, _, s.gist_setChan n _⟩

/-- A slew that has come to its velocity keeps it. -/
theorem slew_arrived (v : Int) (j rise fall : Nat) :
    Ramp.slew v 0 v (Ramp.accUnits rise) (Ramp.accUnits fall) j = ⟨v, 0, true⟩ := by
  have hlim : 0 ≤ if v < 0 then Ramp.accUnits fall else Ramp.accUnits rise := by unfold Ramp.accUnits; split <;> omega
  have hcross : (decide (v < 0) && decide (0 < v)) = false := by simp; omega
  simp only [Ramp.slew, lt_irrefl, and_false, or_self, if_false, Ramp.slewUp, sub_self, hcross, Bool.false_and, Bool.false_eq_true]
  split
  · simp
  · simp [hlim]

/-- An axis that cruises at VCMD keeps its velocity (R192). -/
theorem State.gist_velocityTick_cruise (hl : s.softLimits n = none) (hr : s.reduced = false)
    (hv : (s.wide (axPage n) 0x24).toInt.natAbs ≤ (s.jogLimits n).vmax) (ha : (s.axis n).chan.a = 0)
    (hc : (s.axis n).chan.v = Ramp.velUnits (s.wide (axPage n) 0x24).toInt) : (s.velocityTick n).gist n = s.gist n := by
  unfold State.velocityTick
  extract_lets a jog vm vt j am dm fall c acc cruised
  have hvt : vt = c.v := by
    have : max (-vm) (min vm (s.wide (axPage n) 0x24).toInt) = (s.wide (axPage n) 0x24).toInt := by
      simp only [vm, State.redVmax, hr, jog]
      simp only [Bool.false_eq_true, if_false]
      omega
    simp only [vt, this]
    exact hc.symm
  have hacc : acc = 0 := by
    have : c.a = 0 := ha
    simp [acc, Ramp.liveAcc, this]
  split
  · have hcruised : cruised = Ramp.advance c 1 ⟨c.v, 0, true⟩ := by
      simp only [cruised, hacc, hvt, am, fall, j, slew_arrived]
    rw [State.gist_setChan, hcruised]
    show (s.gist n).moved (1 * c.v) (1 * 0) = s.gist n
    rw [one_mul, one_mul, ← ha]
    rfl
  · rename_i h
    rw [hl] at h
    cases h

end

end Sys2Proof.Machine
end
section
/-! SUPPORT. A ramp tick in stages (R27): what acts before the motion, the motion, and the currents after it. Each stage shows what
becomes of an axis that nothing else touches. -/

namespace Sys2Proof.Machine

open Sys2Proof.Safety

/-! ### The axes that a tick goes through -/

theorem State.mem_present {s : State} {n : Ax} (h : s.hasAxis n = true) : n ∈ s.present := by
  have hall : ∀ m : Ax, m ∈ allAxes := by decide
  exact List.mem_filter.mpr ⟨hall n, h⟩

theorem State.hasAxis_of_shared {s t : State} {n : Ax} (h : t.shared = s.shared) (hn : s.hasAxis n = true) : t.hasAxis n = true := by
  have hpart : t.part = s.part := congrArg Shared.part h
  simpa only [State.hasAxis, hpart] using hn

theorem State.axesTick_snd (s : State) (l : List Ax) : (s.axesTick l).2 = s.forAxes l (fun n s => (s.axisTick n).2) := by
  induction l generalizing s with
  | nil => rfl
  | cons n l ih => exact ih (s.axisTick n).2

/-- What every operation of an axis leaves of the tables, and of the axes there are, those of all axes leave. -/
theorem State.forAxes_tables (s : State) (l : List Ax) (f : Ax → State → State) (n : Ax) (hk : ∀ u m, (f m u).outside m = u.outside m) :
    (s.forAxes l f).shared = s.shared ∧ (s.forAxes l f).tableSel n = s.tableSel n := by
  have h := s.forAxes_keeps (fun u => (u.shared, u.tableSel n)) f l (fun u m _ hu => by
    rw [← hu, State.shared_of_outside (hk u m), State.tableSel_of_outside (hk u m)])
  exact ⟨congrArg Prod.fst h, congrArg Prod.snd h⟩

theorem State.tables_of_motors {s t : State} (h : t.motors = s.motors) (n : Ax) : t.shared = s.shared ∧ t.tableSel n = s.tableSel n :=
  ⟨State.shared_of_motors h, State.tableSel_of_outside (State.outside_of_motors h n) n⟩

theorem State.gist_of_motors {s t : State} (h : t.motors = s.motors) (n : Ax) : t.gist n = s.gist n :=
  State.gist_of_about (State.about_of_motors h n)

theorem State.gist_of_outside {s t : State} {m n : Ax} (h : t.outside m = s.outside m) (hn : m ≠ n) : t.gist n = s.gist n :=
  State.gist_of_about (State.about_of_outside h hn.symm)

/-! ### The stages -/

/-- Time, channels, dies and gate clock, and the setpoints of the tick before. -/
def State.tickOpen (s : State) : State :=
  let t := s.timeTick
  let ns := (t.time.total - (s.time.total - s.time.run)) / nsUnit
  let s := t.encTicks.chainTick
  let s := s.forAxes s.present (fun n s => s.dieTick ns n)
  let s := if s.part.hasGate then s.gateClock ns else s
  s.forAxes s.present (fun n s => s.setpointsIn n)

/-- STOP_N, the requests, the motion of the axes, and their ledgers. -/
def State.tickMove (s : State) (high : Bool) : State :=
  let s := s.stopTick high
  let s := s.forAxes s.present (fun n s => s.judgeRequests n)
  (s.axesTick s.present).2.ledgersTick (s.axesTick s.present).1

/-- The currents, and what watches the axes. -/
def State.tickClose (s : State) (high : Bool) : State :=
  let s := s.setpointsTick
  let s := if s.part.hasGate then s.gateTick.bstWatch else s
  s.axisSources.stopClear high

theorem State.rampTickNow_awake {s : State} (h : s.awake = true) (b : Bool) : s.rampTickNow b = (s.tickOpen.tickMove b).tickClose b := by
  unfold State.rampTickNow
  rw [if_neg (by simp [h])]
  rfl

section
variable {s : State} {n : Ax} {b : Bool}

/-! ### Before the motion -/

theorem State.tickOpen_keeps : s.tickOpen.shared = s.shared ∧ s.tickOpen.tableSel n = s.tableSel n := by
  unfold State.tickOpen
  extract_lets t ns u died gated
  have hu : u.shared = s.shared ∧ u.tableSel n = s.tableSel n := State.tables_of_motors (by simp [u, t]) n
  have hdied := u.forAxes_tables u.present (fun m s => s.dieTick ns m) n (fun v m => v.outside_dieTick m ns)
  have hgated : gated.shared = died.shared ∧ gated.tableSel n = died.tableSel n := by
    refine State.tables_of_motors ?_ n
    unfold gated
    split <;> simp
  have hin := gated.forAxes_tables gated.present (fun m s => s.setpointsIn m) n (fun v m => v.outside_setpointsIn m)
  exact ⟨hin.1.trans (hgated.1.trans (hdied.1.trans hu.1)), hin.2.trans (hgated.2.trans (hdied.2.trans hu.2))⟩

theorem State.gist_tickOpen (hn : s.hasAxis n = true) : s.tickOpen.gist n = (s.gist n).taken := by
  unfold State.tickOpen
  extract_lets t ns u died gated
  have hu : u.gist n = s.gist n := State.gist_of_motors (by simp [u, t]) n
  have hdied : died.gist n = u.gist n := u.forAxes_keeps (fun v => v.gist n) _ _ (fun v m _ hv => by
    by_cases hm : m = n
    · subst hm; exact (v.gist_dieTick m ns).trans hv
    · exact (State.gist_of_outside (v.outside_dieTick m ns) hm).trans hv)
  have hgated : gated.gist n = s.gist n := by
    refine (State.gist_of_motors ?_ n).trans (hdied.trans hu)
    unfold gated
    split <;> simp
  obtain ⟨v, hv, hin⟩ := gated.forAxes_at (fun v => v.gist n) (fun m s => s.setpointsIn m) gated.present_nodup
    (State.mem_present (State.hasAxis_of_shared (congrArg Gist.shared hgated) hn))
    (fun v m hm => State.gist_of_outside (v.outside_setpointsIn m) hm)
  rw [hin, State.gist_setpointsIn, hv, hgated]

/-! ### The motion -/

theorem State.tickMove_keeps (hstop : s.stopN = false) :
    (s.tickMove b).shared = s.shared ∧ (s.tickMove b).tableSel n = s.tableSel n := by
  unfold State.tickMove
  extract_lets told judged
  have htold := State.tables_of_motors (s.motors_stopTick b hstop) n
  have hjudged := told.forAxes_tables told.present (fun m s => s.judgeRequests m) n (fun v m => v.outside_judgeRequests m)
  have hmoved := judged.forAxes_tables judged.present (fun m s => (s.axisTick m).2) n (fun v m => v.outside_axisTick m)
  rw [← State.axesTick_snd] at hmoved
  set moved := (judged.axesTick judged.present).2
  have hreleased := State.tables_of_motors moved.motors_releaseBarriers n
  have hledgers := foldl_keeps (fun v => (v.shared, v.tableSel n)) (fun (s : State) (e : Ax × MEv) => s.ledgerTick e.1 e.2)
    (judged.axesTick judged.present).1 moved.releaseBarriers (fun v e _ hv => by
      rw [← hv, State.shared_of_outside (v.outside_ledgerTick e.1 e.2), State.tableSel_of_outside (v.outside_ledgerTick e.1 e.2)])
  exact ⟨(congrArg Prod.fst hledgers).trans (hreleased.1.trans (hmoved.1.trans (hjudged.1.trans htold.1))),
    (congrArg Prod.snd hledgers).trans (hreleased.2.trans (hmoved.2.trans (hjudged.2.trans htold.2)))⟩

/-- Outside LEDGER the ledgers leave an axis alone. -/
theorem State.gist_ledgersTick (evs : List (Ax × MEv)) (hm : (s.axis n).mode ≠ .ledger) : (s.ledgersTick evs).gist n = s.gist n := by
  have hreleased := State.gist_of_motors s.motors_releaseBarriers n
  rw [← hreleased]
  refine foldl_keeps (fun v => v.gist n) _ evs s.releaseBarriers (fun v e _ hv => ?_)
  by_cases he : e.1 = n
  · have hv' : (v.axis n).mode = (s.axis n).mode := congrArg (fun g => g.axis.mode) (hv.trans hreleased)
    rw [State.ledgerTick, if_pos (.inl (by rwa [he, hv'])), hv]
  · exact (State.gist_of_outside (v.outside_ledgerTick e.1 e.2) he).trans hv

/-- Where the motion leaves an axis undisturbed and out of LEDGER, nothing but the motion acts on it. -/
theorem State.gist_tickMove (hstop : s.stopN = false) (hn : s.hasAxis n = true) (hreq : (s.axis n).req = {})
    (hcalm : ∀ u : State, u.gist n = s.gist n → (u.axisMotion n).2.undisturbed n ∧ ((u.axisMotion n).2.axis n).mode ≠ .ledger) :
    ∃ u : State, u.gist n = s.gist n ∧ (s.tickMove b).gist n = (u.axisMotion n).2.gist n := by
  unfold State.tickMove
  extract_lets told judged
  have htold : told.gist n = s.gist n := State.gist_of_motors (s.motors_stopTick b hstop) n
  have hjudged : judged.gist n = s.gist n := by
    rw [← htold]
    refine told.forAxes_keeps (fun v => v.gist n) _ _ (fun v m _ hv => ?_)
    by_cases hm : m = n
    · subst hm
      refine (v.gist_judgeRequests m ?_).trans hv
      exact (congrArg (fun g => g.axis.req) (hv.trans htold)).trans hreq
    · exact (State.gist_of_outside (v.outside_judgeRequests m) hm).trans hv
  obtain ⟨v, hv, hmoved⟩ := judged.forAxes_at (fun v => v.gist n) (fun m s => (s.axisTick m).2) judged.present_nodup
    (State.mem_present (State.hasAxis_of_shared (congrArg Gist.shared hjudged) hn))
    (fun v m hm => State.gist_of_outside (v.outside_axisTick m) hm)
  have hsettled : (v.settleTick n).gist n = s.gist n := (v.gist_settleTick n).trans (hv.trans hjudged)
  obtain ⟨hund, hmode⟩ := hcalm _ hsettled
  rw [← State.axesTick_snd, v.gist_axisTick n hund] at hmoved
  refine ⟨_, hsettled, (State.gist_ledgersTick _ ?_).trans hmoved⟩
  rwa [show ((judged.axesTick judged.present).2.axis n).mode = _ from congrArg (fun g => g.axis.mode) hmoved]

/-! ### The currents and after -/

/-- What a tick makes of an axis after its motion is what its currents make. -/
theorem State.drive_tickClose (hn : s.hasAxis n = true) :
    ∃ u : State, u.about n = s.about n ∧ (s.tickClose b).drive n = (u.currentTick n).drive n := by
  unfold State.tickClose
  extract_lets formed gated
  obtain ⟨u, hu, hformed⟩ := s.forAxes_at (fun v => v.about n) (fun m s => s.currentTick m) s.present_nodup (State.mem_present hn)
    (fun v m hm => State.about_of_outside (v.outside_currentTick m) hm.symm)
  refine ⟨u, hu, ?_⟩
  have hgated : gated.motors = formed.motors := by
    unfold gated
    split <;> simp
  rw [State.drive_stopClear, State.drive_of_motors gated.motors_axisSources, State.drive_of_motors hgated]
  exact congrArg Prod.snd hformed

end

end Sys2Proof.Machine
end
section
/-! SUPPORT. The currents of an axis (R229 to R234): what one tick forms of the level in force, and what it leaves alone. -/

namespace Sys2Proof.Machine

open Sys2Proof.Safety

/-! ### I_EFF (R231) -/

theorem slewCode_le (i lvl slew lim : Nat) : slewCode i lvl slew lim ≤ lim := Nat.min_le_right _ _

theorem slewCode_at_once (i lvl lim : Nat) : slewCode i lvl 0 lim = min lvl lim := by
  simp [slewCode]

theorem slewCode_toward {i lim slew : Nat} (lvl : Nat) (hi : i ≤ lim) (hs : slew ≠ 0) :
    slewCode i lvl slew lim = max (i - slew) (min (min lvl lim) (i + slew)) := by
  simp only [slewCode, if_neg hs]
  split <;> omega

/-! ### The level in force (R230) -/

section
variable (s : State) (n : Ax)

theorem State.currentLevel_code_ne_zero (rest : Option Nat) (hm : (s.axis n).mode ≠ .parked) : (s.currentLevel n rest).2 ≠ 0 := by
  unfold State.currentLevel
  cases rest
  all_goals
    dsimp only
    split
  · exact absurd ‹_› hm
  · simp
  · simp
  · exact absurd ‹_› hm
  · simp
  · split <;> simp

theorem State.currentLevel_run (hp : (s.axis n).mode ≠ .parked) (hc : (s.axis n).mode ≠ .characterise) :
    s.currentLevel n none = ((s.reg (brPage n) 0x08).toNat, 1) := by
  unfold State.currentLevel
  dsimp only
  split
  · exact absurd ‹_› hp
  · exact absurd ‹_› hc
  · rfl

theorem State.currentLevel_rest (k : Nat) (hp : (s.axis n).mode ≠ .parked) (hc : (s.axis n).mode ≠ .characterise) :
    s.currentLevel n (some k) =
      if (s.reg (brPage n) 0x0B).toNat ≠ 0 ∧ 1000 * (s.reg (brPage n) 0x0B).toNat ≤ k then ((s.reg (brPage n) 0x0A).toNat, 3)
      else ((s.reg (brPage n) 0x09).toNat, 2) := by
  unfold State.currentLevel
  dsimp only
  split
  · exact absurd ‹_› hp
  · exact absurd ‹_› hc
  · rfl

theorem State.levelBit_of_level (code : Nat) (hc : (s.axis n).mode ≠ .characterise) : s.levelBit n code = code - 1 := if_neg hc

/-! ### The rest timer (R230) -/

/-- Outside FOLLOW an axis with no goal and no stop runs while it moves. -/
theorem Axis.running_iff {a : Axis} (hm : a.mode ≠ .follow) (hg : a.goal = .none) (hs : a.stopping = none) :
    a.running = true ↔ a.chan.v ≠ 0 ∨ a.chan.a ≠ 0 := by
  simp [Axis.running, hm, hg, hs]

theorem Axis.running_of_moving {a : Axis} (hv : a.chan.v ≠ 0) : a.running = true := by
  simp [Axis.running, hv]

/-! ### The note of a level above CUR_LIMIT (R231) -/

section
variable (bit lvl : Nat)

theorem State.shared_clampNote : (s.clampNote n bit lvl).shared = s.shared := State.shared_of_outside (s.outside_clampNote n bit lvl)

theorem State.axis_clampNote : (s.clampNote n bit lvl).axis n = s.axis n := by
  unfold State.clampNote
  split <;> rfl

theorem State.iEff_clampNote : ((s.clampNote n bit lvl).brg n).iEff = (s.brg n).iEff := by
  unfold State.clampNote
  split
  · exact (congrArg Bridge.iEff (s.brg_modBrg_same n (fun b => { b with clamped := setBit4 b.clamped bit true })) :)
  · rfl

theorem State.reg_clampNote (p o : Nat) (h : brPage n * 256 + 3 ≠ p * 256 + o) : (s.clampNote n bit lvl).reg p o = s.reg p o := by
  unfold State.clampNote
  split
  · exact State.reg_setReg_other _ _ _ _ _ _ h
  · rfl

theorem State.hasEvent_clampNote (h : (s.reg (brPage n) 0x0D).toNat < lvl ∧ (s.brg n).clamped.getLsbD bit = false) :
    HasEvent (s.clampNote n bit lvl) (brPage n) 2 := by
  have hbit : (bitWord 2).getLsbD 2 = true := by decide
  rw [State.clampNote, if_pos h, HasEvent, State.event, State.reg_setReg_same, BitVec.getLsbD_or, hbit, Bool.or_true]

end

/-! ### The currents of one tick -/

/-- The level in force after this tick, with its code. -/
def State.levelNow (s : State) (n : Ax) : Nat × Nat := s.currentLevel n (s.restNow n)

/-- I_EFF after this tick. -/
def State.effNow (s : State) (n : Ax) : Nat :=
  slewCode (s.brg n).iEff (s.levelNow n).1 (s.reg (brPage n) 0x0C).toNat (s.reg (brPage n) 0x0D).toNat

/-- The setpoint of this tick for an angle. -/
def State.setpointNow (s : State) (n : Ax) (θ : Nat) : Word :=
  BitVec.ofInt 16 (setpoint (s.effNow n) (s.tableSin (s.tableSel n) θ))

theorem State.currentTick_parked (hm : (s.axis n).mode = .parked) : s.currentTick n = s := by
  simp [State.currentTick, State.currentLevel, hm]

theorem State.tableSin_of_shared {s t : State} (h : t.shared = s.shared) (bank θ : Nat) : t.tableSin bank θ = s.tableSin bank θ := by
  have : t.table = s.table := congrArg Shared.table h
  simp only [State.tableSin, State.tableEntry, this]

theorem State.angle_of_axis {s t : State} {n : Ax} (ha : t.axis n = s.axis n) (hr : t.reg (axPage n) 0x0B = s.reg (axPage n) 0x0B) :
    t.angle n = s.angle n := by
  simp only [State.angle, State.dirInv, State.regBit, State.position, ha, hr]

theorem State.currentTick_formed (hm : (s.axis n).mode ≠ .parked) :
    s.currentTick n = (s.clampNote n (s.levelBit n (s.levelNow n).2) (s.levelNow n).1).modBrg n (fun b => { b with
      level := (s.levelNow n).2, iEff := s.effNow n, rest := s.restNow n
      next := some (s.setpointNow n (s.angle n), s.setpointNow n (s.angle n + 1024)), before := (b.iEff, b.rest) }) := by
  unfold State.currentTick
  extract_lets pg rest
  have hcode : (s.levelNow n).2 ≠ 0 := s.currentLevel_code_ne_zero n _ hm
  set c := s.levelNow n
  rw [show s.currentLevel n rest = c from rfl]
  dsimp only
  rw [if_neg hcode]
  set u := s.clampNote n (s.levelBit n c.2) c.1
  have hreg (o : Nat) (ho : o ≠ 3) : u.reg pg o = s.reg pg o := s.reg_clampNote n _ _ _ _ (by omega)
  have hangle : u.angle n = s.angle n :=
    State.angle_of_axis (s.axis_clampNote n _ _) (s.reg_clampNote n _ _ _ _ (by unfold axPage brPage; omega))
  have hsin (θ : Nat) : u.tableSin (s.tableSel n) θ = s.tableSin (s.tableSel n) θ :=
    State.tableSin_of_shared (s.shared_clampNote n _ _) _ θ
  have hsel : u.tableSel n = s.tableSel n := State.tableSel_of_outside (s.outside_clampNote n _ _) n
  have heff : slewCode (u.brg n).iEff c.1 (u.reg pg 0x0C).toNat (u.reg pg 0x0D).toNat = s.effNow n := by
    rw [hreg _ (by decide), hreg _ (by decide), s.iEff_clampNote n]; rfl
  simp only [heff, hangle, hsel, hsin]
  rfl

theorem State.brg_currentTick (hm : (s.axis n).mode ≠ .parked) :
    ((s.currentTick n).brg n).level = (s.levelNow n).2 ∧ ((s.currentTick n).brg n).iEff = s.effNow n ∧
      ((s.currentTick n).brg n).rest = s.restNow n ∧
      ((s.currentTick n).brg n).next = some (s.setpointNow n (s.angle n), s.setpointNow n (s.angle n + 1024)) := by
  rw [s.currentTick_formed n hm, State.brg_modBrg_same]
  exact ⟨rfl, rfl, rfl, rfl⟩

theorem State.axis_currentTick : (s.currentTick n).axis n = s.axis n := by
  by_cases hm : (s.axis n).mode = .parked
  · rw [s.currentTick_parked n hm]
  · rw [s.currentTick_formed n hm]
    exact s.axis_clampNote n _ _

theorem State.reg_currentTick (p o : Nat) (h : brPage n * 256 + 3 ≠ p * 256 + o) : (s.currentTick n).reg p o = s.reg p o := by
  by_cases hm : (s.axis n).mode = .parked
  · rw [s.currentTick_parked n hm]
  · rw [s.currentTick_formed n hm]
    exact s.reg_clampNote n _ _ _ _ h

theorem State.angle_currentTick : (s.currentTick n).angle n = s.angle n :=
  State.angle_of_axis (s.axis_currentTick n) (s.reg_currentTick n _ _ (by unfold axPage brPage; omega))

theorem State.hasEvent_currentTick (hp : (s.axis n).mode ≠ .parked) (hc : (s.axis n).mode ≠ .characterise)
    (hl : (s.reg (brPage n) 0x0D).toNat < (s.levelNow n).1) (hb : (s.brg n).clamped.getLsbD ((s.levelNow n).2 - 1) = false) :
    HasEvent (s.currentTick n) (brPage n) 2 := by
  rw [s.currentTick_formed n hp, s.levelBit_of_level n _ hc]
  exact s.hasEvent_clampNote n _ _ ⟨hl, hb⟩

end

end Sys2Proof.Machine
end
section
/-! SUPPORT. What a ramp tick makes of the currents of an axis that nothing else touches: one at rest or PARKED, one in VELOCITY, one
that cruises. -/

namespace Sys2Proof.Machine

open Sys2Proof.Safety

/-- What the motion of an axis goes by. -/
def Gist.drives (g : Gist) : Shared × Axis × Bool × (Fin 256 → Word) := (g.shared, g.axis, g.limited, g.axReg)

@[simp] theorem Gist.drives_taken (g : Gist) : g.taken.drives = g.drives := by simp [Gist.drives]

/-- VELOCITY at VCMD, within VMAX and without soft limits (R192). -/
def State.atVcmd (s : State) (n : Ax) : Prop :=
  s.regBit (axPage n) 0x0B 1 = false ∧ s.reduced = false ∧
    (s.wide (axPage n) 0x24).toInt.natAbs ≤ (s.wide (axPage n) 0x1C).toNat ∧ (s.axis n).chan.a = 0 ∧
    (s.axis n).chan.v = Ramp.velUnits (s.wide (axPage n) 0x24).toInt

section
variable {s t : State} {n : Ax} {b : Bool}

theorem State.undisturbed_of_drives (h : (t.gist n).drives = (s.gist n).drives) (hs : s.undisturbed n) : t.undisturbed n :=
  State.undisturbed_of_gist hs (congrArg (fun d => d.2.2.2) h) (congrArg (fun d => d.2.1.stopping) h) (congrArg (fun d => d.2.1.req) h)

theorem State.mode_of_drives (h : (t.gist n).drives = (s.gist n).drives) : (t.axis n).mode = (s.axis n).mode :=
  congrArg (fun d => d.2.1.mode) h

theorem State.wide_of_drives (h : (t.gist n).drives = (s.gist n).drives) {o : Nat} (ho : o < 255) (h0 : axHeeds o = true)
    (h1 : axHeeds (o + 1) = true) : t.wide (axPage n) o = s.wide (axPage n) o := by
  have hx : (t.gist n).axReg = (s.gist n).axReg := congrArg (fun d => d.2.2.2) h
  simp only [State.wide, State.reg_axPage_of_gist hx o (by omega) h0, State.reg_axPage_of_gist hx (o + 1) (by omega) h1]

theorem State.reduced_of_shared (h : t.shared = s.shared) : t.reduced = s.reduced := by
  have hp : t.pwr = s.pwr := congrArg Shared.pwr h
  have hc : t.clk = s.clk := congrArg Shared.clk h
  simp only [State.reduced, State.effState, hp, hc]

theorem State.atVcmd_of_drives (h : (t.gist n).drives = (s.gist n).drives) (hs : s.atVcmd n) : t.atVcmd n := by
  obtain ⟨hl, hr, hv, ha, hc⟩ := hs
  have hch : (t.axis n).gist = (s.axis n).gist := congrArg (fun d => d.2.1) h
  have hta : (t.axis n).chan.a = (s.axis n).chan.a := congrArg (fun a => a.chan.a) hch
  have htv : (t.axis n).chan.v = (s.axis n).chan.v := congrArg (fun a => a.chan.v) hch
  refine ⟨(congrArg (fun d => d.2.2.1) h).trans hl, (State.reduced_of_shared (congrArg (fun d => d.1) h)).trans hr, ?_,
    hta.trans ha, ?_⟩
  · rwa [State.wide_of_drives h (by decide) rfl rfl, State.wide_of_drives h (by decide) rfl rfl]
  · rw [State.wide_of_drives h (by decide) rfl rfl, htv, hc]

theorem State.gist_velocityTick_atVcmd (h : s.atVcmd n) : (s.velocityTick n).gist n = s.gist n := by
  obtain ⟨hl, hr, hv, ha, hc⟩ := h
  exact s.gist_velocityTick_cruise n (by simp [State.softLimits, hl]) hr hv ha hc

/-! ### Up to the currents -/

theorem State.undisturbed_of_tickQuiet (h : tickQuiet s n) : s.undisturbed n := by
  obtain ⟨⟨-, -, hen, hstop, hreq, -⟩, hlim, hstall⟩ := h
  exact ⟨hen, hstop, hreq, hlim, hstall⟩

theorem State.stopN_tickOpen (h : s.stopN = false) : s.tickOpen.stopN = false :=
  (congrArg Shared.stopN (s.tickOpen_keeps (n := 0)).1).trans h

/-- The currents of a tick are formed on a state with the tables as they were. -/
theorem State.rampTickNow_drive (hq : tickQuiet s n) :
    ∃ u : State, u.about n = (s.tickOpen.tickMove b).about n ∧ u.shared = s.shared ∧ u.tableSel n = s.tableSel n ∧
      (s.rampTickNow b).drive n = (u.currentTick n).drive n := by
  obtain ⟨⟨hawake, hn, -, -, -, hstop⟩, -⟩ := hq
  have hopen := s.tickOpen_keeps (n := n)
  have hmove := State.tickMove_keeps (n := n) (b := b) (State.stopN_tickOpen hstop)
  obtain ⟨u, hu, hd⟩ := (s.tickOpen.tickMove b).drive_tickClose (b := b)
    (State.hasAxis_of_shared (hmove.1.trans hopen.1) hn)
  refine ⟨u, hu, (congrArg Prod.fst hu).trans (hmove.1.trans hopen.1), ?_, by rw [State.rampTickNow_awake hawake, hd]⟩
  rw [← hopen.2, ← hmove.2, State.tableSel, State.regFld, State.reg_brPage_of_drive (congrArg Prod.snd hu) (by decide)]
  rfl

/-- What a quiet tick makes of an axis before its currents: the setpoints of the tick before are taken, and the axis has moved. -/
theorem State.rampTickNow_moved (hq : tickQuiet s n)
    (hcalm : ∀ u : State, (u.gist n).drives = (s.gist n).drives →
      (u.axisMotion n).2.undisturbed n ∧ ((u.axisMotion n).2.axis n).mode ≠ .ledger) :
    ∃ u v : State, u.gist n = (s.gist n).taken ∧ v.gist n = (u.axisMotion n).2.gist n ∧
      (s.rampTickNow b).drive n = (v.currentTick n).drive n := by
  obtain ⟨v, hv, -, -, hd⟩ := State.rampTickNow_drive (b := b) hq
  obtain ⟨⟨-, hn, -, -, hreq, hstop⟩, -⟩ := hq
  have hopen := State.gist_tickOpen hn
  have hreq' : (s.tickOpen.axis n).req = {} :=
    (congrArg (fun g => g.axis.req) hopen).trans ((congrArg Axis.req (s.gist n).taken_axis).trans hreq)
  obtain ⟨u, hu, hm⟩ := State.gist_tickMove (b := b) (State.stopN_tickOpen hstop)
    (State.hasAxis_of_shared (s.tickOpen_keeps (n := n)).1 hn) hreq'
    (fun u hu => hcalm u (by rw [hu, hopen, Gist.drives_taken]))
  exact ⟨u, v, hu.trans hopen, (State.gist_of_about hv).trans hm, hd⟩

/-- An axis at rest or PARKED stays so. -/
theorem State.rampTickNow_rest (hq : tickQuiet s n) (hm : (s.axis n).mode = .hold ∨ (s.axis n).mode = .parked) :
    ∃ u : State, u.gist n = (s.gist n).taken ∧ (s.rampTickNow b).drive n = (u.currentTick n).drive n := by
  have still (u : State) (h : (u.gist n).drives = (s.gist n).drives) : (u.axisMotion n).2 = u :=
    u.axisMotion_rest n (State.undisturbed_of_drives h (State.undisturbed_of_tickQuiet hq)) (by rwa [State.mode_of_drives h])
  obtain ⟨u, v, hu, hv, hd⟩ := State.rampTickNow_moved (b := b) hq (fun u h => by
    rw [still u h, State.mode_of_drives h]
    exact ⟨State.undisturbed_of_drives h (State.undisturbed_of_tickQuiet hq), by rcases hm with hm | hm <;> simp [hm]⟩)
  rw [still u (by rw [hu, Gist.drives_taken])] at hv
  exact ⟨v, hv.trans hu, hd⟩

/-- In VELOCITY nothing but the velocity and the acceleration changes before the currents. -/
theorem State.rampTickNow_velocity (hq : tickQuiet s n) (hm : (s.axis n).mode = .velocity) :
    ∃ u v : State, u.gist n = (s.gist n).taken ∧ v.gist n = (u.velocityTick n).gist n ∧
      (s.rampTickNow b).drive n = (v.currentTick n).drive n := by
  have motion (u : State) (h : (u.gist n).drives = (s.gist n).drives) : (u.axisMotion n).2 = u.velocityTick n :=
    u.axisMotion_velocity n (State.undisturbed_of_drives h (State.undisturbed_of_tickQuiet hq)) ((State.mode_of_drives h).trans hm)
  obtain ⟨u, v, hu, hv, hd⟩ := State.rampTickNow_moved (b := b) hq (fun u h => by
    obtain ⟨x, y, hxy⟩ := u.gist_velocityTick n
    have hund := State.undisturbed_of_drives h (State.undisturbed_of_tickQuiet hq)
    rw [motion u h]
    refine ⟨State.undisturbed_of_gist hund (congrArg Gist.axReg hxy :) (congrArg (fun g => g.axis.stopping) hxy :)
      (congrArg (fun g => g.axis.req) hxy :), ?_⟩
    rw [show ((u.velocityTick n).axis n).mode = _ from congrArg (fun g => g.axis.mode) hxy]
    show (u.axis n).mode ≠ _
    rw [State.mode_of_drives h, hm]
    decide)
  rw [motion u (by rw [hu, Gist.drives_taken])] at hv
  exact ⟨u, v, hu, hv, hd⟩

/-- An axis that cruises moves on as it did. -/
theorem State.rampTickNow_cruise (hq : tickQuiet s n) (hm : (s.axis n).mode = .velocity) (hv : s.atVcmd n) :
    ∃ u : State, u.gist n = (s.gist n).taken ∧ (s.rampTickNow b).drive n = (u.currentTick n).drive n := by
  obtain ⟨u, v, hu, hv', hd⟩ := State.rampTickNow_velocity (b := b) hq hm
  rw [State.gist_velocityTick_atVcmd (State.atVcmd_of_drives (by rw [hu, Gist.drives_taken]) hv)] at hv'
  exact ⟨v, hv'.trans hu, hd⟩

end

end Sys2Proof.Machine
end
section
/-! SUPPORT. The currents of a quiet tick, clause by clause (R27, R220, R230 to R234). -/

namespace Sys2Proof.Machine

open Sys2Proof.Safety

theorem runs_rampTick {s : State} {b : Bool} {P : State → Prop} (h : P (s.rampTickNow b)) : Runs (.rampTick b) s P := ⟨_, rfl, h⟩

section
variable {s t u : State} {n : Ax} {b : Bool}

/-! ### What the setpoints of the tick before leave -/

theorem State.brg_of_taken (h : u.gist n = (s.gist n).taken) :
    (u.brg n).level = (s.brg n).level ∧ (u.brg n).rest = (s.brg n).rest ∧ (u.brg n).iEff = (s.brg n).iEff ∧
      (u.brg n).clamped = (s.brg n).clamped ∧ (u.brg n).next = none := by
  have hb : (u.brg n).gist = { (s.brg n).gist with next := none } := (congrArg Gist.brg h).trans (Gist.taken_brg _)
  exact ⟨(congrArg Bridge.level hb :), (congrArg Bridge.rest hb :), (congrArg Bridge.iEff hb :), (congrArg Bridge.clamped hb :),
    (congrArg Bridge.next hb :)⟩

theorem State.axis_of_taken (h : u.gist n = (s.gist n).taken) : (u.axis n).gist = (s.axis n).gist :=
  (congrArg Gist.axis h).trans (Gist.taken_axis _)

theorem State.reg_of_taken (h : u.gist n = (s.gist n).taken) (o : Nat) (ho : o < 256) (hh : brHeeds o = true) :
    u.reg (brPage n) o = s.reg (brPage n) o :=
  State.reg_brPage_of_gist ((congrArg Gist.brReg h).trans (Gist.taken_brReg _)) o ho hh

/-! ### A level in force -/

/-- The currents of a tick whose level in force is `lvl` with code `code` (R231). -/
theorem currents_at_level {lvl code : Nat} (hu : u.gist n = (s.gist n).taken) (hd : t.drive n = (u.currentTick n).drive n)
    (hp : (u.axis n).mode ≠ .parked) (hc : (u.axis n).mode ≠ .characterise) (hl : u.levelNow n = (lvl, code)) :
    let lim := (s.reg (brPage n) 0x0D).toNat
    let slew := (s.reg (brPage n) 0x0C).toNat
    let i := (s.brg n).iEff
    (t.brg n).rest = u.restNow n ∧ (t.brg n).level = code ∧
      (s.reg (brPage n) 0x0C = 0#16 → (t.brg n).iEff = min lvl lim) ∧ (t.brg n).iEff ≤ lim ∧
      (i ≤ lim ∧ s.reg (brPage n) 0x0C ≠ 0#16 → (t.brg n).iEff = max (i - slew) (min (min lvl lim) (i + slew))) ∧
      (lim < lvl ∧ (s.brg n).clamped.getLsbD (code - 1) = false → HasEvent t (brPage n) 2) := by
  intro lim slew i
  obtain ⟨-, -, hi, hcl, -⟩ := State.brg_of_taken hu
  obtain ⟨hlevel, heff, hrest, -⟩ := u.brg_currentTick n hp
  have hslew := State.reg_of_taken hu 0x0C (by decide) rfl
  have hlim := State.reg_of_taken hu 0x0D (by decide) rfl
  have hnow : (t.brg n).iEff = slewCode i lvl slew lim := by
    rw [State.brg_of_drive hd, heff, State.effNow, hl, hi, hslew, hlim]
  refine ⟨by rw [State.brg_of_drive hd, hrest], by rw [State.brg_of_drive hd, hlevel, hl], fun h0 => ?_, ?_, fun ⟨hin, h0⟩ => ?_,
    fun ⟨hover, hbit⟩ => ?_⟩
  · have hzero : slew = 0 := congrArg BitVec.toNat h0
    rw [hnow, hzero, slewCode_at_once]
  · rw [hnow]
    exact slewCode_le _ _ _ _
  · rw [hnow, slewCode_toward lvl hin (fun h => h0 (BitVec.eq_of_toNat_eq h))]
  · rw [HasEvent, State.reg_brPage_of_drive hd (by decide)]
    exact u.hasEvent_currentTick n hp hc (by rwa [hl, hlim]) (by rwa [hl, hcl])

/-! ### At rest, in motion, PARKED -/

theorem restNow_at_rest {k : Nat} (hm : (s.axis n).mode = .hold) (hg : (s.axis n).goal = .none) (hs : (s.axis n).stopping = none)
    (hv : (s.axis n).chan.v = 0) (ha : (s.axis n).chan.a = 0) (hk : (s.brg n).rest = some k) : s.restNow n = some (k + 1) := by
  have hrun : ¬((s.axis n).running = true) := by
    rw [Axis.running_iff (by simp [hm]) hg hs]
    simp [hv, ha]
  rw [State.restNow, if_neg hrun, hk]

theorem restNow_moving (hv : (s.axis n).chan.v ≠ 0) : s.restNow n = none := by
  rw [State.restNow, if_pos (Axis.running_of_moving hv)]

/-- At rest in HOLD the rest timer goes on, and with SS_DELAY the level becomes SS_CURRENT (R230). -/
theorem currents_at_rest {k : Nat} (hq : tickQuiet s n) (hm : (s.axis n).mode = .hold) (hg : (s.axis n).goal = .none)
    (hv : (s.axis n).chan.v = 0) (ha : (s.axis n).chan.a = 0) (hk : (s.brg n).rest = some k) :
    ∃ u : State, u.gist n = (s.gist n).taken ∧ (s.rampTickNow b).drive n = (u.currentTick n).drive n ∧
      (u.axis n).mode = .hold ∧ u.restNow n = some (k + 1) ∧
      let d := (s.reg (brPage n) 0x0B).toNat
      u.levelNow n =
        (if d ≠ 0 ∧ 1000 * d ≤ k + 1 then (s.reg (brPage n) 0x0A).toNat else (s.reg (brPage n) 0x09).toNat,
          if d ≠ 0 ∧ 1000 * d ≤ k + 1 then 3 else 2) := by
  obtain ⟨u, hu, hd⟩ := State.rampTickNow_rest (b := b) hq (.inl hm)
  have hax := State.axis_of_taken hu
  have hum : (u.axis n).mode = .hold := (congrArg Axis.mode hax).trans hm
  have hstop : (s.axis n).stopping = none := hq.1.2.2.2.1
  have hrest : u.restNow n = some (k + 1) := restNow_at_rest hum ((congrArg Axis.goal hax).trans hg)
    ((congrArg Axis.stopping hax).trans hstop) ((congrArg (fun a => a.chan.v) hax).trans hv)
    ((congrArg (fun a => a.chan.a) hax).trans ha) ((State.brg_of_taken hu).2.1.trans hk)
  refine ⟨u, hu, hd, hum, hrest, ?_⟩
  rw [State.levelNow, hrest, u.currentLevel_rest n _ (by simp [hum]) (by simp [hum]), State.reg_of_taken hu 0x09 (by decide) rfl,
    State.reg_of_taken hu 0x0A (by decide) rfl, State.reg_of_taken hu 0x0B (by decide) rfl]
  dsimp only
  split <;> rfl

/-- An axis that cruises is at RUN_CURRENT (R230). -/
theorem currents_in_motion (hq : tickQuiet s n) (hm : (s.axis n).mode = .velocity) (hvc : s.atVcmd n) (hv : (s.axis n).chan.v ≠ 0) :
    ∃ u : State, u.gist n = (s.gist n).taken ∧ (s.rampTickNow b).drive n = (u.currentTick n).drive n ∧
      (u.axis n).mode = .velocity ∧ u.restNow n = none ∧ u.levelNow n = ((s.reg (brPage n) 0x08).toNat, 1) := by
  obtain ⟨u, hu, hd⟩ := State.rampTickNow_cruise (b := b) hq hm hvc
  have hax := State.axis_of_taken hu
  have hum : (u.axis n).mode = .velocity := (congrArg Axis.mode hax).trans hm
  have huv : (u.axis n).chan.v = (s.axis n).chan.v := congrArg (fun a => a.chan.v) hax
  have hrest : u.restNow n = none := restNow_moving (by rwa [huv])
  refine ⟨u, hu, hd, hum, hrest, ?_⟩
  rw [State.levelNow, hrest, u.currentLevel_run n (by simp [hum]) (by simp [hum]), State.reg_of_taken hu 0x08 (by decide) rfl]

/-- The setpoints formed are those of R233 and R234 for the angle after the tick. -/
theorem setpoints_formed (hq : tickQuiet s n) (hp : ((s.rampTickNow b).axis n).mode ≠ .parked) :
    ((s.rampTickNow b).brg n).next =
      some (BitVec.ofInt 16 (setpoint ((s.rampTickNow b).brg n).iEff (s.tableSin (s.tableSel n) ((s.rampTickNow b).angle n))),
        BitVec.ofInt 16 (setpoint ((s.rampTickNow b).brg n).iEff (s.tableSin (s.tableSel n) ((s.rampTickNow b).angle n + 1024)))) := by
  obtain ⟨u, -, hshared, hsel, hd⟩ := State.rampTickNow_drive (b := b) hq
  have hangle : (s.rampTickNow b).angle n = u.angle n :=
    (State.angle_of_axis (State.axis_of_drive hd) (State.reg_axPage_of_drive hd (by decide))).trans (u.angle_currentTick n)
  rw [State.axis_of_drive hd, u.axis_currentTick n] at hp
  obtain ⟨-, heff, -, hnext⟩ := u.brg_currentTick n hp
  rw [hangle, State.brg_of_drive hd, hnext, heff, ← hsel, ← State.tableSin_of_shared hshared, ← State.tableSin_of_shared hshared]
  rfl

/-- The setpoints formed on the tick before are in SET_A and SET_B (R27). -/
theorem setpoints_shown {x y : Word} (hq : tickQuiet s n) (hm : (s.axis n).mode = .hold ∨ (s.axis n).mode = .velocity)
    (hnext : (s.brg n).next = some (x, y)) :
    (s.rampTickNow b).reg (brPage n) 0x23 = x ∧ (s.rampTickNow b).reg (brPage n) 0x24 = y := by
  have htaken : (s.gist n).taken.setA = x ∧ (s.gist n).taken.setB = y := by
    have : (s.gist n).brg.next = some (x, y) := hnext
    simp [Gist.taken, this]
  have hformed : ∃ v : State, ((v.gist n).setA = x ∧ (v.gist n).setB = y) ∧ (s.rampTickNow b).drive n = (v.currentTick n).drive n := by
    rcases hm with hm | hm
    · obtain ⟨v, hv, hd⟩ := State.rampTickNow_rest (b := b) hq (.inl hm)
      exact ⟨v, by rwa [hv], hd⟩
    · obtain ⟨u, v, hu, hv, hd⟩ := State.rampTickNow_velocity (b := b) hq hm
      obtain ⟨_, _, hmoved⟩ := u.gist_velocityTick n
      exact ⟨v, by rwa [hv, hmoved, Gist.moved, hu], hd⟩
  obtain ⟨v, hset, hd⟩ := hformed
  rwa [State.reg_brPage_of_drive hd (by decide), State.reg_brPage_of_drive hd (by decide), v.reg_currentTick n _ _ (by omega),
    v.reg_currentTick n _ _ (by omega)]

theorem currents_parked (hq : tickQuiet s n) (hm : (s.axis n).mode = .parked) :
    ((s.rampTickNow b).brg n).level = (s.brg n).level ∧ ((s.rampTickNow b).brg n).iEff = (s.brg n).iEff ∧
      ((s.rampTickNow b).brg n).next = none := by
  obtain ⟨u, hu, hd⟩ := State.rampTickNow_rest (b := b) hq (.inr hm)
  obtain ⟨hlevel, -, hi, -, hnext⟩ := State.brg_of_taken hu
  rw [State.brg_of_drive hd, u.currentTick_parked n ((congrArg Axis.mode (State.axis_of_taken hu)).trans hm)]
  exact ⟨hlevel, hi, hnext⟩

/-! ### The hypotheses of the clauses -/

theorem tickQuiet_modBrg (f : Bridge → Bridge) (h : tickQuiet s n) : tickQuiet (s.modBrg n f) n := h

theorem tickQuiet_of_cruises (h : cruises s n) (hstall : s.regBit (axPage n) 0x40 0 = false) : tickQuiet s n := ⟨h.1, h.2.1, hstall⟩

theorem atVcmd_of_cruises (h : cruises s n) : s.atVcmd n := by
  obtain ⟨-, -, -, hl, hr, hv, ha, hc⟩ := h
  refine ⟨?_, hr, hv, ha, hc⟩
  by_contra hon
  rw [State.softLimits, if_pos (by simpa using hon)] at hl
  cases hl

end

end Sys2Proof.Machine
end
section
namespace Sys2Proof

open Machine Safety

/-- Settles O32: on a quiet tick the parts before the currents take the setpoints of the tick before and move only the axis, so that the
currents are formed on a state known field by field. -/
theorem currentsFollowTheAxis : Obligations.CurrentsFollowTheAxis := by
  refine ⟨?_, ?_, ?_, ?_, ?_⟩
  · intro s b n k hq hm hg hv ha
    refine runs_rampTick ?_
    have hb := s.brg_modBrg_same n (fun b => { b with rest := some k })
    obtain ⟨u, hu, hd, hum, hrest, hlevel⟩ := currents_at_rest (b := b) (tickQuiet_modBrg _ hq) hm hg hv ha (congrArg Bridge.rest hb)
    obtain ⟨hr, hl, hzero, hle, hslew, hover⟩ := currents_at_level hu hd (by simp [hum]) (by simp [hum]) hlevel
    rw [hb] at hslew hover
    refine ⟨hr.trans hrest, hl, hzero, hle, hslew, fun ⟨h, hbit⟩ => hover ⟨h, ?_⟩⟩
    rwa [apply_ite (· - 1)]
  · intro s b n hc hstall hv
    refine runs_rampTick ?_
    obtain ⟨u, hu, hd, hum, hrest, hlevel⟩ :=
      currents_in_motion (b := b) (tickQuiet_of_cruises hc hstall) hc.2.2.1 (atVcmd_of_cruises hc) hv
    obtain ⟨hr, hl, hzero, hle, -, hover⟩ := currents_at_level hu hd (by simp [hum]) (by simp [hum]) hlevel
    exact ⟨hr.trans hrest, hl, hle, hzero, hover⟩
  · intro s b n hq _
    exact runs_rampTick (fun ⟨hp, _⟩ => setpoints_formed hq hp)
  · intro s b n x y hq hm
    exact runs_rampTick (setpoints_shown (tickQuiet_modBrg _ hq) hm (congrArg Bridge.next (s.brg_modBrg_same n _)))
  · intro s b n hq hm
    exact runs_rampTick (currents_parked hq hm)

end Sys2Proof
end
section
/-! SUPPORT. What a register command of a ready page comes down to, and what storing a register or setting an event shows. -/

set_option Elab.async false

namespace Sys2Proof.Machine

open Sys2Proof.Safety

/-! ### Writes that reach their unit at once -/

/-- A write of a ready page that leaves no image to apply is the unit's own. -/
theorem State.access_unit {s : State} {p o : Nat} {v : Word} (h : PortReady s p) (hm : p ≠ memPage) (ht : p ≠ tablePage)
    (ho : o ≠ 0x07) (hi : ((s.setUnlock p false).offsetWrite p o v (s.unlocked p)).nvs.image = none) :
    s.access p o v = (s.setUnlock p false).offsetWrite p o v (s.unlocked p) := by
  rw [s.access_ready p o v h (.inl hm), s.writeReg_unit p o v ho (.inl ht), State.imageRun_none _ hi]

/-! ### Events -/

theorem hasEvent_event (s : State) (p k : Nat) (hk : k < 16) : HasEvent (s.event p k) p k := by
  simp [HasEvent, State.event, State.reg_setReg_same, bitWord, hk]

theorem sameRegsBut_setReg (s : State) (p o : Nat) (v : Word) (ho : o < 256) : SameRegsBut [(p, o)] s (s.setReg p o v) := by
  intro q r hr hne
  refine s.reg_setReg_other p o q r v (fun h => hne ?_)
  obtain ⟨rfl, rfl⟩ := key_inj ho hr h
  exact List.mem_singleton_self _

theorem sameRegsBut_event (s : State) (p k : Nat) : SameRegsBut [(p, 0x03)] s (s.event p k) :=
  sameRegsBut_setReg s p 0x03 _ (by decide)

theorem sameRegsBut_eventIf (s : State) (c : Bool) (p k : Nat) : SameRegsBut [(p, 0x03)] s (s.eventIf c p k) := by
  cases c
  · exact fun _ _ _ _ => rfl
  · exact sameRegsBut_event s p k

end Sys2Proof.Machine
end
section
/-! SUPPORT. What a device reset keeps and what it leaves at reset (R106, R108), and what brings one about (R37, R39). -/

set_option Elab.async false

namespace Sys2Proof.Machine

open Sys2Proof.Safety

/-! ### The engine at rest -/

theorem State.nvsAbandon_idle {s : State} (h : s.nvs.job = .idle) : s.nvsAbandon = s := by
  simp [State.nvsAbandon, State.nvsReread, h]

theorem State.snapLost_none {s : State} (h : s.nvs.snap = none) : s.snapLost = s := by
  simp [State.snapLost, h]

/-! ### The register file after a reset -/

/-- A store cut down to some addresses reads there as before, and elsewhere as an empty one. -/
theorem Store.get_filter_key (d : Nat → Word) (m : Store) (p : Nat → Bool) (a : Nat) :
    Store.get d (m.filter (fun e => p e.1)) a = if p a then Store.get d m a else d a := by
  unfold Store.get
  rw [List.find?_filter]
  by_cases hp : p a
  · have same : (fun e : Nat × Word => decide (p e.1 = true ∧ (e.1 == a) = true)) = fun e => e.1 == a := by
      funext e
      by_cases he : e.1 = a <;> simp [he, hp]
    rw [same, if_pos hp]
  · have gone : m.find? (fun e => decide (p e.1 = true ∧ (e.1 == a) = true)) = none := by
      simp only [List.find?_eq_none, decide_eq_true_eq, beq_iff_eq, not_and]
      rintro e - he rfl
      exact hp he
    rw [gone, if_neg hp]

/-- CLKCTRL and the scratch words of DEV: the addresses in the register file that a reset other than power-on keeps. -/
def resetKeeps (a : Nat) : Bool := decide (a = 0x0D) || decide (0x20 ≤ a ∧ a < 0x24)

theorem resetKeeps_iff (a : Nat) : resetKeeps a = true ↔ a = 0x0D ∨ 0x20 ≤ a ∧ a < 0x24 := by simp [resetKeeps]

section Reset
variable (s : State) (cause : Word) (por : Bool)

theorem State.deviceReset_cause : (s.deviceReset cause por).reg devPage 0x13 = cause := State.reg_setReg_same _ _ _ _
theorem State.powerOnReset_clk : (s.deviceReset cause true).clk = {} := rfl

/-- Power on, every register but RESET_CAUSE is at its Reset value. -/
theorem State.powerOnReset_regs : SameRegsBut [(devPage, 0x13)] State.reset (s.deviceReset cause true) :=
  sameRegsBut_setReg _ _ _ _ (by decide)

/-! ### With the engine idle and no snapshot -/

variable {s} (hj : s.nvs.job = .idle) (hs : s.nvs.snap = none)
include hj hs

theorem State.idle_before_reset : s.nvsAbandon.snapLost = s := by
  rw [State.nvsAbandon_idle hj, State.snapLost_none hs]

theorem State.deviceReset_pwr :
    (s.deviceReset cause por).pwr = { testHold := s.pins.testEn, bring := if s.pins.testEn then 0 else 1 } := by
  simp only [State.deviceReset, State.idle_before_reset hj hs, State.setReg_pwr]

/-- With TEST_EN low a bring-up starts at step 1. -/
theorem State.deviceReset_bringsUp (ht : s.pins.testEn = false) : (s.deviceReset cause por).pwr = {} := by
  rw [State.deviceReset_pwr cause por hj hs]
  simp [ht]

theorem State.deviceReset_pins : (s.deviceReset cause por).pins = s.pins := by
  simp only [State.deviceReset, State.idle_before_reset hj hs, State.setReg_pins]

theorem State.deviceReset_clk :
    (s.deviceReset cause false).clk = { slowXtal := s.clk.slowXtal, xsFail := s.clk.xsFail, xs := s.clk.xs } := by
  simp [State.deviceReset, State.idle_before_reset hj hs]

theorem State.deviceReset_reg (page off : Nat) (h : devPage * 256 + 0x13 ≠ page * 256 + off) : (s.deviceReset cause false).reg page off
    = if resetKeeps (page * 256 + off) then s.reg page off else State.reset.reg page off := by
  simp only [State.deviceReset, State.idle_before_reset hj hs, Bool.false_eq_true, if_false]
  rw [State.reg_setReg_other _ _ _ _ _ _ h]
  exact Store.get_filter_key resetWord s.regs resetKeeps _

theorem State.deviceReset_keeps (o : Fin 256) (ho : o.val = 0x0D ∨ 0x20 ≤ o.val ∧ o.val ≤ 0x23) :
    (s.deviceReset cause false).reg devPage o.val = s.reg devPage o.val := by
  have kept : resetKeeps (devPage * 256 + o.val) = true := (resetKeeps_iff _).mpr (by unfold devPage; omega)
  rw [State.deviceReset_reg cause hj hs _ _ (by unfold devPage; omega), if_pos kept]

theorem State.deviceReset_regs :
    SameRegsBut [(devPage, 0x0D), (devPage, 0x13), (devPage, 0x20), (devPage, 0x21), (devPage, 0x22), (devPage, 0x23)] State.reset
      (s.deviceReset cause false) := by
  intro page off ho hne
  simp only [List.mem_cons, Prod.mk.injEq, List.not_mem_nil, or_false, devPage] at hne
  have other : devPage * 256 + 0x13 ≠ page * 256 + off := by unfold devPage; omega
  have lost : ¬resetKeeps (page * 256 + off) = true := by rw [resetKeeps_iff]; omega
  rw [State.deviceReset_reg cause hj hs _ _ other, if_neg lost]

/-- What a reset shows of its source and keeps of CLKCTRL, the scratch words and the slow clock. -/
theorem State.deviceReset_shows :
    (s.deviceReset cause false).reg devPage 0x13 = cause ∧
    (∀ o : Fin 256, o.val = 0x0D ∨ 0x20 ≤ o.val ∧ o.val ≤ 0x23 →
      (s.deviceReset cause false).reg devPage o.val = s.reg devPage o.val) ∧
    (s.deviceReset cause false).clk.slowXtal = s.clk.slowXtal ∧ (s.deviceReset cause false).clk.xsFail = s.clk.xsFail ∧
    SameRegsBut [(devPage, 0x0D), (devPage, 0x13), (devPage, 0x20), (devPage, 0x21), (devPage, 0x22), (devPage, 0x23)] State.reset
      (s.deviceReset cause false) := by
  have clk := State.deviceReset_clk cause hj hs
  exact ⟨s.deviceReset_cause _ _, State.deviceReset_keeps cause hj hs, by rw [clk], by rw [clk], State.deviceReset_regs cause hj hs⟩

/-- What every reset, power on too, leaves of the motion units, the SRAM, the store, the queue and the supplies. -/
theorem State.deviceReset_units :
    (s.deviceReset cause por).axes = State.reset.axes ∧ (s.deviceReset cause por).ledgers = State.reset.ledgers ∧
    (s.deviceReset cause por).mem = State.reset.mem ∧ (s.deviceReset cause por).nvs.mram = s.nvs.mram ∧
    (s.deviceReset cause por).pending = s.pending ∧ (s.deviceReset cause por).sup = s.sup := by
  refine ⟨rfl, rfl, rfl, ?_⟩
  simp only [State.deviceReset, State.idle_before_reset hj hs, State.setReg_nvs, State.setReg_pending, State.setReg_sup, and_self]

end Reset

/-! ### The sources (R37, R39, R106) -/

/-- A reset that nothing delays is the device's. -/
theorem State.resetBy_now {s : State} (k : Nat) (hs : s.nvs.snap = none) (hh : s.pwr.testHold = false) :
    s.resetBy k = s.deviceReset (bitWord k) false := by
  simp [State.resetBy, hs, hh]

/-- A pulse of 1 us or more is accepted, with no free value. -/
theorem State.resetPulse_long (s : State) {ns : Nat} (h : 1000 ≤ ns) : s.resetPulse ns = (true, s) := by
  rw [State.resetPulse, if_neg (by omega), if_pos h]

/-- SWRESET takes 0x5AC3 alone, unlocked (R106). -/
theorem State.offsetWrite_swReset (s : State) (v : Word) (unl : Bool) :
    s.offsetWrite devPage 0x15 v unl = if unl ∧ v = 0x5AC3#16 then s.resetBy 3 else s := rfl

theorem State.rstLow_long {s : State} {ns : Nat} (h : 1000 ≤ ns) (hv : s.sup.vio = true) : s.rstLow ns = s.resetBy 1 := by
  simp [State.rstLow, hv, s.resetPulse_long h]

theorem State.rstLow_short (s : State) {ns : Nat} (h : ns < 200) : s.rstLow ns = s := by
  simp [State.rstLow, State.resetPulse, h]

theorem State.testRise_long {s : State} {ns : Nat} (h : 1000 ≤ ns) (hv : s.sup.vio = true) (ht : s.pins.testEn = false) :
    s.testRise ns = ({ s with pins := { s.pins with testEn := true } } : State).resetBy 5 := by
  simp [State.testRise, hv, ht, s.resetPulse_long h]

/-- Power on with TEST_EN low is one source. -/
theorem State.powerOn_pinLow {s : State} (ht : s.pins.testEn = false) : s.powerOn = s.deviceReset (bitWord 0) true := by
  rw [State.powerOn, ht]
  rfl

/-- TEST_EN falls on a device that it holds: bring-up starts (R39). -/
theorem State.testFall_held {s : State} (h : s.pwr.testHold = true) : s.testFall
    = { s with pins := { s.pins with testEn := false }, pwr := { s.pwr with testHold := false, bring := 1, attempts := 1 } } := by
  simp [State.testFall, h, State.modPwr]

end Sys2Proof.Machine
end
section
/-! SUPPORT. The switches of a die's bridges, which follow it, change nothing but the bridges (R38), and an axis that parks is PARKED (R278). -/

set_option Elab.async false

namespace Sys2Proof.Machine

open Sys2Proof.Safety

/-- The state but for its bridges. -/
def State.offBridges (s : State) : State := { s with brgs := State.reset.brgs }

section
variable (s : State) (n : Ax)

/-! ### The switches of a bridge -/

@[simp] theorem State.offBridges_modBrg (f : Bridge → Bridge) : (s.modBrg n f).offBridges = s.offBridges := (rfl)
@[simp] theorem State.offBridges_modPh (p : Phase) (f : ChopPh → ChopPh) : (s.modPh n p f).offBridges = s.offBridges := (rfl)

@[simp] theorem State.offBridges_ite (c : Prop) {_ : Decidable c} (t : State) :
    (if c then s else t).offBridges = if c then s.offBridges else t.offBridges := apply_ite State.offBridges c s t

@[simp] theorem State.offBridges_brgFollow : (s.brgFollow n).offBridges = s.offBridges :=
  foldl_keeps State.offBridges _ _ s (fun u j _ hu => by simpa [State.brgHalfFollow, State.phEdge] using hu)

@[simp] theorem State.offBridges_edgesSince (s0 : State) : (s.edgesSince s0 n).offBridges = s.offBridges := by
  simp [State.edgesSince, State.phEdge]

@[simp] theorem State.offBridges_brgForget : (s.brgForget n).offBridges = s.offBridges :=
  foldl_keeps State.offBridges _ _ s (fun u k _ hu => by simpa [State.swForget, State.modSw] using hu)

/-- A die's switches follow: nothing but its bridges changes. -/
theorem State.offBridges_dieFollow (s0 : State) (d : Die) : (s.dieFollow s0 d).offBridges = s.offBridges :=
  s.forAxes_keeps State.offBridges _ _ (fun u m _ hu => by simpa using hu)

end

section
variable {s t : State} (h : t.offBridges = s.offBridges)
include h

theorem State.sup_of_offBridges : t.sup = s.sup := (congrArg State.sup h :)
theorem State.dies_of_offBridges : t.dies = s.dies := (congrArg State.dies h :)
theorem State.regs_of_offBridges : t.regs = s.regs := (congrArg State.regs h :)
theorem State.axes_of_offBridges : t.axes = s.axes := (congrArg State.axes h :)

end

section
variable (s : State) (n : Ax)

/-! ### Parking -/

theorem State.axis_congr {s t : State} (h : t.axes = s.axes) (n : Ax) : t.axis n = s.axis n := by simp only [State.axis, h]

@[simp] theorem State.axis_brgFollow (m : Ax) : (s.brgFollow n).axis m = s.axis m :=
  State.axis_congr (State.axes_of_offBridges (s.offBridges_brgFollow n)) m
@[simp] theorem State.axis_event (p k : Nat) (m : Ax) : (s.event p k).axis m = s.axis m := (rfl)
@[simp] theorem State.axis_bridgeOff (m : Ax) : (s.bridgeOff n).axis m = s.axis m := (rfl)

/-- An axis that enters PARKED is PARKED. -/
theorem State.enterMode_parked : ((s.enterMode n .parked).axis n).mode = .parked := by
  by_cases h : (s.axis n).mode = .parked
  · simp [State.enterMode, h, State.axis_modAxis_same]
  · simp [State.enterMode, h, State.axis_modAxis_same]

theorem State.parkNow_parked : ((s.parkNow n).axis n).mode = .parked := by
  unfold State.parkNow
  split
  · assumption
  · exact State.enterMode_parked _ n
  · exact s.enterMode_parked n

end

/-- VM is lost: every present axis is PARKED (R278). -/
theorem State.parkAll_parked (s : State) {n : Ax} (hn : s.hasAxis n = true) :
    ((s.forAxes s.present (fun n s => s.parkNow n)).axis n).mode = .parked := by
  have other (u : State) (m : Ax) (h : m ≠ n) : (u.parkNow m).axis n = u.axis n :=
    State.axis_of_drive (congrArg Prod.snd (State.about_of_outside (u.outside_parkNow m) h.symm))
  obtain ⟨u, -, hu⟩ := s.forAxes_at (fun u => (u.axis n).mode) (fun n s => s.parkNow n) s.present_nodup (State.mem_present hn)
    (fun u m h => by rw [other u m h])
  exact hu.trans (u.parkNow_parked n)

end Sys2Proof.Machine
end
section
/-! SUPPORT. What the power stage's faults and parking leave alone: the supplies and their events, the memories, and the OV latches. -/

set_option Elab.async false

namespace Sys2Proof.Machine

open Sys2Proof.Safety

/-- What the operations of the axes, bridges and gate port leave alone: the part, the supplies with their events, the memories, and the
OV latches, which an OV fault alone sets. -/
structure Backdrop where
  part : Part
  sup : Supply
  mem : Mem
  nvs : Nvs
  supEvents : Word
  ov : ProtPage → Bool

def State.backdrop (s : State) : Backdrop := ⟨s.part, s.sup, s.mem, s.nvs, s.reg supplyPage 0x03, fun p => (s.prot p).ov⟩

@[simp] theorem axPage_ne_supplyPage (n : Ax) : axPage n ≠ supplyPage := by unfold axPage supplyPage; omega
@[simp] theorem brPage_ne_supplyPage (n : Ax) : brPage n ≠ supplyPage := by unfold brPage supplyPage; omega
@[simp] theorem ledgPage_ne_supplyPage : ledgPage ≠ supplyPage := by decide
@[simp] theorem gatePage_ne_supplyPage : gatePage ≠ supplyPage := by decide
@[simp] theorem ProtPage.page_ne_supplyPage (p : ProtPage) : p.page ≠ supplyPage := by
  cases p
  · exact brPage_ne_supplyPage _
  · exact gatePage_ne_supplyPage

section
variable (s : State)

/-! ### Updates of the state -/

@[simp] theorem State.backdrop_setReg (p o : Nat) (v : Word) (hp : p ≠ supplyPage) (ho : o < 256) :
    (s.setReg p o v).backdrop = s.backdrop := by
  have same : (s.setReg p o v).reg supplyPage 0x03 = s.reg supplyPage 0x03 :=
    s.reg_setReg_other _ _ _ _ _ (fun h => hp (key_inj ho (by decide) h).1)
  simp only [State.backdrop, same]
  rfl

@[simp] theorem State.backdrop_event (p k : Nat) (hp : p ≠ supplyPage) : (s.event p k).backdrop = s.backdrop :=
  s.backdrop_setReg p 0x03 _ hp (by decide)

@[simp] theorem State.backdrop_setFld (p o l w v : Nat) (hp : p ≠ supplyPage) (ho : o < 256) :
    (s.setFld p o l w v).backdrop = s.backdrop := s.backdrop_setReg p o _ hp ho

@[simp] theorem State.backdrop_setWide (p o : Nat) (v : Wide) (hp : p ≠ supplyPage) (ho : o + 1 < 256) :
    (s.setWide p o v).backdrop = s.backdrop :=
  (State.backdrop_setReg _ p (o + 1) _ hp ho).trans (s.backdrop_setReg p o _ hp (by omega))

@[simp] theorem State.backdrop_ledgFlag (n : Ax) (k : Nat) : (s.ledgFlag n k).backdrop = s.backdrop := by
  have := lOff_lt n 0xB (by decide)
  simp [State.ledgFlag, show lOff n 0xB < 256 by omega]

@[simp] theorem State.backdrop_modAxis (n : Ax) (f : Axis → Axis) : (s.modAxis n f).backdrop = s.backdrop := (rfl)
@[simp] theorem State.backdrop_modLedger (n : Ax) (f : Ledger → Ledger) : (s.modLedger n f).backdrop = s.backdrop := (rfl)

@[simp] theorem State.backdrop_modBrg (n : Ax) (f : Bridge → Bridge) (hf : ∀ b, (f b).prot.ov = b.prot.ov) :
    (s.modBrg n f).backdrop = s.backdrop := by
  have same : (fun p => ((s.modBrg n f).prot p).ov) = fun p => (s.prot p).ov := by
    funext p
    cases p with
    | gate => rfl
    | brg m =>
      by_cases h : n = m
      · subst h; exact (congrArg (·.prot.ov) (s.brg_modBrg_same n f)).trans (hf _)
      · exact congrArg (·.prot.ov) (s.brg_modBrg_other n m f h)
  simp only [State.backdrop, same]
  rfl

@[simp] theorem State.backdrop_modGate (f : Gate → Gate) (hf : ∀ g, (f g).prot.ov = g.prot.ov) :
    (s.modGate f).backdrop = s.backdrop := by
  have same : (fun p => ((s.modGate f).prot p).ov) = fun p => (s.prot p).ov := by
    funext p
    cases p with
    | gate => exact hf _
    | brg m => rfl
  simp only [State.backdrop, same]
  rfl

theorem State.prot_modProt (p q : ProtPage) (f : Prot → Prot) :
    (s.modProt p f).prot q = if q = p then f (s.prot q) else s.prot q := by
  split
  case isTrue h =>
    subst h
    cases q
    · exact congrArg Bridge.prot (s.brg_modBrg_same _ _)
    · rfl
  case isFalse h =>
    cases p <;> cases q
    · exact congrArg Bridge.prot (s.brg_modBrg_other _ _ _ (fun e => h (by rw [e])))
    · rfl
    · rfl
    · exact absurd rfl h

@[simp] theorem State.backdrop_modProt (p : ProtPage) (f : Prot → Prot) (hf : ∀ q, (f q).ov = q.ov) :
    (s.modProt p f).backdrop = s.backdrop := by
  cases p
  · exact s.backdrop_modBrg _ _ (fun b => hf b.prot)
  · exact s.backdrop_modGate _ (fun g => hf g.prot)

@[simp] theorem State.backdrop_ite (c : Prop) {_ : Decidable c} (t : State) :
    (if c then s else t).backdrop = if c then s.backdrop else t.backdrop := apply_ite State.backdrop c s t

/-! ### Switches -/

@[simp] theorem State.backdrop_phEdge (n : Ax) (p : Phase) (t : Nat) (own : Bool) : (s.phEdge n p t own).backdrop = s.backdrop :=
  s.backdrop_modBrg n _ (fun _ => by cases p <;> rfl)

@[simp] theorem State.backdrop_swForget (p : ProtPage) (m : BitVec 8) : (s.swForget p m).backdrop = s.backdrop := by
  cases p <;> simp [State.swForget, State.modSw]

@[simp] theorem State.backdrop_brgFollow (n : Ax) : (s.brgFollow n).backdrop = s.backdrop :=
  foldl_keeps State.backdrop _ _ s (fun u j _ hu => by simpa [State.brgHalfFollow] using hu)

@[simp] theorem State.backdrop_gateFollow : s.gateFollow.backdrop = s.backdrop :=
  foldl_keeps State.backdrop _ _ s (fun u j _ hu => by simpa [State.gateHalfFollow] using hu)

@[simp] theorem State.backdrop_edgesSince (s0 : State) (n : Ax) : (s.edgesSince s0 n).backdrop = s.backdrop := by
  simp [State.edgesSince]

/-! ### Axes -/

@[simp] theorem State.backdrop_bridgeOff (n : Ax) : (s.bridgeOff n).backdrop = s.backdrop := by simp [State.bridgeOff]

@[simp] theorem State.backdrop_enterMode (n : Ax) (m : Mode) : (s.enterMode n m).backdrop = s.backdrop := by
  cases m <;> simp [State.enterMode, State.ledgerLeave, State.ledgerEnter, State.followEnter]

@[simp] theorem State.backdrop_charInterrupt (n : Ax) (m : Mode) : (s.charInterrupt n m).backdrop = s.backdrop := by
  simp [State.charInterrupt, State.charEndIn]

@[simp] theorem State.backdrop_startStop (n : Ax) (m : Mode) : (s.startStop n m).backdrop = s.backdrop := by
  unfold State.startStop
  dsimp only
  split
  · split <;> simp [State.ledgerPause, State.stopDone]
  · rfl

@[simp] theorem State.backdrop_parkNow (n : Ax) : (s.parkNow n).backdrop = s.backdrop := by
  unfold State.parkNow
  split <;> simp [State.charFail, State.setCharResult]

@[simp] theorem State.backdrop_axisPolicy (n : Ax) (c : FaultClass) : (s.axisPolicy n c).backdrop = s.backdrop := by
  cases c <;> simp [State.axisPolicy, State.parkFault]

/-! ### The gate port -/

@[simp] theorem State.backdrop_gateEnter (st : GState) : (s.gateEnter st).backdrop = s.backdrop := by
  simp only [State.gateEnter]
  split
  · simp
  · rw [State.backdrop_gateFollow]
    exact (State.backdrop_modGate _ _ (fun _ => rfl)).trans (s.backdrop_modGate _ (fun _ => rfl))

@[simp] theorem State.backdrop_gatePolicyNow : s.gatePolicyNow.backdrop = s.backdrop := by
  simp [State.gatePolicyNow, State.gateFaultNow]

@[simp] theorem State.backdrop_gatePull (m : BitVec 8) : (s.gatePull m).backdrop = s.backdrop := by simp [State.gatePull]

/-! ### The OV latch (R280, R284) -/

/-- The backdrop with the OV latch of these pages set. -/
def Backdrop.latchOv (b : Backdrop) (l : List ProtPage) : Backdrop := { b with ov := fun q => decide (q ∈ l) || b.ov q }

theorem State.backdrop_setOv (p : ProtPage) (m : BitVec 8) :
    (s.modProt p (fun q => q.set .ov m)).backdrop = s.backdrop.latchOv [p] := by
  have latched (q : ProtPage) : ((s.modProt p (fun q => q.set .ov m)).prot q).ov = (decide (q ∈ [p]) || (s.prot q).ov) := by
    rw [s.prot_modProt]
    by_cases h : q = p <;> simp [h, Prot.set]
  simp only [State.backdrop, Backdrop.latchOv, latched]
  cases p <;> rfl

/-- A page's OV latch sets, and nothing else of the backdrop changes (R280, R285). -/
theorem State.backdrop_setLatch_ov (p : ProtPage) (m : BitVec 8) : (s.setLatch p .ov m).backdrop = s.backdrop.latchOv [p] := by
  unfold State.setLatch
  extract_lets pg fresh exhausted latched evented sw named timed spent
  have hlatched : latched.backdrop = s.backdrop.latchOv [p] := by
    rw [← s.backdrop_setOv p m]
    cases p <;> simp [latched, State.ovFollow, State.pageEdges]
  have hspent : spent.backdrop = s.backdrop.latchOv [p] := by
    simp [spent, timed, named, evented, FaultClass.eventBit, pg, hlatched]
  clear_value spent
  cases p <;> simp [hspent]

theorem State.hasProt_congr {s t : State} (h : t.part = s.part) (p : ProtPage) (c : FaultClass) : t.hasProt p c = s.hasProt p c := by
  cases p <;> simp [State.hasProt, State.hasAxis, h]

theorem State.backdrop_setLatches_ov (l : List ProtPage) (s : State) (hl : ∀ p ∈ l, s.hasProt p .ov = true) :
    (l.foldl (fun s p => if s.hasProt p .ov then s.setLatch p .ov 0#8 else s) s).backdrop = s.backdrop.latchOv l := by
  induction l generalizing s with
  | nil => simp [Backdrop.latchOv]
  | cons p l ih =>
    have hp := s.backdrop_setLatch_ov p 0#8
    have hpart : (s.setLatch p .ov 0#8).part = s.part := congrArg Backdrop.part hp
    rw [List.foldl_cons, if_pos (hl p List.mem_cons_self), ih _ (fun q hq => ?_), hp]
    · simp [Backdrop.latchOv, Bool.or_assoc, Bool.or_left_comm]
    · rw [State.hasProt_congr hpart, hl q (List.mem_cons_of_mem p hq)]

/-- The pages with latches are those with an OV latch. -/
theorem State.mem_protPages (p : ProtPage) : p ∈ s.protPages ↔ s.hasProt p .ov = true := by
  have present (n : Ax) : n ∈ s.present ↔ s.hasAxis n = true := ⟨fun h => (List.mem_filter.mp h).2, State.mem_present⟩
  cases p <;> simp [State.protPages, State.hasProt, present]

/-- An OV latch on every page that has one, and nothing else of the backdrop, changes. -/
theorem State.backdrop_setLatchAll_ov : (s.setLatchAll .ov).backdrop = s.backdrop.latchOv s.protPages :=
  State.backdrop_setLatches_ov _ s (fun p => (s.mem_protPages p).mp)

end

/-! ### What the backdrop shows -/

section
variable {s t : State} (h : t.backdrop = s.backdrop)
include h

theorem State.sup_of_backdrop : t.sup = s.sup := congrArg Backdrop.sup h
theorem State.mem_of_backdrop : t.mem = s.mem := congrArg Backdrop.mem h
theorem State.nvs_of_backdrop : t.nvs = s.nvs := congrArg Backdrop.nvs h
theorem State.supEvents_of_backdrop : t.reg supplyPage 0x03 = s.reg supplyPage 0x03 := congrArg Backdrop.supEvents h

end

end Sys2Proof.Machine
end
section
/-! SUPPORT. The supplies: what a change of a level shows, and the writes of the thresholds (R111, R278 to R280). -/

set_option Elab.async false

namespace Sys2Proof.Machine

open Sys2Proof.Safety

theorem hasEvent_of_events {s t : State} {k : Nat} (h : t.reg supplyPage 0x03 = s.reg supplyPage 0x03)
    (hs : HasEvent s supplyPage k) : HasEvent t supplyPage k := by
  unfold HasEvent
  rw [h]
  exact hs

/-! ### VDD (R47) -/

/-- With VDD above 3.1 V the snapshot is armed again where PFAIL_N is high and no snapshot is in progress. -/
theorem State.rearm_eq (s : State) (h : s.sup.vddLow = false) :
    s.rearm = { s with nvs := { s.nvs with armed := s.nvs.armed || (s.pins.pfailN && s.nvs.snap.isNone) } } := by
  unfold State.rearm
  cases hc : s.pins.pfailN && s.nvs.snap.isNone with
  | true =>
    rw [if_pos ⟨h, Bool.and_eq_true_iff.mp hc⟩, Bool.or_true]
    rfl
  | false =>
    rw [if_neg (fun ⟨_, pin, free⟩ => by simp [pin, free] at hc), Bool.or_false]

theorem State.vddLowNow_false {s : State} (h : s.sup.vddLow = true) : s.vddLowNow false = { s with
    sup := { s.sup with vddLow := false }, nvs := { s.nvs with armed := s.nvs.armed || (s.pins.pfailN && s.nvs.snap.isNone) } } := by
  rw [State.vddLowNow, if_neg (by simp [h])]
  exact State.rearm_eq _ rfl

/-! ### VM_OK (R278) -/

/-- VM_OK falls: its event is set and every present axis is PARKED; the other supplies and the memories stay. -/
theorem State.vmOkNow_false {s : State} (h : s.sup.vmOk = true) :
    (s.vmOkNow false).sup = { s.sup with vmOk := false } ∧ HasEvent (s.vmOkNow false) supplyPage 0 ∧
    (∀ n : Ax, s.hasAxis n = true → ((s.vmOkNow false).axis n).mode = .parked) ∧
    (s.vmOkNow false).mem = s.mem ∧ (s.vmOkNow false).nvs = s.nvs := by
  let u : State := (s.modSup (fun x => { x with vmOk := false })).event supplyPage 0
  let v : State := u.forAxes u.present (fun n s => s.parkNow n)
  have run : s.vmOkNow false = v.forAxes v.present (fun n s => s.ledgerPause n) := by
    simp [State.vmOkNow, h, State.supEvent, u, v]
  have parked : v.backdrop = u.backdrop := u.forAxes_keeps State.backdrop _ _ (fun w n _ hw => by simpa using hw)
  have paused : (s.vmOkNow false).backdrop = v.backdrop ∧ (s.vmOkNow false).axes = v.axes := by
    rw [run]
    exact ⟨v.forAxes_keeps State.backdrop _ _ (fun w n _ hw => hw), v.forAxes_keeps State.axes _ _ (fun w n _ hw => hw)⟩
  have left := paused.1.trans parked
  refine ⟨State.sup_of_backdrop left, hasEvent_of_events (State.supEvents_of_backdrop left) (hasEvent_event _ _ 0 (by decide)),
    fun n hn => ?_, (State.mem_of_backdrop left).trans rfl, (State.nvs_of_backdrop left).trans rfl⟩
  rw [State.axis_congr paused.2]
  exact u.parkAll_parked hn

/-! ### OV_TRIP (R280) -/

theorem State.ovReached_true (s : State) : (s.ovReached true).sup = { s.sup with ovNow := true, ovCause := true } ∧
    HasEvent (s.ovReached true) supplyPage 7 ∧ ∀ p, s.hasProt p .ov = true → ((s.ovReached true).prot p).ov = true := by
  let u : State := (s.modSup (fun x => { x with ovNow := true, ovCause := true })).event supplyPage 7
  have latched : (s.ovReached true).backdrop = u.backdrop.latchOv u.protPages := u.backdrop_setLatchAll_ov
  have events : (s.ovReached true).reg supplyPage 0x03 = u.reg supplyPage 0x03 := congrArg Backdrop.supEvents latched
  refine ⟨congrArg Backdrop.sup latched, hasEvent_of_events events (hasEvent_event _ _ 7 (by decide)), fun p hp => ?_⟩
  have hov := congrFun (congrArg Backdrop.ov latched) p
  have hmem : p ∈ u.protPages := (u.mem_protPages p).mpr hp
  exact hov.trans (by simp [Backdrop.latchOv, hmem])

/-! ### The logic supply of a die (R38, R278) -/

theorem State.logicSupply_false (s : State) (d : Die) : (s.logicSupply d false).sup = { s.sup with logic := s.sup.logic.set d false } ∧
    (s.logicSupply d false).dies[d] = { vcpLow := s.dies[d].vcpLow } ∧ (s.logicSupply d false).regs = s.regs ∧
    (s.logicSupply d false).axes = s.axes := by
  let unsupplied : State := s.modSup (fun x => { x with logic := x.logic.set d false })
  let u : State := unsupplied.modDie d (fun x => { vcpLow := x.vcpLow })
  have run : s.logicSupply d false = u.dieFollow unsupplied d := by simp [State.logicSupply, u, unsupplied]
  have only : (s.logicSupply d false).offBridges = u.offBridges := by rw [run, u.offBridges_dieFollow]
  refine ⟨State.sup_of_offBridges only, ?_, (State.regs_of_offBridges only).trans rfl, (State.axes_of_offBridges only).trans rfl⟩
  rw [State.dies_of_offBridges only]
  simp [u, unsupplied, State.modDie, State.modSup]

/-! ### The thresholds (R111) -/

/-- Do the ten bits `x` keep the range of their register, and the order of the three? -/
def State.thresholdFits (s : State) (r : SupplyReg) (x : Nat) : Prop :=
  match r with
  | .brakeOn => 200 ≤ x ∧ x ≤ 570 ∧ (s.reg supplyPage 0x09).toNat + 10 ≤ x ∧ x < (s.reg supplyPage 0x0A).toNat
  | .brakeOff => 120 ≤ x ∧ x ≤ 560 ∧ x + 10 ≤ (s.reg supplyPage 0x08).toNat ∧
    (s.reg supplyPage 0x08).toNat < (s.reg supplyPage 0x0A).toNat
  | .ovTrip => 300 ≤ x ∧ x ≤ 590 ∧ (s.reg supplyPage 0x09).toNat + 10 ≤ (s.reg supplyPage 0x08).toNat ∧
    (s.reg supplyPage 0x08).toNat < x

theorem place_fld_ten (v : Word) : place (fld v 0 10) 0 = v &&& 0x03FF#16 := by
  apply BitVec.eq_of_toNat_eq
  have mask : (v &&& 0x03FF#16).toNat = v.toNat % 2 ^ 10 := Nat.and_two_pow_sub_one_eq_mod _ 10
  simp only [place, fld, Nat.shiftRight_zero, Nat.shiftLeft_zero, BitVec.toNat_ofNat, mask]
  omega

theorem State.thresholdWrite_eq (s : State) (r : SupplyReg) (v : Word) {_ : Decidable (s.thresholdFits r (fld v 0 10))} :
    s.thresholdWrite r v
      = if s.thresholdFits r (fld v 0 10) then s.setReg supplyPage r.off (v &&& 0x03FF#16) else s.event supplyPage 8 := by
  rw [← place_fld_ten]
  refine if_congr ?_ rfl rfl
  cases r <;> simp [State.thresholdFits, SupplyReg.off, and_assoc]

theorem State.offsetWrite_threshold (s : State) (r : SupplyReg) (v : Word) (unl : Bool) :
    s.offsetWrite supplyPage r.off v unl = if unl then s.thresholdWrite r v else s := by
  cases r <;> rfl

section
variable {s : State} (hr : PortReady s supplyPage)
include hr

theorem State.access_threshold (r : SupplyReg) (v : Word) : s.access supplyPage r.off v
    = if s.unlocked supplyPage then (s.setUnlock supplyPage false).thresholdWrite r v else s.setUnlock supplyPage false := by
  have key : r.off ≠ 0x07 := by cases r <;> decide
  have noImage : ((s.setUnlock supplyPage false).offsetWrite supplyPage r.off v (s.unlocked supplyPage)).nvs.image = none := by
    rw [State.offsetWrite_threshold]
    simp only [State.thresholdWrite, State.supEvent, apply_ite State.nvs, State.setReg_nvs, State.event_nvs, ite_self]
    exact hr.2.1
  rw [State.access_unit hr (by decide) (by decide) key noImage, State.offsetWrite_threshold]

/-- An unlocked write stores its ten bits where they fit, and else only sets THR_REJECTED. -/
theorem runs_threshold_unlocked (hu : s.unlocked supplyPage = true) (r : SupplyReg) (v : Word)
    {_ : Decidable (s.thresholdFits r (fld v 0 10))} :
    Runs (.supplyThresholdWrite r v) s (fun t => OnlyRegs s t ∧ if s.thresholdFits r (fld v 0 10) then
      t.reg supplyPage r.off = v &&& 0x03FF#16 ∧ SameRegsBut [(supplyPage, r.off)] s t
    else HasEvent t supplyPage 8 ∧ SameRegsBut [(supplyPage, 0x03)] s t) := by
  have page : r.off < 256 := by cases r <;> decide
  let u : State := s.setUnlock supplyPage false
  have run : s.access supplyPage r.off v
      = if s.thresholdFits r (fld v 0 10) then u.setReg supplyPage r.off (v &&& 0x03FF#16) else u.event supplyPage 8 := by
    rw [State.access_threshold hr, if_pos hu]
    exact u.thresholdWrite_eq r v
  refine ⟨_, rfl, ?_⟩
  rw [run]
  split
  · exact ⟨rfl, u.reg_setReg_same _ _ _, sameRegsBut_setReg u _ _ _ page⟩
  · exact ⟨rfl, hasEvent_event u _ 8 (by decide), sameRegsBut_event u _ 8⟩

theorem runs_threshold_locked (hu : s.unlocked supplyPage = false) (r : SupplyReg) (v : Word) :
    Runs (.supplyThresholdWrite r v) s (fun t => t.regs = s.regs ∧ OnlyRegs s t) := by
  refine ⟨_, rfl, ?_⟩
  rw [State.access_threshold hr, if_neg (by simp [hu])]
  exact ⟨rfl, rfl⟩

end

end Sys2Proof.Machine
end
section
/-! The statements of spec/02_pins_and_supplies.md: resets, supplies and the power-fail snapshot. -/

namespace Sys2Proof
open Machine Safety

/-- Settles O13: every source comes down to the one reset of the device, whose fields are read off with the engine idle. -/
theorem resetsStartBringUpAndNameTheirSource : Obligations.ResetsStartBringUpAndNameTheirSource := by
  refine ⟨?_, ?_, ?_, ?_, ?_, ?_, ?_, ?_⟩
  · intro s hr hu hs hj hh ht
    let u := s.setUnlock devPage false
    have reset : u.offsetWrite devPage 0x15 0x5AC3#16 (s.unlocked devPage) = u.deviceReset (bitWord 3) false := by
      rw [State.offsetWrite_swReset, if_pos ⟨hu, rfl⟩]
      exact State.resetBy_now 3 hs hh
    refine ⟨_, rfl, ?_⟩
    rw [State.access_unit hr (by decide) (by decide) (by decide) (by rw [reset]; rfl), reset]
    obtain ⟨hcause, hkept, hslow, hfail, hregs⟩ := State.deviceReset_shows (s := u) (bitWord 3) hj hs
    exact ⟨hcause, hkept, hslow, hfail, hregs, State.deviceReset_bringsUp (s := u) _ _ hj hs ht,
      State.deviceReset_units (s := u) _ _ hj hs⟩
  · intro s v hr hv
    have idle : (s.setUnlock devPage false).offsetWrite devPage 0x15 v (s.unlocked devPage) = s.setUnlock devPage false := by
      rw [State.offsetWrite_swReset, if_neg]
      rintro ⟨hu, h⟩
      rcases hv with hv | hv
      · simp [hv] at hu
      · exact hv h
    refine ⟨_, rfl, ?_⟩
    rw [State.access_unit hr (by decide) (by decide) (by decide) (by rw [idle]; exact hr.2.1), idle]
    exact ⟨rfl, by rw [State.unlocked_setUnlock _ _ _ _ (by decide), if_pos rfl]⟩
  · intro s ns hns hv hs hj hh ht
    refine ⟨_, rfl, ?_⟩
    rw [State.rstLow_long hns hv, State.resetBy_now 1 hs hh]
    obtain ⟨hcause, hkept, hslow, hfail, hregs⟩ := State.deviceReset_shows (bitWord 1) hj hs
    exact ⟨hcause, hkept, hslow, hfail, hregs, State.deviceReset_bringsUp _ _ hj hs ht, State.deviceReset_units _ _ hj hs⟩
  · intro s ns hns hv hs
    refine ⟨_, rfl, ?_⟩
    rw [State.rstLow_long hns hv, State.resetBy, if_pos hs]
    rfl
  · intro s ns hns
    exact ⟨_, rfl, s.rstLow_short hns⟩
  · intro s ns hns hv ht hs hj hh
    let u : State := { s with pins := { s.pins with testEn := true } }
    refine ⟨_, rfl, ?_⟩
    rw [State.testRise_long hns hv ht, State.resetBy_now (s := u) 5 hs hh]
    obtain ⟨hcause, hkept, hslow, hfail, hregs⟩ := State.deviceReset_shows (s := u) (bitWord 5) hj hs
    have hpins := State.deviceReset_pins (s := u) (bitWord 5) false hj hs
    exact ⟨hcause, hkept, hslow, hfail, hregs, State.deviceReset_pwr (s := u) _ _ hj hs, by rw [hpins],
      State.deviceReset_units (s := u) _ _ hj hs⟩
  · intro s hh
    refine ⟨_, rfl, ?_⟩
    rw [State.testFall_held hh]
    exact ⟨rfl, rfl, rfl⟩
  · intro s hs hj ht
    refine ⟨_, rfl, ?_⟩
    rw [State.powerOn_pinLow ht]
    exact ⟨s.deviceReset_cause _ _, s.powerOnReset_regs _, State.deviceReset_bringsUp _ _ hj hs ht, s.powerOnReset_clk _,
      State.deviceReset_units _ _ hj hs⟩

/-- Settles O14: a level's own event and field are read off; what follows a lost VM, an OV trip or a lost logic supply is split off by
what the power stage leaves alone, and a threshold's write by whether its ten bits fit. -/
theorem supplyChangesAreReported : Obligations.SupplyChangesAreReported := by
  refine ⟨?_, ?_, ?_, ?_, ?_, ?_, ?_, ?_, ?_, ?_, ?_, ?_, ?_, ?_, ?_, ?_⟩
  · intro s x hx
    refine ⟨_, rfl, ?_⟩
    cases x with
    | true =>
      rw [State.vmOkNow, if_neg hx]
      exact ⟨rfl, hasEvent_event _ _ 1 (by decide), by simp, rfl, rfl⟩
    | false =>
      obtain ⟨hsup, hevent, hparked, hmem, hnvs⟩ := State.vmOkNow_false (Bool.eq_true_of_not_eq_false hx)
      exact ⟨hsup, hevent, fun _ => hparked, hmem, hnvs⟩
  · intro s x hx
    refine ⟨_, rfl, ?_⟩
    rw [State.vgpOkNow, if_neg hx]
    exact ⟨rfl, hasEvent_event _ _ _ (by split <;> decide), sameRegsBut_event _ _ _, rfl⟩
  · intro s h
    refine ⟨_, rfl, ?_⟩
    rw [State.vddLowNow, if_neg (by simp [h])]
    exact ⟨rfl, hasEvent_event _ _ 4 (by decide), rfl⟩
  · intro s h
    refine ⟨_, rfl, ?_⟩
    rw [State.vddLowNow_false h]
    exact ⟨rfl, rfl, rfl⟩
  · intro s
    exact ⟨⟨_, rfl, if_pos rfl⟩, ⟨_, rfl, if_pos rfl⟩, ⟨_, rfl, if_pos rfl⟩⟩
  · intro s
    refine ⟨_, rfl, ?_, fun h => ?_, ?_⟩
    · simp [State.brakeCross]
    · rw [State.brakeCross, h]
      exact hasEvent_event _ _ 6 (by decide)
    · exact sameRegsBut_eventIf _ _ _ 6
  · intro s
    exact ⟨_, rfl, rfl⟩
  · intro s
    obtain ⟨hsup, hevent, hlatch⟩ := s.ovReached_true
    exact ⟨_, rfl, hsup, hevent, fun hg => hlatch .gate (by simp [State.hasProt, hg]), fun n hn => hlatch (.brg n) hn⟩
  · intro s
    exact ⟨_, rfl, rfl⟩
  · intro s
    exact ⟨_, rfl, rfl⟩
  · intro s d hd
    refine ⟨_, rfl, ?_⟩
    rw [if_pos hd]
    exact s.logicSupply_false d
  · intro s d hd
    refine ⟨_, rfl, ?_⟩
    rw [if_pos hd]
    rfl
  · exact fun s v hr hu => runs_threshold_unlocked hr hu .brakeOn v
  · exact fun s v hr hu => runs_threshold_unlocked hr hu .brakeOff v
  · exact fun s v hr hu => runs_threshold_unlocked hr hu .ovTrip v
  · exact fun s r v hr hu => runs_threshold_locked hr hu r v

/-- Refutes O15: its clause for the end of a snapshot asks only that no AUTO image waits (R155), and not that no image is being
applied. Here one is, and goes on once the engine is free (R154): its entry writes a scratch word of DEV, which the clause has keep
its value. -/
theorem not_powerFailTakesOneSnapshot : ¬ Obligations.PowerFailTakesOneSnapshot := by
  rintro ⟨-, -, -, -, -, snapshotEnds, -⟩
  let s : State := { nvs := { snap := some (0, []), image := some [0x0020#16, 0x0001#16] } }
  obtain ⟨t, ht, -, -, -, -, -, -, hregs⟩ := snapshotEnds s rfl rfl rfl
  obtain rfl : s.snapshotDone.engineGo = t := Host.Outcome.next.inj ht
  have written : s.snapshotDone.engineGo.reg devPage 0x20 = 0x0001#16 := by decide
  have before : s.reg devPage 0x20 = 0x0000#16 := by decide
  have kept := hregs devPage 0x20 (by decide) (by decide)
  rw [written, before] at kept
  exact absurd kept (by decide)

end Sys2Proof
end
section
/-! SUPPORT. Every operation of the model keeps the four memories in canonical form: one lemma for each. -/

set_option Elab.async false

namespace Sys2Proof.Machine

open Sys2Proof.Safety

/-- The state's memories are in canonical form. -/
def State.Canonical (s : State) : Prop := memoriesOk s = true

namespace State

variable {s t : State}

theorem canonical_iff : s.Canonical ↔ Store.wf resetWord s.regs = true ∧ Store.wf (fun _ => 0#16) s.table.bank = true ∧
    Memory.wf sramDefault s.mem.sram = true ∧ Memory.wf mramDefault s.nvs.mram = true := by
  simp only [Canonical, memoriesOk, Bool.and_eq_true, and_assoc]

/-- What leaves the four memories alone keeps them canonical. -/
theorem Canonical.frame (h : s.Canonical) (er : t.regs = s.regs := by rfl) (eb : t.table.bank = s.table.bank := by rfl)
    (em : t.mem.sram = s.mem.sram := by rfl) (en : t.nvs.mram = s.nvs.mram := by rfl) : t.Canonical := by
  rw [canonical_iff] at h ⊢
  rwa [er, eb, em, en]

/-! ### How operations are put together -/

theorem Canonical.ite {c : Prop} {_ : Decidable c} (hs : s.Canonical) (ht : t.Canonical) : (if c then s else t).Canonical := by
  split
  · exact hs
  · exact ht

theorem Canonical.dite {c : Prop} {_ : Decidable c} {f : c → State} {g : ¬c → State} (hf : ∀ x, (f x).Canonical)
    (hg : ∀ x, (g x).Canonical) : (dite c f g).Canonical := by
  split
  · exact hf _
  · exact hg _

/-- A step that is made on a condition. -/
theorem Canonical.when {c : Prop} {_ : Decidable c} (h : s.Canonical) (f : s.Canonical → t.Canonical) :
    (if c then t else s).Canonical := .ite (f h) h

/-- A step that is made unless a condition holds. -/
theorem Canonical.unless {c : Prop} {_ : Decidable c} (h : s.Canonical) (f : s.Canonical → t.Canonical) :
    (if c then s else t).Canonical := .ite h (f h)

theorem Canonical.foldl {α : Type} {l : List α} {f : State → α → State} (h : s.Canonical)
    (hf : ∀ t a, t.Canonical → (f t a).Canonical) : (l.foldl f s).Canonical := by
  induction l generalizing s with
  | nil => exact h
  | cons a l ih => exact ih (hf s a h)

/-- A step that the free values decide. -/
theorem Canonical.choice {p : Bool × State} {f g : State → State} (h : p.2.Canonical) (hf : p.2.Canonical → (f p.2).Canonical)
    (hg : p.2.Canonical → (g p.2).Canonical) :
    (match p with
      | (true, t) => f t
      | (false, t) => g t).Canonical := by
  obtain ⟨_ | _, t⟩ := p
  · exact hg h
  · exact hf h

theorem Canonical.iteSnd {α : Type} {c : Prop} {_ : Decidable c} {p q : α × State} (hp : p.2.Canonical) (hq : q.2.Canonical) :
    (if c then p else q).2.Canonical := by
  split
  · exact hp
  · exact hq

theorem Canonical.iteSndSnd {α β : Type} {c : Prop} {_ : Decidable c} {p q : α × β × State} (hp : p.2.2.Canonical)
    (hq : q.2.2.Canonical) : (if c then p else q).2.2.Canonical := by
  split
  · exact hp
  · exact hq

theorem Canonical.choiceNot {p : Bool × State} {f g : State → State} (h : p.2.Canonical) (hf : p.2.Canonical → (f p.2).Canonical)
    (hg : p.2.Canonical → (g p.2).Canonical) :
    (match p with
      | (false, t) => f t
      | (true, t) => g t).Canonical := by
  obtain ⟨_ | _, t⟩ := p
  · exact hf h
  · exact hg h

/-! ### Parts of the state that hold no memory -/

theorem Canonical.setLive {x : BitVec 10} (h : s.Canonical) : ({ s with live := x } : State).Canonical := h.frame

theorem Canonical.setRdata {x : Word} (h : s.Canonical) : ({ s with rdata := x } : State).Canonical := h.frame

theorem Canonical.setTwin {x : Twin} (h : s.Canonical) : ({ s with twin := x } : State).Canonical := h.frame

theorem Canonical.setFab {x : Fabric} (h : s.Canonical) : ({ s with fab := x } : State).Canonical := h.frame

theorem Canonical.setDma {x : Dma} (h : s.Canonical) : ({ s with dma := x } : State).Canonical := h.frame

theorem Canonical.setTmr {x : Timers} (h : s.Canonical) : ({ s with tmr := x } : State).Canonical := h.frame

theorem Canonical.setChand {x : Chand} (h : s.Canonical) : ({ s with chand := x } : State).Canonical := h.frame

theorem Canonical.setLchain {x : LChain} (h : s.Canonical) : ({ s with lchain := x } : State).Canonical := h.frame

theorem Canonical.setAssay {x : Assay} (h : s.Canonical) : ({ s with assay := x } : State).Canonical := h.frame

theorem Canonical.setLedgers {x : Vector Ledger 10} (h : s.Canonical) : ({ s with ledgers := x } : State).Canonical := h.frame

theorem Canonical.setEmus {x : Vector Emu 2} (h : s.Canonical) : ({ s with emus := x } : State).Canonical := h.frame

theorem Canonical.setCnvs {x : Vector Cnv 3} (h : s.Canonical) : ({ s with cnvs := x } : State).Canonical := h.frame

theorem Canonical.setWmons {x : Vector Wmon 8} (h : s.Canonical) : ({ s with wmons := x } : State).Canonical := h.frame

theorem Canonical.setEncs {es : Vector Enc 4} {ts : Vector Trig 4} (h : s.Canonical) :
    ({ s with encs := es, trigs := ts } : State).Canonical := h.frame

theorem Canonical.setUe {a b : Bool} (h : s.Canonical) :
    ({ s with mem := { s.mem with ueArmed := a, safeUe := b } } : State).Canonical := h.frame

/-! ### Registers, events, draws and the memories -/

theorem Canonical.setReg {p o : Nat} {v : Word} (h : s.Canonical) : (s.setReg p o v).Canonical := by
  rw [canonical_iff] at h ⊢
  exact ⟨Store.wf_set _ _ _ _ h.1, h.2⟩

theorem Canonical.setFld {page off lsb width v : Nat} (h : s.Canonical) : (s.setFld page off lsb width v).Canonical :=
  h.setReg

theorem Canonical.setWide {page offHi : Nat} {v : Wide} (h : s.Canonical) : (s.setWide page offHi v).Canonical :=
  h.setReg.setReg

theorem Canonical.count {page off : Nat} (h : s.Canonical) : (s.count page off).Canonical :=
  h.setReg

theorem Canonical.countWrap {page off : Nat} (h : s.Canonical) : (s.countWrap page off).Canonical :=
  h.setReg

theorem Canonical.event {page n : Nat} (h : s.Canonical) : (s.event page n).Canonical :=
  h.setReg

theorem Canonical.eventIf {c : Bool} {page n : Nat} (h : s.Canonical) : (s.eventIf c page n).Canonical :=
  h.when (·.event)

theorem Canonical.resetPage {p : Nat} {keep : Nat → Bool} (h : s.Canonical) : (s.resetPage p keep).Canonical := by
  rw [canonical_iff] at h ⊢
  exact ⟨Store.wf_filter _ _ _ h.1, h.2⟩

theorem Canonical.plainWrite {p o : Nat} {v : Word} {u : Bool} (h : s.Canonical) : (s.plainWrite p o v u).1.Canonical := by
  dsimp only [State.plainWrite]
  split
  · exact h
  · exact h.setReg

theorem Canonical.setAxis {n : Ax} {a : Axis} (h : s.Canonical) : (s.setAxis n a).Canonical :=
  h.frame

theorem Canonical.modAxis {n : Ax} {f : Axis → Axis} (h : s.Canonical) : (s.modAxis n f).Canonical :=
  h.setAxis

theorem Canonical.setLedger {n : Ax} {l : Ledger} (h : s.Canonical) : (s.setLedger n l).Canonical :=
  h.frame

theorem Canonical.modLedger {n : Ax} {f : Ledger → Ledger} (h : s.Canonical) : (s.modLedger n f).Canonical :=
  h.setLedger

theorem Canonical.setBrg {n : Ax} {b : Bridge} (h : s.Canonical) : (s.setBrg n b).Canonical :=
  h.frame

theorem Canonical.modBrg {n : Ax} {f : Bridge → Bridge} (h : s.Canonical) : (s.modBrg n f).Canonical :=
  h.setBrg

theorem Canonical.forAxes {l : List Ax} {f : Ax → State → State} (h : s.Canonical)
    (hf : ∀ n t, t.Canonical → (f n t).Canonical) : (s.forAxes l f).Canonical :=
  h.foldl fun _ _ h => hf _ _ h

theorem Canonical.draw {k : Nat} (h : s.Canonical) : (s.draw k).2.Canonical := by
  dsimp only [State.draw]
  exact h.frame

theorem Canonical.drawBool (h : s.Canonical) : (s.drawBool).2.Canonical := by
  dsimp only [State.drawBool]
  exact h.frame

theorem Canonical.setUnlock {page : Nat} {b : Bool} (h : s.Canonical) : (s.setUnlock page b).Canonical :=
  h.frame

theorem Canonical.setUnitReset {page : Nat} {b : Bool} (h : s.Canonical) : (s.setUnitReset page b).Canonical :=
  h.frame

theorem Canonical.duePulse {w : Word} (h : s.Canonical) : (s.duePulse w).Canonical :=
  h.unless (·.frame)

theorem Canonical.produce {code : Nat} (h : s.Canonical) : (s.produce code).Canonical :=
  h.when (·.duePulse)

theorem Canonical.produceIf {c : Bool} {code : Nat} (h : s.Canonical) : (s.produceIf c code).Canonical :=
  h.when (·.produce)

theorem Canonical.recordCe {a : Nat} (h : s.Canonical) : (s.recordCe a).Canonical :=
  h.count.setWide.event

theorem Canonical.recordUe {a : Nat} {m : Master} (h : s.Canonical) : (s.recordUe a m).Canonical :=
  (h.count.event.when (·.setWide.setReg)).setUe

theorem Canonical.setEcq {q : List (Nat × Word)} (h : s.Canonical) : ({ s with mem := { s.mem with ecq := q } } : State).Canonical :=
  h.frame

/-- What a disturbed word draws. -/
theorem Canonical.drawn {c : Bool} {k l : Nat} (h : s.Canonical) :
    (if c then (if c then s.draw k else (0, s)).2.draw l else (0, (if c then s.draw k else (0, s)).2)).2.Canonical := by
  cases c
  · exact h
  · exact h.draw.draw

theorem Canonical.sramRead {a : Nat} {m : Master} (h : s.Canonical) : (s.sramRead a m).2.2.Canonical := by
  dsimp only [State.sramRead]
  split
  · exact h
  · split
    · exact h
    · split
      · exact h.drawn
      · exact h.drawn.recordCe.setEcq
      · exact h.drawn.recordUe

theorem Canonical.sramPut {a : Nat} {v : Word} (h : s.Canonical) : (s.sramPut a v).Canonical := by
  rw [canonical_iff] at h ⊢
  obtain ⟨hr, hb, hm, hn⟩ := h
  exact ⟨hr, hb, Memory.wf_writeWord _ _ _ _ hm, hn⟩

theorem Canonical.sramWrite {a : Nat} {v : Word} (h : s.Canonical) : (s.sramWrite a v).Canonical :=
  .frame (s := s.sramPut a v) h.sramPut

theorem Canonical.sramReads {m : Master} {a k : Nat} (h : s.Canonical) : (s.sramReads m a k).2.2.Canonical := by
  induction k generalizing s a with
  | zero => exact h
  | succ k ih => exact ih h.sramRead

theorem Canonical.mramRead {a : Nat} (h : s.Canonical) : (s.mramRead a).2.2.Canonical := by
  dsimp only [State.mramRead]
  split
  · exact h
  · split
    · exact h.drawn
    · exact h.drawn
    · exact h.drawn.event

theorem Canonical.mramWrite {a : Nat} {v : Word} (h : s.Canonical) : (s.mramWrite a v).Canonical := by
  rw [canonical_iff] at h ⊢
  obtain ⟨hr, hb, hm, hn⟩ := h
  exact ⟨hr, hb, hm, Memory.wf_writeWord _ _ _ _ hn⟩

theorem Canonical.mramWrites {a : Nat} {ws : List Word} (h : s.Canonical) : (s.mramWrites a ws).Canonical := by
  induction ws generalizing s a with
  | nil => exact h
  | cons w ws ih => exact ih h.mramWrite

/-! ### Requests for the switches -/

theorem Canonical.modGate {f : Gate → Gate} (h : s.Canonical) : (s.modGate f).Canonical :=
  h.frame

theorem Canonical.modPh {n : Ax} {p : Phase} {f : ChopPh → ChopPh} (h : s.Canonical) : (s.modPh n p f).Canonical :=
  h.modBrg

theorem Canonical.deadFollow (h : s.Canonical) : s.deadFollow.Canonical :=
  h.modGate

theorem Canonical.modSw {p : ProtPage} {m : BitVec 8} {f : Sw → Sw} (h : s.Canonical) : (s.modSw p m f).Canonical := by
  dsimp only [State.modSw]
  split
  · exact h.modBrg
  · exact h.modGate

theorem Canonical.interlocked {p : ProtPage} {b : Bool} (h : s.Canonical) : (s.interlocked p b).Canonical :=
  h.when (·.count.event)

theorem Canonical.brgHalf {n : Ax} {j : Fin 4} {ask : BitVec 8} {t : Nat} (h : s.Canonical) : (s.brgHalf n j ask t).Canonical :=
  ((h.when (·.frame)).modBrg).interlocked

theorem Canonical.gateHalf {j : Fin 3} {ask : BitVec 8} {t : Nat} (h : s.Canonical) : (s.gateHalf j ask t).Canonical :=
  h.modGate.interlocked

theorem Canonical.swEdge {n : Ax} {p : Phase} {t : Nat} {f : ChopPh → ChopPh} (h : s.Canonical) : (s.swEdge n p t f).Canonical := by
  dsimp only [State.swEdge]
  split <;> exact h.modPh.brgHalf.brgHalf

theorem Canonical.gateEdge {t : Nat} (h : s.Canonical) : (s.gateEdge t).Canonical :=
  h.gateHalf.gateHalf.gateHalf

theorem Canonical.swHold {p : ProtPage} {m : BitVec 8} (h : s.Canonical) : (s.swHold p m).Canonical :=
  h.when (·.modSw)

theorem Canonical.brgHalfFollow {n : Ax} {ask : BitVec 8} {j : Fin 4} (h : s.Canonical) : (s.brgHalfFollow n ask j).Canonical :=
  (h.when (·.frame)).modBrg

theorem Canonical.gateFollow (h : s.Canonical) : s.gateFollow.Canonical :=
  h.foldl fun _ _ h => h.frame

theorem Canonical.brgFollow {n : Ax} (h : s.Canonical) : (s.brgFollow n).Canonical :=
  h.foldl fun _ _ h => h.brgHalfFollow

theorem Canonical.phaseTime {n : Ax} {p : Phase} {t : Nat} (h : s.Canonical) : (s.phaseTime n p t).Canonical := by
  dsimp only [State.phaseTime]
  split
  · exact h.modBrg.modPh
  · exact .modPh (by split; exacts [h.when (·.swEdge), h])

theorem Canonical.dieTime {n : Ax} {t : Nat} (h : s.Canonical) : (s.dieTime n t).Canonical :=
  h.phaseTime.phaseTime.modBrg

theorem Canonical.dieTick {ns : Nat} {n : Ax} (h : s.Canonical) : (s.dieTick ns n).Canonical :=
  h.dieTime.modBrg

theorem Canonical.edgesSince {s0 : State} {n : Ax} (h : s.Canonical) : (s.edgesSince s0 n).Canonical :=
  (h.when (·.frame)).when (·.frame)

end State
end Sys2Proof.Machine
end
section
/-! SUPPORT. Every operation keeps the memories canonical: the axes and the gate port. -/

set_option Elab.async false

namespace Sys2Proof.Machine.State

open Sys2Proof.Safety

variable {s : State}

/-! ### An axis: refusals, modes, STOP, parking -/

theorem Canonical.axisRefuse {n : Ax} {code : Nat} (h : s.Canonical) : (s.axisRefuse n code).Canonical :=
  h.setReg.event

theorem Canonical.loadPosition {n : Ax} {pos : Int} (h : s.Canonical) : (s.loadPosition n pos).Canonical :=
  h.modAxis

theorem Canonical.ledgFlag {n : Ax} {k : Nat} (h : s.Canonical) : (s.ledgFlag n k).Canonical :=
  h.setReg.event

theorem Canonical.ledgerEnter {n : Ax} (h : s.Canonical) : (s.ledgerEnter n).Canonical :=
  .ite h.modLedger.ledgFlag h.modLedger

theorem Canonical.bridgeOff {n : Ax} (h : s.Canonical) : (s.bridgeOff n).Canonical :=
  h.modBrg.setReg.setReg.setReg.setReg.setReg.setReg

theorem Canonical.followEnter {n : Ax} (h : s.Canonical) : (s.followEnter n).Canonical :=
  h.modAxis.setReg

theorem Canonical.enterMode {n : Ax} {m : Mode} (h : s.Canonical) : (s.enterMode n m).Canonical := by
  dsimp only [State.enterMode]
  split
  · exact h.modAxis
  · have hl : (if (s.axis n).mode = .ledger then s.ledgerLeave n else s).Canonical := h.when (·.frame)
    refine .event (.brgFollow (.when ?_ (·.modAxis)))
    split
    · exact (hl.modAxis.when (·.setReg)).bridgeOff
    · exact (hl.modAxis.when (·.setReg)).modBrg
    · exact (hl.modAxis.when (·.setReg)).ledgerEnter
    · exact (hl.modAxis.when (·.setReg)).followEnter
    · exact hl.modAxis.when (·.setReg)
    · exact hl.modAxis.when (·.setReg)

theorem Canonical.charFail {n : Ax} {r : Nat} {m : Mode} (h : s.Canonical) : (s.charFail n r m).Canonical :=
  h.setFld.event.modAxis.enterMode

theorem Canonical.charEndIn {n : Ax} {m : Mode} (h : s.Canonical) : (s.charEndIn n m).Canonical :=
  h.when (·.modAxis)

theorem Canonical.stopDone {n : Ax} {m : Mode} (h : s.Canonical) : (s.stopDone n m).Canonical :=
  h.modAxis.event.enterMode

theorem Canonical.startStop {n : Ax} {m : Mode} (h : s.Canonical) : (s.startStop n m).Canonical := by
  dsimp only [State.startStop]
  split
  · split
    · exact h.when (·.frame)
    · exact .ite ((h.when (·.frame)).stopDone) ((h.when (·.frame)).modAxis)
  · exact h

theorem Canonical.parkNow {n : Ax} (h : s.Canonical) : (s.parkNow n).Canonical := by
  dsimp only [State.parkNow]
  split
  · exact h
  · exact h.charFail
  · exact h.enterMode

theorem Canonical.parkFault {n : Ax} (h : s.Canonical) : (s.parkFault n).Canonical :=
  .ite h.charEndIn h.parkNow

theorem Canonical.holdNow {n : Ax} (h : s.Canonical) : (s.holdNow n).Canonical := by
  dsimp only [State.holdNow]
  split
  · exact h
  · exact h.charEndIn
  · exact h.enterMode

theorem Canonical.haltAxis {n : Ax} (h : s.Canonical) : (s.haltAxis n).Canonical :=
  h.startStop.charEndIn

theorem Canonical.freezeAxis {n : Ax} (h : s.Canonical) : (s.freezeAxis n).Canonical :=
  .ite (((h.when (·.modAxis)).haltAxis).modLedger) h

theorem Canonical.profileStart {n : Ax} (h : s.Canonical) : (s.profileStart n).Canonical :=
  h.modAxis.modBrg

theorem Canonical.planMove {n : Ax} {t : Int} {l : Limits} (h : s.Canonical) : (s.planMove n t l).Canonical :=
  h.eventIf.profileStart.modAxis

theorem Canonical.targetReached {n : Ax} (h : s.Canonical) : (s.targetReached n).Canonical :=
  h.modAxis.event

/-! ### Requests judged at a ramp tick -/

theorem Canonical.planTravel {n : Ax} {t : Int} {leg : Nat} (h : s.Canonical) : (s.planTravel n t leg).Canonical :=
  h.profileStart.modAxis

theorem Canonical.charBegin {n : Ax} {step : Nat} (h : s.Canonical) : (s.charBegin n step).Canonical :=
  h.modAxis.brgFollow.when fun h => by
    split
    · exact h.modAxis.planTravel
    · exact .ite h.modAxis.planTravel (.ite h.modAxis.planTravel h.modAxis.charFail)

theorem Canonical.charStart {n : Ax} (h : s.Canonical) : (s.charStart n).Canonical :=
  ((h.enterMode.foldl (fun _ _ h => h.setReg)).modAxis).charBegin

theorem Canonical.grantMode {n : Ax} {m : Mode} (h : s.Canonical) : (s.grantMode n m).Canonical := by
  dsimp only [State.grantMode]
  split
  · exact .ite h.modAxis.charStart h.modAxis.enterMode
  · exact .ite h.modAxis.charStart h.modAxis.enterMode
  · exact h.modAxis.charEndIn
  · exact .ite h.modAxis.enterMode h.modAxis.startStop
  · exact .ite h.modAxis.enterMode h.modAxis.startStop
  · exact .ite h.modAxis.enterMode h.modAxis.startStop

theorem Canonical.judgeMode {n : Ax} {code : Nat} (h : s.Canonical) : (s.judgeMode n code).Canonical := by
  dsimp only [State.judgeMode]
  split
  · split
    · exact h.frame
    · exact h.frame
    · exact h.axisRefuse
  · split
    · exact h
    · split
      · exact (h.when (·.event)).axisRefuse
      · split
        · exact h.grantMode
        · exact h

theorem Canonical.judgeSetPos {n : Ax} (h : s.Canonical) : (s.judgeSetPos n).Canonical :=
  .ite h.loadPosition.modAxis.setTwin h.axisRefuse

theorem Canonical.encAlignNow {n : Ax} (h : s.Canonical) : (s.encAlignNow n).Canonical :=
  h.when (·.setWide)

theorem Canonical.judgeRt {n : Ax} (h : s.Canonical) : (s.judgeRt n).Canonical :=
  .ite h.axisRefuse (.ite h.planMove h.axisRefuse.event)

theorem Canonical.dirInvNow {n : Ax} (h : s.Canonical) : (s.dirInvNow n).Canonical := by
  dsimp only [State.dirInvNow]
  split
  · exact h
  · exact h.setFld.modAxis

theorem Canonical.judgeRequests {n : Ax} (h : s.Canonical) : (s.judgeRequests n).Canonical := by
  refine .when ?_ (·.judgeRt)
  split
  · exact (h.dirInvNow.modAxis.when (·.judgeSetPos)).judgeMode
  · exact h.dirInvNow.modAxis.when (·.judgeSetPos)

/-! ### One ramp tick of an axis -/

theorem Canonical.setChan {n : Ax} {c : Chan} (h : s.Canonical) : (s.setChan n c).Canonical :=
  h.modAxis

theorem Canonical.reversalDone {n : Ax} {t : Int} (h : s.Canonical) : (s.reversalDone n t).Canonical :=
  h.modAxis.setWide.event

theorem Canonical.goalTick {n : Ax} (h : s.Canonical) : (s.goalTick n).2.Canonical := by
  dsimp only [State.goalTick]
  split
  · exact h.frame
  · split
    · exact h.setChan.targetReached
    · exact h.setChan.reversalDone
    · exact h.setChan
  · split
    · exact h.setChan.modAxis
    · exact h.setChan
  · split
    · exact h.setChan.modAxis
    · exact h.setChan

theorem Canonical.limitStop {n : Ax} (h : s.Canonical) : (s.limitStop n).Canonical :=
  h.unless (·.modAxis.event)

theorem Canonical.velocityTick {n : Ax} (h : s.Canonical) : (s.velocityTick n).Canonical := by
  dsimp only [State.velocityTick]
  split
  · exact h.setChan
  · exact h.setChan.when (·.limitStop)

theorem Canonical.stopAdvance {n : Ax} {m : Mode} (h : s.Canonical) : (s.stopAdvance n m).Canonical :=
  h.setChan.when (·.stopDone)

theorem Canonical.followLag {n : Ax} {d : Int} (h : s.Canonical) : (s.followLag n d).Canonical :=
  h.eventIf.modAxis

theorem Canonical.followTrack {n : Ax} (h : s.Canonical) : (s.followTrack n).Canonical :=
  .ite ((h.modAxis.setChan.when (·.limitStop)).followLag) (h.modAxis.setChan.followLag.when (·.limitStop))

theorem Canonical.followTick {n : Ax} (h : s.Canonical) : (s.followTick n).Canonical := by
  unfold State.followTick
  refine .ite h.followTrack ?_
  dsimp only
  split
  · exact h.axisRefuse.startStop.stopAdvance
  · exact h.axisRefuse.startStop

theorem Canonical.followStep {ch : Nat} {up : Bool} {n : Ax} (h : s.Canonical) : (s.followStep ch up n).Canonical :=
  .ite (h.modAxis.when (·.count)) h

theorem Canonical.cruiseSample {n : Ax} (h : s.Canonical) : (s.cruiseSample n).Canonical :=
  h.when (·.modAxis)

theorem Canonical.travelTick {n : Ax} {t : Int} (h : s.Canonical) : (s.travelTick n t).Canonical := by
  dsimp only [State.travelTick]
  split
  · exact .ite h.setChan.planTravel h.setChan.modAxis
  · exact h.setChan.modAxis
  · exact h.setChan.cruiseSample

theorem Canonical.charTick {n : Ax} (h : s.Canonical) : (s.charTick n).Canonical := by
  dsimp only [State.charTick]
  split
  · exact .ite h.charFail (h.setChan.when (·.charFail))
  · split
    · exact h.travelTick
    · exact h

theorem Canonical.resumeFrozen {n : Ax} (h : s.Canonical) : (s.resumeFrozen n).Canonical := by
  dsimp only [State.resumeFrozen]
  split
  · exact h.when (·.modAxis)
  · exact h

theorem Canonical.axisMotion {n : Ax} (h : s.Canonical) : (s.axisMotion n).2.Canonical := by
  dsimp only [State.axisMotion]
  split
  · exact h
  · split
    · exact h.stopAdvance.resumeFrozen
    · split
      · exact h
      · exact h
      · exact h.goalTick
      · exact h.velocityTick
      · exact h.followTick
      · exact h.charTick

theorem Canonical.standstill {n : Ax} (h : s.Canonical) : (s.standstill n).Canonical :=
  h.when (·.modBrg)

theorem Canonical.clampNote {n : Ax} {bit lvl : Nat} (h : s.Canonical) : (s.clampNote n bit lvl).Canonical :=
  h.when (·.modBrg.event)

theorem Canonical.clampFresh {n : Ax} {bit lvl : Nat} (h : s.Canonical) : (s.clampFresh n bit lvl).Canonical :=
  h.modBrg.clampNote

theorem Canonical.setpointsIn {n : Ax} (h : s.Canonical) : (s.setpointsIn n).Canonical := by
  dsimp only [State.setpointsIn]
  split
  · exact h
  · exact h.modBrg.setReg.setReg.modAxis.when (·.brgFollow)

theorem Canonical.currentTick {n : Ax} (h : s.Canonical) : (s.currentTick n).Canonical :=
  h.unless (·.clampNote.modBrg)

theorem Canonical.currentAgain {n : Ax} (h : s.Canonical) : (s.currentAgain n).Canonical :=
  h.when (·.modBrg.currentTick)

theorem Canonical.markSeen {n : Ax} (h : s.Canonical) : (s.markSeen n).Canonical :=
  h.modLedger

theorem Canonical.declareStall {n : Ax} (h : s.Canonical) : (s.declareStall n).Canonical := by
  dsimp only [State.declareStall]
  split
  · exact h.modAxis.event.count.markSeen
  · split
    · exact h.modAxis.event.count.startStop
    · exact h.modAxis.event.count.parkNow
    · exact h.modAxis.event.count

theorem Canonical.estimateNow {n : Ax} (h : s.Canonical) : (s.estimateNow n).Canonical :=
  .ite h.setReg.setReg.setReg.declareStall h.setReg.setReg.setReg.modAxis

theorem Canonical.stallTick {n : Ax} {old : Int} (h : s.Canonical) : (s.stallTick n old).Canonical :=
  .ite h.modAxis (.ite (h.modAxis.when (·.estimateNow)) h)

theorem Canonical.deviationTick {n : Ax} (h : s.Canonical) : (s.deviationTick n).Canonical :=
  (((h.when (·.modAxis.encAlignNow)).setWide).modAxis).when (fun h => by split; exacts [h.event.startStop, h.event.parkNow, h.event])

theorem Canonical.limitTick {n : Ax} (h : s.Canonical) : (s.limitTick n).Canonical := by
  dsimp only [State.limitTick]
  split
  · exact (h.when (·.modAxis)).modAxis
  · exact (h.when (·.modAxis)).when (·.modAxis)

theorem Canonical.settleTick {n : Ax} (h : s.Canonical) : (s.settleTick n).Canonical :=
  h.modAxis

/-! ### The gate port -/

theorem Canonical.gateRefuse {code : Nat} (h : s.Canonical) : (s.gateRefuse code).Canonical :=
  h.setReg.event

theorem Canonical.gateEnter {st : GState} (h : s.Canonical) : (s.gateEnter st).Canonical :=
  .ite h.modGate h.modGate.modGate.gateFollow

theorem Canonical.commutate {t : Nat} (h : s.Canonical) : (s.commutate t).Canonical :=
  .ite h (.ite h.modGate h.modGate.gateEdge)

theorem Canonical.gateEdges {g : Gate} (h : s.Canonical) : (s.gateEdges g).Canonical :=
  h.modGate

theorem Canonical.gateAt {t : Nat} (h : s.Canonical) : (s.gateAt t).Canonical :=
  .gateEdges (.ite (((h.modGate.when (·.deadFollow)).modGate).commutate) (((h.modGate.when (·.deadFollow)).modGate).gateEdge))

theorem Canonical.gateUpTo {t : Nat} (h : s.Canonical) : (s.gateUpTo t).Canonical :=
  .ite h.modGate (h.foldl (fun _ _ h => h.gateAt))

theorem Canonical.gateTime {t : Nat} (h : s.Canonical) : (s.gateTime t).Canonical :=
  h.gateUpTo.gateAt

theorem Canonical.gateClock {ns : Nat} (h : s.Canonical) : (s.gateClock ns).Canonical :=
  h.gateTime.modGate

theorem Canonical.gateStopDone (h : s.Canonical) : s.gateStopDone.Canonical :=
  h.frame.gateEnter.event

theorem Canonical.gateStop (h : s.Canonical) : s.gateStop.Canonical := by
  dsimp only [State.gateStop]
  split
  · exact h.gateStopDone
  · exact .ite h.gateStopDone h.gateEnter
  · exact h

theorem Canonical.gateFaultNow (h : s.Canonical) : s.gateFaultNow.Canonical :=
  h.modGate.gateEnter

theorem Canonical.gateCoast (h : s.Canonical) : s.gateCoast.Canonical :=
  h.unless (·.frame.gateEnter.modGate.event)

theorem Canonical.gateTick (h : s.Canonical) : s.gateTick.Canonical := by
  refine .unless ?_ fun h => (h.modGate.when (·.modGate)).when (·.gateEnter)
  split
  · exact (h.modGate.when (·.frame.modGate.event)).modGate
  · exact (h.modGate.when (·.frame.modGate.event)).modGate.when (·.gateStopDone)
  · exact h.modGate.when (·.frame.modGate.event)

theorem Canonical.hallCode {code : BitVec 3} {t : Nat} (h : s.Canonical) : (s.hallCode code t).Canonical := by
  dsimp only [State.hallCode]
  have hg := (h.gateTime (t := t)).modGate (f := fun g => { g with hall := code })
  split
  · exact hg.modGate.event.count.when (·.gateEnter)
  · refine .commutate (.produce ?_)
    split
    · exact hg.modGate
    · refine .ite ?_ hg.modGate.event.count
      split
      · exact hg.modGate.modGate.modGate.setWide
      · exact hg.modGate.modGate.modGate

theorem Canonical.pwmEdge {t : Nat} (h : s.Canonical) : (s.pwmEdge t).Canonical :=
  h.modGate.deadFollow.modSw.gateAt.gateEdges

theorem Canonical.dutyAct {t : Nat} (h : s.Canonical) : (s.dutyAct t).Canonical :=
  .ite h.modGate.modGate (.ite h.modGate.modGate (.ite h.modGate.modGate h.modGate.modGate))

theorem Canonical.gateDuty {t : Nat} (h : s.Canonical) : (s.gateDuty t).Canonical :=
  h.gateUpTo.dutyAct.pwmEdge

theorem Canonical.gateTold {t : Nat} (h : s.Canonical) : (s.gateTold t).Canonical :=
  h.when (·.gateTime)

theorem Canonical.refreshAt {ph : Fin 3} {t : Nat} (h : s.Canonical) : (s.refreshAt ph t).Canonical :=
  h.gateTold.when (·.modGate.gateAt.countWrap)

theorem Canonical.ilimHit {t : Nat} (h : s.Canonical) : (s.ilimHit t).Canonical :=
  h.gateTold.when (·.modGate.deadFollow.gateAt.event.count)

theorem Canonical.edgeNow {ph : Fin 3} {low : Option Bool} (h : s.Canonical) : (s.edgeNow ph low).Canonical :=
  h.when (·.modGate)

theorem Canonical.slopeLate {ph : Fin 3} {low : Option Bool} (h : s.Canonical) : (s.slopeLate ph low).Canonical :=
  h.edgeNow.when (·.frame.event)

theorem Canonical.slopeCross {ph : Fin 3} {since : Nat} {low : Option Bool} (h : s.Canonical) : (s.slopeCross ph since low).Canonical :=
  h.edgeNow.when (·.frame)

theorem Canonical.hallQuiet (h : s.Canonical) : s.hallQuiet.Canonical :=
  .ite (h.modGate.when (·.event)) h

theorem Canonical.streamStop (h : s.Canonical) : s.streamStop.Canonical :=
  h.when (·.modGate)

theorem Canonical.gateStart (h : s.Canonical) : s.gateStart.Canonical := by
  dsimp only [State.gateStart]
  split
  · exact h.gateRefuse
  · split
    · exact h.when (·.gateEnter)
    · exact h.when (·.gateEnter)
    · exact h

theorem Canonical.gateRun (h : s.Canonical) : s.gateRun.Canonical :=
  h.modGate.gateEnter.event

theorem Canonical.applyTable (h : s.Canonical) : s.applyTable.Canonical :=
  .ite h.modGate h.gateRefuse

theorem Canonical.applyDrive (h : s.Canonical) : s.applyDrive.Canonical :=
  .ite h.modGate h.gateRefuse

theorem Canonical.gateCmd {v : Word} (h : s.Canonical) : (s.gateCmd v).Canonical :=
  (((h.when (·.gateStart)).when (·.gateStop)).when (·.applyTable)).when (·.applyDrive)

theorem Canonical.gateWideWrite {offHi : Nat} {v : Wide} (h : s.Canonical) : (s.gateWideWrite offHi v).Canonical := by
  dsimp only [State.gateWideWrite]
  split
  · exact h.setWide
  · exact h.setWide
  · exact h.unless (·.setWide)
  · exact h.setWide

end Sys2Proof.Machine.State
end
section
/-! SUPPORT. Every operation keeps the memories canonical: the ledgers, the protection and the memories' engines. -/

set_option Elab.async false

namespace Sys2Proof.Machine.State

open Sys2Proof.Safety

variable {s : State}

/-! ### The ledgers -/

theorem Canonical.ledgerFault {n : Ax} {cause : Nat} (h : s.Canonical) : (s.ledgerFault n cause).Canonical :=
  h.modLedger.ledgFlag.startStop

theorem Canonical.lowWater {n : Ax} {before : Nat} (h : s.Canonical) : (s.lowWater n before).Canonical :=
  h.when (·.ledgFlag)

theorem Canonical.completeRecord {n : Ax} {r : LRec} (h : s.Canonical) : (s.completeRecord n r).Canonical :=
  have hl := ((h.when (·.produce)).when (·.setReg.ledgFlag)).setReg.modLedger.lowWater
  .ite (.ite hl.ledgFlag.enterMode hl.ledgFlag.startStop) (hl.when (·.modLedger.ledgFlag))

theorem Canonical.recordCurrent {n : Ax} {off code : Nat} (h : s.Canonical) : (s.recordCurrent n off code).Canonical :=
  h.unless (·.setReg.clampFresh)

theorem Canonical.startEffect {n : Ax} {r : LRec} {resume : Option LRun} (h : s.Canonical) : (s.startEffect n r resume).2.Canonical := by
  unfold State.startEffect
  split
  · exact .iteSnd h.planMove.modLedger.setChan.targetReached h.planMove.modLedger
  · exact .iteSnd h.profileStart.modAxis.modLedger.modAxis h.profileStart.modAxis.modLedger
  · exact h.modLedger
  · exact h.planMove.modLedger
  · exact h.recordCurrent.modLedger
  · exact h.produce.ledgFlag.modLedger
  · exact h.modLedger

theorem Canonical.startRecord {n : Ax} {r : LRec} (h : s.Canonical) : (s.startRecord n r).2.Canonical := by
  dsimp only [State.startRecord]
  split
  · exact h.ledgerFault
  · exact ((((((h.unless (·.modLedger)).eventIf).when (·.ledgFlag)).when (·.ledgFlag)).recordCurrent).when (·.produce)).startEffect

theorem Canonical.runRecords {n : Ax} {k : Nat} (h : s.Canonical) : (State.runRecords n k s).Canonical := by
  induction k generalizing s with
  | zero => exact h
  | succ k ih =>
    unfold State.runRecords
    refine .ite h (.ite h.modLedger ?_)
    split
    · exact h.modLedger
    · exact .ite (h.when (·.modLedger)).modLedger (.choice (h.when (·.modLedger)).startRecord (fun h => ih h.completeRecord) id)

theorem Canonical.seekHit {n : Ax} {r : LRec} (h : s.Canonical) : (s.seekHit n r).Canonical :=
  .ite h.setWide.ledgFlag.modAxis.completeRecord h.setWide.ledgFlag.modAxis.modLedger

theorem Canonical.recordProgress {n : Ax} {ev : MEv} (h : s.Canonical) : (s.recordProgress n ev).Canonical := by
  dsimp only [State.recordProgress]
  split
  · split
    · exact h.when (·.completeRecord)
    · exact .ite (h.when (·.completeRecord)) (.ite (.ite h.modAxis.modLedger h.completeRecord) h)
    · exact h.modLedger
    · exact .ite (h.when (·.completeRecord)) (.ite h.seekHit (.ite (.ite h.ledgFlag.ledgerFault h.ledgFlag.completeRecord) h))
    · exact h.completeRecord
    · exact h.completeRecord
    · exact .ite h.completeRecord h.modLedger
  · exact h

theorem Canonical.ledgerTick {n : Ax} {ev : MEv} (h : s.Canonical) : (s.ledgerTick n ev).Canonical :=
  .ite h (.ite h.startStop h.recordProgress.runRecords)

theorem Canonical.releaseBarriers (h : s.Canonical) : s.releaseBarriers.Canonical :=
  h.foldl (fun _ _ h => .ite ((h.forAxes (fun _ _ h => h.modLedger)).event) h)

theorem Canonical.prefetch {n : Ax} (h : s.Canonical) : (s.prefetch n).Canonical := by
  dsimp only [State.prefetch]
  with_reducible exact h.when (·.sramReads.modLedger)

theorem Canonical.setQueue {n : Ax} {base : Wide} {len : Nat} (h : s.Canonical) : (s.setQueue n base len).Canonical :=
  .ite h.setWide.setReg.modLedger.lowWater h.ledgFlag

theorem Canonical.setTail {n : Ax} {v : Nat} (h : s.Canonical) : (s.setTail n v).Canonical :=
  .ite h.modLedger.lowWater h.ledgFlag

theorem Canonical.setHead {n : Ax} {v : Nat} (h : s.Canonical) : (s.setHead n v).Canonical :=
  .ite h.modLedger.lowWater h.ledgFlag

theorem Canonical.clearFault {n : Ax} {skip : Bool} (h : s.Canonical) : (s.clearFault n skip).Canonical :=
  .ite h.modLedger.lowWater h.ledgFlag

theorem Canonical.flushQueue {n : Ax} (h : s.Canonical) : (s.flushQueue n).Canonical :=
  .ite h.modLedger.lowWater h.ledgFlag

theorem Canonical.queueCmd {n : Ax} {v : Word} (h : s.Canonical) : (s.queueCmd n v).Canonical :=
  .when (.ite h.clearFault (h.when (·.clearFault))) (·.flushQueue)

theorem Canonical.ledgWrite {off : Nat} {v : Word} {unl : Bool} (h : s.Canonical) : (s.ledgWrite off v unl).Canonical := by
  dsimp only [State.ledgWrite]
  split
  · exact h.plainWrite
  · split
    · exact h
    · split
      · exact h.setQueue
      · exact h.setHead
      · exact h.setTail
      · exact h.queueCmd
      · exact h.plainWrite

theorem Canonical.ledgWideWrite {offHi : Nat} {v : Wide} (h : s.Canonical) : (s.ledgWideWrite offHi v).Canonical := by
  dsimp only [State.ledgWideWrite]
  split
  · exact h.when (·.setQueue)
  · exact h

theorem Canonical.ledgReset (h : s.Canonical) : s.ledgReset.Canonical :=
  h.resetPage.setLedgers

/-! ### Power-stage protection -/

theorem Canonical.modProt {p : ProtPage} {f : Prot → Prot} (h : s.Canonical) : (s.modProt p f).Canonical := by
  dsimp only [State.modProt]
  split
  · exact h.modBrg
  · exact h.modGate

theorem Canonical.axisPolicy {n : Ax} {c : FaultClass} (h : s.Canonical) : (s.axisPolicy n c).Canonical := by
  dsimp only [State.axisPolicy]
  split
  · exact h.parkFault
  · split
    · exact h.when (·.charEndIn)
    · exact h.when (·.charEndIn)
    · exact h.startStop.charEndIn
    · exact h.startStop.charEndIn
    · exact h.startStop.charEndIn

theorem Canonical.gatePolicyNow (h : s.Canonical) : s.gatePolicyNow.Canonical :=
  h.unless (·.gateFaultNow)

theorem Canonical.gatePull {m : BitVec 8} (h : s.Canonical) : (s.gatePull m).Canonical :=
  h.modGate

theorem Canonical.ovFollow {p : ProtPage} {c : FaultClass} (h : s.Canonical) : (s.ovFollow p c).Canonical := by
  dsimp only [State.ovFollow]
  split
  · split
    · exact h.brgFollow
    · exact h.gateFollow
  · exact h

theorem Canonical.pageEdges {s0 : State} {x : ProtPage} (h : s.Canonical) : (s.pageEdges s0 x).Canonical := by
  dsimp only [State.pageEdges]
  split
  · exact h.edgesSince
  · exact h

theorem Canonical.setLatch {p : ProtPage} {c : FaultClass} {m : BitVec 8} (h : s.Canonical) : (s.setLatch p c m).Canonical := by
  dsimp only [State.setLatch]
  split
  · refine .axisPolicy (.when (.setWide (.setReg ?_)) (·.modProt.event))
    split
    · exact h.modProt.ovFollow.pageEdges.modSw.event
    · exact h.modProt.ovFollow.pageEdges.modSw
  · refine .gatePull (.gatePolicyNow (.when (.setWide (.setReg ?_)) (·.modProt.event)))
    split
    · exact h.modProt.ovFollow.pageEdges.modSw.event
    · exact h.modProt.ovFollow.pageEdges.modSw

theorem Canonical.setLatchAll {c : FaultClass} (h : s.Canonical) : (s.setLatchAll c).Canonical :=
  h.foldl (fun _ _ h => h.when (·.setLatch))

theorem Canonical.gateAfterClear (h : s.Canonical) : s.gateAfterClear.Canonical :=
  h.when (·.gateEnter)

theorem Canonical.clearLatch {p : ProtPage} {c : FaultClass} {m : BitVec 8} (h : s.Canonical) : (s.clearLatch p c m).Canonical := by
  dsimp only [State.clearLatch]
  split
  · exact h.modProt.ovFollow.swHold.pageEdges
  · exact h.modProt.ovFollow.swHold.pageEdges.gateAfterClear

theorem Canonical.testLatches {p : ProtPage} {c : FaultClass} {m : BitVec 8} (h : s.Canonical) : (s.testLatches p c m).2.Canonical := by
  dsimp only [State.testLatches]
  exact (h.when (·.event)).when (·.clearLatch)

theorem Canonical.autoTest {p : ProtPage} {c : FaultClass} {m : BitVec 8} (h : s.Canonical) : (s.autoTest p c m).Canonical := by
  cases c with
  | sc => exact h.when (·.modProt)
  | _ => exact h.when fun h => h.testLatches.unless (·.modProt)

theorem Canonical.toggleTest {p : ProtPage} {c : FaultClass} (h : s.Canonical) : (s.toggleTest p c).Canonical :=
  .modProt (.ite h (by split; exacts [h.modProt, h.testLatches]))

theorem Canonical.toggle {p : ProtPage} (h : s.Canonical) : (s.toggle p).Canonical :=
  h.foldl fun _ _ h => h.toggleTest

theorem Canonical.checkEnd {p : ProtPage} {shorted : BitVec 3} (h : s.Canonical) : (s.checkEnd p shorted).Canonical := by
  dsimp only [State.checkEnd]
  split
  · exact h
  · exact (h.modProt.when (·.event)).unless (fun h => h.clearLatch.unless (·.modProt))

theorem Canonical.relatch (h : s.Canonical) : s.relatch.Canonical :=
  h.foldl (fun _ _ h => (((h.modProt.when (·.setLatch)).when (·.setLatch)).when (·.setLatch)).when (·.setLatch))

theorem Canonical.shortOf {p : ProtPage} {m : BitVec 8} (h : s.Canonical) : (s.shortOf p m).Canonical :=
  h.unless (·.count.setLatch)

theorem Canonical.modDie {d : Die} {f : DieSt → DieSt} (h : s.Canonical) : (s.modDie d f).Canonical :=
  h.frame

theorem Canonical.vcpLatch {d : Die} (h : s.Canonical) : (s.vcpLatch d).Canonical :=
  h.foldl (fun _ _ h => h.when (·.setLatch))

theorem Canonical.vcpSet {d : Die} {low near : Bool} (h : s.Canonical) : (s.vcpSet d low near).Canonical :=
  (h.forAxes (fun _ _ h => h.modProt)).modDie

theorem Canonical.gateSupplies {f : Gate → Gate} (h : s.Canonical) : (s.gateSupplies f).Canonical :=
  h.modGate

theorem Canonical.bstWatch (h : s.Canonical) : s.bstWatch.Canonical :=
  h.foldl (fun _ _ h => h.when (·.setLatch))

theorem Canonical.uvDown {u : UvSupply} {t : Nat} (h : s.Canonical) : (s.uvDown u t).Canonical := by
  dsimp only [State.uvDown]
  split
  · exact h.when (·.vcpSet.vcpLatch)
  · exact h.when (·.gateSupplies.setLatch)
  · exact h.when (·.gateTold.gateSupplies.bstWatch)

theorem Canonical.uvUp {u : UvSupply} {below : Bool} (h : s.Canonical) : (s.uvUp u below).Canonical := by
  dsimp only [State.uvUp]
  split
  · exact h.when (·.vcpSet)
  · exact h.when (·.gateSupplies)
  · exact h.when (·.gateSupplies)

theorem Canonical.vcpArm {d : Die} (h : s.Canonical) : (s.vcpArm d).Canonical :=
  h.when (·.frame.vcpLatch)

theorem Canonical.dieProt {d : Die} {f : Prot → Prot} (h : s.Canonical) : (s.dieProt d f).Canonical :=
  h.forAxes fun _ _ h => h.modProt

theorem Canonical.thermWarn {d : Die} {above : Bool} (h : s.Canonical) : (s.thermWarn d above).Canonical :=
  .ite (h.dieProt.when (fun h => h.forAxes (fun _ _ h => h.event))) h

theorem Canonical.thermTrip {d : Die} (h : s.Canonical) : (s.thermTrip d).Canonical :=
  .ite (h.dieProt.forAxes (fun _ _ h => h.setLatch)) h

theorem Canonical.thermCool {d : Die} {above : Bool} (h : s.Canonical) : (s.thermCool d above).Canonical :=
  h.when (·.dieProt)

theorem Canonical.retryReset {p : ProtPage} {c : FaultClass} (h : s.Canonical) : (s.retryReset p c).Canonical :=
  h.when (·.modProt)

theorem Canonical.scChange {n : Ax} (h : s.Canonical) : (s.scChange n).Canonical :=
  h.dieTime.foldl (fun _ _ h => h.when (·.modSw))

theorem Canonical.gateScChange (h : s.Canonical) : s.gateScChange.Canonical :=
  h.gateTime.foldl (fun _ _ h => h.when (·.modSw))

theorem Canonical.brgForget {n : Ax} (h : s.Canonical) : (s.brgForget n).Canonical :=
  h.foldl (fun _ _ h => h.unless (·.frame))

theorem Canonical.gateForget (h : s.Canonical) : s.gateForget.Canonical :=
  h.foldl (fun _ _ h => h.unless (·.frame))

theorem Canonical.pageForget {x : ProtPage} (h : s.Canonical) : (s.pageForget x).Canonical := by
  dsimp only [State.pageForget]
  split
  · exact h.brgForget
  · exact h.gateForget

theorem Canonical.dieFollow {s0 : State} {d : Die} (h : s.Canonical) : (s.dieFollow s0 d).Canonical :=
  h.forAxes fun _ _ h => h.brgFollow.edgesSince.brgForget

theorem Canonical.heartFirst {d : Die} (h : s.Canonical) : (s.heartFirst d).Canonical :=
  h.when (·.modDie.dieFollow)

theorem Canonical.heartLoss {d : Die} (h : s.Canonical) : (s.heartLoss d).Canonical :=
  h.when (·.modDie.dieFollow)

theorem Canonical.heartBack {d : Die} (h : s.Canonical) : (s.heartBack d).Canonical :=
  h.when (·.modDie.dieFollow)

theorem Canonical.autoTestNow {p : ProtPage} {c : FaultClass} {m : BitVec 8} (h : s.Canonical) : (s.autoTestNow p c m).Canonical :=
  h.autoTest.pageEdges.pageForget

theorem Canonical.toggleNow {p : ProtPage} (h : s.Canonical) : (s.toggleNow p).Canonical :=
  h.toggle.pageEdges.pageForget

theorem Canonical.dieTold {n : Ax} {t : Nat} (h : s.Canonical) : (s.dieTold n t).Canonical :=
  h.when (·.dieTime)

theorem Canonical.brgShort {n : Ax} {k : Fin 8} {sense : ScSense} {t : Nat} (h : s.Canonical) : (s.brgShort n k sense t).Canonical :=
  h.dieTold.when (·.shortOf)

theorem Canonical.gateShort {g : GateSense} {t : Nat} (h : s.Canonical) : (s.gateShort g t).Canonical := by
  dsimp only [State.gateShort]
  split
  · exact h.gateTold.when (·.shortOf)
  · exact h.gateTold.shortOf

theorem Canonical.gateWrite {off : Nat} {v : Word} {unl : Bool} (h : s.Canonical) : (s.gateWrite off v unl).Canonical := by
  dsimp only [State.gateWrite]
  split
  · exact h.gateCmd
  · exact h
  · exact h
  · exact h.gateScChange.plainWrite
  · exact h.gateScChange.plainWrite
  · exact h.gateScChange.plainWrite
  · exact h.gateScChange.plainWrite
  · exact h.plainWrite.unless (·.deadFollow)
  · exact h.plainWrite.when (·.gateEnter)

/-! ### The SRAM, its window, and the nonvolatile store -/

theorem Canonical.modMem {f : Mem → Mem} (h : s.Canonical) (e : ∀ m, (f m).sram = m.sram := by intro; rfl) :
    (s.modMem f).Canonical := h.frame rfl rfl (e _)

theorem Canonical.modNvs {f : Nvs → Nvs} (h : s.Canonical) (e : ∀ n, (f n).mram = n.mram := by intro; rfl) :
    (s.modNvs f).Canonical := h.frame rfl rfl rfl (e _)

theorem Canonical.memEvent {k : Nat} (h : s.Canonical) : (s.memEvent k).Canonical :=
  h.event

theorem Canonical.nvsEvent {k : Nat} (h : s.Canonical) : (s.nvsEvent k).Canonical :=
  h.event

theorem Canonical.scrubAccess (h : s.Canonical) : s.scrubAccess.Canonical := by
  have hs : ∀ c : Bool, (if c then ((s.sramRead s.mem.scrub .scrub).2.2.modMem fun m => { m with ecq := s.mem.ecq }).sramPut s.mem.scrub
      (s.sramRead s.mem.scrub .scrub).1 else (s.sramRead s.mem.scrub .scrub).2.2.modMem fun m => { m with ecq := s.mem.ecq }).Canonical :=
    fun _ => h.sramRead.modMem.when (·.sramPut)
  exact .ite (hs _).modMem.event (hs _).modMem

theorem Canonical.writeBack (h : s.Canonical) : s.writeBack.Canonical := by
  dsimp only [State.writeBack]
  split
  · exact h
  · exact h.modMem.sramPut

theorem Canonical.clearCounts (h : s.Canonical) : s.clearCounts.Canonical :=
  (h.foldl (fun _ _ h => h.setReg)).modMem

theorem Canonical.winAdvance (h : s.Canonical) : s.winAdvance.Canonical :=
  h.when (·.setWide)

theorem Canonical.winRead (h : s.Canonical) : s.winRead.2.Canonical :=
  .iteSnd h.sramRead.winAdvance (.iteSnd h.mramRead.winAdvance h.event.winAdvance)

theorem Canonical.winDrain (h : s.Canonical) : s.winDrain.Canonical := by
  dsimp only [State.winDrain]
  split
  · exact h
  · exact h.modMem.sramPut

theorem Canonical.mramReads {a k : Nat} (h : s.Canonical) : (s.mramReads a k).2.2.Canonical := by
  induction k generalizing s a with
  | zero => exact h
  | succ k ih => exact ih h.mramRead

theorem Canonical.slotCheck {ty i a m : Nat} (h : s.Canonical) : (s.slotCheck ty i a m).2.Canonical := by
  dsimp only [State.slotCheck]
  with_reducible exact .iteSnd h.mramReads (.iteSnd h.mramReads.mramReads h.mramReads.mramReads)

theorem Canonical.currentRec {ty i : Nat} (h : s.Canonical) : (s.currentRec ty i).2.2.Canonical := by
  unfold State.currentRec
  split
  · exact h
  · dsimp only
    split
    · with_reducible exact .iteSndSnd h.slotCheck.slotCheck h.slotCheck.slotCheck
    all_goals with_reducible exact h.slotCheck.slotCheck

theorem Canonical.nvsRefuse {code : Nat} (h : s.Canonical) : (s.nvsRefuse code).Canonical :=
  h.setReg.nvsEvent

theorem Canonical.writeJob {ty i : Nat} {flags : Word} {l : List Word} (h : s.Canonical) : (s.writeJob ty i flags l).2.2.Canonical := by
  dsimp only [State.writeJob]
  exact h.currentRec

theorem Canonical.nvsReadSource (h : s.Canonical) : s.nvsReadSource.Canonical := by
  dsimp only [State.nvsReadSource]
  split
  · with_reducible exact h.sramReads.writeJob.modNvs
  · exact h

theorem Canonical.rereadAt {src : Nat} {l : List Nat} {ws : List Word} (h : s.Canonical) : (s.rereadAt src l ws).2.Canonical := by
  induction l generalizing s ws with
  | nil => exact h
  | cons k l ih => exact ih h.sramRead

theorem Canonical.nvsReadTo {k : Nat} (h : s.Canonical) : (s.nvsReadTo k).Canonical := by
  dsimp only [State.nvsReadTo]
  split
  · exact h.rereadAt.modNvs
  · exact h

theorem Canonical.nvsCatch {a : Nat} (h : s.Canonical) : (s.nvsCatch a).Canonical := by
  dsimp only [State.nvsCatch]
  split
  · exact .ite (h.frame.nvsReadTo.unless (·.modNvs)) h
  · exact h

theorem Canonical.nvsReread (h : s.Canonical) : s.nvsReread.Canonical := by
  dsimp only [State.nvsReread]
  split
  · exact h.nvsReadTo
  · exact h

theorem Canonical.sramStore {a : Nat} {v : Word} (h : s.Canonical) : (s.sramStore a v).Canonical :=
  h.nvsCatch.sramWrite

theorem Canonical.winWrite {v : Word} (h : s.Canonical) : (s.winWrite v).Canonical :=
  .ite h.nvsCatch.modMem.winAdvance h.memEvent.winAdvance

theorem Canonical.upset {ups : List (Nat × BitVec 22)} (h : s.Canonical) : (s.upset ups).Canonical :=
  ((h.foldl (fun _ _ h => h.nvsCatch)).modMem).modNvs

theorem Canonical.nvsWriteNow (h : s.Canonical) : s.nvsWriteNow.Canonical :=
  h.modNvs.unless (·.nvsReadSource)

theorem Canonical.nvsWriteAxis {n : Ax} {l : List Word} (h : s.Canonical) : (s.nvsWriteAxis n l).Canonical := by
  dsimp only [State.nvsWriteAxis]
  exact h.writeJob.modNvs

theorem Canonical.commitAddr {a m : Nat} (h : s.Canonical) : (s.commitAddr a m).2.Canonical := h.mramRead

theorem Canonical.nvsInvalidateNow (h : s.Canonical) : s.nvsInvalidateNow.Canonical := by
  dsimp only [State.nvsInvalidateNow]
  split
  · exact h
  · exact h.currentRec.commitAddr.commitAddr.modNvs

theorem Canonical.nvsQueryNow (h : s.Canonical) : s.nvsQueryNow.Canonical := by
  dsimp only [State.nvsQueryNow]
  exact h.currentRec.setReg.setWide.setWide.setReg.event

theorem Canonical.nvsAccept {op : Nat} {f : State → State} (h : s.Canonical) (hf : ∀ t, t.Canonical → (f t).Canonical) :
    (s.nvsAccept op f).Canonical := by
  unfold State.nvsAccept
  split
  · exact h.nvsRefuse
  · exact hf _ h.setReg

theorem Canonical.nvsWriteEnd (h : s.Canonical) : s.nvsWriteEnd.Canonical := by
  dsimp only [State.nvsWriteEnd]
  split
  · split
    · exact h.nvsReread.mramWrites.modNvs.nvsEvent.modAxis.event
    · exact h.nvsReread.mramWrites.modNvs.nvsEvent
  · exact h.nvsReread

theorem Canonical.clearCommits {l : List Nat} (h : s.Canonical) : (s.clearCommits l).Canonical := by
  induction l generalizing s with
  | nil => exact h
  | cons a l ih => exact ih h.mramWrite.mramWrite

theorem Canonical.nvsInvalidateEnd (h : s.Canonical) : s.nvsInvalidateEnd.Canonical := by
  dsimp only [State.nvsInvalidateEnd]
  split
  · exact h.clearCommits.modNvs.nvsEvent
  · exact h

theorem Canonical.nvsAbandon (h : s.Canonical) : s.nvsAbandon.Canonical := by
  have hd : ∀ (c : Prop) [Decidable c] (k : Nat), (if c then (0, s.nvsReread) else s.nvsReread.draw k).2.Canonical :=
    fun _ _ _ => .iteSnd h.nvsReread h.nvsReread.draw
  dsimp only [State.nvsAbandon]
  split
  · exact h.nvsReread
  · split
    · exact (hd _ _).mramWrites.modNvs.modAxis
    · exact (hd _ _).mramWrites.modNvs
  · refine .modNvs (.when (hd _ _).clearCommits fun h => ?_)
    split
    · exact h.mramWrite
    · exact h
  · exact (hd _ _).mramWrites.modNvs

theorem Canonical.snapTrigger (h : s.Canonical) : s.snapTrigger.Canonical := by
  dsimp only [State.snapTrigger]
  with_reducible exact h.when fun h => (h.event.when (·.nvsAbandon.nvsEvent)).writeJob.modNvs

theorem Canonical.snapEnd (h : s.Canonical) : s.snapEnd.Canonical := by
  dsimp only [State.snapEnd]
  split
  · exact h.mramWrites.modNvs.nvsEvent
  · exact h

theorem Canonical.orphanStart (h : s.Canonical) : s.orphanStart.Canonical := by
  dsimp only [State.orphanStart]
  with_reducible exact h.when fun h => .ite h.modNvs h.writeJob.modNvs

theorem Canonical.orphanEnd (h : s.Canonical) : s.orphanEnd.Canonical := by
  dsimp only [State.orphanEnd]
  split
  · exact h.mramWrites.modNvs.nvsEvent
  · exact h

theorem Canonical.memWrite {off : Nat} {v : Word} {unl : Bool} (h : s.Canonical) : (s.memWrite off v unl).Canonical := by
  dsimp only [State.memWrite]
  split
  · exact h.winWrite
  · exact h.when (·.clearCounts)
  · exact h.plainWrite

end Sys2Proof.Machine.State
end
section
/-! SUPPORT. Every operation keeps the memories canonical: current regulation, characterisation and time. -/

set_option Elab.async false

namespace Sys2Proof.Machine.State

open Sys2Proof.Safety

variable {s : State}

/-! ### The microstep tables and the chopper -/

theorem Canonical.modTable {f : Table → Table} (h : s.Canonical) (e : ∀ x, (f x).bank = x.bank := by intro; rfl) :
    (s.modTable f).Canonical := h.frame rfl (e _)

theorem Canonical.fillTable {f : Table → Table} (h : s.Canonical)
    (hf : Store.wf (fun _ => 0#16) s.table.bank = true → Store.wf (fun _ => 0#16) (f s.table).bank = true) :
    (s.modTable f).Canonical := by
  rw [canonical_iff] at h ⊢
  exact ⟨h.1, hf h.2.1, h.2.2⟩

theorem Canonical.tblAdvance (h : s.Canonical) : s.tblAdvance.Canonical :=
  h.setReg

theorem Canonical.tblData {v : Word} (h : s.Canonical) : (s.tblData v).Canonical :=
  .ite h.event (h.fillTable (Store.wf_set _ _ _ _)).tblAdvance

theorem Canonical.tblInvalidate (h : s.Canonical) : s.tblInvalidate.Canonical :=
  .ite h.event h.modTable

theorem Canonical.tblCommit (h : s.Canonical) : s.tblCommit.Canonical :=
  .ite h.event h.modTable

theorem Canonical.tblCommitDone (h : s.Canonical) : s.tblCommitDone.Canonical := by
  dsimp only [State.tblCommitDone]
  with_reducible refine h.when fun h => (h.modTable fun _ => ?_).event
  dsimp only [Table.setValid]

theorem Canonical.tblCmd {v : Word} (h : s.Canonical) : (s.tblCmd v).Canonical :=
  (h.when (·.tblInvalidate)).when (·.tblCommit)

theorem Canonical.putBank {k : Nat} {l : List Int} (h : s.Canonical) : (s.putBank k l).Canonical :=
  h.fillTable fun hb => List.foldlRecOn (motive := fun b => Store.wf (fun _ => 0#16) b = true) _ _ hb
    fun _ hb _ _ => Store.wf_set _ _ _ _ hb

theorem Canonical.tableWrite {off : Nat} {v : Word} {unl : Bool} (h : s.Canonical) : (s.tableWrite off v unl).Canonical := by
  dsimp only [State.tableWrite]
  split
  · exact h.tblData
  · exact h.tblCmd
  · exact h.plainWrite

theorem Canonical.chopApplied {n : Ax} (h : s.Canonical) : (s.chopApplied n).Canonical :=
  h.unless (·.event)

theorem Canonical.applyChop {n : Ax} (h : s.Canonical) : (s.applyChop n).Canonical := by
  dsimp only [State.applyChop]
  split
  · exact h.event
  · exact h.modBrg

theorem Canonical.estimate {n : Ax} {p : Phase} {ton r0 r1 toff f0 f1 : Nat} (h : s.Canonical) :
    (s.estimate n p ton r0 r1 toff f0 f1).Canonical := by
  have hd : ∀ {c : Prop} {_ : Decidable c} {l e : Int}, (if c then (((s.draw 65536).1 : Int),
      (((s.draw 65536).2.draw 65536).1 : Int) - 32768, ((s.draw 65536).2.draw 65536).2) else (l, e, s)).2.2.Canonical := by
    intro c _ l e
    split
    · with_reducible exact h.draw.draw
    · exact h
  dsimp only [State.estimate]
  cases p <;> with_reducible exact (Canonical.modPh hd).setReg.setReg.setReg.setReg.modAxis

theorem Canonical.cycleEnd {n : Ax} {p : Phase} (h : s.Canonical) : (s.cycleEnd n p).Canonical :=
  .ite h (((h.when (·.count)).modPh).unless (·.modBrg))

theorem Canonical.chopOn {n : Ax} {p : Phase} {t : Nat} {own : Bool} (h : s.Canonical) : (s.chopOn n p t own).Canonical :=
  h.cycleEnd.swEdge.when (·.chopApplied)

theorem Canonical.stampCrossing {n : Ax} {p : Phase} {upper : Bool} (h : s.Canonical) : (s.stampCrossing n p upper).Canonical := by
  refine .modPh ?_
  split
  · refine .ite (.ite h (h.when (·.modPh))) (.ite (.ite h.modPh h.modPh) ?_)
    split
    · exact h.unless (·.estimate)
    · exact h
  · exact h

theorem Canonical.selfNext {n : Ax} (h : s.Canonical) : (s.selfNext n).Canonical :=
  h.modAxis.brgFollow

theorem Canonical.selfCrossing {n : Ax} {p : Phase} {upper : Bool} (h : s.Canonical) : (s.selfCrossing n p upper).Canonical := by
  dsimp only [State.selfCrossing]
  split
  · exact h.when (·.selfNext)
  · exact h

theorem Canonical.chopTime {n : Ax} {x : Nat} {f : State → State} (h : s.Canonical) (hf : ∀ t, t.Canonical → (f t).Canonical) :
    (s.chopTime n x f).Canonical :=
  h.unless fun h => h.dieTime.unless (hf _)

theorem Canonical.crossing {n : Ax} {p : Phase} {upper : Bool} {t : Nat} (h : s.Canonical) : (s.crossing n p upper t).Canonical :=
  h.chopTime fun _ h => .ite h.selfCrossing <| .ite h <| .ite (.ite h.stampCrossing.swEdge h.stampCrossing.modPh) <|
    h.stampCrossing.when fun h => .ite h.chopOn h.modPh

theorem Canonical.minTimeEnd {n : Ax} {p : Phase} {t : Nat} (h : s.Canonical) : (s.minTimeEnd n p t).Canonical :=
  h.chopTime (fun _ h => .ite h (.ite (h.when (·.swEdge)) (h.when (·.chopOn))))

theorem Canonical.chopCut {n : Ax} {p : Phase} {t : Nat} (h : s.Canonical) : (s.chopCut n p t).Canonical :=
  h.chopTime (fun _ h => .ite h (.ite h.modBrg.event.modPh.swEdge h.modBrg.event.modPh.chopOn))

theorem Canonical.pwmPeriod {n : Ax} {p : Phase} {ending : Bool} {t : Nat} (h : s.Canonical) : (s.pwmPeriod n p ending t).Canonical :=
  h.chopTime (fun _ h => .ite h (.ite (h.when (·.swEdge)) h.chopOn))

theorem Canonical.levelWrite {n : Ax} {off : Nat} {v : Word} (h : s.Canonical) : (s.levelWrite n off v).Canonical :=
  h.setReg.clampFresh

theorem Canonical.tableSelect {n : Ax} {v : Word} (h : s.Canonical) : (s.tableSelect n v).Canonical :=
  .ite h (.ite h.setReg h.event)

theorem Canonical.readbackSelect {n : Ax} {v : Word} (h : s.Canonical) : (s.readbackSelect n v).Canonical :=
  .ite h.event h.setReg

theorem Canonical.brgWrite {n : Ax} {off : Nat} {v : Word} {unl : Bool} (h : s.Canonical) : (s.brgWrite n off v unl).Canonical := by
  dsimp only [State.brgWrite]
  split
  · exact h.levelWrite
  · exact h.levelWrite
  · exact h.levelWrite
  · exact h.tableSelect
  · exact h.when (·.applyChop)
  · exact h.readbackSelect
  · exact h.scChange.plainWrite
  · exact h.scChange.plainWrite
  · exact h.scChange.plainWrite
  · exact h.scChange.plainWrite
  · exact h.plainWrite

/-! ### Characterisation -/

theorem Canonical.modChar {n : Ax} {f : CharRun → CharRun} (h : s.Canonical) : (s.modChar n f).Canonical :=
  h.modAxis

theorem Canonical.acceptNow {n : Ax} (h : s.Canonical) : (s.acceptNow n).2.Canonical := by
  dsimp only [State.acceptNow]
  split
  · exact h.setFld.event
  · exact (h.setReg.setReg.when (·.setReg.setReg.putBank)).event

theorem Canonical.saveNow {n : Ax} (h : s.Canonical) : (s.saveNow n).Canonical := by
  dsimp only [State.saveNow]
  split
  · exact h.setFld.event.nvsRefuse
  · exact h.setReg.modChar.nvsWriteAxis

theorem Canonical.charSuccess {n : Ax} (h : s.Canonical) : (s.charSuccess n).Canonical :=
  Canonical.when h.setFld.modChar.enterMode.event fun h => .choice h.acceptNow (·.when (·.saveNow)) id

theorem Canonical.charNext {n : Ax} (h : s.Canonical) : (s.charNext n).Canonical :=
  .ite h.charSuccess h.modChar.charBegin

theorem Canonical.meanOf {n : Ax} {l : List Phase} {f : Phase → Nat} (h : s.Canonical) : (s.meanOf n l f).2.Canonical := by
  dsimp only [State.meanOf]
  split
  · exact h.draw
  · exact h

theorem Canonical.relHarmonic {h1 h0 : Int} (h : s.Canonical) : (s.relHarmonic h1 h0).2.Canonical := by
  dsimp only [State.relHarmonic]
  split
  · exact h.frame
  · exact h

theorem Canonical.charJudge {n : Ax} {code : Nat} {ok : Bool} (h : s.Canonical) : (s.charJudge n code ok).Canonical :=
  .ite h.charNext h.charFail

theorem Canonical.charResult {n : Ax} {m : CharMeas} (h : s.Canonical) : (s.charResult n m).Canonical := by
  dsimp only [State.charResult]
  split
  · exact h.charJudge
  · exact h.meanOf.setReg.charJudge
  · exact h.meanOf.setReg.charJudge
  · exact (Canonical.setReg (.iteSnd h.draw h)).charJudge
  · exact h.relHarmonic.relHarmonic.setReg.setReg.charJudge

theorem Canonical.charStepEnd {n : Ax} {m : CharMeas} (h : s.Canonical) : (s.charStepEnd n m).Canonical :=
  h.when (·.charResult)

theorem Canonical.charOverrun {n : Ax} (h : s.Canonical) : (s.charOverrun n).Canonical :=
  .ite (.ite h.charFail h.modChar) h

theorem Canonical.selftestFail {n : Ax} {sw : Fin 8} (h : s.Canonical) : (s.selftestFail n sw).Canonical :=
  h.when (·.setReg.selfNext)

theorem Canonical.charCmd {n : Ax} {v : Word} (h : s.Canonical) : (s.charCmd n v).Canonical :=
  ((h.when (·.acceptNow)).when (·.saveNow)).when (·.modChar)

theorem Canonical.modeRequest {n : Ax} {v : Word} (h : s.Canonical) : (s.modeRequest n v).Canonical :=
  h.modAxis

theorem Canonical.axisCmd {n : Ax} {v : Word} (h : s.Canonical) : (s.axisCmd n v).Canonical :=
  ((h.when (·.startStop)).modAxis).when (·.setWide)

theorem Canonical.limitsNow {n : Ax} (h : s.Canonical) : (s.limitsNow n).Canonical :=
  h.when (·.modAxis)

theorem Canonical.axisCfg {n : Ax} {v : Word} (h : s.Canonical) : (s.axisCfg n v).Canonical :=
  .when (.unless (.limitsNow (.ite h.setReg.modAxis (.ite h.setReg.modAxis h.setReg.event))) (·.brgFollow)) (·.freezeAxis)

theorem Canonical.axisEnable {n : Ax} {en : Bool} (h : s.Canonical) : (s.axisEnable n en).Canonical :=
  .ite h.setFld.setLive.brgFollow (.ite h.setFld h.event)

theorem Canonical.encBind {n : Ax} {v : Word} (h : s.Canonical) : (s.encBind n v).Canonical :=
  .ite h.axisRefuse (h.setReg.unless (·.modAxis))

theorem Canonical.axisWrite {n : Ax} {o : Nat} {v : Word} {u : Bool} (h : s.Canonical) : (s.axisWrite n o v u).Canonical := by
  dsimp only [State.axisWrite]
  split
  · exact h.modeRequest
  · exact h.axisCmd
  · exact h.axisCfg
  · exact h.encBind
  · exact h.charCmd
  · exact .ite h.plainWrite.event h.plainWrite.modBrg
  · exact h.plainWrite.eventIf

theorem Canonical.vcmdNow {n : Ax} {v : Wide} (h : s.Canonical) : (s.vcmdNow n v).Canonical :=
  .ite h.axisRefuse h.setWide.eventIf

theorem Canonical.jogWrite {n : Ax} {off : Nat} {v : Wide} (h : s.Canonical) : (s.jogWrite n off v).Canonical := by
  dsimp only [State.jogWrite]
  split
  · exact .ite h.event (.ite h.setWide.event h.setWide)
  · exact .ite h.event h.setWide
  · exact .ite h.event h.setWide
  · exact h.unless (·.setWide)
  · exact h.setWide

theorem Canonical.posLimit {n : Ax} {hi : Bool} {v : Wide} (h : s.Canonical) : (s.posLimit n hi v).Canonical :=
  .ite h.setWide.limitsNow h.event

theorem Canonical.axisWideWrite {n : Ax} {offHi : Nat} {v : Wide} (h : s.Canonical) : (s.axisWideWrite n offHi v).Canonical := by
  dsimp only [State.axisWideWrite]
  split
  · exact h.vcmdNow
  · exact h.posLimit
  · exact h.posLimit
  · exact h.jogWrite
  · exact h.jogWrite
  · exact h.jogWrite
  · exact h.jogWrite
  · exact h.jogWrite
  · exact h.jogWrite
  · exact h.setWide

/-! ### Machine time -/

theorem Canonical.modTime {f : MTime → MTime} (h : s.Canonical) : (s.modTime f).Canonical :=
  h.frame

theorem Canonical.newCycle (h : s.Canonical) : s.newCycle.Canonical :=
  h.modTime

theorem Canonical.timeAt {cycles : Nat} (h : s.Canonical) : (s.timeAt cycles).Canonical :=
  h.when (·.modTime)

theorem Canonical.undiscipline (h : s.Canonical) : s.undiscipline.Canonical :=
  h.eventIf.modTime

theorem Canonical.beginCorr (h : s.Canonical) : s.beginCorr.Canonical := by
  dsimp only [State.beginCorr]
  split
  · exact h
  · exact h.undiscipline.modTime.event
  · exact h.undiscipline.modTime.event

theorem Canonical.timeTick (h : s.Canonical) : s.timeTick.Canonical :=
  .beginCorr (.ite h.modTime h.modTime)

theorem Canonical.stepTime {e : Int} (h : s.Canonical) : (s.stepTime e).Canonical :=
  h.undiscipline.modTime

theorem Canonical.forwardNow (h : s.Canonical) : s.forwardNow.Canonical := by
  dsimp only [State.forwardNow]
  split
  · exact h.when (·.stepTime.event)
  · exact h

theorem Canonical.backwardNow (h : s.Canonical) : s.backwardNow.Canonical := by
  dsimp only [State.backwardNow]
  split
  · exact h.when (·.stepTime.setFld.event)
  · exact h

theorem Canonical.slewEndNow (h : s.Canonical) : s.slewEndNow.Canonical := by
  dsimp only [State.slewEndNow]
  split
  · exact h.when (·.modTime)
  · exact h

theorem Canonical.holdEndNow (h : s.Canonical) : s.holdEndNow.Canonical := by
  dsimp only [State.holdEndNow]
  split
  · exact h.when (·.modTime)
  · exact h

theorem Canonical.timebaseFaultNow (h : s.Canonical) : s.timebaseFaultNow.Canonical := by
  dsimp only [State.timebaseFaultNow]
  split
  · exact h.when (·.modTime.event)
  · exact h

theorem Canonical.latchAll {dma : Bool} (h : s.Canonical) : (s.latchAll dma).Canonical :=
  .ite h.frame h.modTime

theorem Canonical.latchUs {dma : Bool} (h : s.Canonical) : (s.latchUs dma).Canonical :=
  .ite h.frame h.modTime

theorem Canonical.applyTime (h : s.Canonical) : s.applyTime.Canonical :=
  .ite h.event (.ite h.event (.ite h.undiscipline.modTime.modTime h.undiscipline.modTime.modTime))

theorem Canonical.timeCtrl {v : Word} (h : s.Canonical) : (s.timeCtrl v).Canonical :=
  h.setFld.when (·.applyTime)

theorem Canonical.armNext (h : s.Canonical) : s.armNext.Canonical :=
  .ite h.event h.modTime

theorem Canonical.tsyncEnable {en : Bool} (h : s.Canonical) : (s.tsyncEnable en).Canonical :=
  .ite (h.setReg.unless (·.modTime)) h.setReg.undiscipline

theorem Canonical.rateLoop {e : Int} {interval : Nat} {first : Bool} (h : s.Canonical) : (s.rateLoop e interval first).Canonical :=
  have hr := h.modTime.unless (·.newCycle.modTime)
  .ite hr.undiscipline (.ite hr.modTime.eventIf hr.modTime)

theorem Canonical.correct {e : Int} {interval : Nat} {first : Bool} (h : s.Canonical) : (s.correct e interval first).Canonical :=
  .ite h.setWide.modTime.rateLoop (.ite h.setWide.modTime.undiscipline.modTime (h.setWide.modTime.modTime.unless (·.beginCorr)))

theorem Canonical.acceptPulse {interval : Nat} {apply : Bool} (h : s.Canonical) : (s.acceptPulse interval apply).Canonical := by
  dsimp only [State.acceptPulse]
  split
  · exact h.produce.modTime.undiscipline.event
  · exact h.produce.modTime.modTime.unless (·.correct)

theorem Canonical.candidate {interval : Nat} {apply : Bool} (h : s.Canonical) : (s.candidate interval apply).Canonical :=
  .ite h.count.event h.acceptPulse

theorem Canonical.pulseEdge {highNs interval : Nat} {apply : Bool} (h : s.Canonical) : (s.pulseEdge highNs interval apply).Canonical :=
  .ite h (.ite (h.frame.when (·.candidate)) h.candidate)

theorem Canonical.tsyncRise {highNs cycles interval : Nat} {apply : Bool} (h : s.Canonical) :
    (s.tsyncRise highNs cycles interval apply).Canonical :=
  .ite h (.ite h.timeAt.modTime.pulseEdge.applyTime h.timeAt.modTime.pulseEdge)

theorem Canonical.pulseMissing (h : s.Canonical) : s.pulseMissing.Canonical :=
  .ite h (h.count.event.modTime.when (·.undiscipline))

theorem Canonical.timeWrite {off : Nat} {v : Word} {unl : Bool} (h : s.Canonical) : (s.timeWrite off v unl).Canonical := by
  dsimp only [State.timeWrite]
  split
  · exact h.setReg.armNext
  · exact h.tsyncEnable
  · exact h.plainWrite

end Sys2Proof.Machine.State
end
section
/-! SUPPORT. Every operation keeps the memories canonical: Tallyman, the timers, Chandler, the converters and the twin link. -/

set_option Elab.async false

namespace Sys2Proof.Machine.State

open Sys2Proof.Safety

variable {s : State}

/-! ### Tallyman -/

theorem Canonical.modEnc {c : Nat} {f : Enc → Enc} (h : s.Canonical) : (s.modEnc c f).Canonical :=
  .dite (fun _ => h.frame) (fun _ => h)

theorem Canonical.encFlag {c k : Nat} (h : s.Canonical) : (s.encFlag c k).Canonical :=
  h.setReg.event

theorem Canonical.encAccepts {c held : Nat} (h : s.Canonical) : (s.encAccepts c held).2.Canonical := by
  dsimp only [State.encAccepts]
  split
  · exact h
  · split
    · exact h
    · exact h.drawBool

theorem Canonical.encRestart {c : Nat} (h : s.Canonical) : (s.encRestart c).Canonical :=
  h.modEnc

theorem Canonical.encStood {c cycles : Nat} (h : s.Canonical) : (s.encStood c cycles).Canonical :=
  h.when (·.modEnc)

theorem Canonical.winRestart {c : Nat} (h : s.Canonical) : (s.winRestart c).Canonical :=
  h.modEnc

theorem Canonical.modTrig {p : Fin 4} {f : Trig → Trig} (h : s.Canonical) : (s.modTrig p f).Canonical :=
  h.frame

theorem Canonical.trigFire {p : Fin 4} {rising : Bool} {prev new : Wide} (h : s.Canonical) : (s.trigFire p rising prev new).Canonical :=
  .ite h.produce.event.modTrig.setWide.modTrig h.produce.event.modTrig.modTrig

theorem Canonical.trigEval {p : Fin 4} {new : Wide} (h : s.Canonical) : (s.trigEval p new).Canonical :=
  h.modTrig.unless (fun h => by split; exacts [h.modTrig.trigFire, by split; exacts [h.trigFire, h]])

theorem Canonical.trigsOf {code : Nat} (h : s.Canonical) : (s.trigsOf code).Canonical := by
  dsimp only [State.trigsOf]
  split
  · exact h
  · exact h.foldl (fun _ _ h => h.when (·.trigEval))

theorem Canonical.trigArm {p : Fin 4} (h : s.Canonical) : (s.trigArm p).Canonical :=
  h.modTrig

theorem Canonical.trigDisarm {p : Fin 4} (h : s.Canonical) : (s.trigDisarm p).Canonical :=
  h.modTrig

theorem Canonical.emuSync {x : Fin 2} (h : s.Canonical) : (s.emuSync x).Canonical :=
  h.frame

theorem Canonical.emuMove {x : Fin 2} {v : Wide} (h : s.Canonical) : (s.emuMove x v).Canonical :=
  h.unless (·.frame.eventIf)

theorem Canonical.emusOf {code : Nat} (h : s.Canonical) : (s.emusOf code).Canonical := by
  dsimp only [State.emusOf]
  split
  · exact h
  · split
    · exact h
    · exact h.foldl (fun _ _ h => h.when (·.emuMove))

theorem Canonical.emuEmit {x : Fin 2} (h : s.Canonical) : (s.emuEmit x).Canonical :=
  .ite h (.ite h.frame (h.when (·.frame)))

theorem Canonical.sourceMoved {code : Nat} (h : s.Canonical) : (s.sourceMoved code).Canonical :=
  h.trigsOf.emusOf

theorem Canonical.setFollowers {ts : Vector Trig 4} {es : Vector Emu 2} (h : s.Canonical) :
    ({ s with trigs := ts, emus := es } : State).Canonical := h.frame

theorem Canonical.inOneCycle {c : Nat} {f : State → State} (h : s.Canonical) (hf : ∀ t, t.Canonical → (f t).Canonical) :
    (s.inOneCycle c f).Canonical :=
  Canonical.unless (Canonical.setFollowers (hf _ h.setFollowers)) (·.sourceMoved)

theorem Canonical.countStep {c : Nat} {up : Bool} (h : s.Canonical) : (s.countStep c up).Canonical :=
  (h.modEnc.when (·.encFlag)).sourceMoved

theorem Canonical.encPins {c : Nat} {a b : Bool} {cycles : Nat} (h : s.Canonical) : (s.encPins c a b cycles).Canonical :=
  h.unless (·.modEnc)

theorem Canonical.encLevels {c : Nat} {a b : Option Bool} (h : s.Canonical) : (s.encLevels c a b).Canonical :=
  h.when (·.modEnc)

theorem Canonical.stepCount {c : Nat} {dir : Bool} (h : s.Canonical) : (s.stepCount c dir).Canonical :=
  h.countStep.forAxes fun _ _ h => h.followStep

theorem Canonical.quadCount {c : Nat} {a b a' b' : Bool} (h : s.Canonical) : (s.quadCount c a b a' b').Canonical := by
  dsimp only [State.quadCount]
  split
  · exact h.encFlag.count
  · split
    · exact h.countStep
    · exact h.countStep
    · exact h

theorem Canonical.quadTake {c : Nat} {a b : Option Bool} (h : s.Canonical) : (s.quadTake c a b).Canonical := by
  dsimp only [State.quadTake]
  split
  · exact h.encLevels.quadCount
  · exact h.encLevels.when (·.stepCount)
  · exact h.encLevels

theorem Canonical.quadChange {c : Nat} {a b : Bool} {ha hb cy : Nat} (h : s.Canonical) : (s.quadChange c a b ha hb cy).Canonical :=
  h.encPins.unless (·.encAccepts.encAccepts.quadTake)

theorem Canonical.stepChange {c : Nat} {d : Bool} {held cy : Nat} (h : s.Canonical) : (s.stepChange c d held cy).Canonical :=
  h.encPins.unless fun h => .choiceNot h.encAccepts id fun h => h.encLevels.unless (·.stepCount)

theorem Canonical.loadCount {c : Nat} {v : Wide} (h : s.Canonical) : (s.loadCount c v).Canonical :=
  h.modEnc.sourceMoved

theorem Canonical.windowEnd {c : Nat} (h : s.Canonical) : (s.windowEnd c).Canonical :=
  h.when (·.modEnc.winRestart)

theorem Canonical.encTicks (h : s.Canonical) : s.encTicks.Canonical :=
  .ite (h.foldl (fun _ _ h => h.when (·.modEnc))) h

theorem Canonical.indexMissingNow {c : Nat} (h : s.Canonical) : (s.indexMissingNow c).Canonical :=
  h.when (·.modEnc.encFlag)

theorem Canonical.indexConfirm {n : Ax} (h : s.Canonical) : (s.indexConfirm n).Canonical := by
  dsimp only [State.indexConfirm]
  split
  · exact h
  · exact .ite h (.ite h.frame.loadPosition.modAxis.event h.frame.event)

theorem Canonical.axisIndex {c : Nat} {n : Ax} (h : s.Canonical) : (s.axisIndex c n).Canonical := by
  dsimp only [State.axisIndex]
  split
  · exact .when (.ite ((h.when (·.indexConfirm)).modAxis) h) (·.markSeen)
  · exact .ite ((h.when (·.indexConfirm)).modAxis) h

theorem Canonical.lineCheck {c : Nat} {e : Enc} (h : s.Canonical) : (s.lineCheck c e).Canonical := by
  dsimp only [State.lineCheck]
  split
  · exact h
  · exact h.setReg.when (·.encFlag)

theorem Canonical.indexTake {c : Nat} {up again : Bool} (h : s.Canonical) : (s.indexTake c up again).Canonical :=
  (h.unless (·.modEnc)).unless fun h => .ite h <|
    ((h.setWide.encFlag.produce.when (·.lineCheck)).modEnc.when (·.sourceMoved)).forAxes fun _ _ h => h.axisIndex

theorem Canonical.encIndex {c : Nat} {up : Bool} {held cy : Nat} (h : s.Canonical) : (s.encIndex c up held cy).Canonical :=
  h.unless fun h => h.modEnc.unless fun h => .choice h.encAccepts (·.indexTake) id

theorem Canonical.encInactive {c : Nat} (h : s.Canonical) : (s.encInactive c).Canonical :=
  (h.unless (·.quadChange)).unless (·.encIndex)

theorem Canonical.withIndex {c held cy : Nat} {f : State → State} (h : s.Canonical) (hf : ∀ t, t.Canonical → (f t).Canonical) :
    (s.withIndex c held cy f).Canonical :=
  .ite (hf _ h) (h.inOneCycle fun _ h => (hf _ h).encIndex)

theorem Canonical.tallyEnable {en : Bool} (h : s.Canonical) : (s.tallyEnable en).Canonical :=
  .ite (h.setFld.unless fun h => h.foldl fun _ _ h => h.encRestart.winRestart) (.ite h.event h.setFld)

theorem Canonical.encCfg {c : Nat} {v : Word} {unl : Bool} (h : s.Canonical) : (s.encCfg c v unl).Canonical :=
  h.plainWrite.unless (·.encRestart)

theorem Canonical.trigCfg {p : Fin 4} {v : Word} (h : s.Canonical) : (s.trigCfg p v).Canonical :=
  h.setReg.trigDisarm

theorem Canonical.tallyWrite {off : Nat} {v : Word} {unl : Bool} (h : s.Canonical) : (s.tallyWrite off v unl).Canonical := by
  unfold State.tallyWrite
  refine .dite (fun _ => ?_) (fun _ => .ite (.ite h ?_) h.plainWrite)
  · split
    · exact h.trigCfg
    · exact (h.when (·.trigArm)).when (·.trigDisarm)
    · exact h.plainWrite
  · split
    · exact h.encCfg
    · exact h.unless (·.setReg.winRestart)
    · exact h.plainWrite

theorem Canonical.tallyWideWrite {offHi : Nat} {v : Wide} (h : s.Canonical) : (s.tallyWideWrite offHi v).Canonical :=
  .dite (fun _ => h.setWide.when (·.modTrig)) (fun _ => h.when (·.loadCount))

theorem Canonical.emuEnable {en : Bool} (h : s.Canonical) : (s.emuEnable en).Canonical :=
  h.setFld.when (·.emuSync.emuSync.setEmus)

theorem Canonical.emuCfg {x : Fin 2} {v : Word} (h : s.Canonical) : (s.emuCfg x v).Canonical :=
  h.setReg.unless (·.frame)

theorem Canonical.emuWrite {off : Nat} {v : Word} {unl : Bool} (h : s.Canonical) : (s.emuWrite off v unl).Canonical := by
  dsimp only [State.emuWrite]
  split
  · exact h.plainWrite
  · split
    · exact h
    · split
      · exact h.emuCfg
      · exact h.unless (·.setReg)
      · exact h.when (·.emuSync)
      · exact h.plainWrite

theorem Canonical.emuWideWrite {offHi : Nat} {v : Wide} (h : s.Canonical) : (s.emuWideWrite offHi v).Canonical := by
  dsimp only [State.emuWideWrite]
  split
  · exact h.when (·.frame)
  · exact h

theorem Canonical.tallyReset (h : s.Canonical) : s.tallyReset.Canonical :=
  h.resetPage.setEncs.foldl fun _ _ h => h.emusOf

theorem Canonical.emuReset (h : s.Canonical) : s.emuReset.Canonical :=
  h.resetPage.setEmus

/-! ### The timers -/

theorem Canonical.modTmr {n : Fin 8} {f : Timer → Timer} (h : s.Canonical) : (s.modTmr n f).Canonical :=
  h.frame

theorem Canonical.tmrFlag {n : Fin 8} {k : Nat} (h : s.Canonical) : (s.tmrFlag n k).Canonical :=
  h.setReg.eventIf

theorem Canonical.tmrStop {n : Fin 8} (h : s.Canonical) : (s.tmrStop n).Canonical :=
  h.modTmr

theorem Canonical.tmrLoad {n : Fin 8} (h : s.Canonical) : (s.tmrLoad n).Canonical :=
  h.unless (·.modTmr)

theorem Canonical.tmrCmd {n : Fin 8} {v : Word} (h : s.Canonical) : (s.tmrCmd n v).Canonical :=
  .ite ((h.when (·.tmrLoad)).tmrStop) ((h.when (·.tmrLoad)).when (·.frame))

theorem Canonical.linkDue {n : Fin 8} {zero : Bool} (h : s.Canonical) : (s.linkDue n zero).Canonical :=
  h.when (·.frame)

theorem Canonical.compareStep {n : Fin 8} (h : s.Canonical) : (s.compareStep n).Canonical :=
  h.unless (·.setWide)

theorem Canonical.tmrTake {n : Fin 8} {v : Wide} (h : s.Canonical) : (s.tmrTake n v).Canonical :=
  (h.modTmr.when (·.tmrFlag.produce.linkDue.compareStep)).when (fun h => h.tmrFlag.produce.linkDue.when (·.tmrStop))

theorem Canonical.tmrTick {n : Fin 8} {pin : Bool} (h : s.Canonical) : (s.tmrTick n pin).Canonical :=
  .ite h (.ite h.modTmr.tmrTake h.tmrTake)

theorem Canonical.linkAct {n : Nat} (h : s.Canonical) : (s.linkAct n).Canonical :=
  h.frame.foldl (fun _ _ h => .ite h.tmrStop (h.when (·.frame)))

theorem Canonical.tmrCapture {n : Fin 8} (h : s.Canonical) : (s.tmrCapture n).Canonical :=
  h.setWide.modTmr.tmrFlag.when (·.tmrFlag)

theorem Canonical.tmrPulse {n : Fin 8} {codes : List Nat} (h : s.Canonical) : (s.tmrPulse n codes).Canonical :=
  .ite ((h.when (·.tmrCapture)).tmrStop) ((h.when (·.tmrCapture)).when (·.frame))

theorem Canonical.catchUp {n : Fin 8} {k : Nat} (h : s.Canonical) : (s.catchUp n k).Canonical :=
  ((h.modTmr.when (·.tmrFlag)).when (·.tmrFlag)).tmrFlag

theorem Canonical.tmrWake {sleep : Nat} (h : s.Canonical) : (s.tmrWake sleep).Canonical :=
  h.setWide.foldl (fun _ _ h => h.when (·.catchUp))

theorem Canonical.captureRead {n : Fin 8} (h : s.Canonical) : (s.captureRead n).Canonical :=
  h.modTmr

theorem Canonical.tmrWrite {off : Nat} {v : Word} {unl : Bool} (h : s.Canonical) : (s.tmrWrite off v unl).Canonical := by
  dsimp only [State.tmrWrite]
  split
  · exact h.plainWrite
  · split
    · exact h.setReg
    · exact h.tmrCmd
    · exact h.plainWrite

theorem Canonical.tmrReset (h : s.Canonical) : s.tmrReset.Canonical :=
  h.resetPage.setTmr

/-! ### Chandler and the lamp chain -/

theorem Canonical.modChand {f : Chand → Chand} (h : s.Canonical) : (s.modChand f).Canonical :=
  h.frame

theorem Canonical.modStr {n : Fin 4} {f : Str → Str} (h : s.Canonical) : (s.modStr n f).Canonical :=
  h.modChand

theorem Canonical.modLamp {n : Fin 4} {k : Fin 8} {f : Lamp → Lamp} (h : s.Canonical) : (s.modLamp n k f).Canonical :=
  h.modStr

theorem Canonical.flashRefuse {cause : Nat} (h : s.Canonical) : (s.flashRefuse cause).Canonical :=
  h.setFld.event

theorem Canonical.flashOpen {n : Fin 4} (h : s.Canonical) : (s.flashOpen n).Canonical :=
  h.foldl fun _ _ h => h.modLamp

theorem Canonical.flashDark {n : Fin 4} {m : BitVec 8} (h : s.Canonical) : (s.flashDark n m).Canonical :=
  h.foldl fun _ _ h => h.modLamp

theorem Canonical.flashStart {strs : List (Fin 4)} (h : s.Canonical) : (s.flashStart strs).Canonical := by
  refine .unless (h.foldl fun t n h => ?_) fun h => (h.setFld.foldl fun _ _ h => h.unless (·.setReg.setReg)).modChand
  split
  · exact h.flashRefuse
  · exact h.modStr.flashOpen

theorem Canonical.flashEnd {x : Nat} (h : s.Canonical) : (s.flashEnd x).Canonical :=
  ((h.foldl fun _ _ h => h.when fun h => (h.foldl fun _ _ h => h.modLamp).modStr).modChand).setReg.countWrap.event

theorem Canonical.flashCut (h : s.Canonical) : s.flashCut.Canonical :=
  h.when (·.flashEnd)

theorem Canonical.exposureEnd {g : Fin 3} {t : Nat} (h : s.Canonical) : (s.exposureEnd g t).Canonical :=
  .ite ((((((h.foldl (fun _ _ h => h.flashDark)).setReg).setReg).modChand).eventIf).unless (·.frame.flashEnd)) h

theorem Canonical.flashExpire (h : s.Canonical) : s.flashExpire.Canonical :=
  h.when (·.setFld.eventIf.flashEnd)

theorem Canonical.fadeApply {n : Fin 4} (h : s.Canonical) : (s.fadeApply n).Canonical :=
  (h.foldl (fun _ _ h => h.modLamp)).modStr

theorem Canonical.fadeEnd {n : Fin 4} (h : s.Canonical) : (s.fadeEnd n).Canonical :=
  (h.foldl fun _ _ h => h.modLamp).modStr.event

theorem Canonical.fadeStepNow {n : Fin 4} (h : s.Canonical) : (s.fadeStepNow n).Canonical :=
  .ite (.ite h.fadeEnd (h.modStr.foldl (fun _ _ h => h.modLamp))) h

theorem Canonical.pwmStart {n : Fin 4} (h : s.Canonical) : (s.pwmStart n).Canonical :=
  .ite h ((h.when (·.fadeEnd)).foldl (fun _ _ h => h.modLamp))

theorem Canonical.flashBypass {n : Fin 4} {m : BitVec 8} (h : s.Canonical) : (s.flashBypass n m).Canonical :=
  h.flashDark.foldl (fun _ _ h => h.when (·.modLamp))

theorem Canonical.lampSample {n : Fin 4} {k : Fin 8} {v : Byte} (h : s.Canonical) : (s.lampSample n k v).Canonical :=
  .ite (h.modLamp.when (·.flashBypass)) h

theorem Canonical.declareOpen {n : Fin 4} {k : Fin 8} (h : s.Canonical) : (s.declareOpen n k).Canonical :=
  h.modStr.modLamp.event

theorem Canonical.declareShort {n : Fin 4} {k : Fin 8} (h : s.Canonical) : (s.declareShort n k).Canonical :=
  h.unless (·.setReg.event)

theorem Canonical.judgeLamp {n : Fin 4} {k : Fin 8} {v : Nat} (h : s.Canonical) : (s.judgeLamp n k v).Canonical :=
  (h.modLamp.when (·.declareOpen)).when (·.declareShort)

theorem Canonical.tapStart {n : Fin 4} {tap : Nat} (h : s.Canonical) : (s.tapStart n tap).Canonical :=
  .ite h.event (.ite h (h.modStr.foldl (fun _ _ h => h.when (·.modLamp))))

theorem Canonical.tapFollow {n : Fin 4} (h : s.Canonical) : (s.tapFollow n).Canonical := by
  dsimp only [State.tapFollow]
  split
  · exact h.when (·.modStr.tapStart)
  · exact h

theorem Canonical.judgeInterval {n : Fin 4} (h : s.Canonical) : (s.judgeInterval n).Canonical := by
  refine h.unless fun h => Canonical.tapFollow (.modStr (.foldl (.foldl (.foldl (h.foldl fun _ _ h => h.modLamp)
    fun _ _ h => h.modStr.event) fun t k h => ?_) fun _ _ h => h.modLamp))
  split
  · exact h.unless (·.judgeLamp)
  · exact h

theorem Canonical.judgeAtOnce {n : Fin 4} {k : Nat} (h : s.Canonical) : (s.judgeAtOnce n k).Canonical :=
  .dite (fun _ => .ite (.ite h.declareOpen (h.when (·.declareShort))) h) (fun _ => h)

theorem Canonical.tapEnd {n : Fin 4} {mv : Nat} (h : s.Canonical) : (s.tapEnd n mv).Canonical :=
  .ite h (.tapFollow (.event (.ite h.modStr.modStr (((h.modStr.when (·.judgeAtOnce)).judgeAtOnce).modStr))))

theorem Canonical.clearLamps {n : Fin 4} (h : s.Canonical) : (s.clearLamps n).Canonical :=
  (h.setReg.foldl (fun _ _ h => h.modLamp)).modStr

theorem Canonical.headroomNow {n : Fin 4} {low : Bool} (h : s.Canonical) : (s.headroomNow n low).Canonical :=
  .ite h (h.modStr.eventIf.when (·.flashBypass))

theorem Canonical.windowMeans {means : List Word} (h : s.Canonical) : (s.windowMeans means).Canonical :=
  .ite h (.ite h.modChand (h.foldl (fun _ _ h => h.setReg.when (·.setReg.eventIf))))

theorem Canonical.fbCfg (h : s.Canonical) : s.fbCfg.Canonical :=
  h.foldl (fun _ _ h => h.unless (·.setReg))

theorem Canonical.newTemp {t : Int} (h : s.Canonical) : (s.newTemp t).Canonical :=
  .ite h.setReg.setReg.eventIf.eventIf.modChand.flashCut (h.setReg.setReg.eventIf.when (·.modChand))

theorem Canonical.dieTemp {t : Int} (h : s.Canonical) : (s.dieTemp t).Canonical :=
  h.when (·.newTemp)

theorem Canonical.ntcTemp {code : Nat} (h : s.Canonical) : (s.ntcTemp code).2.Canonical :=
  .iteSnd (p := (_, (s.draw 65536).2)) (h.draw (k := 65536)) h

theorem Canonical.ntcResult {i code : Nat} (h : s.Canonical) : (s.ntcResult i code).Canonical := by
  dsimp only [State.ntcResult]
  exact .ite h (.ite h.ntcTemp.modChand.newTemp (h.ntcTemp.modChand.when (·.newTemp)))

theorem Canonical.tempStaleNow {i : Fin 2} (h : s.Canonical) : (s.tempStaleNow i).Canonical :=
  h.when (·.event.modChand.flashCut)

theorem Canonical.derateSource (h : s.Canonical) : s.derateSource.Canonical :=
  h.modChand.when (·.setReg.modChand)

theorem Canonical.strCmd {n : Fin 4} {v : Word} (h : s.Canonical) : (s.strCmd n v).Canonical :=
  (((h.when (·.flashStart)).when (·.fadeApply)).when (·.tapStart)).when (·.clearLamps)

theorem Canonical.chandPlain {o : Nat} {v : Word} {u : Bool} (h : s.Canonical) : (s.chandPlain o v u).Canonical := h.plainWrite.eventIf

theorem Canonical.chandWrite {off : Nat} {v : Word} {unl : Bool} (h : s.Canonical) : (s.chandWrite off v unl).Canonical := by
  dsimp only [State.chandWrite]
  split
  · exact h.chandPlain.fbCfg
  · exact h.chandPlain.when (·.derateSource)
  · exact .ite h.event h.chandPlain
  · exact .ite h.event h.chandPlain
  · split
    · exact h.strCmd
    · exact h.chandPlain

theorem Canonical.chandSafe (h : s.Canonical) : s.chandSafe.Canonical :=
  h.flashCut.foldl fun _ _ h => h.setFld

theorem Canonical.chandReset (h : s.Canonical) : s.chandReset.Canonical :=
  h.resetPage.setChand

theorem Canonical.modChain {f : LChain → LChain} (h : s.Canonical) : (s.modChain f).Canonical :=
  h.frame

theorem Canonical.groupFrame {q : Fin 32} (h : s.Canonical) : (s.groupFrame q).2.Canonical :=
  Canonical.modChain (.iteSnd h (.iteSnd h h.drawBool))

theorem Canonical.chainGates {l : List (Fin 32)} (h : s.Canonical) : (s.chainGates l).2.Canonical := by
  induction l generalizing s with
  | nil => exact h
  | cons q l ih => exact ih h.groupFrame

theorem Canonical.chainFrame (h : s.Canonical) : s.chainFrame.Canonical := by
  dsimp only [State.chainFrame]
  exact h.unless fun h => (h.when (·.modChain)).chainGates.modChain

theorem Canonical.chainFollow (h : s.Canonical) : s.chainFollow.Canonical :=
  h.when (·.modChain)

theorem Canonical.chainStep (h : s.Canonical) : s.chainStep.Canonical :=
  h.when (·.modChain)

theorem Canonical.thermFault {us : Nat} (h : s.Canonical) : (s.thermFault us).Canonical :=
  h.frame.when (·.modChain.event)

theorem Canonical.thermRelease {ms : Nat} (h : s.Canonical) : (s.thermRelease ms).Canonical :=
  h.frame.when (·.modChain.event)

theorem Canonical.chainResume (h : s.Canonical) : s.chainResume.Canonical :=
  .ite h.modChain h.event

theorem Canonical.chainEnable {en : Bool} (h : s.Canonical) : (s.chainEnable en).Canonical := by
  dsimp only [State.chainEnable]
  exact .ite h.setFld.draw.draw.modChain (h.setFld.unless (·.modChain))

theorem Canonical.chainTick (h : s.Canonical) : s.chainTick.Canonical :=
  h.when (·.modChain)

theorem Canonical.lchainWrite {off : Nat} {v : Word} {unl : Bool} (h : s.Canonical) : (s.lchainWrite off v unl).Canonical :=
  .ite (h.when (·.chainResume)) h.plainWrite.chainFollow

theorem Canonical.lchainReset (h : s.Canonical) : s.lchainReset.Canonical :=
  h.resetPage.setLchain

/-! ### The converters, the Assayer and the window monitors -/

theorem Canonical.modCnv {i : Fin 3} {f : Cnv → Cnv} (h : s.Canonical) : (s.modCnv i f).Canonical :=
  h.frame

theorem Canonical.beginWork {i : Fin 3} {w : CWork} {a b : Word} (h : s.Canonical) : (s.beginWork i w a b).Canonical :=
  h.modCnv

theorem Canonical.nextWork {i : Fin 3} (h : s.Canonical) : (s.nextWork i).Canonical :=
  .ite h.modCnv.modCnv.beginWork (.ite h.modCnv.modCnv.beginWork (.ite h.modCnv.beginWork (.ite h.modCnv.beginWork h.modCnv.modCnv)))

theorem Canonical.kick {i : Fin 3} (h : s.Canonical) : (s.kick i).Canonical :=
  h.when (·.nextWork)

theorem Canonical.cnvGo {i : Fin 3} (h : s.Canonical) : (s.cnvGo i).Canonical :=
  .ite h (.ite (h.unless (·.event)) (.ite h.event h.setReg.modCnv.kick))

theorem Canonical.cnvHalt {i : Fin 3} (h : s.Canonical) : (s.cnvHalt i).Canonical :=
  .ite (h.modCnv.unless (fun h => .ite h.nextWork h.modCnv)) h

theorem Canonical.injStart {i : Fin 3} (h : s.Canonical) : (s.injStart i).Canonical :=
  h.beginWork

theorem Canonical.cnvInject {i : Fin 3} (h : s.Canonical) : (s.cnvInject i).Canonical := by
  dsimp only [State.cnvInject]
  split
  · exact h
  · split
    · exact h.event
    · split
      · exact h.event
      · split
        · exact h.injStart
        · exact h.event.injStart
        · exact h.event.injStart
        · exact h.modCnv
        · exact h.injStart
        · exact h

theorem Canonical.calForce {i : Fin 3} (h : s.Canonical) : (s.calForce i).Canonical :=
  h.modCnv.kick

theorem Canonical.cnvCalNow {i : Fin 3} (h : s.Canonical) : (s.cnvCalNow i).Canonical :=
  h.when (·.calForce)

theorem Canonical.bgForcedNow {i : Fin 3} (h : s.Canonical) : (s.bgForcedNow i).Canonical :=
  h.when (·.event.calForce)

theorem Canonical.calSlot {i : Fin 3} (h : s.Canonical) : (s.calSlot i).Canonical :=
  h.when (·.beginWork)

theorem Canonical.startupEnd {i : Fin 3} (h : s.Canonical) : (s.startupEnd i).Canonical :=
  h.when (·.modCnv)

theorem Canonical.delayEnd {i : Fin 3} (h : s.Canonical) : (s.delayEnd i).Canonical :=
  h.when (·.modCnv)

theorem Canonical.calResult {i : Fin 3} {err : Int} (h : s.Canonical) : (s.calResult i err).Canonical := by
  dsimp only [State.calResult]
  exact .ite (.ite h.modCnv.modCnv h.modCnv.draw.modCnv) h.modCnv.modCnv

theorem Canonical.putResult {i : Fin 3} {off code : Nat} (h : s.Canonical) : (s.putResult i off code).Canonical :=
  h.setReg.setReg

theorem Canonical.publishVm {i : Fin 3} {chan code : Nat} (h : s.Canonical) : (s.publishVm i chan code).Canonical :=
  h.when (·.setReg.modCnv)

theorem Canonical.resultUse {i : Fin 3} {a : Word} {code : Nat} (h : s.Canonical) : (s.resultUse i a code).Canonical :=
  .produceIf (.ite h.publishVm.ntcResult (h.publishVm.when (·.ntcResult)))

theorem Canonical.windowJudge {i : Fin 3} {k : Nat} {a : Word} {code : Nat} (h : s.Canonical) : (s.windowJudge i k a code).Canonical :=
  h.when (·.setFld.eventIf)

theorem Canonical.entryResult {i : Fin 3} {vin err : Int} (h : s.Canonical) : (s.entryResult i vin err).Canonical :=
  ((h.putResult.when (·.setReg.event)).windowJudge).resultUse

theorem Canonical.entryDone {i : Fin 3} (h : s.Canonical) : (s.entryDone i).Canonical :=
  .ite (.ite h.event.countWrap.modCnv.nextWork (.ite h.event.countWrap.modCnv h.event.countWrap.modCnv.nextWork)) h.modCnv.nextWork

theorem Canonical.modAssay {f : Assay → Assay} (h : s.Canonical) : (s.modAssay f).Canonical :=
  h.frame

/-- A comparison of ASSAY that is made where both its words are there. -/
theorem Canonical.judgePair {k : Nat} {x y : Option Nat} {f : Nat → Nat → State} (h : s.Canonical)
    (hf : ∀ {a b}, s.Canonical → (f a b).Canonical) :
    (match k, x, y with
      | 3, some a, some b => f a b
      | _, _, _ => s).Canonical := by
  split
  · exact hf h
  · exact h

theorem Canonical.judgeTwin {k : Nat} {x : Option Nat} {f : Nat → State} (h : s.Canonical) (hf : ∀ {a}, s.Canonical → (f a).Canonical) :
    (match k, x with
      | 3, some a => f a
      | _, _ => s).Canonical := by
  split
  · exact hf h
  · exact h

theorem Canonical.assayJudge (h : s.Canonical) : s.assayJudge.Canonical := by
  dsimp only [State.assayJudge]
  exact ((h.judgePair fun h => h.setReg.modAssay).judgePair fun h => h.setReg.modAssay).judgeTwin fun h => h.setReg.modAssay

theorem Canonical.assayEnd (h : s.Canonical) : s.assayEnd.Canonical :=
  h.when (·.event.eventIf.countWrap.modAssay)

theorem Canonical.assayAsk {i : Fin 3} {chan : Nat} (h : s.Canonical) : (s.assayAsk i chan).Canonical :=
  h.modCnv.when (·.kick)

theorem Canonical.assayStart (h : s.Canonical) : s.assayStart.Canonical :=
  (((h.modAssay.when (·.assayAsk)).when (·.assayAsk)).when (·.assayAsk.assayAsk)).assayEnd

theorem Canonical.assayRun (h : s.Canonical) : s.assayRun.Canonical :=
  .ite h (.ite h.event h.assayStart)

theorem Canonical.assayPeriodic (h : s.Canonical) : s.assayPeriodic.Canonical :=
  h.when (·.assayStart)

theorem Canonical.assayResult {i : Fin 3} {vin err : Int} (h : s.Canonical) : (s.assayResult i vin err).Canonical := by
  dsimp only [State.assayResult]
  split
  · exact h
  · exact .assayEnd <| .assayJudge <| .ite h.modCnv.publishVm.setReg.modAssay <| .ite h.modCnv.publishVm.modAssay <|
      .ite h.modCnv.publishVm.modAssay h.modCnv.publishVm.modAssay

theorem Canonical.assayDrop {keep : Fin 3 → Nat → Bool} (h : s.Canonical) : (s.assayDrop keep).Canonical :=
  h.foldl (fun _ _ h => h.modCnv.unless (fun h => .ite h.nextWork h.modCnv))

theorem Canonical.assayLose {i : Fin 3} (h : s.Canonical) : (s.assayLose i).Canonical :=
  h.modAssay.assayDrop.assayEnd

theorem Canonical.conversionDone {i : Fin 3} {vin err : Int} (h : s.Canonical) : (s.conversionDone i vin err).Canonical := by
  dsimp only [State.conversionDone]
  split
  · exact h
  · split
    · exact h
    · exact h.entryResult.entryDone
    · exact h.putResult.eventIf.resultUse.event.nextWork
    · exact h.assayResult.nextWork
    · exact h.calResult.nextWork

theorem Canonical.streamResult {i : Fin 3} {vin err : Int} (h : s.Canonical) : (s.streamResult i vin err).Canonical :=
  h.when (·.entryResult.entryDone)

theorem Canonical.cnvEnable {i : Fin 3} {en : Bool} (h : s.Canonical) : (s.cnvEnable i en).Canonical :=
  h.setFld.when (·.kick)

theorem Canonical.cnvCfg {i : Fin 3} {v : Word} (h : s.Canonical) : (s.cnvCfg i v).Canonical :=
  .ite h.setFld.event h.setReg

theorem Canonical.cnvCmd {i : Fin 3} {v : Word} (h : s.Canonical) : (s.cnvCmd i v).Canonical :=
  (((h.when (·.cnvHalt)).when (·.cnvGo)).when (·.cnvInject)).when (·.cnvCalNow)

theorem Canonical.cnvWrite {i : Fin 3} {off : Nat} {v : Word} {unl : Bool} (h : s.Canonical) : (s.cnvWrite i off v unl).Canonical := by
  dsimp only [State.cnvWrite]
  split
  · exact h.cnvCfg
  · exact h.cnvCmd
  · exact h.when (·.plainWrite)
  · exact h.plainWrite

theorem Canonical.calWords {page : Nat} (h : s.Canonical) : (s.calWords page).Canonical :=
  h.foldl (fun _ _ h => h.when (·.setReg))

theorem Canonical.cnvReset {i : Fin 3} (h : s.Canonical) : (s.cnvReset i).Canonical :=
  h.resetPage.setCnvs.calWords.assayLose

theorem Canonical.cnvPulse {i : Fin 3} {codes : List Nat} (h : s.Canonical) : (s.cnvPulse i codes).Canonical :=
  (h.when (·.cnvInject)).when (·.cnvGo)

theorem Canonical.assayWrite {off : Nat} {v : Word} {unl : Bool} (h : s.Canonical) : (s.assayWrite off v unl).Canonical :=
  .ite (h.when (·.assayRun)) h.plainWrite

theorem Canonical.assayReset (h : s.Canonical) : s.assayReset.Canonical :=
  h.resetPage.setAssay.assayDrop

/-! ### The twin link -/

theorem Canonical.modTwin {f : Twin → Twin} (h : s.Canonical) : (s.modTwin f).Canonical :=
  h.frame

theorem Canonical.twinEvent {k : Nat} (h : s.Canonical) : (s.twinEvent k).Canonical :=
  h.event

theorem Canonical.haltAll (h : s.Canonical) : s.haltAll.Canonical :=
  ((h.forAxes (fun _ _ h => h.haltAxis)).forAxes (fun _ _ h => h.frame)).gateStop

theorem Canonical.leaveTo {st : TState} (h : s.Canonical) : (s.leaveTo st).Canonical :=
  h.modTwin.when (·.modAssay)

theorem Canonical.sendLeaves (h : s.Canonical) : s.sendLeaves.Canonical :=
  h.modTwin

theorem Canonical.twinRefuse {cause : Nat} (h : s.Canonical) : (s.twinRefuse cause).Canonical :=
  h.leaveTo.setReg.eventIf

theorem Canonical.twinFollow (h : s.Canonical) : s.twinFollow.Canonical :=
  .ite (h.when (·.modTwin)) (((h.when (·.sendLeaves)).leaveTo).modTwin)

theorem Canonical.twinRetry (h : s.Canonical) : s.twinRetry.Canonical :=
  h.when (·.sendLeaves.leaveTo.modTwin)

theorem Canonical.frameHeard {flags : Byte} (h : s.Canonical) : (s.frameHeard flags).Canonical :=
  h.modTwin

theorem Canonical.leaveArrives {serial : Wide} {flags : Byte} (h : s.Canonical) : (s.leaveArrives serial flags).Canonical :=
  .ite h (h.setWide.frameHeard.when (·.leaveTo.modTwin.twinEvent))

theorem Canonical.linkChange {up : Bool} (h : s.Canonical) : (s.linkChange up).Canonical :=
  h.when (·.modTwin)

theorem Canonical.pairNow (h : s.Canonical) : s.pairNow.Canonical :=
  h.modTwin.twinEvent

theorem Canonical.helloOut (h : s.Canonical) : s.helloOut.Canonical :=
  .ite (h.modTwin.when (·.pairNow)) h

theorem Canonical.crossStop {was safe : Bool} (h : s.Canonical) : (s.crossStop was safe).Canonical :=
  h.when (·.twinEvent.haltAll)

theorem Canonical.helloIn {h0 : Hello} (h : s.Canonical) : (s.helloIn h0).Canonical :=
  .ite h <| h.setWide.setWide.frameHeard.unless fun h =>
    .ite (h.crossStop.unless (·.twinRefuse)) (.ite h.modTwin.twinRefuse (.ite h.modTwin.twinRefuse h.modTwin.modTwin))

theorem Canonical.offerNow (h : s.Canonical) : s.offerNow.Canonical :=
  h.when (·.modTwin)

theorem Canonical.mirrorOut (h : s.Canonical) : s.mirrorOut.Canonical :=
  h.when (·.offerNow.modTwin)

theorem Canonical.peerAxis {n : Nat} {b : AxisBlock} (h : s.Canonical) : (s.peerAxis n b).Canonical :=
  h.setWide.setReg.setReg.setReg

theorem Canonical.peerAxes {k : Nat} {l : List AxisBlock} (h : s.Canonical) : (s.peerAxes k l).Canonical := by
  induction l generalizing s k with
  | nil => exact h
  | cons b l ih => exact ih h.peerAxis

theorem Canonical.orphanJudge (h : s.Canonical) : s.orphanJudge.Canonical :=
  .ite h.modTwin.twinEvent h.modTwin.twinEvent

theorem Canonical.chunkIn {k : Nat} {ws : List Word} (h : s.Canonical) : (s.chunkIn k ws).Canonical :=
  h.modTwin.when (·.orphanJudge)

theorem Canonical.answerIn {f : Byte} (h : s.Canonical) : (s.answerIn f).Canonical :=
  .ite h.modTwin.modTwin.twinEvent (h.when (·.modTwin.twinEvent))

theorem Canonical.peerShow {m : Mirror} (h : s.Canonical) : (s.peerShow m).Canonical :=
  h.setWide.peerAxes.setReg

theorem Canonical.mirrorIn {m : Option Mirror} (h : s.Canonical) : (s.mirrorIn m).2.Canonical := by
  cases m with
  | none => exact .iteSnd h h.count
  | some m =>
    have hm := fun g f => (h.peerShow (m := m)).frameHeard (flags := m.flags) |>.crossStop (was := s.twin.peerSafe)
      (safe := m.flags.getLsbD 1) |>.modAssay (f := g) |>.modTwin (f := f) |>.answerIn (f := m.flags)
    dsimp only [State.mirrorIn]
    generalize m.chunk = c
    refine .iteSnd h (.iteSnd h.peerShow.frameHeard (.iteSnd h.peerShow.frameHeard.crossStop.twinRefuse ?_))
    obtain _ | ⟨k, ws⟩ := c
    · exact .iteSnd (.iteSnd (hm _ _) (hm _ _).twinEvent) (hm _ _)
    · exact .iteSnd (.iteSnd (hm _ _).chunkIn (hm _ _).chunkIn.twinEvent) (hm _ _).chunkIn

theorem Canonical.twinLostNow (h : s.Canonical) : s.twinLostNow.Canonical := by
  dsimp only [State.twinLostNow]
  split
  · exact .when (by split; exacts [h.leaveTo.twinEvent.count.modTwin.modNvs, h.leaveTo.twinEvent.count]) (·.haltAll)
  · exact h

theorem Canonical.inherit {n : Ax} {b : List Word} (h : s.Canonical) : (s.inherit n b).Canonical :=
  .ite h.loadPosition.modAxis.modTwin (h.when (·.modTwin))

theorem Canonical.orphanLoadNow (h : s.Canonical) : s.orphanLoadNow.Canonical :=
  .ite (((h.forAxes (fun _ _ h => h.inherit)).modTwin).twinEvent) h

theorem Canonical.confirmAxes {v : Word} (h : s.Canonical) : (s.confirmAxes v).Canonical :=
  h.forAxes (fun _ _ h => h.when (·.modAxis))

theorem Canonical.peerResetWrite {v : Word} {unl : Bool} (h : s.Canonical) : (s.peerResetWrite v unl).Canonical :=
  h.when (·.modTwin)

theorem Canonical.twinCmd {v : Word} (h : s.Canonical) : (s.twinCmd v).Canonical :=
  .ite ((h.when (·.frame)).when (·.twinRetry)) h

theorem Canonical.twinWrite {off : Nat} {v : Word} {unl : Bool} (h : s.Canonical) : (s.twinWrite off v unl).Canonical := by
  dsimp only [State.twinWrite]
  split
  · exact h.plainWrite.twinFollow
  · exact h.twinCmd
  · exact h.confirmAxes
  · exact h.peerResetWrite
  · exact h.plainWrite

theorem Canonical.twinEnable {en : Bool} (h : s.Canonical) : (s.twinEnable en).Canonical :=
  h.setFld.twinFollow

theorem Canonical.twinClear (h : s.Canonical) : s.twinClear.Canonical :=
  (h.resetPage.forAxes fun _ _ h => h.modAxis).modTwin.modNvs

theorem Canonical.twinReset (h : s.Canonical) : s.twinReset.Canonical :=
  ((h.when (·.sendLeaves)).leaveTo).twinClear

end Sys2Proof.Machine.State
end
section
/-! SUPPORT. Every operation keeps the memories canonical: the fabric, power, pins and DMA. -/

set_option Elab.async false

namespace Sys2Proof.Machine.State

open Sys2Proof.Safety

variable {s : State}

/-! ### The trigger fabric -/

theorem Canonical.modFab {f : Fabric → Fabric} (h : s.Canonical) : (s.modFab f).Canonical :=
  h.frame

theorem Canonical.modDma {n : Fin 8} {f : DmaCh → DmaCh} (h : s.Canonical) : (s.modDma n f).Canonical :=
  h.frame

theorem Canonical.dmaRequest {n : Fin 8} (h : s.Canonical) : (s.dmaRequest n).Canonical := by
  dsimp only [State.dmaRequest]
  split
  · exact h
  · split
    · exact h.modDma
    · exact .ite h.modDma h.modDma.event
    · exact h

theorem Canonical.dmaPulse {n : Fin 8} {codes : List Nat} (h : s.Canonical) : (s.dmaPulse n codes).Canonical :=
  h.when (·.dmaRequest)

theorem Canonical.ledgerPulse {n : Ax} {codes : List Nat} (h : s.Canonical) : (s.ledgerPulse n codes).Canonical := by
  dsimp only [State.ledgerPulse]
  split
  · exact h.markSeen.unless (fun h => .ite h h)
  · exact h

theorem Canonical.flashPulse {codes : List Nat} {own : List (Fin 4)} (h : s.Canonical) : (s.flashPulse codes own).Canonical :=
  h.unless (·.flashStart)

theorem Canonical.deliver {codes : List Nat} {own : List (Fin 4)} (h : s.Canonical) : (s.deliver codes own).Canonical :=
  (((h.flashPulse.foldl fun _ _ h => h.tmrPulse).foldl fun _ _ h => h.cnvPulse).foldl fun _ _ h => h.dmaPulse).forAxes
    fun _ _ h => h.ledgerPulse

theorem Canonical.lineOut {l : Fin 16} (h : s.Canonical) : (s.lineOut l).2.Canonical := by
  dsimp only [State.lineOut]
  split
  · exact h.setReg.event
  · split
    · exact h.setReg
    · exact h.setReg.modFab

theorem Canonical.linesPulse {w : Word} {codes : List Nat} {own : List (Fin 4)} (h : s.Canonical) :
    (s.linesPulse w codes own).Canonical :=
  Canonical.deliver (List.foldlRecOn (motive := fun p : List Nat × State => p.2.Canonical) _ _ h fun _ hp _ _ => hp.lineOut)

theorem Canonical.lineDue {l : Fin 16} {also delayed : Word} {own : List (Fin 4)} (h : s.Canonical) :
    (s.lineDue l also delayed own).Canonical := by
  dsimp only [State.lineDue]
  split
  · exact .ite h.modFab.linesPulse h.flashPulse
  · exact h.flashPulse

theorem Canonical.lineDelayed {w : Word} {own : List (Fin 4)} (h : s.Canonical) : (s.lineDelayed w own).Canonical :=
  .ite h.modFab.deliver h.flashPulse

theorem Canonical.flashWith {n : Fin 4} {lines delayed : Word} (h : s.Canonical) : (s.flashWith n lines delayed).Canonical := by
  dsimp only [State.flashWith]
  split
  · exact h.lineDue
  · exact h.lineDelayed

theorem Canonical.softPulse {v : Word} (h : s.Canonical) : (s.softPulse v).Canonical :=
  h.when (·.duePulse)

theorem Canonical.fabricEnable {en : Bool} (h : s.Canonical) : (s.fabricEnable en).Canonical :=
  h.setFld.unless (·.frame)

theorem Canonical.fabricWrite {off : Nat} {v : Word} {unl : Bool} (h : s.Canonical) : (s.fabricWrite off v unl).Canonical :=
  .ite h.softPulse h.plainWrite

theorem Canonical.fabricReset (h : s.Canonical) : s.fabricReset.Canonical :=
  h.resetPage.setFab

/-! ### Power states, clocks, SAFE, resets and supplies -/

theorem Canonical.modPwr {f : Power → Power} (h : s.Canonical) : (s.modPwr f).Canonical :=
  h.frame

theorem Canonical.modClk {f : Clock → Clock} (h : s.Canonical) : (s.modClk f).Canonical :=
  h.frame

theorem Canonical.modSup {f : Supply → Supply} (h : s.Canonical) : (s.modSup f).Canonical :=
  h.frame

theorem Canonical.axesSafe (h : s.Canonical) : s.axesSafe.Canonical :=
  h.forAxes (fun _ _ h => .modAxis (.ite h.parkFault h.holdNow))

theorem Canonical.enterSafe {w : Word} (h : s.Canonical) : (s.enterSafe w).Canonical := by
  dsimp only [State.enterSafe]
  split
  · exact h.setReg
  · exact h.setReg
  · exact (((h.setReg.modPwr.event.forAxes (fun _ _ h => h.frame)).axesSafe).when (·.gateFaultNow)).when (·.chandSafe)

theorem Canonical.safeCauses {w : Word} (h : s.Canonical) : (s.safeCauses w).Canonical :=
  h.unless (·.enterSafe)

theorem Canonical.causeArises {c : SafeCause} (h : s.Canonical) : (s.causeArises c).Canonical :=
  h.when (·.safeCauses)

theorem Canonical.ctrlTemp {celsius : Int} (h : s.Canonical) : (s.ctrlTemp celsius).Canonical :=
  h.modSup.unless (·.causeArises)

theorem Canonical.safeEnable {v : Word} (h : s.Canonical) : (s.safeEnable v).Canonical :=
  h.setReg.safeCauses

theorem Canonical.safeReleaseNow (h : s.Canonical) : s.safeReleaseNow.Canonical :=
  .ite h (.ite h.event (h.setReg.modPwr.when (·.gateEnter)))

theorem Canonical.startBring (h : s.Canonical) : s.startBring.Canonical :=
  h.modPwr.modClk

theorem Canonical.wakeQualify {k : Nat} (h : s.Canonical) : (s.wakeQualify k).Canonical := by
  dsimp only [State.wakeQualify]
  split
  · exact h
  · split
    · exact h.setReg.when (·.startBring)
    · exact h.when (·.setReg.modPwr)

theorem Canonical.wakeSource {w : WakeSrc} (h : s.Canonical) : (s.wakeSource w).Canonical :=
  h.when (·.wakeQualify)

theorem Canonical.wakeTimer {ticks : Nat} (h : s.Canonical) : (s.wakeTimer ticks).Canonical :=
  .ite h (h.setWide.when (·.wakeQualify))

theorem Canonical.setChange {c : Change} (h : s.Canonical) : (s.setChange c).Canonical :=
  h.modPwr

theorem Canonical.beginStandby (h : s.Canonical) : s.beginStandby.Canonical :=
  h.setReg.modPwr.setChange

theorem Canonical.reduceNow (h : s.Canonical) : s.reduceNow.Canonical :=
  h.undiscipline.when (·.gateCoast)

theorem Canonical.judgeState {r : PReq} (h : s.Canonical) : (s.judgeState r).Canonical := by
  dsimp only [State.judgeState]
  split
  · exact h.setReg.startBring
  · exact h
  · exact h.event
  · exact h
  · exact .ite h.setChange h.event
  · exact .ite h.beginStandby h.event
  · exact .ite h.beginStandby h.event
  · exact h
  · exact .ite h.modPwr.modClk.reduceNow h.setChange
  · exact h

theorem Canonical.requestState {r : PReq} (h : s.Canonical) : (s.requestState r).Canonical :=
  .ite h (.ite h.event (.ite h.modPwr h.judgeState))

theorem Canonical.judgeHeld (h : s.Canonical) : s.judgeHeld.Canonical := by
  dsimp only [State.judgeHeld]
  split
  · exact h.unless (·.modPwr.judgeState)
  · exact h

theorem Canonical.pstateWrite {v : Word} (h : s.Canonical) : (s.pstateWrite v).Canonical := by
  dsimp only [State.pstateWrite]
  split
  · exact h.requestState
  · exact h.requestState
  · exact h.requestState
  · exact h

theorem Canonical.entryRefused (h : s.Canonical) : s.entryRefused.Canonical :=
  h.setChange.event.judgeHeld

theorem Canonical.clocksOff (h : s.Canonical) : s.clocksOff.Canonical :=
  h.newCycle.modClk.modPwr

theorem Canonical.dozeIn (h : s.Canonical) : s.dozeIn.Canonical :=
  .ite (.ite h.clocksOff.modPwr.judgeHeld h.entryRefused) h

theorem Canonical.dozeOut {locked : Bool} (h : s.Canonical) : (s.dozeOut locked).Canonical :=
  .ite (.judgeHeld (.ite h.modPwr.modClk.newCycle.modClk h.modPwr.modClk.modClk.event.reduceNow)) h

/-- What the entry into STANDBY ends. -/
theorem Canonical.lostInStandby {x : Timers} {su : Bool} {dm : Dma} {fa : Fabric} {ch : Chand} {lc : LChain} {cn : Vector Cnv 3}
    {ay : Assay} {ds : Vector DieSt 5} (h : s.Canonical) : ({ s with
      tmr := x, mem := { memBlank with safeUe := su }, dma := dm, fab := fa
      chand := ch, lchain := lc, cnvs := cn, assay := ay, dies := ds } : State).Canonical := by
  rw [canonical_iff] at h ⊢
  obtain ⟨hr, hb, -, hn⟩ := h
  exact ⟨hr, hb, Memory.wf_nil _, hn⟩

theorem Canonical.standbyIn (h : s.Canonical) : s.standbyIn.Canonical :=
  h.when fun h => .ite ((h.when (·.sendLeaves)).leaveTo.modTwin.lostInStandby.clocksOff.modPwr.judgeHeld.when (·.startBring)) h.entryRefused

theorem Canonical.loadCal {page off : Nat} {v : Word} (h : s.Canonical) : (s.loadCal page off v).Canonical :=
  h.setReg.modNvs

theorem Canonical.loadShape {n : Ax} {a3 a5 : Word} {bank : Nat} (h : s.Canonical) : (s.loadShape n a3 a5 bank).Canonical := by
  refine .dite (fun _ => ?_) (fun _ => .ite h.loadCal.loadCal h.loadCal.loadCal.event)
  dsimp only
  split
  · exact .ite h.loadCal.loadCal h.event
  · with_reducible exact h.loadCal.loadCal.putBank.modTable

theorem Canonical.loadAxis {n : Ax} (h : s.Canonical) : (s.loadAxis n).Canonical := by
  dsimp only [State.loadAxis]
  split
  · exact .ite h.currentRec.loadCal.loadCal.loadShape h.currentRec.event
  · exact h.currentRec.event

theorem Canonical.loadSlots {i : Fin 3} {p : List Word} (h : s.Canonical) : (s.loadSlots i p).Canonical :=
  h.foldl fun _ _ h => h.loadCal

theorem Canonical.loadCnv {i : Fin 3} (h : s.Canonical) : (s.loadCnv i).Canonical := by
  dsimp only [State.loadCnv]
  split
  · exact .ite h.currentRec.loadSlots h.currentRec.event
  · exact h.currentRec.event

theorem Canonical.loadOrphan (h : s.Canonical) : s.loadOrphan.Canonical := by
  dsimp only [State.loadOrphan]
  with_reducible refine h.when fun h => ?_
  split
  · with_reducible exact h.currentRec.when (·.modTwin)
  · with_reducible exact h.currentRec

theorem Canonical.loadNow (h : s.Canonical) : s.loadNow.Canonical :=
  h.when fun h => (((h.foldl fun _ _ h => h.when (·.loadCnv)).forAxes fun _ _ h => h.loadAxis).loadOrphan).modNvs

theorem Canonical.imageLoad {auto : Bool} (h : s.Canonical) : (s.imageLoad auto).Canonical := by
  dsimp only [State.imageLoad]
  split
  · with_reducible exact .ite h.currentRec h.currentRec.nvsEvent
  · with_reducible exact .ite h.currentRec (.ite h.currentRec.setReg.modNvs h.currentRec.nvsEvent)

theorem Canonical.setBring {k : Nat} (h : s.Canonical) : (s.setBring k).Canonical :=
  h.modPwr

theorem Canonical.vcoreUp (h : s.Canonical) : s.vcoreUp.Canonical :=
  h.when (·.setBring)

theorem Canonical.keepProtEvents {old : State} (h : s.Canonical) : (s.keepProtEvents old).Canonical :=
  h.foldl fun _ _ h => h.setReg

theorem Canonical.freshUnits (h : s.Canonical) : s.freshUnits.Canonical := by
  refine Canonical.keepProtEvents (canonical_iff.mpr ?_)
  obtain ⟨hr, -, -, hn⟩ := canonical_iff.mp h
  exact ⟨Store.wf_filter _ _ _ hr, Store.wf_nil _, Memory.wf_nil _, hn⟩

theorem Canonical.stepThree (h : s.Canonical) : s.stepThree.Canonical :=
  h.modClk.setBring

theorem Canonical.hsrcUp {sleep : Nat} (h : s.Canonical) : (s.hsrcUp sleep).Canonical :=
  have hs := h.setFld.setFld.freshUnits.modPwr.stepThree
  .ite (.unless (.ite hs.relatch hs.tmrWake) (·.enterSafe)) h

theorem Canonical.xoUp (h : s.Canonical) : s.xoUp.Canonical :=
  h.when (·.modClk.setBring)

theorem Canonical.pllUp (h : s.Canonical) : s.pllUp.Canonical :=
  h.when (·.modClk.setBring)

theorem Canonical.autoImage (h : s.Canonical) : s.autoImage.Canonical :=
  h.when (·.modNvs.imageLoad)

theorem Canonical.reachRun (h : s.Canonical) : s.reachRun.Canonical :=
  h.modPwr.event.judgeHeld.modNvs.autoImage

theorem Canonical.coreUp (h : s.Canonical) : s.coreUp.Canonical :=
  h.when (·.newCycle.modClk.reachRun)

theorem Canonical.stepTimeout (h : s.Canonical) : s.stepTimeout.Canonical := by
  dsimp only [State.stepTimeout]
  split
  · exact h
  · split
    · exact .ite h.setFld.modPwr h.setFld.setBring.setFld.event
    · exact .ite h.setFld.modPwr h.setFld.setBring.setFld.event
    · exact h.modClk.event.setBring
    · exact h.modClk.event.reachRun
    · exact h

theorem Canonical.retryStep (h : s.Canonical) : s.retryStep.Canonical :=
  h.when (·.modPwr)

theorem Canonical.xsUp (h : s.Canonical) : s.xsUp.Canonical :=
  h.when (·.modClk)

theorem Canonical.xsTimeout (h : s.Canonical) : s.xsTimeout.Canonical :=
  h.when (·.modClk.event)

theorem Canonical.clkctrl {v : Word} (h : s.Canonical) : (s.clkctrl v).Canonical :=
  h.setReg.unless (fun h => .ite h.modClk h.modClk)

theorem Canonical.toHsrc {xi : Bool} (h : s.Canonical) : (s.toHsrc xi).Canonical :=
  h.newCycle.modClk.event.modPwr

theorem Canonical.clockLost {src : ClockSrc} (h : s.Canonical) : (s.clockLost src).Canonical := by
  dsimp only [State.clockLost]
  split
  · exact h
  · split
    · exact .ite h (.ite h.modClk.modClk.event h.modClk.toHsrc)
    · exact h.when (·.toHsrc)

theorem Canonical.clockBack (h : s.Canonical) : s.clockBack.Canonical := by
  dsimp only [State.clockBack]
  split
  · exact h.newCycle.modClk.modPwr.judgeHeld
  · exact h

theorem Canonical.clockGone (h : s.Canonical) : s.clockGone.Canonical := by
  dsimp only [State.clockGone]
  split
  · exact h.modClk.modPwr.reduceNow.judgeHeld
  · exact h

theorem Canonical.snapLost (h : s.Canonical) : s.snapLost.Canonical := by
  dsimp only [State.snapLost]
  split
  · exact h.frame.mramWrites.modNvs
  · exact h

theorem Canonical.deviceReset {cause : Word} {por : Bool} (h : s.Canonical) : (s.deviceReset cause por).Canonical := by
  refine Canonical.setReg (canonical_iff.mpr ?_)
  obtain ⟨hr, -, -, hn⟩ := canonical_iff.mp h.nvsAbandon.snapLost
  refine ⟨?_, Store.wf_nil _, Memory.wf_nil _, hn⟩
  cases por
  · exact Store.wf_filter _ _ _ hr
  · exact Store.wf_nil _

theorem Canonical.resetBy {k : Nat} (h : s.Canonical) : (s.resetBy k).Canonical :=
  .ite h.modPwr (.ite h.setReg h.deviceReset)

theorem Canonical.rearm (h : s.Canonical) : s.rearm.Canonical :=
  h.when (·.modNvs)

theorem Canonical.snapshotDone (h : s.Canonical) : s.snapshotDone.Canonical := by
  dsimp only [State.snapshotDone]
  split
  · split
    · exact h.snapEnd.rearm.deviceReset
    · exact h.snapEnd.rearm.autoImage
  · exact h

theorem Canonical.resetPulse {ns : Nat} (h : s.Canonical) : (s.resetPulse ns).2.Canonical := by
  dsimp only [State.resetPulse]
  split
  · exact h
  · split
    · exact h
    · exact h.drawBool

theorem Canonical.rstLow {ns : Nat} (h : s.Canonical) : (s.rstLow ns).Canonical :=
  h.unless fun h => .choice h.resetPulse (·.resetBy) id

theorem Canonical.testRise {ns : Nat} (h : s.Canonical) : (s.testRise ns).Canonical :=
  h.unless fun h => .choice h.resetPulse (fun h => h.frame.resetBy) id

theorem Canonical.testFall (h : s.Canonical) : s.testFall.Canonical :=
  h.frame.when (·.modPwr)

theorem Canonical.thresholdWrite {r : SupplyReg} {v : Word} (h : s.Canonical) : (s.thresholdWrite r v).Canonical :=
  .ite h.setReg h.event

theorem Canonical.supplyWrite {off : Nat} {v : Word} {unl : Bool} (h : s.Canonical) : (s.supplyWrite off v unl).Canonical := by
  dsimp only [State.supplyWrite]
  split
  · split
    · exact h.thresholdWrite
    · exact h.thresholdWrite
    · exact h.thresholdWrite
    · exact h
  · exact h

theorem Canonical.vmOkNow {ok : Bool} (h : s.Canonical) : (s.vmOkNow ok).Canonical :=
  .ite h (.ite h.modSup.event ((h.modSup.event.forAxes (fun _ _ h => h.parkNow)).forAxes (fun _ _ h => h.frame)))

theorem Canonical.vgpOkNow {ok : Bool} (h : s.Canonical) : (s.vgpOkNow ok).Canonical :=
  h.unless (·.modSup.event)

theorem Canonical.vddLowNow {low : Bool} (h : s.Canonical) : (s.vddLowNow low).Canonical :=
  .ite h (.ite h.modSup.event h.modSup.rearm)

theorem Canonical.powerFail {byPin : Bool} {sinceUs : Nat} (h : s.Canonical) : (s.powerFail byPin sinceUs).Canonical :=
  (h.when (·.frame)).unless (fun h => .ite h.modNvs h.snapTrigger)

theorem Canonical.pfailHigh (h : s.Canonical) : s.pfailHigh.Canonical :=
  h.frame.rearm

theorem Canonical.brakeCross {rising : Bool} (h : s.Canonical) : (s.brakeCross rising).Canonical :=
  h.modSup.eventIf

theorem Canonical.ovReached {reached : Bool} (h : s.Canonical) : (s.ovReached reached).Canonical :=
  .ite h.modSup.event.setLatchAll h.modSup

theorem Canonical.logicSupply {d : Die} {ok : Bool} (h : s.Canonical) : (s.logicSupply d ok).Canonical :=
  h.modSup.unless (·.modDie.dieFollow)

theorem Canonical.watchExpire (h : s.Canonical) : s.watchExpire.Canonical :=
  h.when (·.haltAll.modPwr.event)

theorem Canonical.watchEscalate (h : s.Canonical) : s.watchEscalate.Canonical :=
  h.when (·.resetBy)

theorem Canonical.devCmd {v : Word} (h : s.Canonical) : (s.devCmd v).Canonical :=
  ((h.when (·.setFld)).when (·.setReg)).when (·.causeArises)

theorem Canonical.devWrite {off : Nat} {v : Word} {unl : Bool} (h : s.Canonical) : (s.devWrite off v unl).Canonical := by
  dsimp only [State.devWrite]
  split
  · exact h.pstateWrite
  · exact h.when (·.clkctrl)
  · exact h.when (·.resetBy)
  · exact h.devCmd
  · exact h.when (·.safeEnable)
  · exact h.when (·.safeReleaseNow)
  · exact h.plainWrite

theorem Canonical.wmonLeave {m : Fin 8} (h : s.Canonical) : (s.wmonLeave m).Canonical :=
  h.event.produceIf.when (·.wakeSource)

theorem Canonical.wmonJudge {m : Fin 8} {v : Int} (h : s.Canonical) : (s.wmonJudge m v).Canonical :=
  .ite (h.frame.when (·.wmonLeave)) h

theorem Canonical.wmonCompareNow {m : Fin 8} {x : WmonIn} (h : s.Canonical) : (s.wmonCompareNow m x).Canonical := by
  dsimp only [State.wmonCompareNow]
  split
  · exact h
  · exact h.wmonJudge

theorem Canonical.wmonThreshold {m : Fin 8} {hi : Bool} {v : Word} (h : s.Canonical) : (s.wmonThreshold m hi v).Canonical :=
  .ite h.setReg h.event

theorem Canonical.wmonRestart {was : Fin 8 → Bool} (h : s.Canonical) : (s.wmonRestart was).Canonical :=
  h.foldl (fun _ _ h => h.when (·.frame))

theorem Canonical.wmonWrite {off : Nat} {v : Word} {unl : Bool} (h : s.Canonical) : (s.wmonWrite off v unl).Canonical := by
  dsimp only [State.wmonWrite]
  split
  · exact h.wmonThreshold
  · exact h.plainWrite.wmonRestart

theorem Canonical.wmonEnable {en : Bool} (h : s.Canonical) : (s.wmonEnable en).Canonical :=
  h.setFld.wmonRestart

theorem Canonical.wmonReset (h : s.Canonical) : s.wmonReset.Canonical :=
  h.resetPage.setWmons

/-! ### The input pins -/

theorem Canonical.modPins {f : Pins → Pins} (h : s.Canonical) : (s.modPins f).Canonical :=
  h.frame

theorem Canonical.pulseTaken {ns lo hi : Nat} (h : s.Canonical) : (s.pulseTaken ns lo hi).2.Canonical := by
  dsimp only [State.pulseTaken]
  split
  · exact h
  · split
    · exact h
    · exact h.drawBool

theorem Canonical.stopLatch {ns : Nat} (h : s.Canonical) : (s.stopLatch ns).Canonical :=
  h.unless fun h => .choiceNot h.pulseTaken id fun h => .forAxes (.modPins (.frame h)) fun _ _ h => h.modAxis

theorem Canonical.stopTick {high : Bool} (h : s.Canonical) : (s.stopTick high).Canonical :=
  h.modPins.when (·.haltAll)

theorem Canonical.stopClear {high : Bool} (h : s.Canonical) : (s.stopClear high).Canonical :=
  h.when (·.frame)

theorem Canonical.frzUp (h : s.Canonical) : s.frzUp.Canonical :=
  .ite h (h.modPins.when (fun h => (h.forAxes (fun _ _ h => h.freezeAxis)).when (·.gateStop)))

theorem Canonical.unfreezeAxis {n : Ax} (h : s.Canonical) : (s.unfreezeAxis n).Canonical := by
  dsimp only [State.unfreezeAxis]
  split
  · exact .ite h.modAxis (h.unless (·.modAxis))
  · exact h

theorem Canonical.frzDown (h : s.Canonical) : s.frzDown.Canonical :=
  .ite (h.modPins.forAxes (fun _ _ h => h.unfreezeAxis)) h

theorem Canonical.tripLow {ns : Nat} (h : s.Canonical) : (s.tripLow ns).Canonical :=
  h.unless fun h => .choiceNot h.pulseTaken id fun h => h.modPins.setLatchAll

theorem Canonical.tripHigh (h : s.Canonical) : s.tripHigh.Canonical :=
  h.modPins

theorem Canonical.drvDown (h : s.Canonical) : s.drvDown.Canonical :=
  h.modPins.when (fun h => h.forAxes (fun _ _ h => h.startStop.edgesSince.brgForget))

theorem Canonical.gateDown (h : s.Canonical) : s.gateDown.Canonical :=
  h.modPins.when (·.gateStop.gatePull.gateForget)

theorem Canonical.drvFall {ns : Nat} (h : s.Canonical) : (s.drvFall ns).Canonical :=
  h.unless fun h => .choiceNot h.pulseTaken id fun h => h.drvDown

theorem Canonical.gateFall {ns : Nat} (h : s.Canonical) : (s.gateFall ns).Canonical :=
  h.unless fun h => .choiceNot h.pulseTaken id fun h => h.gateDown

theorem Canonical.drvRise {ns : Nat} (h : s.Canonical) : (s.drvRise ns).Canonical :=
  .ite h ((h.modPins.forAxes (fun _ _ h => h.edgesSince)).when (fun h => h.foldl (fun _ _ h => h.toggleNow)))

theorem Canonical.gateRise {ns : Nat} (h : s.Canonical) : (s.gateRise ns).Canonical :=
  .ite h (h.modPins.modGate.when (·.toggleNow))

theorem Canonical.vioLost (h : s.Canonical) : s.vioLost.Canonical :=
  ((((((h.when (·.drvDown)).when (·.gateDown)).frzDown.tripHigh.pfailHigh.modPins).foldl fun _ _ h => h.encInactive).when
    (·.hallCode)).when (·.testFall)).modTime.modSup

theorem Canonical.vioNow {present : Bool} (h : s.Canonical) : (s.vioNow present).Canonical :=
  .ite h (.ite h.modSup h.vioLost)

/-! ### The DMA channels -/

theorem Canonical.dmaHalt {n : Fin 8} {err : Nat} (h : s.Canonical) : (s.dmaHalt n err).Canonical :=
  h.modDma.setDma.event

theorem Canonical.dmaGoNow {n : Fin 8} (h : s.Canonical) : (s.dmaGoNow n).Canonical :=
  h.when (·.modDma)

theorem Canonical.dmaStopNow {n : Fin 8} (h : s.Canonical) : (s.dmaStopNow n).Canonical :=
  .ite h.modDma (h.when (·.modDma))

theorem Canonical.dmaCmd {n : Fin 8} {v : Word} (h : s.Canonical) : (s.dmaCmd n v).Canonical :=
  ((h.when (·.dmaGoNow)).when (·.dmaStopNow)).when (·.frame)

theorem Canonical.dmaReady {n : Fin 8} (h : s.Canonical) : (s.dmaReady n).Canonical :=
  h.modDma

theorem Canonical.dmaLoad {n : Fin 8} (h : s.Canonical) : (s.dmaLoad n).Canonical := by
  dsimp only [State.dmaLoad]
  with_reducible exact h.unless fun h => .ite h.dmaHalt (.ite h.dmaHalt
    (.ite h.sramReads.dmaHalt (.ite h.sramReads.dmaHalt h.sramReads.modDma.dmaReady)))

theorem Canonical.dmaExhausted {n : Fin 8} (h : s.Canonical) : (s.dmaExhausted n).Canonical :=
  .ite h.eventIf.countWrap.setWide.modDma h.eventIf.countWrap.modDma

theorem Canonical.dmaDone (h : s.Canonical) : s.dmaDone.Canonical := by
  dsimp only [State.dmaDone]
  split
  · exact h
  · exact .ite h (.ite (h.frame.dmaExhausted.when (·.modDma)) (.ite h.frame.modDma h.frame.dmaReady))

theorem Canonical.dmaWrite {off : Nat} {v : Word} {unl : Bool} (h : s.Canonical) : (s.dmaWrite off v unl).Canonical := by
  dsimp only [State.dmaWrite]
  split
  · exact .ite h.dmaCmd h.plainWrite
  · exact h.plainWrite

theorem Canonical.dmaReset (h : s.Canonical) : s.dmaReset.Canonical :=
  h.resetPage.setDma

end Sys2Proof.Machine.State
end
section
/-! SUPPORT. Every operation keeps the memories canonical: accesses, the masters and the ramp tick. -/

set_option Elab.async false

namespace Sys2Proof.Machine.State

open Sys2Proof.Safety

variable {s : State}

/-! ### Accesses to the registers -/

theorem Canonical.readReg {dma sec : Bool} {p o : Nat} (h : s.Canonical) : (s.readReg dma sec p o).2.Canonical := by
  unfold State.readReg
  split
  · exact h.latchAll
  · exact h.unless (·.latchUs)
  · exact h.winRead
  · exact h.tblAdvance
  · split
    · exact .iteSnd h.captureRead h
    · exact h
  · exact h

theorem Canonical.axisReset {n : Ax} (h : s.Canonical) : (s.axisReset n).Canonical :=
  .ite h.resetPage.setAxis.calWords h.axisRefuse

theorem Canonical.protReset {p : ProtPage} (h : s.Canonical) : (s.protReset p).Canonical :=
  h.resetPage.setReg

theorem Canonical.brgReset {n : Ax} (h : s.Canonical) : (s.brgReset n).Canonical :=
  h.protReset.modBrg.calWords

theorem Canonical.gateReset (h : s.Canonical) : s.gateReset.Canonical :=
  h.protReset.modGate

theorem Canonical.nvsReset (h : s.Canonical) : s.nvsReset.Canonical :=
  h.nvsAbandon.resetPage.modNvs

theorem Canonical.resetRefused {page : Nat} (h : s.Canonical) : (s.resetRefused page).Canonical := by
  dsimp only [State.resetRefused]
  split
  · exact h.axisRefuse
  · exact h.event
  · exact h

theorem Canonical.unitClear {page : Nat} (h : s.Canonical) : (s.unitClear page).Canonical := by
  dsimp only [State.unitClear]
  split
  · exact h.axisReset
  · exact h.brgReset
  · exact h.gateReset
  · exact h.ledgReset
  · exact h.tallyReset
  · exact h.emuReset
  · exact h.nvsReset
  · exact h.dmaReset
  · exact h.tmrReset
  · exact h.wmonReset
  · exact h.cnvReset
  · exact h.assayReset
  · exact h.fabricReset
  · exact h.chandReset
  · exact h.lchainReset
  · exact h.twinReset.autoImage
  · exact h
  · exact h
  · exact h
  · exact h
  · exact h
  · exact h
  · exact h
  · exact h
  · exact h

theorem Canonical.unitResetNow {page : Nat} (h : s.Canonical) : (s.unitResetNow page).Canonical :=
  .ite h.unitClear.setUnlock.setUnitReset h.resetRefused

theorem Canonical.enableWrite {page : Nat} {v : Word} (h : s.Canonical) : (s.enableWrite page v).Canonical := by
  dsimp only [State.enableWrite]
  split
  · exact h.timeCtrl
  · exact h.axisEnable
  · exact h.tallyEnable
  · exact h.emuEnable
  · exact h.chainEnable
  · exact h.fabricEnable
  · exact h.twinEnable
  · exact h.wmonEnable
  · exact h.cnvEnable
  · exact h.unless (·.setFld)

theorem Canonical.ctrlWrite {page : Nat} {v : Word} (h : s.Canonical) : (s.ctrlWrite page v).Canonical :=
  .ite h.unitResetNow h.enableWrite

theorem Canonical.nvsCmd {op : Nat} (h : s.Canonical) : (s.nvsCmd op).Canonical := by
  dsimp only [State.nvsCmd]
  split
  · exact h.nvsAccept fun _ h => h.nvsWriteNow
  · exact h.nvsAccept fun _ h => h.nvsInvalidateNow
  · exact h.nvsAccept fun _ h => h.imageLoad
  · exact h.nvsAccept fun _ h => h.nvsQueryNow
  · exact h.nvsAccept fun _ h => h.frame

theorem Canonical.nvsWrite {off : Nat} {v : Word} {unl : Bool} (h : s.Canonical) : (s.nvsWrite off v unl).Canonical :=
  .ite (h.when (·.nvsCmd)) h.plainWrite

theorem Canonical.wideWrite {page offHi : Nat} {v : Wide} (h : s.Canonical) : (s.wideWrite page offHi v).Canonical := by
  dsimp only [State.wideWrite]
  split
  · exact h.axisWideWrite
  · exact h.ledgWideWrite
  · exact h.tallyWideWrite
  · exact h.emuWideWrite
  · exact h.setWide
  · exact h.gateWideWrite
  · exact h.setWide

theorem Canonical.wordWrite {page off : Nat} {v : Word} {unl : Bool} (h : s.Canonical) : (s.wordWrite page off v unl).Canonical := by
  dsimp only [State.wordWrite]
  split
  · exact h.devWrite
  · exact h.plainWrite
  · exact h.timeWrite
  · exact h.memWrite
  · exact h.nvsWrite
  · exact h.dmaWrite
  · exact h.tmrWrite
  · exact h.wmonWrite
  · exact h.cnvWrite
  · exact h.assayWrite
  · exact h.tallyWrite
  · exact h.emuWrite
  · exact h.ledgWrite
  · exact h.fabricWrite
  · exact h.axisWrite
  · exact h.brgWrite
  · exact h.gateWrite
  · exact h.supplyWrite
  · exact h.chandWrite
  · exact h.lchainWrite
  · exact h.twinWrite
  · exact h.tableWrite
  · exact h
  · exact h
  · exact h

theorem Canonical.unitWrite {page off : Nat} {v : Word} {unl : Bool} (h : s.Canonical) : (s.unitWrite page off v unl).Canonical :=
  .ite h.frame (.ite h.frame.wideWrite h.wordWrite)

theorem Canonical.offsetWrite {page off : Nat} {v : Word} {unl : Bool} (h : s.Canonical) : (s.offsetWrite page off v unl).Canonical := by
  dsimp only [State.offsetWrite]
  split
  · exact h
  · exact h
  · exact h.ctrlWrite
  · exact h.setReg
  · exact h.setReg
  · exact h.setReg
  · exact h.setReg
  · exact h.unitWrite

theorem Canonical.writeReg {page off : Nat} {v : Word} (h : s.Canonical) : (s.writeReg page off v).Canonical :=
  .ite h.event (.ite h.setUnlock h.setUnlock.offsetWrite)

theorem Canonical.groupWrite {members : List Nat} {off : Nat} {v : Word} (h : s.Canonical) : (s.groupWrite members off v).Canonical :=
  .ite h (h.foldl (fun _ _ h => h.unless (·.writeReg)))

theorem Canonical.busWrite {page off : Nat} {v : Word} (h : s.Canonical) : (s.busWrite page off v).Canonical := by
  dsimp only [State.busWrite]
  split
  · exact h
  · exact h.count
  · exact h.groupWrite
  · exact h.writeReg

theorem Canonical.busRead {dma sec : Bool} {p o : Nat} (h : s.Canonical) : (s.busRead dma sec p o).2.Canonical := by
  unfold State.busRead
  split
  · exact h
  · exact h
  · exact h
  · exact h.readReg

theorem Canonical.modSpi {f : Spi → Spi} (h : s.Canonical) : (s.modSpi f).Canonical :=
  h.frame

theorem Canonical.noteTarget {t : Target} {read : Bool} (h : s.Canonical) : (s.noteTarget t read).Canonical :=
  h.modSpi

theorem Canonical.frameSeen {miso : List Byte} {page off : Nat} {data : Word} {read : Bool} (h : s.Canonical) :
    (s.frameSeen miso page off data read).Canonical :=
  h.modPwr.modSpi.noteTarget

theorem Canonical.noteLate {page : Nat} (h : s.Canonical) : (s.noteLate page).Canonical :=
  h.when (·.modSpi)

theorem Canonical.portDo {a : PortAccess} (h : s.Canonical) : (s.portDo a).Canonical := by
  dsimp only [State.portDo]
  split
  · exact h.noteLate.busWrite
  · exact h.groupWrite
  · exact .frame h.noteLate.busRead

theorem Canonical.portRun {l : List PortAccess} (h : s.Canonical) : (s.portRun l).Canonical := by
  induction l generalizing s with
  | nil => exact h.modSpi
  | cons a l ih => exact .ite h.modSpi (ih h.portDo)

theorem Canonical.singleRead {page off : Nat} (h : s.Canonical) : (s.singleRead page off).Canonical :=
  .ite (.ite h.frameSeen.setRdata h.frameSeen.portRun) h

theorem Canonical.singleWrite {page off : Nat} {v : Word} (h : s.Canonical) : (s.singleWrite page off v).Canonical :=
  h.when (·.frameSeen.portRun)

theorem Canonical.burstWrite {page off : Nat} {ws : List Word} (h : s.Canonical) : (s.burstWrite page off ws).Canonical :=
  h.when (·.frameSeen.portRun)

theorem Canonical.portFlush {k : Nat} (h : s.Canonical) : (s.portFlush k).Canonical := by
  induction k generalizing s with
  | zero => exact h
  | succ k ih => exact h.unless fun h => ih h.winDrain.portRun

theorem Canonical.burstFetch {p o n k : Nat} {sec : Bool} (h : s.Canonical) : (s.burstFetch p o n k sec).2.Canonical := by
  induction n generalizing s k sec with
  | zero => exact h
  | succ n ih => exact ih h.busRead

theorem Canonical.burstRead {p o n : Nat} {ok : Bool} (h : s.Canonical) : (s.burstRead p o n ok).Canonical :=
  h.when fun h => .ite (Canonical.modSpi (Canonical.modPwr (Canonical.frame h.portFlush.burstFetch)))
    (Canonical.modSpi (Canonical.frame h.portFlush.burstFetch))

theorem Canonical.frameBad {bytes : List Byte} (h : s.Canonical) : (s.frameBad bytes).Canonical :=
  h.when (·.modSpi)

theorem Canonical.portResume (h : s.Canonical) : s.portResume.Canonical :=
  h.unless (·.portRun)

/-! ### DMA and the start-up image as masters -/

theorem Canonical.dmaFetch {k a : Nat} {sec : Bool} (h : s.Canonical) : (s.dmaFetch k a sec).2.2.Canonical :=
  .iteSndSnd (.iteSndSnd h.sramRead h.mramRead) h.busRead

theorem Canonical.dmaPut {kind a : Nat} {w : Word} (h : s.Canonical) : (s.dmaPut kind a w).Canonical :=
  .ite h.sramStore h.busWrite

theorem Canonical.dmaWord {n : Fin 8} (h : s.Canonical) : (s.dmaWord n).2.Canonical :=
  .iteSnd h.dmaHalt (.iteSnd h.dmaHalt (.iteSnd h (.iteSnd h.dmaFetch.dmaHalt h.dmaFetch.modDma.dmaPut)))

theorem Canonical.dmaWords {n : Fin 8} {k : Nat} (h : s.Canonical) : (State.dmaWords n k s).Canonical := by
  induction k generalizing s with
  | zero => exact h
  | succ k ih =>
    unfold State.dmaWords
    have hw : (s.dmaWord n).2.Canonical := h.dmaWord
    generalize s.dmaWord n = w at hw
    obtain ⟨_ | _ | _, t⟩ := w
    · exact .ite hw (.ite hw.modDma (ih hw))
    · exact hw
    · exact hw

theorem Canonical.dmaGrant {k : Nat} (h : s.Canonical) : (s.dmaGrant k).Canonical := by
  dsimp only [State.dmaGrant]
  split
  · exact h
  · split
    · exact h.dmaWords
    · split
      · exact h
      · exact h.frame.modDma.dmaWords

theorem Canonical.imageWord {a : PortAccess} (h : s.Canonical) : (s.imageWord a).Canonical := by
  dsimp only [State.imageWord]
  split
  · exact (h.when (·.winDrain)).busWrite
  · exact h.groupWrite
  · exact h

theorem Canonical.imageEntry {page off : Nat} {keyed : Bool} {ws : List Word} (h : s.Canonical) :
    (s.imageEntry page off keyed ws).Canonical :=
  .ite h.count ((h.when (·.busWrite)).foldl (fun _ _ h => h.imageWord))

theorem Canonical.imageLeft {l : List Word} {w : Bool} (h : s.Canonical) : (s.imageLeft l w).Canonical :=
  h.modNvs fun n => by split <;> rfl

theorem Canonical.imageGo {k : Nat} {l : List Word} (h : s.Canonical) : (State.imageGo k l s).Canonical := by
  induction k generalizing s l with
  | zero => exact h
  | succ k ih =>
    cases l with
    | nil => exact h.imageLeft
    | cons a l =>
      unfold State.imageGo
      refine h.unless fun h => ?_
      dsimp only
      split
      · exact ih h.imageEntry
      · exact ih h.imageEntry
      · exact ih h.imageEntry
      · exact h.imageLeft

theorem Canonical.imageRun (h : s.Canonical) : s.imageRun.Canonical := by
  dsimp only [State.imageRun]
  split
  · exact h.unless (·.imageGo)
  · exact h

theorem Canonical.engineGo (h : s.Canonical) : s.engineGo.Canonical :=
  h.autoImage.imageRun

theorem Canonical.imageWaitOver (h : s.Canonical) : s.imageWaitOver.Canonical :=
  h.when (·.modNvs.imageRun)

theorem Canonical.imageDone (h : s.Canonical) : s.imageDone.Canonical :=
  h.when (·.modNvs.nvsEvent)

/-! ### The ramp tick, and what a command runs -/

theorem Canonical.axisTick {n : Ax} (h : s.Canonical) : (s.axisTick n).2.Canonical :=
  h.settleTick.axisMotion.stallTick.deviationTick.limitTick

theorem Canonical.axesTick {l : List Ax} (h : s.Canonical) : (s.axesTick l).2.Canonical := by
  induction l generalizing s with
  | nil => exact h
  | cons n l ih => exact ih h.axisTick

theorem Canonical.ledgersTick {evs : List (Ax × MEv)} (h : s.Canonical) : (s.ledgersTick evs).Canonical :=
  h.releaseBarriers.foldl fun _ _ h => h.ledgerTick

theorem Canonical.setpointsTick (h : s.Canonical) : s.setpointsTick.Canonical :=
  h.forAxes fun _ _ h => h.currentTick

theorem Canonical.axisSources (h : s.Canonical) : s.axisSources.Canonical :=
  h.forAxes fun _ _ h => h.sourceMoved

theorem Canonical.rampTickNow {stopNHigh : Bool} (h : s.Canonical) : (s.rampTickNow stopNHigh).Canonical :=
  have hg := (h.timeTick.encTicks.chainTick.forAxes fun _ _ h => h.dieTick).when (·.gateClock)
  have hj := (hg.forAxes fun _ _ h => h.setpointsIn).stopTick.forAxes fun _ _ h => h.judgeRequests
  .ite h (hj.axesTick.ledgersTick.setpointsTick.when (·.gateTick.bstWatch)).axisSources.stopClear

theorem Canonical.dwellOver {n : Ax} (h : s.Canonical) : (s.dwellOver n).Canonical := by
  dsimp only [State.dwellOver]
  split
  · exact h.completeRecord.runRecords.currentAgain
  · exact h

theorem Canonical.waitOver {n : Ax} (h : s.Canonical) : (s.waitOver n).Canonical := by
  dsimp only [State.waitOver]
  split
  · exact h.unless (·.ledgFlag.completeRecord.runRecords.currentAgain)
  · exact h

theorem Canonical.settleMove {n : Ax} {dev : Int} (h : s.Canonical) : (s.settleMove n dev).Canonical :=
  h.when (·.planMove.modAxis)

theorem Canonical.settleNow {n : Ax} (h : s.Canonical) : (s.settleNow n).Canonical := by
  dsimp only [State.settleNow]
  split
  · exact .event (.ite (by split; exacts [h.modAxis.loadPosition.setWide, h.modAxis.settleMove, h.modAxis]) h.modAxis.modAxis)
  · exact h

theorem Canonical.accessLater {l : List PortAccess} (h : s.Canonical) : (s.accessLater l).Canonical :=
  h.modSpi

theorem Canonical.access {page off : Nat} {v : Word} (h : s.Canonical) : (s.access page off v).Canonical :=
  .ite h.accessLater h.busWrite.imageRun

theorem Canonical.accessWide {page offHi : Nat} {v : Wide} (h : s.Canonical) : (s.accessWide page offHi v).Canonical :=
  h.access.access

theorem Canonical.accessRead {p o : Nat} {b : Bool} (h : s.Canonical) : (s.accessRead p o b).Canonical :=
  .ite h.frame (.ite h.accessLater (Canonical.frame h.busRead))

theorem Canonical.onAxis {n : Ax} {f : State → State} (h : s.Canonical) (hf : ∀ t, t.Canonical → (f t).Canonical) :
    (s.onAxis n f).Canonical := h.when (hf _)

end Sys2Proof.Machine.State
end
section
/-! SUPPORT. Every command keeps the memories canonical, and so does every step. -/

set_option Elab.async false

namespace Sys2Proof.Machine.State

variable {s : State}

/-- The next state, where there is one, has its memories in canonical form. -/
def KeepsCanonical (o : Host.Outcome State Fault Refusal) : Prop := ∀ t, o = .next t → t.Canonical

theorem KeepsCanonical.next {t : State} (h : t.Canonical) : KeepsCanonical (.next t) := by
  rintro _ ⟨⟩
  exact h

/-- A command's meaning is put together from operations that keep the memories canonical. -/
theorem Canonical.exec (h : s.Canonical) (c : Instr) : KeepsCanonical (exec c s) := by
  cases c with
  | spiSingleRead => exact .next h.timeAt.singleRead.imageRun
  | spiSingleWrite => exact .next h.timeAt.singleWrite.imageRun
  | spiBurstWrite => exact .next h.timeAt.burstWrite.imageRun
  | spiBurstRead => exact .next h.timeAt.burstRead.imageRun
  | frameRejected => exact .next h.frameBad
  | registerWrite | timeApply => exact .next h.timeAt.access
  | keyWrite | unitReset | pstateReqRun | pstateReqDoze | pstateReqStandby | xsDisableWrite | safeEnWrite | enterSafe | ackWakeFail |
      clrAbsentWr | swReset | supplyThresholdWrite | dmaGo | dmaStop | dmaClrErr | clrCounts | winDataWrite | nvsWrite | nvsInvalidate |
      nvsApplyImage | nvsQuery | nvsUndefinedOp | nextSecHWrite | tsyncEnWrite | modeCmd | axisStop | applyRt | setPos | encAlign |
      clrOvershoot | axisCfgWrite | axisEnableWrite | tailWrite | headWrite | clrFault | skip | flush | tableSelWrite | tableDataWrite |
      tableCommit | tableInvalidate | applyChop | readbackWrite | accept | save | discard | start | stop | applyTable | applyDrive | arm |
      disarm | ptCfgWrite | sync | tallyEnableWrite | timerStart | timerStop | load | go | halt | inject | calNow | cnvCfgWrite | run |
      wmonThresholdWrite | apply | tapTest | clrLamp | resume | retry | clrOrphan | confirm | peerReset => exact .next h.access
  | unlockLapse => exact .next h.setUnlock
  | unitResetComplete => exact .next h.setUnitReset
  | groupPageWrite | absentPageWrite => exact .next h.singleWrite.imageRun
  | groupPageRead => exact .next h.singleRead.imageRun
  | hostWatchdogExpiry => exact .next h.watchExpire
  | wdogEscalationReset => exact .next h.watchEscalate
  | dozeEntryComplete => exact .next h.timeAt.dozeIn
  | dozeExitRelock => exact .next h.timeAt.dozeOut
  | standbyEntryComplete => exact .next h.standbyIn
  | wakeSourceQualify => exact .next h.wakeSource
  | wakeTimerExpiry => exact .next h.wakeTimer
  | vcoreReady => exact .next h.vcoreUp
  | hsrcReady => exact .next h.hsrcUp
  | xoQualified => exact .next h.xoUp
  | pllLock => exact .next h.pllUp
  | coreSwitchRun => exact .next h.timeAt.coreUp.imageRun
  | bringupStepTimeout => exact .next h.stepTimeout.imageRun
  | step1Retry => exact .next h.retryStep
  | xsQualified => exact .next h.xsUp
  | xsStartTimeout => exact .next h.xsTimeout
  | clockLoss => exact .next h.timeAt.clockLost
  | clockRelock => exact .next h.timeAt.clockBack
  | clockRelockTimeout => exact .next h.clockGone
  | safeCauseArises => exact .next h.timeAt.modSup.causeArises
  | safeRelease => exact .next h.modSup.access
  | rstNReset => exact .next h.rstLow
  | testEnRise => exact .next h.testRise
  | testEnFall => exact .next h.testFall
  | powerOnReset => exact .next h.deviceReset
  | vmOkChange => exact .next h.vmOkNow
  | vgpOkChange => exact .next h.vgpOkNow
  | vddLowChange => exact .next h.vddLowNow
  | powerFailTrigger => exact .next h.timeAt.powerFail
  | snapshotComplete => exact .next h.snapshotDone.engineGo
  | brakeThresholdCrossing => exact .next h.brakeCross
  | ovTrip => exact .next h.ovReached
  | fabricLinePulse => exact .next h.timeAt.lineDue
  | fabricDelayedPulse => exact .next h.timeAt.lineDelayed
  | swPulse => exact .next (h.access.when (·.modFab))
  | dmaDescriptorLoaded => exact .next h.dmaLoad
  | dmaRequestGrant => exact .next h.timeAt.dmaGrant.imageRun
  | dmaTransferDone => exact .next h.dmaDone
  | sramInitDone | vmBelowBrakeOn => exact .next h.frame
  | scrubVisit => exact .next (h.upset.when (·.scrubAccess))
  | scrubForced => exact .next (h.when (·.memEvent.scrubAccess))
  | eccWriteback => exact .next h.writeBack
  | winAddrWrite | vcmdWrite | jogLimitWrite | posLimitWrite | compareWrite => exact .next h.accessWide
  | winDataRead | tableDataRead | captureLRead => exact .next h.accessRead
  | winDataWriteResume => exact .next h.portResume.imageRun
  | winBufferDrain => exact .next (h.unless (·.winDrain))
  | nvsWriteStart => exact .next (h.unless (·.nvsReadSource))
  | nvsWriteDone => exact .next h.nvsWriteEnd.engineGo
  | nvsInvalidateDone => exact .next h.nvsInvalidateEnd.engineGo
  | imageWaitEnd => exact .next h.imageWaitOver
  | imageApplyDone => exact .next h.imageDone.engineGo
  | orphanWriteStart => exact .next h.orphanStart
  | orphanWriteDone => exact .next h.orphanEnd.engineGo
  | nvLoadDone => exact .next h.loadNow
  | secHRead | mtUsHRead => exact .next h.timeAt.accessRead
  | tsyncEdge => exact .next h.tsyncRise
  | tsyncMissing => exact .next h.pulseMissing
  | forwardStep => exact .next h.forwardNow
  | backwardStep => exact .next h.backwardNow
  | slewEnd => exact .next h.slewEndNow
  | holdEnd => exact .next h.holdEndNow
  | timebaseFault => exact .next h.timebaseFaultNow
  | rampTick => exact .next h.rampTickNow
  | settleCheck => exact .next h.settleNow
  | stopNLatch => exact .next h.stopLatch
  | frzRise => exact .next h.frzUp
  | frzFall => exact .next h.frzDown
  | queueCfgWrite => exact .next (by split; exacts [h.accessWide, h.access])
  | ledgerPrefetch => exact .next h.prefetch
  | waitTimeout => exact .next h.waitOver
  | dwellEnd => exact .next h.dwellOver
  | standstillDelayExpiry => exact .next h.standstill
  | tableCommitDone => exact .next h.tblCommitDone
  | comparatorCrossing => exact .next h.timeAt.crossing
  | chopMinTimeEnd => exact .next h.minTimeEnd
  | chopSlow => exact .next h.chopCut
  | chopPwmPeriod => exact .next h.pwmPeriod
  | charStepDone => exact .next (h.onAxis (fun _ h => h.charStepEnd))
  | charStepTimeout => exact .next (h.onAxis (fun _ h => h.charOverrun))
  | selftestSwitchTimeout => exact .next (h.onAxis (fun _ h => h.selftestFail))
  | scDetect => exact .next h.brgShort
  | gateScDetect => exact .next h.gateShort
  | uvloTrip => exact .next h.uvDown
  | uvloRelease => exact .next h.uvUp
  | vcpUvloArm => exact .next h.vcpArm
  | tripNLow => exact .next h.tripLow
  | tripNHigh => exact .next h.tripHigh
  | drvEnFall => exact .next h.drvFall
  | drvEnRise => exact .next h.drvRise
  | gateEnFall => exact .next h.gateFall
  | gateEnRise => exact .next h.gateRise
  | thermWarn => exact .next h.thermWarn
  | thermShutdown => exact .next h.thermTrip.causeArises
  | thermCool => exact .next h.thermCool
  | autoRetryWaitEnd => exact .next h.autoTestNow
  | retryCntReset => exact .next h.retryReset
  | scOutputCheckEnd => exact .next h.checkEnd.pageEdges
  | firstHeartbeat => exact .next h.heartFirst
  | heartbeatLoss => exact .next h.heartLoss
  | heartbeatResume => exact .next h.heartBack
  | gateStreamStop => exact .next h.streamStop
  | prechargeEnd => exact .next (h.when (·.gateRun.bstWatch))
  | hallCodeChange => exact .next (h.when (·.hallCode.bstWatch))
  | gatePwmPeriod => exact .next (h.when (·.gateDuty.bstWatch))
  | bootRefresh => exact .next h.refreshAt.bstWatch
  | ilim => exact .next h.ilimHit
  | slopeTimeout => exact .next h.slopeLate
  | shxMidpointCrossing => exact .next h.slopeCross
  | hallTimeout => exact .next h.hallQuiet
  | quadratureChange => exact .next (h.encStood.withIndex (fun _ h => h.quadChange))
  | stepEdge => exact .next (h.encStood.withIndex (fun _ h => h.stepChange))
  | encoderIndex => exact .next h.encStood.encIndex
  | countLoad => exact .next (h.withIndex (fun _ h => by split; exacts [h.accessWide, h.inOneCycle (fun _ h => h.accessWide.quadChange)]))
  | speedWindowEnd => exact .next h.windowEnd
  | indexMissing => exact .next h.indexMissingNow
  | emuEdge => exact .next h.emuEmit
  | timerCountTick => exact .next h.tmrTick
  | timerLinkAction => exact .next h.linkAct
  | cnvStartupEnd => exact .next h.startupEnd
  | cnvDelayEnd => exact .next h.delayEnd
  | cnvConversionDone => exact .next h.conversionDone
  | cnvStreamResult => exact .next h.streamResult
  | calSlotStart => exact .next h.calSlot
  | bgForced => exact .next h.bgForcedNow
  | assayPeriodicStart => exact .next h.assayPeriodic
  | wmonCompare => exact .next h.wmonCompareNow
  | flash => exact .next (.ite h.timeAt.access.flashWith h.timeAt.access)
  | exposureTargetReached => exact .next h.exposureEnd
  | flashMaxExpiry => exact .next h.flashExpire
  | fadeStep => exact .next h.fadeStepNow
  | lampPwmPeriod => exact .next h.pwmStart
  | lampVoltageSample => exact .next h.lampSample
  | lampJudgeInterval => exact .next h.judgeInterval
  | headroom => exact .next h.headroomNow
  | feedbackWindowEnd => exact .next h.windowMeans
  | dieTempSample => exact .next h.timeAt.dieTemp.ctrlTemp
  | tempStale => exact .next h.timeAt.tempStaleNow
  | tapTestEnd => exact .next h.tapEnd
  | chainFrameStart => exact .next h.chainFrame
  | chainLevelStep => exact .next h.chainStep
  | lcThermFault => exact .next (h.when (·.thermFault))
  | lcThermRelease => exact .next h.thermRelease
  | helloSend => exact .next h.helloOut
  | helloReceive => exact .next h.helloIn
  | mirrorSend => exact .next h.mirrorOut
  | mirrorReceive => exact .next (.choice h.mirrorIn (·.resetBy) id)
  | leaveReceive => exact .next h.leaveArrives
  | twinLost => exact .next h.twinLostNow
  | orphanLoad => exact .next h.orphanLoadNow
  | vioPresentChange => exact .next h.vioNow
  | pfailNRelease => exact .next h.pfailHigh
  | bridgeLogicSupplyChange => exact .next (h.when (·.logicSupply))
  | linkUpChange => exact .next h.linkChange
  | twinEnableWrite => exact .next h.access.access

end Sys2Proof.Machine.State

namespace Sys2Proof

open Machine Safety

/-- Settles O3: a step runs one command, and every command is put together from operations that keep the memories canonical. -/
theorem stepKeepsMemoriesCanonical : Obligations.StepKeepsMemoriesCanonical := by
  intro s t h hstep
  have hs : s.Canonical := h
  unfold step at hstep
  split at hstep
  · cases hstep
    exact hs
  · exact State.Canonical.exec (s := { s with pending := _ }) hs.frame _ t hstep

end Sys2Proof
end
section
/-! SUPPORT. A rejected frame, the keys and UNIT_RESET (R59, R67, R69, R70). -/

set_option Elab.async false

namespace Sys2Proof.Machine

open Sys2Proof.Safety

/-- KEY unlocks its page by 0x7A5C and locks it by any other value, unless the tables are busy (R69, R70). -/
theorem State.writeReg_key (s : State) {p : Nat} (v : Word) (idle : p ≠ tablePage ∨ s.table.busy = false) :
    s.writeReg p 0x07 v = s.setUnlock p (v == 0x7A5C#16) := by
  have hb : ¬(p = tablePage ∧ s.table.busy = true) := by rcases idle with h | h <;> simp [h]
  simp only [State.writeReg, hb, if_false, if_true]

/-! ### UNIT_RESET -/

theorem State.inUnitReset_setUnitReset (s : State) (r q : Nat) (b : Bool) (hr : r < 64) :
    (s.setUnitReset r b).inUnitReset q = if q = r then b else s.inUnitReset q :=
  State.unlocked_setUnlock { s with unlock := s.unitRst } r q b hr

/-- UNIT_RESET keeps a page's STATUS and clears the rest of it to the Reset values. -/
theorem State.reg_resetPage (s : State) (p q o : Nat) (ho : o < 256) :
    (s.resetPage p (fun o => o == 0)).reg q o = if q = p ∧ o ≠ 0 then resetWord (q * 256 + o) else s.reg q o := by
  have hq : (q * 256 + o) / 256 = q := by omega
  have hm : (q * 256 + o) % 256 = o := by omega
  simp only [State.reg, State.resetPage]
  rw [Store.get_filter_key resetWord s.regs (fun a => a / 256 != p || a % 256 == 0) (q * 256 + o), hq, hm]
  by_cases h : q = p <;> by_cases h0 : o = 0 <;> simp [h, h0]

theorem State.pagePresent_congr {s t : State} (part : t.part = s.part) (p : Nat) : t.pagePresent p = s.pagePresent p := by
  simp only [State.pagePresent, State.hasAxis, part]

/-- A page that was ready and is in UNIT_RESET is not ready. -/
theorem State.target_inUnitReset {s t : State} {p : Nat} (ready : s.target p = .unit) (served : t.served p = s.served p)
    (present : t.pagePresent p = s.pagePresent p) (busy : t.inUnitReset p = true) : t.target p = .notReady := by
  have hb : t.unitBusy p = true := by simp [State.unitBusy, busy]
  unfold State.target at ready ⊢
  rw [served, present, hb]
  split at ready <;> simp_all
  split at ready <;> simp_all
  split at ready <;> simp_all

/-- The pages whose UNIT_RESET waits for nothing: FABRIC, DMA, LCHAIN and WMON. -/
def FreeResetPage (p : Nat) : Prop := p = fabricPage ∨ p = dmaPage ∨ p = lchainPage ∨ p = wmonPage

/-- What an accepted UNIT_RESET of a page leaves. -/
def State.afterUnitReset (s : State) (p : Nat) : State :=
  (((s.setUnlock p false).unitClear p).setUnlock p false).setUnitReset p true

theorem State.inUnitReset_afterUnitReset (s : State) {p : Nat} (lt : p < 64) : (s.afterUnitReset p).inUnitReset p = true :=
  (State.inUnitReset_setUnitReset _ p p true lt).trans (if_pos rfl)

theorem State.unlocked_afterUnitReset (s : State) {p : Nat} (lt : p < 64) : (s.afterUnitReset p).unlocked p = false :=
  (State.unlocked_setUnlock _ p p false lt).trans (if_pos rfl)

namespace FreeResetPage
variable {p : Nat} (hp : FreeResetPage p) (s : State)
include hp

theorem lt : p < 64 := by rcases hp with rfl | rfl | rfl | rfl <;> decide
theorem ne_mem : p ≠ memPage := by rcases hp with rfl | rfl | rfl | rfl <;> decide
theorem ne_table : p ≠ tablePage := by rcases hp with rfl | rfl | rfl | rfl <;> decide
theorem ne_dev : p ≠ devPage := by rcases hp with rfl | rfl | rfl | rfl <;> decide
theorem resetAccepted : s.resetAccepted p = true := by rcases hp with rfl | rfl | rfl | rfl <;> rfl

/-- Its unit is cleared; the axes, the SRAM and the store, the part and the power state stay. -/
theorem afterUnitReset_keeps : (s.afterUnitReset p).axes = s.axes ∧ (s.afterUnitReset p).mem = s.mem ∧
    (s.afterUnitReset p).nvs = s.nvs ∧ (s.afterUnitReset p).part = s.part ∧ (s.afterUnitReset p).pwr = s.pwr := by
  rcases hp with rfl | rfl | rfl | rfl <;> exact ⟨rfl, rfl, rfl, rfl, rfl⟩

theorem reg_afterUnitReset (q o : Nat) (ho : o < 256) :
    (s.afterUnitReset p).reg q o = if q = p ∧ o ≠ 0 then resetWord (q * 256 + o) else s.reg q o := by
  rw [← State.reg_resetPage s p q o ho]
  rcases hp with rfl | rfl | rfl | rfl <;> rfl

theorem offsetWrite_reset (unl : Bool) :
    (s.setUnlock p false).offsetWrite p 0x01 0x0002#16 unl = s.afterUnitReset p := by
  have hd : (p != devPage) = true := bne_iff_ne.mpr hp.ne_dev
  simp [State.offsetWrite, State.ctrlWrite, State.unitResetNow, hp.resetAccepted, hd, State.afterUnitReset]

theorem access_reset (ready : PortReady s p) : s.access p 0x01 0x0002#16 = s.afterUnitReset p := by
  obtain ⟨-, -, nvs, -⟩ := hp.afterUnitReset_keeps s
  have image : ((s.setUnlock p false).offsetWrite p 0x01 0x0002#16 (s.unlocked p)).nvs.image = none := by
    rw [hp.offsetWrite_reset, nvs]
    exact ready.2.1
  rw [State.access_unit ready hp.ne_mem hp.ne_table (by decide) image, hp.offsetWrite_reset]

theorem target_afterUnitReset (ready : s.target p = .unit) : (s.afterUnitReset p).target p = .notReady := by
  obtain ⟨-, -, -, part, pwr⟩ := hp.afterUnitReset_keeps s
  have served : (s.afterUnitReset p).served p = s.served p := by simp only [State.served, pwr]
  exact State.target_inUnitReset ready served (State.pagePresent_congr part p) (s.inUnitReset_afterUnitReset hp.lt)

theorem sameRegsBut_afterUnitReset : SameRegsBut ((List.range 256).map (fun o => (p, o))) s (s.afterUnitReset p) := by
  intro q o ho out
  rw [hp.reg_afterUnitReset s q o ho, if_neg]
  rintro ⟨rfl, -⟩
  exact out (List.mem_map_of_mem (List.mem_range.mpr ho))

end FreeResetPage

end Sys2Proof.Machine

namespace Sys2Proof

open Machine Safety

/-- Settles O6: a rejected frame changes the port's record alone. -/
theorem rejectedFrameOnlyReports : Obligations.RejectedFrameOnlyReports := by
  intro s bytes extra live
  refine ⟨s.frameBad bytes, rfl, ?_⟩
  rw [State.frameBad, if_pos live]
  exact ⟨rfl, rfl, rfl, rfl, rfl⟩

/-- Settles O7: KEY and UNLOCK_LAPSE write one bit of the unlocks; a UNIT_RESET clears its page's registers and holds the page. -/
theorem keysAndUnitResetsReachOnePage : Obligations.KeysAndUnitResetsReachOnePage := by
  refine ⟨fun s page v ready idle => ?_, fun s page => ?_, fun s page ready free => ?_, fun s page => ?_⟩
  · have image : (s.setUnlock page.toNat (v == 0x7A5C#16)).nvs.image = none := ready.2.1
    refine ⟨_, congrArg Host.Outcome.next (s.access_ready _ 0x07 v ready (.inr (by decide))), ?_⟩
    rw [s.writeReg_key v idle, State.imageRun_none _ image]
    refine ⟨rfl, ?_, fun q hq => ?_⟩
    · rw [s.unlocked_setUnlock _ _ _ page.isLt, if_pos rfl]
      rfl
    · rw [s.unlocked_setUnlock _ _ _ page.isLt, if_neg hq]
  · refine ⟨_, rfl, rfl, ?_, fun q hq => ?_⟩
    · rw [s.unlocked_setUnlock _ _ _ page.isLt, if_pos rfl]
    · rw [s.unlocked_setUnlock _ _ _ page.isLt, if_neg hq]
  · have hp : FreeResetPage page.toNat := free
    obtain ⟨axes, mem, nvs, -⟩ := hp.afterUnitReset_keeps s
    refine ⟨_, congrArg Host.Outcome.next (hp.access_reset s ready), s.inUnitReset_afterUnitReset hp.lt,
      s.unlocked_afterUnitReset hp.lt, hp.target_afterUnitReset s ready.2.2, fun o ho => ?_, hp.sameRegsBut_afterUnitReset s,
      axes, mem, nvs⟩
    rw [hp.reg_afterUnitReset s _ _ o.isLt, if_pos ⟨rfl, ho⟩]
  · refine ⟨_, rfl, rfl, ?_, fun q hq => ?_⟩
    · rw [s.inUnitReset_setUnitReset _ _ _ page.isLt, if_pos rfl]
    · rw [s.inUnitReset_setUnitReset _ _ _ page.isLt, if_neg hq]

end Sys2Proof
end
section
/-! SUPPORT. The host window of the SRAM: its address, its buffer and the words that leave it (R79, R134, R141, R142). -/

set_option Elab.async false

namespace Sys2Proof.Machine

open Sys2Proof.Safety

/-! ### Wide registers -/

theorem Wide.wide_hi_lo (v : Wide) : v.hi.wide v.lo = v := by
  apply BitVec.eq_of_getLsbD_eq
  intro i hi
  simp only [Word.wide, Wide.hi, Wide.lo, BitVec.getLsbD_append, BitVec.getLsbD_extractLsb']
  by_cases h : i < 16
  · simp [h]
  · simp [h, show i - 16 < 16 by omega, show 16 + (i - 16) = i by omega]

theorem State.wide_setWide_same (s : State) (p o : Nat) (v : Wide) : (s.setWide p o v).wide p o = v := by
  rw [State.wide, State.setWide, State.reg_setReg_other _ _ _ _ _ _ (by omega), State.reg_setReg_same, State.reg_setReg_same,
    Wide.wide_hi_lo]

theorem sameRegsBut_setWide (s : State) (p o : Nat) (v : Wide) (ho : o + 1 < 256) :
    SameRegsBut [(p, o), (p, o + 1)] s (s.setWide p o v) := by
  intro q r hr hne
  simp only [List.mem_cons, List.not_mem_nil, or_false, not_or] at hne
  obtain ⟨high, low⟩ := hne
  rw [State.setWide, sameRegsBut_setReg _ p (o + 1) _ ho q r hr (by simpa using low),
    sameRegsBut_setReg _ p o _ (by omega) q r hr (by simpa using high)]

/-- A held low word is the last one written (R79). -/
theorem State.heldLow_holdLow (s : State) (p o : Nat) (v : Word) : (s.holdLow p o v).heldLow p o = some v := by
  have gone : ∀ x ∈ s.lows.filter (fun e => e.1 != p * 256 + o), x.1 ≠ p * 256 + o :=
    fun x hx => bne_iff_ne.mp (List.mem_filter.mp hx).2
  simp only [State.heldLow, State.holdLow, Store.insert_eq]
  rw [find_insertPair_same (p * 256 + o, v) _ gone]
  rfl

/-! ### The window's address -/

/-- The address that a word at `a` leaves: with INC the next, from the last word of the SRAM to 0 (R141). -/
def State.addrAfter (s : State) (a : Nat) : Wide :=
  if s.regBit memPage 0x0B 0 then BitVec.ofNat 32 (if a = 0x7FFFE then 0 else a + 2) else s.wide memPage 0x08

theorem winNext_inSram {a : Nat} (h : a < 0x80000) : winNext a = if a = 0x7FFFE then 0 else a + 2 := by
  unfold winNext
  split
  · rfl
  · rw [if_neg (by omega), Nat.mod_eq_of_lt (by omega)]

theorem State.winAdvance_only_regs (s : State) : s.winAdvance = { s with regs := s.winAdvance.regs } := by
  unfold State.winAdvance
  split <;> rfl

theorem State.wide_winAdvance (s : State) (h : s.winAddr < 0x80000) : s.winAdvance.wide memPage 0x08 = s.addrAfter s.winAddr := by
  rw [State.winAdvance, State.addrAfter, winNext_inSram h]
  split
  · exact s.wide_setWide_same _ _ _
  · rfl

theorem State.sameRegsBut_winAdvance (s : State) : SameRegsBut [(memPage, 0x08), (memPage, 0x09)] s s.winAdvance := by
  unfold State.winAdvance
  split
  · exact sameRegsBut_setWide s memPage 0x08 _ (by decide)
  · exact fun _ _ _ _ => rfl

theorem inSram_iff (a : Nat) : inSram a = true ↔ a < 0x80000 := decide_eq_true_iff

/-! ### Reading the SRAM -/

theorem State.sramRead_plain (s : State) (a : Nat) (m : Master) (he : s.mem.sramErr = []) (hb : s.mem.winBuf = []) :
    s.sramRead a m = (readWord sramDefault s.mem.sram a, false, s) := by
  simp [State.sramRead, he, hb, errMask]

/-- The last word buffered is what its address reads as (R141). -/
theorem State.sramRead_buffered (s : State) {a : Nat} {w : Word} (m : Master) (h : s.mem.winBuf.getLast? = some (a, w)) :
    s.sramRead a m = (w, false, s) := by
  obtain ⟨l, hl⟩ := List.getLast?_eq_some_iff.mp h
  simp [State.sramRead, hl]

/-- What a read of the SRAM leaves alone: the bytes of the SRAM and the store, the words buffered, the image and the snapshot, the
axes, the pins, and the commands to come. -/
structure State.SameData (s t : State) : Prop where
  winBuf : t.mem.winBuf = s.mem.winBuf
  sram : t.mem.sram = s.mem.sram
  mram : t.nvs.mram = s.nvs.mram
  image : t.nvs.image = s.nvs.image
  axes : t.axes = s.axes
  snap : t.nvs.snap = s.nvs.snap
  pins : t.pins = s.pins
  pending : t.pending = s.pending

theorem State.SameData.refl (s : State) : s.SameData s := ⟨rfl, rfl, rfl, rfl, rfl, rfl, rfl, rfl⟩

theorem State.SameData.trans {s t u : State} (h : s.SameData t) (k : t.SameData u) : s.SameData u :=
  ⟨k.winBuf.trans h.winBuf, k.sram.trans h.sram, k.mram.trans h.mram, k.image.trans h.image, k.axes.trans h.axes,
    k.snap.trans h.snap, k.pins.trans h.pins, k.pending.trans h.pending⟩

theorem State.sameData_draw (s : State) (k : Nat) : s.SameData (s.draw k).2 := ⟨rfl, rfl, rfl, rfl, rfl, rfl, rfl, rfl⟩

theorem State.sameData_setEcq (s : State) (q : List (Nat × Word)) : s.SameData { s with mem := { s.mem with ecq := q } } :=
  ⟨rfl, rfl, rfl, rfl, rfl, rfl, rfl, rfl⟩

theorem State.sameData_setJob (s : State) (f : Nvs → NvsJob) : s.SameData (s.modNvs (fun n => { n with job := f n })) :=
  ⟨rfl, rfl, rfl, rfl, rfl, rfl, rfl, rfl⟩

theorem State.sameData_recordCe (s : State) (a : Nat) : s.SameData (s.recordCe a) := ⟨rfl, rfl, rfl, rfl, rfl, rfl, rfl, rfl⟩

theorem State.sameData_recordUe (s : State) (a : Nat) (m : Master) : s.SameData (s.recordUe a m) := by
  unfold State.recordUe
  dsimp only
  split <;> exact ⟨rfl, rfl, rfl, rfl, rfl, rfl, rfl, rfl⟩

/-- What a disturbed word draws. -/
theorem State.sameData_drawn (s : State) (c : Bool) (k l : Nat) : s.SameData
    (if c then (if c then s.draw k else (0, s)).2.draw l else (0, (if c then s.draw k else (0, s)).2)).2 := by
  cases c
  · exact .refl s
  · exact (s.sameData_draw k).trans (State.sameData_draw _ l)

/-- A read of the SRAM reports what the check finds, and changes no data (R134). -/
theorem State.sameData_sramRead (s : State) (a : Nat) (m : Master) : s.SameData (s.sramRead a m).2.2 := by
  dsimp only [State.sramRead]
  split
  · exact .refl s
  · split
    · exact .refl s
    · split
      · exact s.sameData_drawn _ _ _
      · exact ((s.sameData_drawn _ _ _).trans (State.sameData_recordCe _ a)).trans (State.sameData_setEcq _ _)
      · exact (s.sameData_drawn _ _ _).trans (State.sameData_recordUe _ a m)

theorem State.sameData_rereadAt (src : Nat) (l : List Nat) (ws : List Word) (s : State) :
    s.SameData (s.rereadAt src l ws).2 := by
  induction l generalizing s ws with
  | nil => exact .refl s
  | cons k l ih => exact (s.sameData_sramRead _ _).trans (ih _ _)

theorem State.sameData_nvsReadTo (s : State) (k : Nat) : s.SameData (s.nvsReadTo k) := by
  unfold State.nvsReadTo
  split
  · exact (State.sameData_rereadAt _ _ _ s).trans (State.sameData_setJob _ _)
  · exact .refl s

/-- Before a word of its source changes, a WRITE in progress may read on. -/
theorem State.sameData_nvsCatch (s : State) (a : Nat) : s.SameData (s.nvsCatch a) := by
  unfold State.nvsCatch
  split
  · split
    · dsimp only
      split
      · exact (s.sameData_draw _).trans (State.sameData_nvsReadTo _ _)
      · exact ((s.sameData_draw _).trans (State.sameData_nvsReadTo _ _)).trans (State.sameData_setJob _ _)
    · exact .refl s
  · exact .refl s

theorem State.nvsCatch_notSource {s : State} {a : Nat} (h : notSource s a = true) : s.nvsCatch a = s := by
  unfold State.nvsCatch
  split
  · next job =>
    rw [notSource, job, decide_eq_true_eq] at h
    rw [if_neg (by omega)]
  · rfl

/-! ### Accesses to WIN_DATA -/

theorem State.writeReg_winData (s : State) (v : Word) : s.writeReg memPage 0x0A v = (s.setUnlock memPage false).winWrite v :=
  s.writeReg_unit _ _ _ (by decide) (.inl (by decide))

theorem State.mustWait_room (s : State) (v : Word) (room : s.mem.winBuf.length < 64) :
    s.mustWait (.write memPage 0x0A v) = false := by simp [State.mustWait, State.winFull, Nat.not_le.mpr room]

section Window
variable {s : State} (ready : PortReady s memPage)
include ready

theorem State.accessRead_winData :
    s.accessRead memPage 0x0A false = { s.winRead.2 with rdata := s.winRead.1 } := by
  obtain ⟨waiting, -, unit⟩ := ready
  simp only [State.accessRead, State.busRead, unit, waiting]
  rfl

theorem State.accessRead_sram (inside : s.winAddr < 0x80000) {w : Word} (word : s.sramRead s.winAddr .window = (w, false, s)) :
    s.accessRead memPage 0x0A false = { s.winAdvance with rdata := w } := by
  rw [State.accessRead_winData ready, State.winRead]
  simp only [if_pos ((inSram_iff _).mpr inside), word]

theorem State.access_winData (v : Word) (room : s.mem.winBuf.length < 64) :
    s.access memPage 0x0A v = ((s.setUnlock memPage false).winWrite v).imageRun := by
  rw [s.access_now _ _ v ready (s.mustWait_room v room), s.writeReg_winData]

/-- A word for WIN_DATA that finds the buffer full is kept by the port (R142). -/
theorem State.access_winData_full (v : Word) (inside : s.winAddr < 0x80000) (full : 64 ≤ s.mem.winBuf.length) :
    s.access memPage 0x0A v = { s with spi := { s.spi with waiting := [.write memPage 0x0A v] } } := by
  obtain ⟨waiting, -, unit⟩ := ready
  have wait : s.mustWait (.write memPage 0x0A v) = true := by
    simp [State.mustWait, unit, State.winFull, (inSram_iff _).mpr inside, full]
  have word : s.burstAccesses memPage 0x0A [v] = [.write memPage 0x0A v] := by
    simp only [State.burstAccesses, unit]
    rfl
  rw [State.access, if_pos (.inr wait), word, State.accessLater, State.modSpi]
  simp only [waiting, List.nil_append]

/-- The low word of WIN_ADDR is held until the high one takes both (R79). -/
theorem State.accessWide_winAddr (a : Wide) : s.accessWide memPage 0x08 a
    = (((((s.setUnlock memPage false).holdLow memPage 0x09 a.lo).setUnlock memPage false).dropLow memPage 0x09).setWide memPage 0x08
        a) := by
  let u := (s.setUnlock memPage false).holdLow memPage 0x09 a.lo
  have low : s.access memPage 0x09 a.lo = u := by
    rw [s.access_ready _ _ _ ready (.inr (by decide)), s.writeReg_unit _ _ _ (by decide) (.inl (by decide)), State.imageRun_none]
    · rfl
    · exact ready.2.1
  have held : (u.setUnlock memPage false).heldLow memPage 0x09 = some a.lo := State.heldLow_holdLow _ _ _ _
  have ready' : PortReady u memPage := ready
  have high : (u.setUnlock memPage false).offsetWrite memPage 0x08 a.hi (u.unlocked memPage)
      = ((u.setUnlock memPage false).dropLow memPage 0x09).setWide memPage 0x08 a := by
    show ((u.setUnlock memPage false).dropLow memPage 0x09).setWide memPage 0x08
      (a.hi.wide (((u.setUnlock memPage false).heldLow memPage 0x09).getD _)) = _
    rw [held, Option.getD_some, Wide.wide_hi_lo]
  rw [State.accessWide, low, u.access_ready _ _ _ ready' (.inr (by decide)),
    u.writeReg_unit _ _ _ (by decide) (.inl (by decide)), high, State.imageRun_none]
  exact ready.2.1

end Window

/-- The state with a word for the window at the end of its buffer. -/
def State.winBuffered (s : State) (v : Word) : State :=
  (s.setUnlock memPage false).modMem (fun m => { m with winBuf := m.winBuf ++ [(s.winAddr, v)] })

/-- A word that is not in the source of a WRITE goes to the buffer, and the address advances. -/
theorem State.writeReg_notSource {s : State} (v : Word) (inside : s.winAddr < 0x80000) (out : notSource s s.winAddr = true) :
    s.writeReg memPage 0x0A v = (s.winBuffered v).winAdvance := by
  have out' : notSource (s.setUnlock memPage false) (s.setUnlock memPage false).winAddr = true := out
  have inside' : inSram (s.setUnlock memPage false).winAddr = true := (inSram_iff _).mpr inside
  rw [s.writeReg_winData]
  simp only [State.winWrite, if_pos inside', State.nvsCatch_notSource out']
  rfl

/-- The word that the port kept goes on once there is room (R142). -/
theorem State.portResume_winData {s : State} {v : Word} (kept : s.spi.waiting = [.write memPage 0x0A v])
    (unit : s.target memPage = .unit) (room : s.mem.winBuf.length < 64) (inside : s.winAddr < 0x80000)
    (out : notSource s s.winAddr = true) :
    s.portResume = (s.winBuffered v).winAdvance.modSpi (fun p => { p with waiting := [] }) := by
  have late : s.noteLate memPage = s := by simp [State.noteLate, unit]
  have word : s.portDo (.write memPage 0x0A v) = (s.winBuffered v).winAdvance := by
    rw [State.portDo, late, State.busWrite, unit]
    exact State.writeReg_notSource v inside out
  rw [State.portResume, if_neg (by simp [kept]), kept, State.portRun, s.mustWait_room v room, word]
  rfl

/-- A word for the window: its buffer takes it, and no data changes yet. -/
theorem State.winWrite_buffers (s : State) (v : Word) (inside : s.winAddr < 0x80000) :
    (s.modMem (fun m => { m with winBuf := m.winBuf ++ [(s.winAddr, v)] })).SameData (s.winWrite v) := by
  have same := s.sameData_nvsCatch s.winAddr
  have run : s.winWrite v
      = ((s.nvsCatch s.winAddr).modMem (fun m => { m with winBuf := m.winBuf ++ [(s.winAddr, v)] })).winAdvance := by
    simp only [State.winWrite, if_pos ((inSram_iff _).mpr inside)]
  rw [run, State.winAdvance_only_regs]
  exact ⟨congrArg (· ++ [(s.winAddr, v)]) same.winBuf, same.sram, same.mram, same.image, same.axes, same.snap,
    same.pins, same.pending⟩

/-! ### Words that reach the SRAM -/

theorem errMask_clearErr (e : List (Nat × BitVec 22)) (a : Nat) : errMask (clearErr e a) a = 0#22 := by
  simp only [errMask, clearErr, find_filter_same]

end Sys2Proof.Machine

namespace Sys2Proof

open Machine Safety

/-- Settles O20: a word for the window goes to the end of its buffer, and a drain puts the first one into the SRAM. -/
theorem windowReachesTheSramInOrder : Obligations.WindowReachesTheSramInOrder := by
  refine ⟨?_, ?_, ?_, ?_, ?_, ?_, ?_, ?_, ?_⟩
  · intro s a ready
    refine ⟨_, congrArg Host.Outcome.next (State.accessWide_winAddr ready a), rfl, State.wide_setWide_same _ _ _ _, ?_⟩
    exact sameRegsBut_setWide _ memPage 0x08 a (by decide)
  · intro s ready inside clean empty
    refine ⟨_, congrArg Host.Outcome.next (State.accessRead_sram ready inside (s.sramRead_plain _ _ clean empty)), ?_, ?_, ?_⟩
    · rw [s.winAdvance_only_regs]
    · exact s.wide_winAdvance inside
    · exact s.sameRegsBut_winAdvance
  · intro s ready inside last
    obtain ⟨⟨a, w⟩, hw, rfl⟩ := Option.map_eq_some_iff.mp last
    refine ⟨_, congrArg Host.Outcome.next (State.accessRead_sram ready inside (s.sramRead_buffered _ hw)), ?_, ?_⟩
    · rw [hw]
      rfl
    · rw [s.winAdvance_only_regs]
  · intro s v ready inside room
    have same := (s.setUnlock memPage false).winWrite_buffers v inside
    refine ⟨_, congrArg Host.Outcome.next (State.access_winData ready v room), ?_⟩
    rw [State.imageRun_none _ (same.image.trans ready.2.1)]
    exact ⟨same.winBuf, same.sram, same.mram, same.axes⟩
  · intro s v ready inside room out
    let u := s.winBuffered v
    have only := u.winAdvance_only_regs
    have run : s.access memPage 0x0A v = u.winAdvance := by
      rw [s.access_now _ _ v ready (s.mustWait_room v room), State.writeReg_notSource v inside out, State.imageRun_none]
      rw [only]
      exact ready.2.1
    refine ⟨_, congrArg Host.Outcome.next run, ?_, u.wide_winAdvance inside, u.sameRegsBut_winAdvance⟩
    rw [only]
    rfl
  · intro s v ready inside full
    exact ⟨_, congrArg Host.Outcome.next (State.access_winData_full ready v inside full), rfl⟩
  · intro s v ready inside room out
    let w : State := { s with spi := { s.spi with waiting := [.write memPage 0x0A v] } }
    let u := w.winBuffered v
    have only := u.winAdvance_only_regs
    have run : w.portResume = u.winAdvance.modSpi (fun p => { p with waiting := [] }) :=
      State.portResume_winData rfl ready.2.2 room inside out
    refine ⟨_, congrArg (fun t : State => Host.Outcome.next t.imageRun) run, ?_⟩
    rw [State.imageRun_none]
    · refine ⟨?_, ?_, u.sameRegsBut_winAdvance⟩
      · show u.winAdvance.mem = _
        rw [only]
        rfl
      · show { u.winAdvance.spi with waiting := [] } = s.spi
        rw [only, ← ready.1]
        rfl
    · show u.winAdvance.nvs.image = none
      rw [only]
      exact ready.2.1
  · intro s a v l idle
    have run : exec .winBufferDrain { s with mem := { s.mem with winBuf := (a, v) :: l } }
        = .next ({ s with mem := { s.mem with winBuf := l } }.sramPut a v) := by
      show Host.Outcome.next (if s.mem.init then _ else _) = _
      rw [idle]
      rfl
    refine ⟨_, run, rfl, fun e he => ?_, readWord_writeWord _ _ _ _, errMask_clearErr _ _, fun b hb => ?_⟩
    · obtain ⟨listed, other⟩ := List.mem_filter.mp he
      exact ⟨listed, bne_iff_ne.mp other⟩
    · exact get_writeWord_other _ _ _ _ _ (by omega) (by omega)
  · intro s a w q e _
    exact ⟨_, rfl, rfl, readWord_writeWord _ _ _ _, rfl, rfl⟩

end Sys2Proof
end
section
/-! SUPPORT. Words made of flags, bit by bit. -/

set_option Elab.async false

namespace Sys2Proof.Machine

theorem getLsbD_bitWord (k i : Nat) : (bitWord k).getLsbD i = (decide (i = k) && decide (i < 16)) := by
  rw [bitWord, BitVec.getLsbD_shiftLeft, BitVec.getLsbD_one, Bool.eq_iff_iff]
  simp
  omega

theorem getLsbD_flag (b : Bool) (k i : Nat) : (flag b k).getLsbD i = (b && decide (i = k) && decide (i < 16)) := by
  cases b <;> simp [flag, getLsbD_bitWord]

theorem getLsbD_flagWord (l : List Bool) (k i : Nat) (hi : i < 16) :
    (flagWord l k).getLsbD i = (decide (k ≤ i) && (l[i - k]?).getD false) := by
  induction l generalizing k with
  | nil => simp [flagWord]
  | cons b l ih =>
    rw [flagWord, BitVec.getLsbD_or, getLsbD_flag, ih]
    rcases Nat.lt_trichotomy i k with h | rfl | h
    · simp [show i ≠ k by omega, show ¬k ≤ i by omega, show ¬k + 1 ≤ i by omega]
    · simp [hi]
    · obtain ⟨j, rfl⟩ : ∃ j, i = k + 1 + j := ⟨i - (k + 1), by omega⟩
      have h0 : k + 1 + j ≠ k := by omega
      have h1 : k + 1 + j - k = j + 1 := by omega
      simp [h0, h1]
      omega

end Sys2Proof.Machine
end
section
/-! SUPPORT. What brings motion to a stop: STOP_N, FRZ, and the host watchdog (R80, R81, R107, R194 to R196). -/

set_option Elab.async false

namespace Sys2Proof.Machine

open Sys2Proof.Safety

/-! ### The pins and the ledgers beside an axis's operations -/

/-- The pins, and the ledgers of the other axes. -/
def State.beside (s : State) (m : Ax) : Pins × (Ax → Option Ledger) := (s.pins, fun n => if n = m then none else some (s.ledger n))

section Beside
variable {s t : State} {m n : Ax}

theorem State.pins_of_beside (h : t.beside m = s.beside m) : t.pins = s.pins := congrArg Prod.fst h

theorem State.ledger_of_beside (h : t.beside m = s.beside m) (hn : n ≠ m) : t.ledger n = s.ledger n := by
  have hl := congrFun (congrArg Prod.snd h) n
  simpa only [State.beside, if_neg hn, Option.some.injEq] using hl

theorem State.ledger_modLedger_same (s : State) (n : Ax) (f : Ledger → Ledger) : (s.modLedger n f).ledger n = f (s.ledger n) := by
  simp [State.modLedger, State.setLedger, State.ledger]

theorem State.ledger_modLedger_other (s : State) (f : Ledger → Ledger) (h : n ≠ m) : (s.modLedger m f).ledger n = s.ledger n := by
  have hv : m.val ≠ n.val := fun e => h (Fin.ext e).symm
  simp [State.modLedger, State.setLedger, State.ledger, hv]

variable (s m)

@[simp] theorem State.beside_modAxis (f : Axis → Axis) : (s.modAxis n f).beside m = s.beside m := (rfl)
@[simp] theorem State.beside_modBrg (f : Bridge → Bridge) : (s.modBrg n f).beside m = s.beside m := (rfl)
@[simp] theorem State.beside_modPh (p : Phase) (f : ChopPh → ChopPh) : (s.modPh n p f).beside m = s.beside m := (rfl)
@[simp] theorem State.beside_setReg (p o : Nat) (v : Word) : (s.setReg p o v).beside m = s.beside m := (rfl)
@[simp] theorem State.beside_event (p k : Nat) : (s.event p k).beside m = s.beside m := (rfl)
@[simp] theorem State.beside_ledgFlag (k : Nat) : (s.ledgFlag n k).beside m = s.beside m := (rfl)
@[simp] theorem State.beside_bridgeOff : (s.bridgeOff n).beside m = s.beside m := (rfl)

@[simp] theorem State.beside_modLedger (f : Ledger → Ledger) : (s.modLedger m f).beside m = s.beside m := by
  refine Prod.ext rfl (funext fun n => ?_)
  show (if n = m then none else some ((s.modLedger m f).ledger n)) = if n = m then none else some (s.ledger n)
  split
  · rfl
  · next h => rw [s.ledger_modLedger_other f h]

@[simp] theorem State.beside_ite (c : Prop) {_ : Decidable c} (t : State) :
    (if c then s else t).beside m = if c then s.beside m else t.beside m := apply_ite (fun u : State => u.beside m) c s t

@[simp] theorem State.beside_brgFollow : (s.brgFollow n).beside m = s.beside m :=
  foldl_keeps (fun u => u.beside m) _ _ s (fun u j _ hu => by simpa [State.brgHalfFollow, State.phEdge] using hu)

@[simp] theorem State.beside_enterMode (k : Mode) : (s.enterMode m k).beside m = s.beside m := by
  cases k <;> simp [State.enterMode, State.ledgerLeave, State.ledgerEnter, State.followEnter]

@[simp] theorem State.beside_startStop (k : Mode) : (s.startStop m k).beside m = s.beside m := by
  unfold State.startStop
  dsimp only
  split
  · split <;> simp [State.ledgerPause, State.stopDone]
  · rfl

@[simp] theorem State.beside_charInterrupt (k : Mode) : (s.charInterrupt m k).beside m = s.beside m := by
  simp [State.charInterrupt, State.charEndIn]

@[simp] theorem State.beside_haltAxis : (s.haltAxis m).beside m = s.beside m := by simp [State.haltAxis]

@[simp] theorem State.beside_freezeAxis : (s.freezeAxis m).beside m = s.beside m := by
  simp [State.freezeAxis, State.ledgerPause]

@[simp] theorem State.outside_charInterrupt (k : Mode) : (s.charInterrupt m k).outside m = s.outside m := by
  simp [State.charInterrupt]

@[simp] theorem State.outside_haltAxis : (s.haltAxis m).outside m = s.outside m := by simp [State.haltAxis]

@[simp] theorem State.outside_freezeAxis : (s.freezeAxis m).outside m = s.outside m := by
  simp [State.freezeAxis, State.ledgerPause]

@[simp] theorem State.backdrop_haltAxis : (s.haltAxis m).backdrop = s.backdrop := by simp [State.haltAxis]

/-! ### The gate port stops -/

@[simp] theorem State.motors_gateStop : s.gateStop.motors = s.motors := by
  unfold State.gateStop
  split
  · simp
  · split <;> simp
  · rfl

@[simp] theorem State.backdrop_gateStopDone : s.gateStopDone.backdrop = s.backdrop := by
  simp [State.gateStopDone, State.gateQuiet, State.gateEvent]

@[simp] theorem State.backdrop_gateStop : s.gateStop.backdrop = s.backdrop := by
  unfold State.gateStop
  split
  · simp
  · split <;> simp
  · rfl

theorem State.benches_gateEnter (st : GState) : (s.gateEnter st).pins = s.pins ∧ (s.gateEnter st).ledgers = s.ledgers := by
  have follow (u : State) : (u.gateFollow.pins, u.gateFollow.ledgers) = (u.pins, u.ledgers) :=
    foldl_keeps (fun u => (u.pins, u.ledgers)) _ _ u (fun v j _ hv => by simpa [State.gateHalfFollow] using hv)
  unfold State.gateEnter
  split
  · exact ⟨rfl, rfl⟩
  · exact Prod.ext_iff.mp (follow _)

theorem State.benches_gateStop : s.gateStop.pins = s.pins ∧ s.gateStop.ledgers = s.ledgers := by
  unfold State.gateStop
  split
  · exact State.benches_gateEnter _ _
  · split
    · exact State.benches_gateEnter _ _
    · exact State.benches_gateEnter _ _
  · exact ⟨rfl, rfl⟩

end Beside

/-! ### A moving axis begins a STOP -/

/-- An axis in a moving mode at a velocity other than 0 that is not stopping. -/
structure Axis.Runs (a : Axis) : Prop where
  moving : a.mode.moving = true
  free : a.stopping = none
  fast : a.chan.v ≠ 0

/-- A STOP that ends in HOLD has begun, from the same mode and motion. -/
structure Axis.Halts (a b : Axis) : Prop where
  stopping : b.stopping = some .hold
  mode : b.mode = a.mode
  chan : b.chan = a.chan
  frozen : b.frozen = a.frozen

@[simp] theorem Ledger.pause_pause (l : Ledger) : l.pause.pause = l.pause := by
  by_cases h : l.st = .fault <;> cases hr : l.run <;> simp [Ledger.pause, h, hr]

section Stop
variable {s : State} {n : Ax}

theorem State.axis_charInterrupt (s : State) (n : Ax) (m : Mode) :
    ∃ c, (s.charInterrupt n m).axis n = { s.axis n with char := c } := by
  unfold State.charInterrupt State.charEndIn
  split
  · exact ⟨_, s.axis_modAxis_same n _⟩
  · exact ⟨_, rfl⟩

theorem State.ledger_charInterrupt (s : State) (n : Ax) (m : Mode) : (s.charInterrupt n m).ledger n = s.ledger n := by
  unfold State.charInterrupt State.charEndIn
  split <;> rfl

theorem State.startStop_runs (h : (s.axis n).Runs) (m : Mode) : s.startStop n m
    = (if (s.axis n).mode = .ledger then s.ledgerPause n else s).modAxis n (fun a => { a with
        goal := .stop, lim := (if (s.axis n).mode = .ledger then s.ledgerPause n else s).stopLimits n
        stopping := some m, reversing := false, correcting := false, settleLeft := none }) := by
  simp only [State.startStop, if_pos h.moving, h.free, if_neg h.fast]

theorem State.axis_haltAxis (h : (s.axis n).Runs) : (s.axis n).Halts ((s.haltAxis n).axis n) := by
  obtain ⟨c, hc⟩ := State.axis_charInterrupt (s.startStop n .hold) n .hold
  have before : (if (s.axis n).mode = .ledger then s.ledgerPause n else s).axis n = s.axis n := by split <;> rfl
  rw [State.haltAxis, hc, State.startStop_runs h, State.axis_modAxis_same, before]
  exact ⟨rfl, rfl, rfl, rfl⟩

theorem State.ledger_haltAxis (h : (s.axis n).Runs) : ((s.haltAxis n).ledger n).pause = (s.ledger n).pause := by
  rw [State.haltAxis, State.ledger_charInterrupt, State.startStop_runs h]
  show ((if (s.axis n).mode = .ledger then s.ledgerPause n else s).ledger n).pause = _
  split
  · rw [State.ledgerPause, State.ledger_modLedger_same, Ledger.pause_pause]
  · rfl

/-- A freeze of a running axis with FRZ_EN (R196). -/
theorem State.freezeAxis_runs (en : s.regBit (axPage n) 0x0B 2 = true) (h : (s.axis n).Runs) :
    ((s.freezeAxis n).axis n).frozen = some (s.axis n).mode ∧ ((s.freezeAxis n).axis n).stopping = some .hold ∧
      ((s.freezeAxis n).axis n).chan = (s.axis n).chan ∧ (s.freezeAxis n).ledger n = (s.ledger n).pause := by
  let u := s.modAxis n (fun a => { a with frozen := some (s.axis n).mode, noResume := s.stopN })
  have hu : u.axis n = { s.axis n with frozen := some (s.axis n).mode, noResume := s.stopN } := s.axis_modAxis_same n _
  have runs : (u.axis n).Runs := by
    rw [hu]
    exact ⟨h.moving, h.free, h.fast⟩
  have halts := State.axis_haltAxis runs
  have run : s.freezeAxis n = (u.haltAxis n).ledgerPause n := by
    simp only [State.freezeAxis, if_pos en, if_pos h.moving]
    rfl
  rw [run]
  refine ⟨halts.frozen.trans (by rw [hu]), halts.stopping, halts.chan.trans (by rw [hu]), ?_⟩
  rw [State.ledgerPause, State.ledger_modLedger_same]
  exact State.ledger_haltAxis runs

theorem State.freezeAxis_off (en : s.regBit (axPage n) 0x0B 2 = false) : s.freezeAxis n = s := by
  simp [State.freezeAxis, en]

end Stop

/-- The state of one axis with its registers and its ledger. -/
def State.station (s : State) (n : Ax) : (Shared × Drive) × Ledger := (s.about n, s.ledger n)

theorem State.station_of_beside {s t : State} {m n : Ax} (ho : t.outside m = s.outside m) (hb : t.beside m = s.beside m) (hn : m ≠ n) :
    t.station n = s.station n :=
  Prod.ext (State.about_of_outside ho hn.symm) (State.ledger_of_beside hb hn.symm)

theorem State.station_gateStop (s : State) (n : Ax) : s.gateStop.station n = s.station n :=
  Prod.ext (State.about_of_motors s.motors_gateStop n) (by
    show s.gateStop.ledger n = s.ledger n
    simp only [State.ledger, s.benches_gateStop.2])

end Sys2Proof.Machine
end
section
/-! SUPPORT. The settle check (R201), and a reset that finds the engine of the store at work (R107). -/

set_option Elab.async false

namespace Sys2Proof.Machine

open Sys2Proof.Safety

/-! ### Position and electrical angle -/

theorem angleOf_ofsFor (inv : Bool) {ang : Nat} (h : ang < 4096) (pos : Int) : angleOf inv (ofsFor inv ang pos) pos = ang := by
  cases inv <;> simp only [angleOf, ofsFor] <;> grind

theorem angleOf_lt (inv : Bool) (ofs : Nat) (pos : Int) : angleOf inv ofs pos < 4096 := by
  unfold angleOf
  omega

/-- A position loaded changes no angle (R184). -/
theorem State.loadPosition_axis (s : State) (n : Ax) (pos : Int) :
    (s.loadPosition n pos).axis n = { s.axis n with
      chan := { (s.axis n).chan with p := pos * Ramp.microstep }, ofs := ofsFor (s.dirInv n) (s.angle n) pos } :=
  s.axis_modAxis_same n _

theorem State.position_loadPosition (s : State) (n : Ax) (pos : BitVec 32) : (s.loadPosition n pos.toInt).position n = pos.toInt := by
  have scale : Ramp.microstep ≠ 0 := by decide
  rw [State.position, State.loadPosition_axis, Ramp.position, Int.mul_ediv_cancel _ scale, BitVec.ofInt_toInt]

theorem State.angle_loadPosition (s : State) (n : Ax) (pos : BitVec 32) : (s.loadPosition n pos.toInt).angle n = s.angle n := by
  have inv : (s.loadPosition n pos.toInt).dirInv n = s.dirInv n := rfl
  rw [State.angle, s.position_loadPosition n pos, inv, State.loadPosition_axis]
  exact angleOf_ofsFor _ (angleOf_lt _ _ _) _

/-! ### A move that begins -/

/-- An axis with a move that begins (R189, R201). -/
def Axis.planned (a : Axis) (t : Int) (l run : Limits) : Axis := { a with
  stall := { a.stall with stalled := false }, settleLeft := none, goal := .pos t, target := t, lim := l
  reversing := Ramp.mustReverse a.chan t run }

theorem State.axis_eventIf (s : State) (c : Bool) (p k : Nat) (n : Ax) : (s.eventIf c p k).axis n = s.axis n := by
  cases c <;> rfl

theorem State.axis_profileStart (s : State) (n : Ax) : (s.profileStart n).axis n
    = { s.axis n with stall := { (s.axis n).stall with stalled := false }, settleLeft := none } := by
  show (s.modAxis n (fun a => { a with stall := { a.stall with stalled := false }, settleLeft := none })).axis n = _
  exact s.axis_modAxis_same n _

theorem State.axis_planMove (s : State) (n : Ax) (t : Int) (l : Limits) :
    ∃ run, (s.planMove n t l).axis n = (s.axis n).planned (s.clampTarget n t).1 l run := by
  unfold State.planMove
  rcases s.clampTarget n t with ⟨t', hit⟩
  refine ⟨((s.eventIf hit (axPage n) 3).profileStart n).runLimits l, ?_⟩
  rw [State.axis_modAxis_same, State.axis_profileStart, State.axis_eventIf]
  rfl

theorem State.axis_planMove_other (s : State) {m n : Ax} (t : Int) (l : Limits) (h : n ≠ m) :
    (s.planMove n t l).axis m = s.axis m :=
  State.axis_of_drive (congrArg Prod.snd (State.about_of_outside (s.outside_planMove n t l) h.symm))

/-- A move that begins can set TARGET_CLAMPED, and no other register. -/
theorem State.sameRegsBut_planMove (s : State) (n : Ax) (t : Int) (l : Limits) :
    SameRegsBut [(axPage n, 0x03)] s (s.planMove n t l) := by
  unfold State.planMove
  rcases s.clampTarget n t with ⟨t', hit⟩
  exact sameRegsBut_eventIf s hit (axPage n) 3

/-! ### The settle check -/

section Settle
variable {s : State} {n : Ax}

/-- What a settle check makes of an axis before it judges DEVIATION: the check is done. -/
def State.checked (s : State) (n : Ax) : State := s.modAxis n (fun a => { a with settleLeft := none })

theorem State.axis_checked (s : State) (n : Ax) : (s.checked n).axis n = { s.axis n with settleLeft := none } :=
  s.axis_modAxis_same n _

theorem State.axis_checked_other (s : State) {m n : Ax} (h : n ≠ m) : (s.checked n).axis m = s.axis m :=
  s.axis_modAxis_other n m _ h

theorem State.position_checked (s : State) (n : Ax) : (s.checked n).position n = s.position n := by
  rw [State.position, State.axis_checked]
  rfl

theorem State.angle_checked (s : State) (n : Ax) : (s.checked n).angle n = s.angle n := by
  rw [State.angle, State.position_checked, State.axis_checked]
  rfl

variable (due : (s.axis n).settleLeft = some 0)
include due

theorem State.settleNow_outside (out : (s.reg (axPage n) 0x3E).toNat < (s.wide (axPage n) 0x3A).toInt.natAbs) :
    s.settleNow n = ((s.checked n).modAxis n (fun a => { a with settleOut := true })).event (axPage n) 8 := by
  rw [State.settleNow, if_pos due]
  dsimp only
  rw [if_neg]
  · rfl
  · exact Nat.not_le.mpr out

theorem State.settleNow_within (within : (s.wide (axPage n) 0x3A).toInt.natAbs ≤ (s.reg (axPage n) 0x3E).toNat) :
    s.settleNow n = (match s.regFld (axPage n) 0x0B 6 2 with
      | 1 => ((s.checked n).loadPosition n (BitVec.ofInt 32 (s.position n - (s.wide (axPage n) 0x3A).toInt)).toInt).setWide
          (axPage n) 0x3A 0#32
      | 2 => (s.checked n).settleMove n (s.wide (axPage n) 0x3A).toInt
      | _ => s.checked n).event (axPage n) 8 := by
  have position := s.position_checked n
  rw [State.settleNow, if_pos due]
  dsimp only
  rw [if_pos]
  · rw [← position]
    rfl
  · exact within

end Settle

/-! ### Resets -/

/-- The pins, the commands to come, and the snapshot. -/
def State.seat (s : State) : Pins × List Instr × Option (Nat × List Word) := (s.pins, s.pending, s.nvs.snap)

theorem State.SameData.seat {s t : State} (h : s.SameData t) : t.seat = s.seat := by
  rw [State.seat, h.pins, h.pending, h.snap]
  rfl

@[simp] theorem State.seat_modAxis (s : State) (n : Ax) (f : Axis → Axis) : (s.modAxis n f).seat = s.seat := (rfl)
@[simp] theorem State.seat_mramWrite (s : State) (a : Nat) (v : Word) : (s.mramWrite a v).seat = s.seat := (rfl)

theorem State.seat_modNvs (s : State) (f : Nvs → Nvs) (hf : ∀ n, (f n).snap = n.snap) : (s.modNvs f).seat = s.seat :=
  congrArg (fun x => (s.pins, s.pending, x)) (hf s.nvs)

@[simp] theorem State.seat_drawUnless (s : State) (c : Prop) [Decidable c] (k : Nat) :
    (if c then (0, s) else s.draw k).2.seat = s.seat := by split <;> rfl

@[simp] theorem State.seat_mramWrites (a : Nat) (ws : List Word) (s : State) : (s.mramWrites a ws).seat = s.seat := by
  induction ws generalizing s a with
  | nil => rfl
  | cons w ws ih => exact ih _ _

@[simp] theorem State.seat_clearCommits (l : List Nat) (s : State) : (s.clearCommits l).seat = s.seat := by
  induction l generalizing s with
  | nil => rfl
  | cons a l ih => exact ih _

theorem State.seat_nvsReread (s : State) : s.nvsReread.seat = s.seat := by
  unfold State.nvsReread
  split
  · exact (s.sameData_nvsReadTo _).seat
  · rfl

/-- A reset leaves what the engine was writing as far as it had come. -/
theorem State.seat_nvsAbandon (s : State) : s.nvsAbandon.seat = s.seat := by
  have read := s.seat_nvsReread
  dsimp only [State.nvsAbandon]
  split
  · exact read
  · split <;> simp [State.seat_modNvs, read]
  · next l _ =>
    have drawn := (s.nvsReread.seat_drawUnless (l = []) (2 * l.length)).trans read
    generalize (if l = [] then (0, s.nvsReread) else s.nvsReread.draw (2 * l.length)) = p at drawn ⊢
    refine (State.seat_modNvs _ _ (fun _ => rfl)).trans ?_
    split
    · split <;> simp [drawn]
    · simp [drawn]
  · simp [State.seat_modNvs, read]

/-- Without a snapshot a reset finds the pins and the commands to come as they are, whatever the engine does. -/
theorem State.seat_beforeReset {s : State} (h : s.nvs.snap = none) : s.nvsAbandon.snapLost.seat = s.seat := by
  have kept := s.seat_nvsAbandon
  have snap : s.nvsAbandon.nvs.snap = none := (congrArg (fun x => x.2.2) kept).trans h
  rw [State.snapLost_none snap, kept]

theorem State.deviceReset_seat {s : State} (cause : Word) (h : s.nvs.snap = none) (pin : s.pins.testEn = false) :
    (s.deviceReset cause false).pins = s.pins ∧ (s.deviceReset cause false).pending = s.pending ∧
      (s.deviceReset cause false).pwr = {} := by
  have kept := State.seat_beforeReset h
  have pins : s.nvsAbandon.snapLost.pins = s.pins := congrArg Prod.fst kept
  have pending : s.nvsAbandon.snapLost.pending = s.pending := congrArg (fun x => x.2.1) kept
  simp only [State.deviceReset, State.setReg_pins, State.setReg_pending, State.setReg_pwr, pins, pending, pin]
  exact ⟨trivial, trivial, rfl⟩

end Sys2Proof.Machine

namespace Sys2Proof.Machine

open Sys2Proof.Safety

/-! ### STOP_N and FRZ -/

/-- A STOP_N low that is long enough latches, and takes the resumption from the frozen axes (R195, R196). -/
theorem runs_stopN {s : State} {ns : Nat} (awake : s.awake = true) (vio : s.sup.vio = true) (long : 50 ≤ ns) :
    Runs (.stopNLatch ns) s (fun t => t.stopN = true ∧ t.pins = { s.pins with stopN := false } ∧ t.regs = s.regs ∧
      ∀ n : Ax, (t.axis n).mode = (s.axis n).mode ∧ (t.axis n).chan = (s.axis n).chan ∧
        (s.hasAxis n = true → (s.axis n).frozen.isSome = true → (t.axis n).noResume = true)) := by
  let u : State := { s with stopN := true, pins := { s.pins with stopN := false } }
  let f (n : Ax) (s : State) : State := s.modAxis n (fun a => { a with noResume := a.noResume || a.frozen.isSome })
  have run : s.stopLatch ns = u.forAxes u.present f := by
    rw [State.stopLatch, if_neg (by simp [awake, vio]), State.pulseTaken, if_neg (by omega), if_pos long]
    rfl
  have other (v : State) {m n : Ax} (h : m ≠ n) : (f m v).axis n = v.axis n := v.axis_modAxis_other m n _ h
  have motion (n : Ax) : (((u.forAxes u.present f).axis n).mode, ((u.forAxes u.present f).axis n).chan)
      = ((u.axis n).mode, (u.axis n).chan) := by
    refine u.forAxes_keeps (fun t => ((t.axis n).mode, (t.axis n).chan)) f _ (fun v m _ h => ?_)
    by_cases hm : m = n
    · subst hm
      rwa [show (f m v).axis m = _ from v.axis_modAxis_same m _]
    · rwa [other v hm]
  refine ⟨_, congrArg Host.Outcome.next run, ?_, ?_, ?_, fun n => ⟨congrArg Prod.fst (motion n), congrArg Prod.snd (motion n),
    fun present frozen => ?_⟩⟩
  · exact u.forAxes_keeps State.stopN f _ (fun _ _ _ h => h)
  · exact u.forAxes_keeps State.pins f _ (fun _ _ _ h => h)
  · exact u.forAxes_keeps State.regs f _ (fun _ _ _ h => h)
  · obtain ⟨v, hv, last⟩ := u.forAxes_at (fun t => t.axis n) f u.present_nodup (State.mem_present present)
      (fun v m hm => other v hm)
    have taken : (f n v).axis n = _ := v.axis_modAxis_same n _
    rw [last, taken, hv]
    show ((s.axis n).noResume || (s.axis n).frozen.isSome) = true
    rw [frozen, Bool.or_true]

theorem State.station_freezeAxis_other (v : State) {m n : Ax} (h : m ≠ n) : (v.freezeAxis m).station n = v.station n :=
  State.station_of_beside (v.outside_freezeAxis m) (v.beside_freezeAxis m) h

section Station
variable {s t : State} {n : Ax} (h : t.station n = s.station n)
include h

theorem State.axis_of_station : t.axis n = s.axis n := congrArg (fun x => x.1.2.axis) h
theorem State.ledger_of_station : t.ledger n = s.ledger n := congrArg Prod.snd h

theorem State.regBit_of_station (o k : Nat) (ho : o < 256) : t.regBit (axPage n) o k = s.regBit (axPage n) o k := by
  have reg : t.reg (axPage n) o = s.reg (axPage n) o := State.reg_axPage_of_drive (congrArg (fun x => x.1.2) h) ho
  simp only [State.regBit, reg]

end Station

/-- FRZ high, and every axis with FRZ_EN frozen. -/
def State.frozenAxes (s : State) : State :=
  State.forAxes { s with pins := { s.pins with frz := true } } s.present (fun n s => s.freezeAxis n)

theorem State.frzUp_awake {s : State} (awake : s.awake = true) (vio : s.sup.vio = true) (low : s.pins.frz = false) :
    s.frzUp = if s.frozenAxes.regBit gatePage 0x0A 2 then s.frozenAxes.gateStop else s.frozenAxes := by
  have high : State.awake { s with pins := { s.pins with frz := true } } = true := awake
  rw [State.frzUp, if_neg (by simp [vio, low])]
  exact if_pos high

theorem State.station_frzUp (s : State) (n : Ax) : s.frzUp.station n = s.station n ∨ s.frzUp.station n = s.frozenAxes.station n := by
  unfold State.frzUp
  split
  · exact .inl rfl
  · dsimp only
    split
    · refine .inr ?_
      split
      · exact State.station_gateStop _ n
      · rfl
    · exact .inl rfl

/-- An axis that freezes: what the freeze leaves of it, with the pins. -/
theorem State.frozenAxes_at {s : State} {n : Ax} (present : s.hasAxis n = true) : ∃ u : State, u.station n = s.station n ∧
    s.frozenAxes.station n = (u.freezeAxis n).station n ∧ s.frozenAxes.pins = { s.pins with frz := true } := by
  obtain ⟨u, hu, last⟩ := State.forAxes_at (s := { s with pins := { s.pins with frz := true } }) (fun t => t.station n)
    (fun n s => s.freezeAxis n) s.present_nodup (State.mem_present present) (fun v m hm => v.station_freezeAxis_other hm)
  refine ⟨u, hu, last, ?_⟩
  exact State.forAxes_keeps { s with pins := { s.pins with frz := true } } State.pins _ _
    (fun v m _ hv => (State.pins_of_beside (v.beside_freezeAxis m)).trans hv)

theorem State.frozenAxes_off {s : State} {n : Ax} (off : s.regBit (axPage n) 0x0B 2 = false) :
    s.frozenAxes.station n = s.station n := by
  refine State.forAxes_keeps { s with pins := { s.pins with frz := true } } (fun t => t.station n) _ _ (fun v m _ hv => ?_)
  by_cases hm : m = n
  · subst hm
    rwa [State.freezeAxis_off ((State.regBit_of_station hv 0x0B 2 (by decide)).trans off)]
  · exact (v.station_freezeAxis_other hm).trans hv

/-- An axis with FRZ_EN that runs reads FROZEN and stops when FRZ rises (R196). -/
theorem runs_frzRise {s : State} {n : Ax} (awake : s.awake = true) (vio : s.sup.vio = true) (low : s.pins.frz = false)
    (present : s.hasAxis n = true) (en : s.regBit (axPage n) 0x0B 2 = true) (runs : (s.axis n).Runs) :
    Runs .frzRise s (fun t => t.pins.frz = true ∧ (t.axis n).frozen = some (s.axis n).mode ∧ (t.axis n).stopping = some .hold ∧
      (t.axis n).chan = (s.axis n).chan ∧ t.ledger n = (s.ledger n).pause ∧ (t.axisStatus n).getLsbD 6 = true) := by
  obtain ⟨u, hu, last, pins⟩ := State.frozenAxes_at present
  have same : s.frzUp.station n = (u.freezeAxis n).station n := by
    rw [State.frzUp_awake awake vio low, ← last]
    split
    · exact State.station_gateStop _ n
    · rfl
  have high : s.frzUp.pins.frz = true := by
    rw [State.frzUp_awake awake vio low]
    split
    · rw [(State.benches_gateStop _).1, pins]
    · rw [pins]
  have axis := State.axis_of_station hu
  obtain ⟨frozen, stopping, chan, ledger⟩ := State.freezeAxis_runs ((State.regBit_of_station hu 0x0B 2 (by decide)).trans en)
    (axis ▸ runs)
  rw [← State.axis_of_station same, axis] at frozen
  rw [← State.axis_of_station same] at stopping
  rw [← State.axis_of_station same, axis] at chan
  rw [← State.ledger_of_station same, State.ledger_of_station hu] at ledger
  refine ⟨_, rfl, high, frozen, stopping, chan, ledger, ?_⟩
  have word (l : List Bool) := getLsbD_flagWord l 3 6 (by decide)
  simp only [State.axisStatus, BitVec.getLsbD_or, word]
  simp [frozen, high]

/-! ### FRZ falls -/

theorem State.unfreezeAxis_only_axis (s : State) (m : Ax) : s.unfreezeAxis m = s ∨ ∃ f, s.unfreezeAxis m = s.modAxis m f := by
  dsimp only [State.unfreezeAxis]
  split
  · split
    · exact .inr ⟨_, rfl⟩
    · split
      · exact .inl rfl
      · exact .inr ⟨_, rfl⟩
  · exact .inl rfl

theorem State.benches_unfreezeAxis (s : State) (m : Ax) :
    (s.unfreezeAxis m).pins = s.pins ∧ (s.unfreezeAxis m).regs = s.regs := by
  obtain h | ⟨f, h⟩ := s.unfreezeAxis_only_axis m
  · rw [h]
    exact ⟨rfl, rfl⟩
  · rw [h]
    exact ⟨rfl, rfl⟩

theorem State.axis_unfreezeAxis_other (s : State) {m n : Ax} (hm : m ≠ n) : (s.unfreezeAxis m).axis n = s.axis n := by
  obtain h | ⟨f, h⟩ := s.unfreezeAxis_only_axis m <;> rw [h]
  exact s.axis_modAxis_other m n f hm

/-- A frozen axis with FRZ_RESUME that has come to rest requests its mode (R196). -/
theorem State.unfreezeAxis_resumes {s : State} {n : Ax} {m : Mode} (frozen : (s.axis n).frozen = some m)
    (resume : s.regBit (axPage n) 0x0B 3 = true) (free : (s.axis n).noResume = false) (rest : (s.axis n).stopping = none) :
    (s.unfreezeAxis n).axis n = { s.axis n with frozen := none, req := { (s.axis n).req with mode := some m.code } } := by
  have run : s.unfreezeAxis n = s.modAxis n (fun a => { a with frozen := none, req := { a.req with mode := some m.code } }) := by
    simp [State.unfreezeAxis, frozen, resume, free, rest]
  rw [run, State.axis_modAxis_same]

theorem runs_frzFall {s : State} {n : Ax} (high : s.pins.frz = true) (present : s.hasAxis n = true)
    (resume : s.regBit (axPage n) 0x0B 3 = true) (frozen : (s.axis n).frozen.isSome = true)
    (free : (s.axis n).noResume = false) (rest : (s.axis n).stopping = none) :
    Runs .frzFall s (fun t => t.pins = { s.pins with frz := false } ∧ t.regs = s.regs ∧ (t.axis n).frozen = none ∧
      (t.axis n).req.mode = (s.axis n).frozen.map Mode.code ∧ (t.axis n).mode = (s.axis n).mode) := by
  let v : State := { s with pins := { s.pins with frz := false } }
  have run : s.frzDown = v.forAxes v.present (fun n s => s.unfreezeAxis n) := if_pos high
  have pins := v.forAxes_keeps State.pins (fun n s => s.unfreezeAxis n) v.present
    (fun u m _ hu => (u.benches_unfreezeAxis m).1.trans hu)
  have regs := v.forAxes_keeps State.regs (fun n s => s.unfreezeAxis n) v.present
    (fun u m _ hu => (u.benches_unfreezeAxis m).2.trans hu)
  obtain ⟨u, hu, last⟩ := v.forAxes_at (fun t => (t.axis n, t.regs)) (fun n s => s.unfreezeAxis n) v.present_nodup
    (State.mem_present present)
    (fun u m hm => Prod.ext (u.axis_unfreezeAxis_other hm) (u.benches_unfreezeAxis m).2)
  obtain ⟨m, mode⟩ := Option.isSome_iff_exists.mp frozen
  have axis : u.axis n = s.axis n := congrArg Prod.fst hu
  have bit : u.regBit (axPage n) 0x0B 3 = s.regBit (axPage n) 0x0B 3 := by
    have regs : u.regs = s.regs := congrArg Prod.snd hu
    simp only [State.regBit, State.reg_congr regs]
  have resumed := State.unfreezeAxis_resumes (s := u) (n := n) (m := m) (by rw [axis, mode]) (bit.trans resume) (by rw [axis, free])
    (by rw [axis, rest])
  have after : (s.frzDown.axis n) = _ := run ▸ (congrArg Prod.fst last).trans resumed
  refine ⟨_, rfl, ?_, ?_, ?_, ?_, ?_⟩
  · rw [run]
    exact pins
  · rw [run]
    exact regs
  · rw [after]
  · rw [after, mode]
    rfl
  · rw [after, axis]

/-! ### The watchdog -/

theorem State.about_haltAxis_other (v : State) {m n : Ax} (hm : m ≠ n) : (v.haltAxis m).about n = v.about n :=
  State.about_of_outside (v.outside_haltAxis m) hm.symm

/-- What halts all axes leaves the supplies, the power state and the memories alone. -/
theorem State.haltAll_keeps (s : State) : s.haltAll.shared = s.shared ∧ s.haltAll.backdrop = s.backdrop := by
  let u := s.forAxes s.present (fun n s => s.haltAxis n)
  let w := u.forAxes u.present (fun n s => s.ledgerPause n)
  have hu : (u.shared, u.backdrop) = (s.shared, s.backdrop) :=
    s.forAxes_keeps (fun t => (t.shared, t.backdrop)) _ _ (fun v m _ hv => by
      rw [← hv, State.shared_of_outside (v.outside_haltAxis m), v.backdrop_haltAxis m])
  have hw : (w.shared, w.backdrop) = (u.shared, u.backdrop) :=
    u.forAxes_keeps (fun t => (t.shared, t.backdrop)) _ _ (fun v m _ hv => hv)
  obtain ⟨shared, backdrop⟩ := Prod.ext_iff.mp (hw.trans hu)
  exact ⟨(State.shared_of_motors w.motors_gateStop).trans shared, w.backdrop_gateStop.trans backdrop⟩

theorem State.axis_haltAll {s : State} {n : Ax} (present : s.hasAxis n = true) (runs : (s.axis n).Runs) :
    (s.axis n).Halts (s.haltAll.axis n) := by
  let u := s.forAxes s.present (fun n s => s.haltAxis n)
  let w := u.forAxes u.present (fun n s => s.ledgerPause n)
  obtain ⟨v, hv, last⟩ := s.forAxes_at (fun t => t.about n) (fun n s => s.haltAxis n) s.present_nodup (State.mem_present present)
    (fun v m hm => v.about_haltAxis_other hm)
  have hw : w.about n = u.about n := u.forAxes_keeps (fun t => t.about n) _ _ (fun v m _ hv => hv)
  have axis : v.axis n = s.axis n := congrArg (fun x => x.2.axis) hv
  have done : s.haltAll.axis n = (v.haltAxis n).axis n :=
    congrArg (fun x => x.2.axis) ((State.about_of_motors w.motors_gateStop n).trans (hw.trans last))
  rw [done, ← axis]
  exact State.axis_haltAxis (axis ▸ runs)

theorem runs_watchExpire {s : State} (counts : s.watchCounts = true) (first : s.pwr.hostExpired = false) :
    Runs .hostWatchdogExpiry s (fun t => HasEvent t devPage 0 ∧ t.pwr = { s.pwr with hostExpired := true } ∧ t.mem = s.mem ∧
      t.nvs = s.nvs ∧ ∀ n : Ax, s.hasAxis n = true → (s.axis n).mode.moving = true → (s.axis n).chan.v ≠ 0 →
        (s.axis n).stopping = none → (t.axis n).stopping = some .hold ∧ (t.axis n).mode = (s.axis n).mode) := by
  have run : s.watchExpire = (s.haltAll.modPwr (fun p => { p with hostExpired := true })).devEvent 0 := if_pos ⟨counts, first⟩
  obtain ⟨shared, backdrop⟩ := s.haltAll_keeps
  have pwr : s.haltAll.pwr = s.pwr := congrArg Shared.pwr shared
  refine ⟨_, congrArg Host.Outcome.next run, hasEvent_event _ _ _ (by decide), ?_, ?_, ?_, fun n present moving fast free => ?_⟩
  · show { s.haltAll.pwr with hostExpired := true } = _
    rw [pwr]
  · exact congrArg Backdrop.mem backdrop
  · exact congrArg Backdrop.nvs backdrop
  · have halts := State.axis_haltAll present ⟨moving, free, fast⟩
    exact ⟨halts.stopping, halts.mode⟩

theorem runs_watchEscalate {s : State} (counts : s.watchCounts = true) (second : s.pwr.hostExpired = true)
    (en : s.regBit devPage 0x14 1 = true) (snap : s.nvs.snap = none) (hold : s.pwr.testHold = false) (pin : s.pins.testEn = false) :
    Runs .wdogEscalationReset s (fun t => t.reg devPage 0x13 = bitWord 2 ∧ t.pwr.pstate = .standby ∧ t.pwr.bring = 1 ∧
      t.pwr.fromReset = true ∧ t.axes = State.reset.axes ∧ t.mem = State.reset.mem ∧ t.pins = s.pins ∧ t.pending = s.pending) := by
  have run : s.watchEscalate = s.deviceReset (bitWord 2) false := (if_pos ⟨counts, second, en⟩).trans (State.resetBy_now 2 snap hold)
  obtain ⟨pins, pending, pwr⟩ := State.deviceReset_seat (bitWord 2) snap pin
  refine ⟨_, congrArg Host.Outcome.next run, s.deviceReset_cause _ _, ?_, ?_, ?_, rfl, rfl, pins, pending⟩ <;>
    rw [pwr]

/-! ### The settle check -/

/-- What a check within the window leaves in every mode that corrects nothing. -/
theorem runs_settle_keep {s : State} {n : Ax} (keep : s.settleNow n = (s.checked n).event (axPage n) 8) :
    Runs (.settleCheck n) s (fun t => HasEvent t (axPage n) 8 ∧ SameRegsBut [(axPage n, 0x03)] s t ∧
      t.axis n = { s.axis n with settleLeft := none } ∧ ∀ m : Ax, m ≠ n → t.axis m = s.axis m) :=
  ⟨_, congrArg Host.Outcome.next keep, hasEvent_event _ _ 8 (by decide), sameRegsBut_event (s.checked n) _ 8, s.axis_checked n,
    fun _ hm => s.axis_checked_other hm.symm⟩

section Settle
variable {s : State} {n : Ax} (due : (s.axis n).settleLeft = some 0)
include due

theorem runs_settle_outside (out : (s.reg (axPage n) 0x3E).toNat < (s.wide (axPage n) 0x3A).toInt.natAbs) :
    Runs (.settleCheck n) s (fun t => HasEvent t (axPage n) 8 ∧ SameRegsBut [(axPage n, 0x03)] s t ∧
      t.axis n = { s.axis n with settleLeft := none, settleOut := true } ∧ ∀ m : Ax, m ≠ n → t.axis m = s.axis m) := by
  let u := (s.checked n).modAxis n (fun a => { a with settleOut := true })
  refine ⟨_, congrArg Host.Outcome.next (State.settleNow_outside due out), hasEvent_event u _ 8 (by decide),
    sameRegsBut_event u _ 8, ?_, fun m hm => ?_⟩
  · show u.axis n = _
    rw [State.axis_modAxis_same, State.axis_checked]
  · show u.axis m = _
    rw [State.axis_modAxis_other _ _ _ _ hm.symm, s.axis_checked_other hm.symm]

variable (within : (s.wide (axPage n) 0x3A).toInt.natAbs ≤ (s.reg (axPage n) 0x3E).toNat)
include within

theorem runs_settle_load (mode : s.regFld (axPage n) 0x0B 6 2 = 1) :
    Runs (.settleCheck n) s (fun t => HasEvent t (axPage n) 8 ∧ t.angle n = s.angle n ∧ t.wide (axPage n) 0x3A = 0#32 ∧
      t.position n = (BitVec.ofInt 32 (s.position n - (s.wide (axPage n) 0x3A).toInt)).toInt ∧ (t.axis n).settleLeft = none ∧
      SameRegsBut [(axPage n, 0x03), (axPage n, 0x3A), (axPage n, 0x3B)] s t) := by
  let pos := BitVec.ofInt 32 (s.position n - (s.wide (axPage n) 0x3A).toInt)
  let u := (s.checked n).loadPosition n pos.toInt
  let w := u.setWide (axPage n) 0x3A 0#32
  have run : s.settleNow n = w.event (axPage n) 8 := by
    rw [State.settleNow_within due within, mode]
    rfl
  have away (o : Nat) (ho : o < 256) (h : o ≠ 3) : (w.event (axPage n) 8).reg (axPage n) o = w.reg (axPage n) o :=
    sameRegsBut_event w _ 8 _ _ ho (by simpa using h)
  have loaded : u.axis n = _ := (s.checked n).loadPosition_axis n pos.toInt
  refine ⟨_, congrArg Host.Outcome.next run, hasEvent_event w _ 8 (by decide), ?_, ?_, ?_, ?_, ?_⟩
  · have bit : (w.event (axPage n) 8).reg (axPage n) 0x0B = u.reg (axPage n) 0x0B := by
      rw [away _ (by decide) (by decide), sameRegsBut_setWide u _ 0x3A _ (by decide) _ _ (by decide) (by simp)]
    rw [State.angle_of_axis (s := u) (t := w.event (axPage n) 8) rfl bit, State.angle_loadPosition, s.angle_checked]
  · rw [State.wide, away _ (by decide) (by decide), away _ (by decide) (by decide)]
    exact u.wide_setWide_same _ _ _
  · exact (s.checked n).position_loadPosition n pos
  · show (u.axis n).settleLeft = none
    rw [loaded, State.axis_checked]
  · intro p o ho out
    simp only [List.mem_cons, List.not_mem_nil, or_false, not_or] at out
    rw [sameRegsBut_event w _ 8 _ _ ho (by simpa using out.1), sameRegsBut_setWide u _ 0x3A _ (by decide) _ _ ho (by simpa using out.2)]
    rfl

theorem State.settleNow_idle (idle : s.regFld (axPage n) 0x0B 6 2 = 0 ∨ s.regFld (axPage n) 0x0B 6 2 = 3 ∨
      (s.regFld (axPage n) 0x0B 6 2 = 2 ∧ ((s.axis n).mode ≠ .ledger ∨ (s.axis n).stopping ≠ none ∨
        (s.wide (axPage n) 0x3A).toInt = 0))) : s.settleNow n = (s.checked n).event (axPage n) 8 := by
  rw [State.settleNow_within due within]
  obtain h | h | ⟨h, why⟩ := idle
  · rw [h]
    rfl
  · rw [h]
    rfl
  · have still : (s.checked n).settleMove n (s.wide (axPage n) 0x3A).toInt = s.checked n := by
      dsimp only [State.settleMove]
      rw [State.axis_checked, if_neg]
      rintro ⟨dev, ledger, free, -⟩
      obtain h | h | h := why
      · exact h ledger
      · exact h free
      · exact dev h
    rw [h]
    exact congrArg (State.event · (axPage n) 8) still

theorem runs_settle_move (moves : (s.wide (axPage n) 0x3A).toInt ≠ 0) (mode : s.regFld (axPage n) 0x0B 6 2 = 2)
    (ledger : (s.axis n).mode = .ledger) (free : (s.axis n).stopping = none) (vmax : (s.jogLimits n).vmax ≠ 0)
    (amax : (s.jogLimits n).amax ≠ 0) (dmax : (s.jogLimits n).dmax ≠ 0) :
    Runs (.settleCheck n) s (fun t => HasEvent t (axPage n) 8 ∧ (t.axis n).correcting = true ∧ (t.axis n).settleLeft = none ∧
      (t.axis n).mode = .ledger ∧
      (t.axis n).goal = .pos (s.clampTarget n (s.position n + (s.wide (axPage n) 0x3A).toInt)).1 ∧ (t.axis n).lim = s.jogLimits n ∧
      t.position n = s.position n ∧ SameRegsBut [(axPage n, 0x03)] s t ∧ ∀ m : Ax, m ≠ n → t.axis m = s.axis m) := by
  let dev := (s.wide (axPage n) 0x3A).toInt
  let u := s.checked n
  let v := u.planMove n (u.position n + dev) (u.jogLimits n)
  let w := v.modAxis n (fun a => { a with correcting := true })
  have planned : u.settleMove n dev = w := by
    have free' : (u.axis n).stopping = none := by rw [s.axis_checked, ← free]
    have ledger' : (u.axis n).mode = .ledger := by rw [s.axis_checked, ← ledger]
    exact if_pos ⟨moves, ledger', free', vmax, amax, dmax⟩
  have run : s.settleNow n = w.event (axPage n) 8 := by
    rw [State.settleNow_within due within, mode]
    exact congrArg (State.event · (axPage n) 8) planned
  obtain ⟨r, hv⟩ := u.axis_planMove n (u.position n + dev) (u.jogLimits n)
  have axis : w.axis n = { v.axis n with correcting := true } := v.axis_modAxis_same n _
  rw [hv, s.axis_checked, s.position_checked] at axis
  refine ⟨_, congrArg Host.Outcome.next run, hasEvent_event w _ 8 (by decide), ?_, ?_, ?_, ?_, ?_, ?_, ?_, fun m hm => ?_⟩
  · exact congrArg Axis.correcting axis
  · exact congrArg Axis.settleLeft axis
  · exact (congrArg Axis.mode axis).trans ledger
  · exact congrArg Axis.goal axis
  · exact congrArg Axis.lim axis
  · have chan : (w.axis n).chan = (s.axis n).chan := by
      rw [axis]
      rfl
    exact congrArg Ramp.position chan
  · intro p o ho out
    rw [sameRegsBut_event w _ 8 _ _ ho out]
    exact u.sameRegsBut_planMove n (u.position n + dev) (u.jogLimits n) p o ho out
  · show w.axis m = _
    rw [v.axis_modAxis_other n m _ hm.symm, u.axis_planMove_other _ _ hm.symm, s.axis_checked_other hm.symm]

end Settle

end Sys2Proof.Machine

namespace Sys2Proof

open Machine Safety

/-- Settles O29: each halt is `Axis.Halts`, each freeze `State.freezeAxis_runs`, and the axes of a fold do not meet. -/
theorem watchdogAndPinsStopMotion : Obligations.WatchdogAndPinsStopMotion := by
  refine ⟨?_, ?_, ?_, ?_, ?_, ?_, ?_, ?_, ?_, ?_, ?_⟩
  · exact fun s ns awake vio long => runs_stopN awake vio long
  · intro s ns short
    refine ⟨_, rfl, ?_⟩
    simp [State.stopLatch, State.pulseTaken, short]
  · exact fun s n awake vio low present en moving free fast => runs_frzRise awake vio low present en ⟨moving, free, fast⟩
  · intro s n off
    have same : s.frzUp.station n = s.station n := by
      obtain h | h := s.station_frzUp n
      · exact h
      · exact h.trans (State.frozenAxes_off off)
    exact ⟨_, rfl, State.axis_of_station same, State.ledger_of_station same⟩
  · exact fun s n high present resume frozen free rest => runs_frzFall high present resume frozen free rest
  · exact fun s n due out => runs_settle_outside due out
  · exact fun s n due within mode => runs_settle_load due within mode
  · exact fun s n due moves within mode ledger free vmax amax dmax => runs_settle_move due within moves mode ledger free vmax amax dmax
  · exact fun s n due within idle => runs_settle_keep (State.settleNow_idle due within idle)
  · exact fun s counts first => runs_watchExpire counts first
  · exact fun s counts second en snap hold pin => runs_watchEscalate counts second en snap hold pin

end Sys2Proof

end
section
/-! SUPPORT. What a write leaves in LINE_MASK. -/

set_option Elab.async false

namespace Sys2Proof.Machine

open Sys2Proof.Safety

/-- A write of LINE_MASK stores its four bits, and leaves the reserved ones as they stand. -/
theorem State.writeReg_lineMask (s : State) (v : Word) : s.writeReg evtPage 0x10 v
    = (s.setUnlock evtPage false).setReg evtPage 0x10 (s.reg evtPage 0x10 &&& ~~~0x000F#16 ||| v &&& 0x000F#16) := by
  have mask : regDef .evt 0x10 = some ⟨0x10, 0x000F#16, 0x0000#16, 0x0000#16, 0x0000#16, []⟩ := by decide
  rw [s.writeReg_unit evtPage 0x10 v (by decide) (.inl (by decide))]
  simp only [State.offsetWrite, State.unitWrite, isHeldLow, State.wordWrite, State.plainWrite, mask, mergeWord, State.reg_setUnlock,
    pageKind_evt, Bool.false_eq_true, if_false, List.foldl_nil, BitVec.or_zero, BitVec.and_zero, BitVec.not_zero, BitVec.and_allOnes,
    ite_self]

end Sys2Proof.Machine

namespace Sys2Proof

open Machine Safety

/-- Refutes O5: its clause for LINE_MASK has the register read as the four bits written alone, and holds only where its reserved bits
read 0 before. A write leaves those as they stand (`writeReg_lineMask`), and the clause does not ask for them: here bit 4 is set. No
reset and no write sets it, so the clause fails in a state that the device does not reach. -/
theorem not_eventRegistersTakeWrites : ¬ Obligations.EventRegistersTakeWrites := by
  rintro ⟨-, -, -, -, -, -, -, -, lineMask, -⟩
  let s : State := { regs := [(evtPage * 256 + 0x10, 0x0010#16)], pwr := { pstate := .run } }
  have unit : s.target evtPage = .unit := by decide
  have ready (m : MTime) : PortReady { s with time := m } evtPage := ⟨rfl, rfl, unit⟩
  obtain ⟨m, ht⟩ := s.timeAt_only_time 0
  obtain ⟨t, hrun, reads, -⟩ := lineMask s 0x0000#16 0 0 (ready s.time)
  obtain rfl : (s.timeAt 0).access evtPage 0x10 0x0000#16 = t := Host.Outcome.next.inj hrun
  have before : State.reg { s with time := m } evtPage 0x10 = 0x0010#16 := show s.reg evtPage 0x10 = 0x0010#16 by decide
  rw [ht, State.access_ready _ _ _ _ (ready m) (.inr (by decide)), State.writeReg_lineMask, State.imageRun_none _ rfl,
    State.reg_setReg_same, before] at reads
  exact absurd reads (by decide)

end Sys2Proof
end
section
/-! SUPPORT. Power states and clocks: register commands of DEV, the time told, and what reduced service does (R87, R89, R97, R101, R161). -/

set_option Elab.async false

namespace Sys2Proof.Machine

open Sys2Proof.Safety

theorem sameRegsBut_of_regs {s t : State} (l : List (Nat × Nat)) (h : t.regs = s.regs) : SameRegsBut l s t :=
  fun p o _ _ => State.reg_congr h p o

/-! ### Register commands of DEV -/

/-- A command that writes a ready DEV page runs what the write does to the unit, where that leaves no image to apply. A command that
brings an input writes in the state `u` that has taken it. -/
theorem runs_devWrite {c : Instr} {s u t : State} {o : Nat} {v : Word} {P : State → Prop} (hr : PortReady u devPage)
    (accesses : exec c s = .next (u.access devPage o v)) (ho : o ≠ 0x07)
    (write : (u.setUnlock devPage false).offsetWrite devPage o v (u.unlocked devPage) = t) (image : t.nvs.image = none) (hP : P t) :
    Runs c s P := by
  subst write
  refine ⟨_, accesses, ?_⟩
  rwa [State.access_unit hr (by decide) (by decide) ho image]

section
variable (s : State) (v : Word) (unl : Bool)

theorem State.offsetWrite_reqStandby : s.offsetWrite devPage 0x0B 0x0000#16 unl = s.requestState .standby := rfl
theorem State.offsetWrite_reqRun : s.offsetWrite devPage 0x0B 0x0002#16 unl = s.requestState .run := rfl
theorem State.offsetWrite_reqDoze : s.offsetWrite devPage 0x0B 0x0003#16 unl = s.requestState .doze := rfl
theorem State.offsetWrite_clkctrl : s.offsetWrite devPage 0x0D v unl = if unl then s.clkctrl v else s := rfl

end

/-! ### Requests for a power state (R89) -/

section
variable {s : State} (free : s.pwr.testHold = false)
include free

theorem State.requestState_safe (safe : s.pwr.pstate = .safe) (r : PReq) : s.requestState r = s.devEvent 3 := by
  simp [State.requestState, free, safe, State.stateRefuse]

/-- A request that nothing holds back is judged at once. -/
theorem State.requestState_judged (unchanging : s.pwr.change = .none) (locked : s.pwr.relock = none)
    (settled : s.pwr.pstate = .run ∨ s.pwr.pstate = .doze ∨ s.pwr.pstate = .standby ∧ s.pwr.bring = 0) (r : PReq) :
    s.requestState r = s.judgeState r := by
  have still : s.changing = false := by simp [State.changing, unchanging, locked]
  obtain h | h | ⟨h, steps⟩ := settled
  · simp [State.requestState, State.inSteps12, free, still, h]
  · simp [State.requestState, State.inSteps12, free, still, h]
  · simp [State.requestState, State.inSteps12, free, still, h, steps]

end

/-- With no request held nothing is judged. -/
theorem State.judgeHeld_none {s : State} (h : s.pwr.held = none) : s.judgeHeld = s := by simp [State.judgeHeld, h]

/-! ### The time told (R161) -/

section
variable (s : State) (cy : Nat)

theorem State.timeAt_eq : s.timeAt cy = { s with time := (s.timeAt cy).time } := by
  obtain ⟨m, h⟩ := s.timeAt_only_time cy
  rw [h]

/-- A command that tells the time acts in the state that has it. -/
theorem runs_timeAt {c : Instr} {s t : State} {cy : Nat} {P : State → Prop} (act : State → State)
    (acts : exec c s = .next (act (s.timeAt cy))) (run : act { s with time := (s.timeAt cy).time } = t) (hP : P t) : Runs c s P := by
  subst run
  exact ⟨_, acts.trans (congrArg (fun u => Host.Outcome.next (act u)) (s.timeAt_eq cy)), hP⟩

theorem MTime.elapse_rate (t : MTime) (d : Nat) : (t.elapse d).rate = t.rate := by
  unfold MTime.elapse
  dsimp only
  split <;> rfl

theorem State.timeAt_rate : (s.timeAt cy).time.rate = s.time.rate := by
  unfold State.timeAt
  split
  · exact MTime.elapse_rate _ _
  · rfl

/-- From the cycle told on the core clock may have another length. -/
theorem State.newCycle_timeAt : (s.timeAt cy).newCycle = { s with time := (s.timeAt cy).time.rebase s.coreCycle } := by
  have cycle : (s.timeAt cy).coreCycle = s.coreCycle := by
    have clk : (s.timeAt cy).clk = s.clk := by rw [s.timeAt_eq cy]
    simp only [State.coreCycle, clk, s.timeAt_rate cy]
  rw [State.newCycle, cycle]
  exact congrArg (State.modTime · (MTime.rebase s.coreCycle)) (s.timeAt_eq cy)

end

/-! ### The gate port beside the rest -/

/-- The state but for its gate port. -/
def State.offGate (s : State) : State := { s with gate := {} }

theorem State.only_gate {s t : State} (h : t.offGate = s.offGate) : t = { s with gate := t.gate } :=
  congrArg (fun u : State => { u with gate := t.gate }) h

section
variable (s : State)

/-- The switches of the gate port that follow its requests are fields of the port alone. -/
theorem State.gateFollow_only_gate : s.gateFollow = { s with gate := s.gateFollow.gate } :=
  State.only_gate (foldl_keeps State.offGate _ _ s (fun _ _ _ hu => hu))

theorem State.gateEnter_only_gate (st : GState) : s.gateEnter st = { s with gate := (s.gateEnter st).gate } := by
  unfold State.gateEnter
  split
  · rfl
  · exact State.gateFollow_only_gate _

theorem State.gateFaultNow_only_gate : s.gateFaultNow = { s with gate := s.gateFaultNow.gate } :=
  State.gateEnter_only_gate _ _

/-- IDLE for reduced service: the port's fields, and its event. -/
theorem State.gateCoast_shows : s.gateCoast = s ∨ ∃ g : Gate, s.gateCoast = State.event { s with gate := g } gatePage 2 := by
  unfold State.gateCoast
  split
  · exact .inl rfl
  · rw [s.gateQuiet.gateEnter_only_gate .idle]
    exact .inr ⟨_, rfl⟩

/-- Reduced service has begun: machine time is undisciplined, and beside it only the gate port and registers outside DEV have changed
(R97, R169). -/
structure State.Reduces (s t : State) : Prop where
  only : t = { s with gate := t.gate, time := t.time, regs := t.regs }
  undisc : t.time.undisc = true
  dev : ∀ o < 256, t.reg devPage o = s.reg devPage o

theorem State.undiscipline_reduces : s.Reduces s.undiscipline where
  only := by
    unfold State.undiscipline State.eventIf
    split <;> rfl
  undisc := rfl
  dev o ho := sameRegsBut_eventIf s _ timePage 8 devPage o ho (by simp [devPage, timePage])

theorem State.gateCoast_reduces (h : s.time.undisc = true) : s.Reduces s.gateCoast := by
  obtain idle | ⟨g, coast⟩ := s.gateCoast_shows
  · rw [idle]
    exact ⟨rfl, h, fun _ _ => rfl⟩
  · rw [coast]
    exact ⟨rfl, h, fun o ho => sameRegsBut_event _ gatePage 2 devPage o ho (by simp [devPage, gatePage])⟩

theorem State.Reduces.trans {s t u : State} (h : s.Reduces t) (k : t.Reduces u) : s.Reduces u where
  only := k.only.trans (congrArg (fun v : State => { v with gate := u.gate, time := u.time, regs := u.regs }) h.only)
  undisc := k.undisc
  dev o ho := (k.dev o ho).trans (h.dev o ho)

theorem State.reduceNow_reduces : s.Reduces s.reduceNow := by
  have undisciplined := s.undiscipline_reduces
  dsimp only [State.reduceNow]
  split
  · exact undisciplined.trans (State.gateCoast_reduces _ undisciplined.undisc)
  · exact undisciplined

end

section
variable {s t : State} (h : s.Reduces t)
include h

theorem State.Reduces.pwr : t.pwr = s.pwr := (congrArg State.pwr h.only :)
theorem State.Reduces.clk : t.clk = s.clk := (congrArg State.clk h.only :)
theorem State.Reduces.mem : t.mem = s.mem := (congrArg State.mem h.only :)
theorem State.Reduces.nvs : t.nvs = s.nvs := (congrArg State.nvs h.only :)
theorem State.Reduces.axes : t.axes = s.axes := (congrArg State.axes h.only :)

theorem State.Reduces.hasEvent {k : Nat} (hs : HasEvent s devPage k) : HasEvent t devPage k := by
  rwa [HasEvent, h.dev 0x03 (by decide)]

end

/-! ### Clocks (R85, R87, R101, R438) -/

section
variable {s : State}

theorem State.clkctrl_disables (was : s.regBit devPage 0x0D 1 = false) {v : Word} (now : v.getLsbD 1 = true) : s.clkctrl v
    = (s.setReg devPage 0x0D (v &&& 0x0003#16)).modClk (fun c => { c with xs := .off, slowXtal := false, xsFail := false }) := by
  simp only [State.clkctrl, was, now]
  rfl

theorem State.clkctrl_enables (was : s.regBit devPage 0x0D 1 = true) {v : Word} (now : v.getLsbD 1 = false) : s.clkctrl v
    = (s.setReg devPage 0x0D (v &&& 0x0003#16)).modClk (fun c => { c with xs := .starting, xsFail := false }) := by
  simp only [State.clkctrl, was, now]
  rfl

/-- The core leaves the PLL: CLK_CHANGE, and a recovery (R101). -/
theorem State.toHsrc_shows (s : State) (xi : Bool) :
    (s.toHsrc xi).clk = { s.clk with onPll := false, pllLock := false } ∧ HasEvent (s.toHsrc xi) devPage 2 ∧
    (s.toHsrc xi).pwr = { s.pwr with relock := some xi } ∧ SameRegsBut [(devPage, 0x03)] s (s.toHsrc xi) ∧
    (s.toHsrc xi).axes = s.axes := by
  let v := s.newCycle.modClk (fun c => { c with onPll := false, pllLock := false })
  exact ⟨rfl, hasEvent_event v devPage 2 (by decide), rfl, sameRegsBut_event v devPage 2, rfl⟩

section
variable (run : s.effState = .run)
include run

/-- XI is lost while the PLL may relock on HSRC. -/
theorem State.clockLost_xi (running : s.clk.xoRun = true) (good : s.clk.xoFail = false) (pll : s.clk.pllFail = false) :
    s.clockLost .xi = (s.modClk (fun c => { c with xoRun := false })).toHsrc true := by
  simp [State.clockLost, run, running, good, pll]

/-- XI is lost while the core is on HSRC for good. -/
theorem State.clockLost_xi_onHsrc (running : s.clk.xoRun = true) (good : s.clk.xoFail = false) (pll : s.clk.pllFail = true) :
    s.clockLost .xi = (s.modClk (fun c => { c with xoRun := false, xoFail := true, xoAmp := false })).devEvent 2 := by
  simp [State.clockLost, State.modClk, run, running, good, pll]

theorem State.clockLost_pll (pll : s.clk.onPll = true) : s.clockLost .pll = s.toHsrc false := by
  simp [State.clockLost, run, pll]

end

section
variable {xi : Bool} (locking : s.pwr.relock = some xi) (held : s.pwr.held = none)
include locking held

theorem State.clockBack_locks : s.clockBack
    = (s.newCycle.modClk (fun c => { c with onPll := true, pllLock := true, xoFail := c.xoFail || xi })).modPwr
      (fun p => { p with relock := none }) := by
  simp only [State.clockBack, locking]
  exact State.judgeHeld_none held

theorem State.clockGone_reduces : s.clockGone
    = ((s.modClk (fun c => { c with pllFail := true, xoFail := c.xoFail || xi })).modPwr
      (fun p => { p with relock := none })).reduceNow := by
  simp only [State.clockGone, locking]
  refine State.judgeHeld_none ?_
  rw [(State.reduceNow_reduces _).pwr]
  exact held

end

end

end Sys2Proof.Machine

namespace Sys2Proof
open Machine Safety

section
variable {s : State} (ready : PortReady s devPage) (unchanging : s.pwr.change = .none) (locked : s.pwr.relock = none)
  (free : s.pwr.testHold = false)
include ready unchanging locked free

theorem runs_reqDoze (run : s.pwr.pstate = .run) : Runs .pstateReqDoze s (fun t =>
    (if s.canDoze = true then t.pwr = { s.pwr with change := .dozeEntry } ∧ SameRegsBut [] s t
     else t.pwr = s.pwr ∧ HasEvent t devPage 3 ∧ SameRegsBut [(devPage, 0x03)] s t) ∧
    t.axes = s.axes ∧ t.mem = s.mem ∧ t.nvs = s.nvs ∧ t.clk = s.clk) := by
  let u := s.setUnlock devPage false
  have judged : u.requestState .doze = if s.canDoze then u.setChange .dozeEntry else u.devEvent 3 := by
    rw [State.requestState_judged (s := u) free unchanging locked (.inl run)]
    simp only [State.judgeState, show u.pwr.pstate = .run from run]
    rfl
  refine runs_devWrite ready rfl (by decide) ((u.offsetWrite_reqDoze _).trans judged) ?_ ?_
  · split
    · exact ready.2.1
    · exact ready.2.1
  · split
    · exact ⟨⟨rfl, sameRegsBut_of_regs _ rfl⟩, rfl, rfl, rfl, rfl⟩
    · exact ⟨⟨rfl, hasEvent_event u _ 3 (by decide), sameRegsBut_event u _ 3⟩, rfl, rfl, rfl, rfl⟩

theorem runs_reqStandby (run : s.pwr.pstate = .run) : Runs .pstateReqStandby s (fun t =>
    (if s.canStandby = true then
       t.pwr = { s.pwr with change := .standbyEntry, fromReset := false, heldWake := 0#16 } ∧
       t.reg devPage 0x0F = 0#16 ∧ SameRegsBut [(devPage, 0x0F)] s t
     else t.pwr = s.pwr ∧ HasEvent t devPage 3 ∧ SameRegsBut [(devPage, 0x03)] s t) ∧
    t.axes = s.axes ∧ t.mem = s.mem ∧ t.nvs = s.nvs ∧ t.clk = s.clk) := by
  let u := s.setUnlock devPage false
  have judged : u.requestState .standby = if s.canStandby then u.beginStandby else u.devEvent 3 := by
    rw [State.requestState_judged (s := u) free unchanging locked (.inl run)]
    simp only [State.judgeState, show u.pwr.pstate = .run from run]
    rfl
  refine runs_devWrite ready rfl (by decide) ((u.offsetWrite_reqStandby _).trans judged) ?_ ?_
  · split
    · exact ready.2.1
    · exact ready.2.1
  · split
    · exact ⟨⟨rfl, u.reg_setReg_same devPage 0x0F 0#16, sameRegsBut_setReg u devPage 0x0F 0#16 (by decide)⟩, rfl, rfl, rfl, rfl⟩
    · exact ⟨⟨rfl, hasEvent_event u _ 3 (by decide), sameRegsBut_event u _ 3⟩, rfl, rfl, rfl, rfl⟩

theorem runs_reqRun_standby (standby : s.pwr.pstate = .standby) (still : s.pwr.bring = 0) : Runs .pstateReqRun s (fun t =>
    t.pwr.bring = 1 ∧ t.pwr.attempts = 1 ∧ t.pwr.pstate = .standby ∧
    t.reg devPage 0x0F = s.reg devPage 0x0F ||| bitWord 6 ∧ SameRegsBut [(devPage, 0x0F)] s t ∧
    t.clk.xoFail = false ∧ t.clk.pllFail = false ∧ t.mem = s.mem ∧ t.nvs = s.nvs) := by
  let u := s.setUnlock devPage false
  have judged : u.requestState .run = (u.wakeRecord 6).startBring := by
    rw [State.requestState_judged (s := u) free unchanging locked (.inr (.inr ⟨standby, still⟩))]
    simp only [State.judgeState, show u.pwr.pstate = .standby from standby]
  exact runs_devWrite ready rfl (by decide) ((u.offsetWrite_reqRun _).trans judged) ready.2.1
    ⟨rfl, rfl, standby, u.reg_setReg_same _ _ _, sameRegsBut_setReg u _ _ _ (by decide), rfl, rfl, rfl, rfl⟩

theorem runs_reqRun_doze (doze : s.pwr.pstate = .doze) (lock : s.clk.pllFail = false) : Runs .pstateReqRun s (fun t =>
    t.pwr = { s.pwr with change := .dozeExit } ∧ SameRegsBut [] s t ∧ t.axes = s.axes) := by
  let u := s.setUnlock devPage false
  have judged : u.requestState .run = u.setChange .dozeExit := by
    rw [State.requestState_judged (s := u) free unchanging locked (.inr (.inl doze))]
    simp only [State.judgeState, show u.pwr.pstate = .doze from doze, show u.clk.pllFail = false from lock]
    rfl
  exact runs_devWrite ready rfl (by decide) ((u.offsetWrite_reqRun _).trans judged) ready.2.1
    ⟨rfl, sameRegsBut_of_regs _ rfl, rfl⟩

/-- RUN asked for in DOZE with PLL_FAIL is reached at once, on HSRC (R100, log entry 32). -/
theorem runs_reqRun_doze_pllFail (doze : s.pwr.pstate = .doze) (lock : s.clk.pllFail = true) : Runs .pstateReqRun s (fun t =>
    t.pwr = { s.pwr with pstate := .run } ∧ t.time.undisc = true ∧ t.axes = s.axes ∧ t.mem = s.mem) := by
  let u := s.setUnlock devPage false
  let v := (u.modPwr (fun p => { p with pstate := .run })).modClk Clock.xoBack
  have judged : u.requestState .run = v.reduceNow := by
    rw [State.requestState_judged (s := u) free unchanging locked (.inr (.inl doze))]
    simp only [State.judgeState, show u.pwr.pstate = .doze from doze, show u.clk.pllFail = true from lock]
    rfl
  have reduces := v.reduceNow_reduces
  exact runs_devWrite ready rfl (by decide) ((u.offsetWrite_reqRun _).trans judged) ((congrArg Nvs.image reduces.nvs).trans ready.2.1)
    ⟨reduces.pwr, reduces.undisc, reduces.axes, reduces.mem⟩

end

/-- In SAFE a request only sets STATE_REFUSED. -/
theorem runs_refusedInSafe {s : State} {c : Instr} {v : Word} {r : PReq} (ready : PortReady s devPage) (free : s.pwr.testHold = false)
    (safe : s.pwr.pstate = .safe) (accesses : exec c s = .next (s.access devPage 0x0B v))
    (asks : ∀ (u : State) (unl : Bool), u.offsetWrite devPage 0x0B v unl = u.requestState r) :
    Runs c s (fun t => t.pwr = s.pwr ∧ HasEvent t devPage 3 ∧ SameRegsBut [(devPage, 0x03)] s t) := by
  let u := s.setUnlock devPage false
  exact runs_devWrite ready accesses (by decide) ((asks u _).trans (State.requestState_safe (s := u) free safe r)) ready.2.1
    ⟨rfl, hasEvent_event u _ 3 (by decide), sameRegsBut_event u _ 3⟩

/-- Settles O9: a request is refused in SAFE or judged in the state in force, a clock's change is read off where it acts, and what reduced
service does beside is `State.Reduces`. -/
theorem powerStatesAndClocksAreJudged : Obligations.PowerStatesAndClocksAreJudged := by
  refine ⟨?_, ?_, ?_, ?_, ?_, ?_, ?_, ?_, ?_, ?_, ?_, ?_, ?_, ?_, ?_, ?_⟩
  · exact fun s ready run unchanging locked free => runs_reqDoze ready unchanging locked free run
  · exact fun s ready run unchanging locked free => runs_reqStandby ready unchanging locked free run
  · exact fun s ready standby still unchanging locked free => runs_reqRun_standby ready unchanging locked free standby still
  · exact fun s ready doze unchanging locked free lock => runs_reqRun_doze ready unchanging locked free doze lock
  · exact fun s ready doze unchanging locked free lock => runs_reqRun_doze_pllFail ready unchanging locked free doze lock
  · exact fun s ready safe free => ⟨runs_refusedInSafe ready free safe rfl State.offsetWrite_reqRun,
      runs_refusedInSafe ready free safe rfl State.offsetWrite_reqDoze,
      runs_refusedInSafe ready free safe rfl State.offsetWrite_reqStandby⟩
  · intro s starting
    exact ⟨_, rfl, if_pos starting⟩
  · intro s starting
    have run : s.xsTimeout = (s.modClk (fun c => { c with xs := .failed, xsFail := true })).devEvent 7 := if_pos starting
    exact ⟨_, congrArg Host.Outcome.next run, rfl, hasEvent_event _ _ 7 (by decide), sameRegsBut_event _ _ 7, rfl⟩
  · intro s v ready unlocked was now
    let u := s.setUnlock devPage false
    have write : u.offsetWrite devPage 0x0D v (s.unlocked devPage) = u.clkctrl v := by rw [u.offsetWrite_clkctrl, if_pos unlocked]
    exact runs_devWrite ready rfl (by decide) (write.trans (State.clkctrl_disables (s := u) was now)) ready.2.1
      ⟨u.reg_setReg_same devPage 0x0D (v &&& 0x0003#16), rfl, sameRegsBut_setReg u devPage 0x0D (v &&& 0x0003#16) (by decide), rfl⟩
  · intro s v ready unlocked was now
    let u := s.setUnlock devPage false
    have write : u.offsetWrite devPage 0x0D v (s.unlocked devPage) = u.clkctrl v := by rw [u.offsetWrite_clkctrl, if_pos unlocked]
    exact runs_devWrite ready rfl (by decide) (write.trans (State.clkctrl_enables (s := u) was now)) ready.2.1
      ⟨rfl, u.reg_setReg_same devPage 0x0D (v &&& 0x0003#16), sameRegsBut_setReg u devPage 0x0D (v &&& 0x0003#16) (by decide), rfl⟩
  · intro s v ready unlocked
    let u := s.setUnlock devPage false
    have write : u.offsetWrite devPage 0x0D v (s.unlocked devPage) = u := by rw [u.offsetWrite_clkctrl, if_neg (by simp [unlocked])]
    exact runs_devWrite ready rfl (by decide) write ready.2.1 ⟨rfl, rfl, rfl⟩
  · intro s cy run running good pll
    exact runs_timeAt (State.clockLost · .xi) rfl (State.clockLost_xi run running good pll) (State.toHsrc_shows _ true)
  · intro s cy run running good pll
    exact runs_timeAt (State.clockLost · .xi) rfl (State.clockLost_xi_onHsrc run running good pll)
      ⟨rfl, hasEvent_event _ _ 2 (by decide), rfl, sameRegsBut_event _ _ 2, rfl⟩
  · intro s cy run pll
    exact runs_timeAt (State.clockLost · .pll) rfl (State.clockLost_pll run pll) (State.toHsrc_shows _ false)
  · intro s xi cy locking held
    refine ⟨_, rfl, ?_⟩
    have told := s.timeAt_eq cy
    rw [State.clockBack_locks (xi := xi) (by rw [told]; exact locking) (by rw [told]; exact held), s.newCycle_timeAt]
    exact ⟨rfl, rfl, rfl⟩
  · intro s xi locking held
    have gone := State.clockGone_reduces locking held
    have reduces := State.reduceNow_reduces
      ((s.modClk (fun c => { c with pllFail := true, xoFail := c.xoFail || xi })).modPwr (fun p => { p with relock := none }))
    exact ⟨_, congrArg Host.Outcome.next gone, reduces.clk, reduces.pwr, reduces.undisc, reduces.axes, reduces.mem⟩

end Sys2Proof
end
section
/-! SUPPORT. Entries into DOZE and STANDBY, and the relock on leaving DOZE (R85, R88, R89, R100). -/

set_option Elab.async false

namespace Sys2Proof.Machine

open Sys2Proof.Safety

/-! ### What the changes do -/

section
variable {s : State} (held : s.pwr.held = none)
include held

theorem State.entryRefused_none : s.entryRefused = (s.setChange .none).devEvent 3 := State.judgeHeld_none held

theorem State.dozeIn_granted (entering : s.pwr.change = .dozeEntry) (can : s.canDoze = true) :
    s.dozeIn = s.clocksOff.modPwr (fun p => { p with pstate := .doze, change := .none }) := by
  rw [State.dozeIn, if_pos entering, if_pos can]
  exact State.judgeHeld_none held

theorem State.dozeIn_refused (entering : s.pwr.change = .dozeEntry) (cannot : s.canDoze = false) :
    s.dozeIn = (s.setChange .none).devEvent 3 := by
  rw [State.dozeIn, if_pos entering, if_neg (by simp [cannot]), State.entryRefused_none held]

/-- The state that DOZE is left to, before the PLL has locked or failed to: RUN, with XO running. -/
def State.dozeLeft (s : State) : State := (s.modPwr (fun p => { p with pstate := .run, change := .none })).modClk Clock.xoBack

theorem State.dozeOut_locked (leaving : s.pwr.change = .dozeExit) :
    s.dozeOut true = s.dozeLeft.newCycle.modClk (fun c => { c with onPll := true, pllLock := true }) := by
  rw [State.dozeOut, if_pos leaving]
  exact State.judgeHeld_none held

theorem State.dozeOut_unlocked (leaving : s.pwr.change = .dozeExit) :
    s.dozeOut false = ((s.dozeLeft.modClk (fun c => { c with pllFail := true })).devEvent 2).reduceNow := by
  have reduces := ((s.dozeLeft.modClk (fun c => { c with pllFail := true })).devEvent 2).reduceNow_reduces
  rw [State.dozeOut, if_pos leaving]
  exact State.judgeHeld_none ((congrArg Power.held reduces.pwr).trans held)

end

/-- An entry that is refused shows STATE_REFUSED and has ended. -/
theorem State.refusal_shows (s : State) :
    ((s.setChange .none).devEvent 3).pwr = { s.pwr with change := .none } ∧ HasEvent ((s.setChange .none).devEvent 3) devPage 3 ∧
    SameRegsBut [(devPage, 0x03)] s ((s.setChange .none).devEvent 3) ∧ ((s.setChange .none).devEvent 3).clk = s.clk ∧
    ((s.setChange .none).devEvent 3).axes = s.axes ∧ ((s.setChange .none).devEvent 3).mem = s.mem ∧
    ((s.setChange .none).devEvent 3).nvs = s.nvs :=
  ⟨rfl, hasEvent_event (s.setChange .none) devPage 3 (by decide), sameRegsBut_event (s.setChange .none) devPage 3, rfl, rfl, rfl, rfl⟩

/-- The twin leaves a state: fields of the pairing and of the converters' checks alone. -/
theorem State.leaveTo_only (s : State) (st : TState) : ∃ w a, s.leaveTo st = { s with twin := w, assay := a } := by
  dsimp only [State.leaveTo]
  split
  · exact ⟨_, _, rfl⟩
  · exact ⟨_, _, rfl⟩

/-- The twin leaves for STANDBY (R413). -/
def State.twinLeft (s : State) : State :=
  ((if s.twin.st = .mirroring then s.sendLeaves else s).leaveTo .solo).modTwin
    (fun t => { t with elder := false, seen := none, linkUp := false })

theorem State.twinLeft_only (s : State) : ∃ w a, s.twinLeft = { s with twin := w, assay := a } := by
  unfold State.twinLeft
  split
  · obtain ⟨w, a, h⟩ := s.sendLeaves.leaveTo_only .solo
    exact ⟨_, a, congrArg (State.modTwin · _) h⟩
  · obtain ⟨w, a, h⟩ := s.leaveTo_only .solo
    exact ⟨_, a, congrArg (State.modTwin · _) h⟩

/-- What STANDBY leaves of the units: those that lose their state are at reset. -/
def State.unitsDown (s : State) : State := { s with
  tmr := { s.tmr with entryPll := s.clk.onPll, entryFrz := s.pins.frz }
  mem := { memBlank with safeUe := s.mem.safeUe }, dma := {}, fab := {}
  chand := {}, lchain := {}, cnvs := Vector.replicate 3 {}, assay := {}
  dies := s.dies.map (fun (d : DieSt) => { d with uvArmed := false, hbLost := false }) }

theorem State.standbyIn_granted {s : State} (held : s.pwr.held = none) (entering : s.pwr.change = .standbyEntry)
    (can : s.canStandby = true) (wakes : s.pwr.heldWake = 0#16) : ∃ w a, s.standbyIn
      = (State.unitsDown { s with twin := w, assay := a }).clocksOff.modPwr
        (fun p => { p with pstate := .standby, bring := 0, change := .none }) := by
  obtain ⟨w, a, left⟩ := s.twinLeft_only
  refine ⟨w, a, ?_⟩
  let u := s.twinLeft.unitsDown.clocksOff.modPwr (fun p => { p with pstate := .standby, bring := 0, change := .none })
  have pwr : s.twinLeft.pwr = s.pwr := by rw [left]
  have still : u.judgeHeld = u := State.judgeHeld_none ((congrArg Power.held pwr).trans held)
  have asleep : u.pwr.heldWake = 0#16 := (congrArg Power.heldWake pwr).trans wakes
  have run : s.standbyIn = if u.judgeHeld.pwr.heldWake ≠ 0#16 ∧ u.judgeHeld.pwr.bring = 0 then u.judgeHeld.startBring
      else u.judgeHeld := by
    rw [State.standbyIn, if_pos entering, if_pos can]
    rfl
  rw [run, still, if_neg (fun h => h.1 asleep), ← left]

theorem State.standbyIn_refused {s : State} (held : s.pwr.held = none) (entering : s.pwr.change = .standbyEntry)
    (cannot : s.canStandby = false) : s.standbyIn = (s.setChange .none).devEvent 3 := by
  rw [State.standbyIn, if_pos entering, if_neg (by simp [cannot]), State.entryRefused_none held]

/-- Without such a change in progress its end is nothing. -/
theorem State.unchanging_ends {s : State} (still : s.pwr.change = .none) (locked : Bool) :
    s.dozeIn = s ∧ s.dozeOut locked = s ∧ s.standbyIn = s := by
  simp [State.dozeIn, State.dozeOut, State.standbyIn, still]

end Sys2Proof.Machine

namespace Sys2Proof
open Machine Safety

/-- Settles O10: each end of a change comes down to the state it is granted, or to a refusal, with the time told before it. -/
theorem dozeAndStandbyAreReached : Obligations.DozeAndStandbyAreReached := by
  refine ⟨?_, ?_, ?_, ?_, ?_, ?_, ?_⟩
  · intro s cy entering can held
    let u : State := { s with time := (s.timeAt cy).time }
    have cycle : u.newCycle = { s with time := (s.timeAt cy).time.rebase s.coreCycle } :=
      (congrArg State.newCycle (s.timeAt_eq cy)).symm.trans (s.newCycle_timeAt cy)
    refine runs_timeAt State.dozeIn rfl (State.dozeIn_granted (s := u) held entering can) ?_
    rw [State.clocksOff, cycle]
    exact ⟨rfl, rfl, rfl, rfl, rfl, rfl⟩
  · intro s cy entering cannot held
    exact runs_timeAt State.dozeIn rfl (State.dozeIn_refused held entering cannot) (State.refusal_shows _)
  · intro s cy leaving held
    let u : State := { s with time := (s.timeAt cy).time }
    have cycle : u.dozeLeft.newCycle = State.dozeLeft { s with time := (s.timeAt cy).time.rebase s.coreCycle } :=
      congrArg State.dozeLeft ((congrArg State.newCycle (s.timeAt_eq cy)).symm.trans (s.newCycle_timeAt cy))
    refine runs_timeAt (State.dozeOut · true) rfl (State.dozeOut_locked (s := u) held leaving) ?_
    rw [cycle]
    exact ⟨rfl, rfl, rfl, rfl, rfl⟩
  · intro s cy leaving held
    let failed := (State.dozeLeft { s with time := (s.timeAt cy).time }).modClk (fun c => { c with pllFail := true })
    have reduces := (failed.devEvent 2).reduceNow_reduces
    exact runs_timeAt (State.dozeOut · false) rfl (State.dozeOut_unlocked held leaving)
      ⟨reduces.pwr, congrArg Clock.pllFail reduces.clk, reduces.hasEvent (hasEvent_event failed devPage 2 (by decide)),
        reduces.undisc, reduces.mem, reduces.nvs, reduces.axes⟩
  · intro s entering can held wakes
    obtain ⟨w, a, done⟩ := State.standbyIn_granted held entering can wakes
    exact ⟨_, congrArg Host.Outcome.next done, rfl, rfl, rfl, rfl, rfl, rfl, rfl, rfl, rfl, rfl,
      by simp [State.clocksOff, State.newCycle, State.unitsDown], by simp [State.clocksOff, State.newCycle, State.unitsDown]⟩
  · intro s entering cannot held
    exact ⟨_, congrArg Host.Outcome.next (State.standbyIn_refused held entering cannot), s.refusal_shows⟩
  · intro s locked cy still
    have told : (s.timeAt cy).pwr.change = .none := by
      rw [s.timeAt_eq cy]
      exact still
    obtain ⟨doze, run, -⟩ := State.unchanging_ends told locked
    obtain ⟨-, -, standby⟩ := State.unchanging_ends still locked
    exact ⟨⟨_, rfl, doze⟩, ⟨_, rfl, run⟩, ⟨_, rfl, standby⟩⟩

end Sys2Proof
end
section
namespace Sys2Proof

open Machine Safety

/-- Refutes O11: its clause for step 2 asks that no enabled cause is active before the step. After a device reset step 2 itself sets each
latch whose cause is then active (R286), and what it finds latched enters SAFE (R104). Here TRIP_N is low, and no latch is set yet: the
step ends in SAFE, and not in WAKING. -/
theorem not_wakesStartBringUpWhichStepsInOrder : ¬ Obligations.WakesStartBringUpWhichStepsInOrder := by
  rintro ⟨-, stepTwo, -⟩
  let s : State := { pwr := { bring := 2 }, pins := { tripN := false } }
  have calm : (s.reg devPage 0x19 ||| s.activeCauses) &&& s.reg devPage 0x1A = 0#16 := by decide +kernel
  obtain ⟨t, ht, hpwr, -⟩ := stepTwo s 0 rfl rfl calm
  obtain rfl : s.hsrcUp 0 = t := Host.Outcome.next.inj ht
  have safe : (s.hsrcUp 0).pwr.pstate = .safe := by decide +kernel
  rw [hpwr] at safe
  exact absurd safe (by decide)

end Sys2Proof
end
section
/-! SUPPORT. What SAFE entry leaves alone, and the fault-policy state of every axis (R102 to R105, R264, R285, R439). -/

set_option Elab.async false

namespace Sys2Proof.Machine

open Sys2Proof.Safety

/-! ### The registers of DEV -/

/-- The registers of DEV, which every operation of another unit leaves alone. -/
def State.devFile (s : State) : Fin 256 → Word := fun o => s.reg devPage o.val

theorem State.reg_of_devFile {s t : State} (h : t.devFile = s.devFile) {o : Nat} (ho : o < 256) : t.reg devPage o = s.reg devPage o :=
  congrFun h ⟨o, ho⟩

@[simp] theorem axPage_ne_devPage (n : Ax) : axPage n ≠ devPage := by unfold axPage devPage; omega
@[simp] theorem brPage_ne_devPage (n : Ax) : brPage n ≠ devPage := by unfold brPage devPage; omega
@[simp] theorem ledgPage_ne_devPage : ledgPage ≠ devPage := by decide
@[simp] theorem chandPage_ne_devPage : chandPage ≠ devPage := by decide

section
variable (s : State)

@[simp] theorem State.devFile_setReg (p o : Nat) (v : Word) (hp : p ≠ devPage) (ho : o < 256) :
    (s.setReg p o v).devFile = s.devFile :=
  funext fun r => s.reg_setReg_other _ _ _ _ _ (fun h => hp (key_inj ho r.isLt h).1)

@[simp] theorem State.devFile_event (p k : Nat) (hp : p ≠ devPage) : (s.event p k).devFile = s.devFile :=
  s.devFile_setReg p 0x03 _ hp (by decide)

@[simp] theorem State.devFile_setFld (p o l w v : Nat) (hp : p ≠ devPage) (ho : o < 256) :
    (s.setFld p o l w v).devFile = s.devFile := s.devFile_setReg p o _ hp ho

@[simp] theorem State.devFile_ledgFlag (n : Ax) (k : Nat) : (s.ledgFlag n k).devFile = s.devFile := by
  have := lOff_lt n 0xB (by decide)
  simp [State.ledgFlag, show lOff n 0xB < 256 by omega]

@[simp] theorem State.devFile_modAxis (n : Ax) (f : Axis → Axis) : (s.modAxis n f).devFile = s.devFile := (rfl)
@[simp] theorem State.devFile_modLedger (n : Ax) (f : Ledger → Ledger) : (s.modLedger n f).devFile = s.devFile := (rfl)
@[simp] theorem State.devFile_modBrg (n : Ax) (f : Bridge → Bridge) : (s.modBrg n f).devFile = s.devFile := (rfl)

@[simp] theorem State.devFile_ite (c : Prop) {_ : Decidable c} (t : State) :
    (if c then s else t).devFile = if c then s.devFile else t.devFile := apply_ite State.devFile c s t

@[simp] theorem State.devFile_brgFollow (n : Ax) : (s.brgFollow n).devFile = s.devFile :=
  funext fun o => State.reg_congr (State.regs_of_offBridges (s.offBridges_brgFollow n)) devPage o.val

@[simp] theorem State.devFile_enterMode (n : Ax) (m : Mode) : (s.enterMode n m).devFile = s.devFile := by
  cases m <;> simp [State.enterMode, State.ledgerLeave, State.ledgerEnter, State.followEnter, State.bridgeOff]

@[simp] theorem State.devFile_charInterrupt (n : Ax) (m : Mode) : (s.charInterrupt n m).devFile = s.devFile := by
  simp [State.charInterrupt, State.charEndIn]

end

/-! ### One axis -/

/-- An axis in its fault-policy state, neither stopping nor frozen (R103). -/
def State.axisSafe (s : State) (n : Ax) : State :=
  (if s.parkPolicy n then s.parkFault n else s.holdNow n).modAxis n (fun a => { a with frozen := none, stopping := none })

/-- The state of an axis by its fault policy: it is PARKED, or in HOLD. -/
def State.policyMode (s : State) (n : Ax) : Mode := if s.parkPolicy n then .parked else .hold

/-- How an axis comes to its fault-policy state `m`: a run is interrupted, one that is PARKED stays so, any other enters the mode. -/
def State.ComesTo (s : State) (n : Ax) (m : Mode) (u : State) : Prop :=
  (s.axis n).mode = .characterise ∧ u = s.charInterrupt n m ∨
    (s.axis n).mode = .parked ∧ u = s ∨
    (s.axis n).mode ≠ .characterise ∧ (s.axis n).mode ≠ .parked ∧ u = s.enterMode n m

theorem State.comesTo_parkFault (s : State) (n : Ax) : s.ComesTo n .parked (s.parkFault n) := by
  unfold State.parkFault State.parkNow
  split
  · next running => exact .inl ⟨running, rfl⟩
  · next other =>
    split
    · next parked => exact .inr (.inl ⟨parked, rfl⟩)
    · next running => exact absurd running other
    · next moving _ => exact .inr (.inr ⟨other, moving, rfl⟩)

theorem State.comesTo_holdNow (s : State) (n : Ax) : s.ComesTo n .hold (s.holdNow n) := by
  unfold State.holdNow
  split
  · next parked => exact .inr (.inl ⟨parked, rfl⟩)
  · next running => exact .inl ⟨running, rfl⟩
  · next moving other => exact .inr (.inr ⟨other, moving, rfl⟩)

theorem State.axisSafe_comesTo (s : State) (n : Ax) : ∃ u : State,
    s.axisSafe n = u.modAxis n (fun a => { a with frozen := none, stopping := none }) ∧ s.ComesTo n (s.policyMode n) u := by
  refine ⟨_, rfl, ?_⟩
  unfold State.policyMode
  split
  · exact s.comesTo_parkFault n
  · exact s.comesTo_holdNow n

section
variable (s : State) (n : Ax)

theorem State.axisSafe_keeps {α : Type} (get : State → α) (moved : ∀ (u : State) (f : Axis → Axis), get (u.modAxis n f) = get u)
    (interrupted : ∀ m, get (s.charInterrupt n m) = get s) (entered : ∀ m, get (s.enterMode n m) = get s) :
    get (s.axisSafe n) = get s := by
  obtain ⟨u, safe, how⟩ := s.axisSafe_comesTo n
  rw [safe, moved]
  obtain ⟨-, rfl⟩ | ⟨-, rfl⟩ | ⟨-, -, rfl⟩ := how
  · exact interrupted _
  · rfl
  · exact entered _

@[simp] theorem State.outside_axisSafe : (s.axisSafe n).outside n = s.outside n :=
  s.axisSafe_keeps n (State.outside · n) (fun u f => u.outside_modAxis n f) (fun m => s.outside_charInterrupt n m)
    (fun m => s.outside_enterMode n m)

@[simp] theorem State.beside_axisSafe : (s.axisSafe n).beside n = s.beside n :=
  s.axisSafe_keeps n (State.beside · n) (fun u f => u.beside_modAxis n f) (fun m => s.beside_charInterrupt n m)
    (fun m => s.beside_enterMode n m)

@[simp] theorem State.backdrop_axisSafe : (s.axisSafe n).backdrop = s.backdrop :=
  s.axisSafe_keeps n State.backdrop (fun u f => u.backdrop_modAxis n f) (fun m => s.backdrop_charInterrupt n m)
    (fun m => s.backdrop_enterMode n m)

@[simp] theorem State.devFile_axisSafe : (s.axisSafe n).devFile = s.devFile :=
  s.axisSafe_keeps n State.devFile (fun u f => u.devFile_modAxis n f) (fun m => s.devFile_charInterrupt n m)
    (fun m => s.devFile_enterMode n m)

/-! ### The mode and the ledger of an axis that comes to its fault-policy state -/

@[simp] theorem State.axis_setReg (p o : Nat) (v : Word) (m : Ax) : (s.setReg p o v).axis m = s.axis m := (rfl)
@[simp] theorem State.axis_modBrg (f : Bridge → Bridge) (m : Ax) : (s.modBrg n f).axis m = s.axis m := (rfl)
@[simp] theorem State.axis_ite (c : Prop) {_ : Decidable c} (t : State) (m : Ax) :
    (if c then s else t).axis m = if c then s.axis m else t.axis m := apply_ite (State.axis · m) c s t

@[simp] theorem State.ledger_setReg (p o : Nat) (v : Word) (m : Ax) : (s.setReg p o v).ledger m = s.ledger m := (rfl)
@[simp] theorem State.ledger_event (p k : Nat) (m : Ax) : (s.event p k).ledger m = s.ledger m := (rfl)
@[simp] theorem State.ledger_modAxis (f : Axis → Axis) (m : Ax) : (s.modAxis n f).ledger m = s.ledger m := (rfl)
@[simp] theorem State.ledger_modBrg (f : Bridge → Bridge) (m : Ax) : (s.modBrg n f).ledger m = s.ledger m := (rfl)
@[simp] theorem State.ledger_bridgeOff (m : Ax) : (s.bridgeOff n).ledger m = s.ledger m := by simp [State.bridgeOff]
@[simp] theorem State.ledger_ite (c : Prop) {_ : Decidable c} (t : State) (m : Ax) :
    (if c then s else t).ledger m = if c then s.ledger m else t.ledger m := apply_ite (State.ledger · m) c s t

@[simp] theorem State.ledger_brgFollow (m : Ax) : (s.brgFollow n).ledger m = s.ledger m := by
  have ledgers : (s.brgFollow n).ledgers = s.ledgers := (congrArg State.ledgers (s.offBridges_brgFollow n) :)
  simp only [State.ledger, ledgers]

/-- An axis that enters HOLD is in HOLD. -/
theorem State.enterMode_hold : ((s.enterMode n .hold).axis n).mode = .hold := by
  by_cases h : (s.axis n).mode = .hold
  · simp [State.enterMode, h, State.axis_modAxis_same]
  · simp [State.enterMode, h, State.axis_modAxis_same]

theorem State.enterMode_policyMode : ((s.enterMode n (s.policyMode n)).axis n).mode = s.policyMode n := by
  unfold State.policyMode
  split
  · exact s.enterMode_parked n
  · exact s.enterMode_hold n

/-- A ledger without a record that runs starts none as its axis comes to rest. -/
theorem State.ledger_enterMode_rest (rest : (s.ledger n).run = none) : ((s.enterMode n (s.policyMode n)).ledger n).run = none := by
  have left : ((s.ledgerLeave n).ledger n).run = none := by
    rw [State.ledgerLeave, State.ledger_modLedger_same]
    rfl
  unfold State.policyMode
  split
  · simp [State.enterMode, apply_ite Ledger.run, rest, left]
  · simp [State.enterMode, apply_ite Ledger.run, rest, left]

/-- Is an axis in its fault-policy state in `t`, with the mode and the policy that it had in `s` (R103, R264, R285)? -/
def State.AxisRests (s t : State) (n : Ax) : Prop :=
  (t.axis n).stopping = none ∧ (t.axis n).frozen = none ∧ (t.ledger n).run = none ∧
    (if (s.axis n).mode = .characterise then (t.axis n).mode = .characterise ∧ (t.axis n).char.ending.isSome = true
     else if (s.axis n).mode = .parked ∨ s.parkPolicy n = true then (t.axis n).mode = .parked
     else (t.axis n).mode = .hold)

theorem State.axisSafe_rests (rest : (s.ledger n).run = none) : s.AxisRests (s.axisSafe n) n := by
  obtain ⟨u, safe, how⟩ := s.axisSafe_comesTo n
  have axis : (s.axisSafe n).axis n = { u.axis n with frozen := none, stopping := none } := by rw [safe, State.axis_modAxis_same]
  have ledger : (s.axisSafe n).ledger n = u.ledger n := by rw [safe, State.ledger_modAxis]
  unfold State.AxisRests
  rw [axis, ledger]
  refine ⟨rfl, rfl, ?_⟩
  obtain ⟨mode, rfl⟩ | ⟨mode, rfl⟩ | ⟨running, moving, rfl⟩ := how
  · rw [State.ledger_charInterrupt, if_pos mode]
    refine ⟨rest, ?_⟩
    simp [State.charInterrupt, State.charEndIn, mode, State.axis_modAxis_same]
  · rw [mode]
    exact ⟨rest, by simp⟩
  · refine ⟨s.ledger_enterMode_rest n rest, ?_⟩
    rw [if_neg running]
    have entered := s.enterMode_policyMode n
    unfold State.policyMode at entered ⊢
    by_cases policy : s.parkPolicy n = true
    · simpa [moving, policy] using entered
    · simpa [moving, policy] using entered

end

/-! ### All axes -/

section
variable {s t : State} {n : Ax} (h : t.drive n = s.drive n)
include h

theorem State.parkPolicy_of_drive : t.parkPolicy n = s.parkPolicy n := by
  have reg : t.reg (brPage n) 0x46 = s.reg (brPage n) 0x46 := State.reg_brPage_of_drive h (by decide)
  simp only [State.parkPolicy, State.regBit, reg]

/-- Whether an axis rests shows in the axis before, and in the axis and its ledger after. -/
theorem State.axisRests_of_drive {r w : State} (axis : w.axis n = r.axis n) (ledger : w.ledger n = r.ledger n)
    (rests : t.AxisRests r n) : s.AxisRests w n := by
  rw [State.AxisRests, axis, ledger, ← State.axis_of_drive h, ← State.parkPolicy_of_drive h]
  exact rests

end

/-- The ledgers of the axes paused, and every axis in its fault-policy state (R103). -/
def State.motionSafe (s : State) : State := (s.forAxes s.present (fun n s => s.ledgerPause n)).axesSafe

theorem State.motionSafe_keeps (s : State) :
    s.motionSafe.shared = s.shared ∧ s.motionSafe.backdrop = s.backdrop ∧ s.motionSafe.devFile = s.devFile := by
  let u := s.forAxes s.present (fun n s => s.ledgerPause n)
  have hu : (u.shared, u.backdrop, u.devFile) = (s.shared, s.backdrop, s.devFile) :=
    s.forAxes_keeps (fun t => (t.shared, t.backdrop, t.devFile)) _ _ (fun v m _ hv => hv)
  have hw : (u.axesSafe.shared, u.axesSafe.backdrop, u.axesSafe.devFile) = (u.shared, u.backdrop, u.devFile) :=
    u.forAxes_keeps (fun t => (t.shared, t.backdrop, t.devFile)) (fun n s => s.axisSafe n) _ (fun v m _ hv => by
      rw [← hv, State.shared_of_outside (v.outside_axisSafe m), v.backdrop_axisSafe m, v.devFile_axisSafe m])
  obtain ⟨shared, others⟩ := Prod.ext_iff.mp (hw.trans hu)
  obtain ⟨backdrop, devFile⟩ := Prod.ext_iff.mp others
  exact ⟨shared, backdrop, devFile⟩

theorem State.motionSafe_rests (s : State) {n : Ax} (present : s.hasAxis n = true) : s.AxisRests s.motionSafe n := by
  let v := s.forAxes s.present (fun n s => s.ledgerPause n)
  obtain ⟨u, hu, hv⟩ := s.forAxes_at (fun t => t.station n) (fun n s => s.ledgerPause n) s.present_nodup (State.mem_present present)
    (fun u m hm => State.station_of_beside rfl (u.beside_modLedger m _) hm)
  have part : v.part = s.part := s.forAxes_keeps State.part _ _ (fun _ _ _ h => h)
  have presentStill : v.hasAxis n = true := by rwa [State.hasAxis, part]
  obtain ⟨w, hw, hx⟩ := v.forAxes_at (fun t => t.station n) (fun n s => s.axisSafe n) v.present_nodup (State.mem_present presentStill)
    (fun w m hm => State.station_of_beside (w.outside_axisSafe m) (w.beside_axisSafe m) hm)
  have paused : (w.ledger n).run = none := by
    rw [State.ledger_of_station (hw.trans hv), State.ledgerPause, State.ledger_modLedger_same]
    rfl
  have same : w.about n = s.about n := (congrArg Prod.fst (hw.trans hv)).trans (congrArg Prod.fst hu)
  exact State.axisRests_of_drive (congrArg Prod.snd same) (State.axis_of_station hx) (State.ledger_of_station hx)
    (w.axisSafe_rests n paused)

/-! ### The gate port and the strings -/

/-- What the gate port and the strings leave alone: everything but their own fields and registers, and so DEV's too. -/
def State.offPorts (s : State) : State × (Fin 256 → Word) := ({ s with regs := [], gate := {}, chand := {} }, s.devFile)

section
variable (s : State)

@[simp] theorem State.offPorts_modChand (f : Chand → Chand) : (s.modChand f).offPorts = s.offPorts := (rfl)
@[simp] theorem State.offPorts_modStr (n : Fin 4) (f : Str → Str) : (s.modStr n f).offPorts = s.offPorts := (rfl)
@[simp] theorem State.offPorts_modLamp (n : Fin 4) (k : Fin 8) (f : Lamp → Lamp) : (s.modLamp n k f).offPorts = s.offPorts := (rfl)

@[simp] theorem State.offPorts_setReg (o : Nat) (v : Word) (ho : o < 256) : (s.setReg chandPage o v).offPorts = s.offPorts :=
  Prod.ext rfl (s.devFile_setReg chandPage o v chandPage_ne_devPage ho)

@[simp] theorem State.offPorts_setFld (o l w v : Nat) (ho : o < 256) : (s.setFld chandPage o l w v).offPorts = s.offPorts :=
  s.offPorts_setReg o _ ho

@[simp] theorem State.offPorts_flashEnd (t : Nat) : (s.flashEnd t).offPorts = s.offPorts := by
  unfold State.flashEnd
  extract_lets dark off
  have hdark : dark.offPorts = s.offPorts := by
    refine foldl_keeps State.offPorts _ _ s (fun u n _ hu => ?_)
    split
    · rw [State.offPorts_modStr, ← hu]
      exact foldl_keeps State.offPorts _ _ u (fun v k _ hv => by rwa [State.offPorts_modLamp])
    · exact hu
  simp [State.chandEvent, State.event, State.countWrap, off, hdark]

theorem State.offPorts_chandSafe : s.chandSafe.offPorts = s.offPorts := by
  have cut : s.flashCut.offPorts = s.offPorts := by
    unfold State.flashCut
    split
    · exact s.offPorts_flashEnd _
    · rfl
  have cleared := foldl_keeps State.offPorts (fun s (n : Fin 4) => s.setFld chandPage (sOff n 0) 0 1 0) allStrs s.flashCut
    (fun u n _ hu => (u.offPorts_setFld _ 0 1 0 (by unfold sOff; omega)).trans hu)
  exact cleared.trans cut

/-- The gate port in FAULT and the strings off (R298, R395). -/
def State.portsSafe : State :=
  let s := if s.part.hasGate then s.gateFaultNow else s
  if s.part.hasChandler then s.chandSafe else s

theorem State.offPorts_setGate (g : Gate) : State.offPorts { s with gate := g } = s.offPorts := (rfl)

theorem State.offPorts_gateFaultNow : s.gateFaultNow.offPorts = s.offPorts :=
  (congrArg State.offPorts s.gateFaultNow_only_gate).trans (s.offPorts_setGate _)

theorem State.offPorts_portsSafe : s.portsSafe.offPorts = s.offPorts := by
  let u := if s.part.hasGate then s.gateFaultNow else s
  have hu : u.offPorts = s.offPorts := by
    unfold u
    split
    · exact s.offPorts_gateFaultNow
    · rfl
  have run : s.portsSafe = if u.part.hasChandler then u.chandSafe else u := rfl
  rw [run, ← hu]
  split
  · exact u.offPorts_chandSafe
  · rfl

end

section
variable {s t : State} (h : t.offPorts = s.offPorts)
include h

theorem State.pwr_of_offPorts : t.pwr = s.pwr := (congrArg (fun x => x.1.pwr) h :)
theorem State.nvs_of_offPorts : t.nvs = s.nvs := (congrArg (fun x => x.1.nvs) h :)
theorem State.axis_of_offPorts (n : Ax) : t.axis n = s.axis n := State.axis_congr (congrArg (fun x => x.1.axes) h :) n
theorem State.ledger_of_offPorts (n : Ax) : t.ledger n = s.ledger n := by
  have ledgers : t.ledgers = s.ledgers := (congrArg (fun x => x.1.ledgers) h :)
  simp only [State.ledger, ledgers]
theorem State.devFile_of_offPorts : t.devFile = s.devFile := congrArg Prod.snd h

end

/-! ### SAFE entry -/

/-- SAFE is entered with these causes (R103, R439): the return state, SAFE_CAUSE and SAFE_ENTERED, no request held and no change under
way, and every axis in its fault-policy state. -/
structure State.EntersSafe (s : State) (w : Word) (t : State) : Prop where
  pwr : t.pwr = { s.pwr with pstate := .safe, ret := s.pwr.pstate, held := none, change := .none }
  cause : t.reg devPage 0x19 = s.reg devPage 0x19 ||| w
  entered : HasEvent t devPage 4
  dev : ∀ o < 256, o ≠ 0x03 → o ≠ 0x19 → t.reg devPage o = s.reg devPage o
  nvs : t.nvs = s.nvs
  rests : ∀ n : Ax, s.hasAxis n = true → s.AxisRests t n

/-- SAFE's registers and power state, before the units react. -/
def State.safeShown (s : State) (w : Word) : State :=
  ((s.safeLatch w).modPwr (fun p => { p with pstate := .safe, ret := s.pwr.pstate, held := none, change := .none })).devEvent 4

theorem State.enterSafe_awake {s : State} (awake : s.pwr.pstate = .run ∨ s.pwr.pstate = .doze ∨ s.pwr.pstate = .waking) (w : Word) :
    s.enterSafe w = (s.safeShown w).motionSafe.portsSafe := by
  unfold State.enterSafe State.safeShown
  obtain h | h | h := awake
  all_goals
    simp only [State.safeLatch, State.setReg_pwr, h]
    rfl

/-- Every operation after `State.safeShown` leaves the power state, the store and the registers of DEV alone. -/
theorem State.enterSafe_enters {s : State} (awake : s.pwr.pstate = .run ∨ s.pwr.pstate = .doze ∨ s.pwr.pstate = .waking) (w : Word) :
    s.EntersSafe w (s.enterSafe w) := by
  let latched := (s.safeLatch w).modPwr (fun p => { p with pstate := .safe, ret := s.pwr.pstate, held := none, change := .none })
  let u := s.safeShown w
  obtain ⟨shared, backdrop, motionDev⟩ := u.motionSafe_keeps
  have ports := u.motionSafe.offPorts_portsSafe
  have dev := (State.devFile_of_offPorts ports).trans motionDev
  have shown {o : Nat} (ho : o < 256) (hne : o ≠ 0x03) : u.reg devPage o = latched.reg devPage o :=
    sameRegsBut_event latched devPage 4 devPage o ho (by simpa using hne)
  rw [State.enterSafe_awake awake]
  refine ⟨?_, ?_, ?_, fun o ho three cause => ?_, ?_, fun n present => ?_⟩
  · exact (State.pwr_of_offPorts ports).trans (congrArg Shared.pwr shared)
  · rw [State.reg_of_devFile dev (by decide), shown (by decide) (by decide)]
    exact s.reg_setReg_same _ _ _
  · rw [HasEvent, State.reg_of_devFile dev (by decide)]
    exact hasEvent_event latched devPage 4 (by decide)
  · rw [State.reg_of_devFile dev ho, shown ho three]
    exact sameRegsBut_setReg s devPage 0x19 _ (by decide) devPage o ho (by simpa using cause)
  · exact (State.nvs_of_offPorts ports).trans (congrArg Backdrop.nvs backdrop)
  · have drive : u.drive n = s.drive n := (State.drive_of_motors (latched.motors_event devPage 4 (.inl (by decide))) n).trans
      (State.drive_of_motors (s.motors_setReg devPage 0x19 _ (.inl (by decide)) (by decide)) n)
    exact State.axisRests_of_drive drive (State.axis_of_offPorts ports n) (State.ledger_of_offPorts ports n)
      (u.motionSafe_rests present)

theorem State.enterSafe_standby {s : State} (standby : s.pwr.pstate = .standby) (w : Word) : s.enterSafe w = s.safeLatch w := by
  simp [State.enterSafe, State.safeLatch, standby]

end Sys2Proof.Machine
end
section
/-! SUPPORT. The causes of SAFE, its release, and the commands of DEV.CMD (R99, R102, R105, R109). -/

set_option Elab.async false

namespace Sys2Proof.Machine

open Sys2Proof.Safety

/-! ### Enabled causes (R102) -/

/-- One bit of a word: it is there or nothing is. -/
theorem bitWord_and (k : Nat) (w : Word) : bitWord k &&& w = if w.getLsbD k then bitWord k else 0#16 := by
  apply BitVec.eq_of_getLsbD_eq
  intro i hi
  rw [BitVec.getLsbD_and, getLsbD_bitWord]
  by_cases h : i = k
  · subst h
    cases hw : w.getLsbD i <;> simp [getLsbD_bitWord]
  · cases hw : w.getLsbD k <;> simp [getLsbD_bitWord, h]

theorem safeBit_lt (c : SafeCause) : c.bit < 16 := by cases c <;> decide

theorem bitWord_ne_zero {k : Nat} (hk : k < 16) : bitWord k ≠ 0#16 := by
  intro h
  have bit := getLsbD_bitWord k k
  rw [h] at bit
  simp [hk] at bit

section
variable {s : State} {c : SafeCause}

/-- A cause arises: it is active, or it is the software's. -/
theorem State.causeArises_enabled (free : s.pwr.testHold = false) (arises : s.safeActive c = true ∨ c = .software)
    (en : s.regBit devPage 0x1A c.bit = true) : s.causeArises c = s.enterSafe (bitWord c.bit) := by
  have cause : bitWord c.bit &&& s.reg devPage 0x1A = bitWord c.bit := by rw [bitWord_and]; exact if_pos en
  rw [State.causeArises, if_pos arises, State.safeCauses, cause, if_neg]
  rintro (none | hold)
  · exact bitWord_ne_zero (safeBit_lt c) none
  · simp [free] at hold

theorem State.safeCauses_none {w : Word} (none : w &&& s.reg devPage 0x1A = 0#16) : s.safeCauses w = s := by
  simp [State.safeCauses, none]

theorem State.causeArises_disabled (off : s.regBit devPage 0x1A c.bit = false) : s.causeArises c = s := by
  have cause : bitWord c.bit &&& s.reg devPage 0x1A = 0#16 := by rw [bitWord_and]; exact if_neg (Bool.eq_false_iff.mp off)
  rw [State.causeArises]
  split
  · exact State.safeCauses_none cause
  · rfl

end

/-- The state in which a cause arises: the time told, and with the controller's temperature what its sensor shows. -/
def State.causeTold (s : State) (c : SafeCause) (cy : Nat) : State :=
  { s with time := (s.timeAt cy).time, sup := { s.sup with ctrlHot := s.sup.ctrlHot || decide (c = .ctrlThermal) } }

section
variable (s : State) (c : SafeCause) (cy : Nat)

theorem runs_safeCauseArises {t : State} {P : State → Prop} (run : (s.causeTold c cy).causeArises c = t) (hP : P t) :
    Runs (.safeCauseArises c cy) s P :=
  runs_timeAt (fun u => (u.modSup (fun u => { u with ctrlHot := u.ctrlHot || decide (c = .ctrlThermal) })).causeArises c) rfl run hP

/-- A cause that is active arises, and the two that need no other sign. -/
theorem State.causeTold_arises {s : State} {c : SafeCause} (arises : s.safeActive c = true ∨ c = .software ∨ c = .ctrlThermal) :
    (s.causeTold c cy).safeActive c = true ∨ c = .software := by
  obtain active | software | thermal := arises
  · left
    cases c with
    | ctrlThermal => exact Bool.or_eq_true_iff.mpr (.inr rfl)
    | tripN => exact active
    | ovTrip => exact active
    | bridgeThermal => exact active
    | sram => exact active
    | software => exact active
  · exact .inr software
  · left
    subst thermal
    exact Bool.or_eq_true_iff.mpr (.inr rfl)

end

/-! ### SAFE_EN, RELEASE and CMD -/

section
variable (s : State) (v : Word) (unl : Bool)

theorem State.offsetWrite_safeEn : s.offsetWrite devPage 0x1A v unl = if unl then s.safeEnable v else s := rfl
theorem State.offsetWrite_release : s.offsetWrite devPage 0x1B 0x0001#16 true = s.safeReleaseNow := rfl
theorem State.offsetWrite_ackWakeFail : s.offsetWrite devPage 0x18 0x0001#16 unl = s.setFld devPage 0x10 0 2 0 := rfl
theorem State.offsetWrite_clrAbsentWr : s.offsetWrite devPage 0x18 0x0002#16 unl = s.setReg devPage 0x17 0#16 := rfl
theorem State.offsetWrite_enterSafe : s.offsetWrite devPage 0x18 0x0004#16 unl = s.causeArises .software := rfl

/-- SAFE_EN takes a word that enables no cause which is active now. -/
theorem State.safeEnable_calm (calm : s.activeCauses = 0#16) : s.safeEnable v = s.setReg devPage 0x1A (v &&& 0x003F#16) := by
  rw [State.safeEnable, calm, BitVec.and_zero]
  exact State.safeCauses_none BitVec.zero_and

end

/-- SAFE_EN takes a word that enables an active cause: SAFE is entered. -/
theorem State.safeEnable_enters {s : State} {v : Word} (free : s.pwr.testHold = false)
    (active : v &&& ~~~s.reg devPage 0x1A &&& 0x003F#16 &&& s.activeCauses ≠ 0#16) :
    s.safeEnable v
      = (s.setReg devPage 0x1A (v &&& 0x003F#16)).enterSafe (v &&& ~~~s.reg devPage 0x1A &&& 0x003F#16 &&& s.activeCauses) := by
  have enabled : (v &&& ~~~s.reg devPage 0x1A &&& 0x003F#16 &&& s.activeCauses)
        &&& (s.setReg devPage 0x1A (v &&& 0x003F#16)).reg devPage 0x1A
      = v &&& ~~~s.reg devPage 0x1A &&& 0x003F#16 &&& s.activeCauses := by
    rw [State.reg_setReg_same]
    apply BitVec.eq_of_getLsbD_eq
    intro i hi
    simp only [BitVec.getLsbD_and]
    cases v.getLsbD i <;> cases (0x003F#16).getLsbD i <;> simp
  rw [State.safeEnable, State.safeCauses, enabled, if_neg]
  rintro (none | hold)
  · exact active none
  · simp [free] at hold

section
variable {s : State} (safe : s.pwr.pstate = .safe)
include safe

/-- A release that no latched cause stands against; a gate port in FAULT may come to IDLE with it. -/
theorem State.safeReleaseNow_released (calm : s.reg devPage 0x19 &&& s.activeCauses = 0#16) : ∃ g : Gate,
    s.safeReleaseNow = { (s.setReg devPage 0x19 0#16).modPwr (fun p => { p with pstate := p.ret }) with gate := g } := by
  rw [State.safeReleaseNow, if_neg (by simp [safe]), if_neg (by simp [calm])]
  dsimp only
  split
  · exact ⟨_, State.gateEnter_only_gate _ .idle⟩
  · exact ⟨_, rfl⟩

theorem State.safeReleaseNow_rejected (active : s.reg devPage 0x19 &&& s.activeCauses ≠ 0#16) : s.safeReleaseNow = s.devEvent 5 := by
  rw [State.safeReleaseNow, if_neg (by simp [safe]), if_pos active]

end

/-- WAKE_FAIL is clear once its field is written with 0. -/
theorem State.wakeFail_cleared (s : State) : (s.setFld devPage 0x10 0 2 0).wakeFail = 0 := by
  have low (w : Word) : fld w 0 2 = (w.setWidth 2).toNat := by simp [fld]
  have bits : ((s.reg devPage 0x10 &&& ~~~0x0003#16) ||| (0#16 &&& 0x0003#16)).setWidth 2 = 0#2 := by
    ext i hi
    interval_cases i <;> simp
  have word := s.reg_setReg_same devPage 0x10 ((s.reg devPage 0x10 &&& ~~~0x0003#16) ||| (0#16 &&& 0x0003#16))
  show fld ((s.setReg devPage 0x10 ((s.reg devPage 0x10 &&& ~~~0x0003#16) ||| (0#16 &&& 0x0003#16))).reg devPage 0x10) 0 2 = 0
  rw [word, low, bits]
  rfl

end Sys2Proof.Machine

namespace Sys2Proof
open Machine Safety

/-- Settles O12: what follows the causes is `State.EntersSafe`, and a release changes the power state, SAFE_CAUSE and the gate port. -/
theorem safeIsEnteredAndReleased : Obligations.SafeIsEnteredAndReleased := by
  refine ⟨?_, ?_, ?_, ?_, ?_, ?_, ?_, ?_, ?_, ?_⟩
  · intro s c cy awake free en arises
    let u := s.causeTold c cy
    have enters := State.enterSafe_enters (s := u) awake (bitWord c.bit)
    refine runs_safeCauseArises s c cy (State.causeArises_enabled free (State.causeTold_arises cy arises) en)
      ⟨?_, ?_, ?_, enters.entered, enters.cause, enters.nvs, enters.rests⟩
    · exact congrArg Power.pstate enters.pwr
    · exact congrArg Power.ret enters.pwr
    · exact congrArg Power.held enters.pwr
  · intro s c cy standby free en arises
    let u := s.causeTold c cy
    have run := State.causeArises_enabled (s := u) free (State.causeTold_arises cy arises) en
    exact runs_safeCauseArises s c cy (run.trans (State.enterSafe_standby (s := u) standby _))
      ⟨u.reg_setReg_same devPage 0x19 _, sameRegsBut_setReg u devPage 0x19 _ (by decide), rfl, rfl⟩
  · intro s c cy off
    exact runs_safeCauseArises s c cy (State.causeArises_disabled off) rfl
  · intro s ready awake free en
    let u := s.setUnlock devPage false
    have run : u.causeArises .software = u.enterSafe (bitWord 5) := State.causeArises_enabled free (.inr rfl) en
    have enters := State.enterSafe_enters (s := u) awake (bitWord 5)
    refine runs_devWrite ready rfl (by decide) ((u.offsetWrite_enterSafe _).trans run)
      ((congrArg Nvs.image enters.nvs).trans ready.2.1) ⟨?_, ?_, enters.entered, enters.cause⟩
    · exact congrArg Power.pstate enters.pwr
    · exact congrArg Power.ret enters.pwr
  · intro s v ready unlocked calm
    let u := s.setUnlock devPage false
    have write : u.offsetWrite devPage 0x1A v (s.unlocked devPage) = u.setReg devPage 0x1A (v &&& 0x003F#16) := by
      rw [u.offsetWrite_safeEn, if_pos unlocked]
      exact u.safeEnable_calm v calm
    exact runs_devWrite ready rfl (by decide) write ready.2.1
      ⟨u.reg_setReg_same devPage 0x1A _, sameRegsBut_setReg u devPage 0x1A _ (by decide), rfl⟩
  · intro s v ready unlocked awake free active
    let u := s.setUnlock devPage false
    let w := u.setReg devPage 0x1A (v &&& 0x003F#16)
    let raised := v &&& ~~~s.reg devPage 0x1A &&& 0x003F#16 &&& s.activeCauses
    have write : u.offsetWrite devPage 0x1A v (s.unlocked devPage) = w.enterSafe raised := by
      rw [u.offsetWrite_safeEn, if_pos unlocked]
      exact State.safeEnable_enters (s := u) free active
    have enters := State.enterSafe_enters (s := w) awake raised
    refine runs_devWrite ready rfl (by decide) write ((congrArg Nvs.image enters.nvs).trans ready.2.1)
      ⟨?_, ?_, enters.entered, (enters.dev 0x1A (by decide) (by decide) (by decide)).trans (u.reg_setReg_same devPage 0x1A _)⟩
    · exact congrArg Power.pstate enters.pwr
    · exact congrArg Power.ret enters.pwr
  · intro s hot ready unlocked safe calm
    let u := (s.modSup (fun u => { u with ctrlHot := hot })).setUnlock devPage false
    have write : u.offsetWrite devPage 0x1B 0x0001#16 (s.unlocked devPage) = u.safeReleaseNow := by
      rw [unlocked]
      exact u.offsetWrite_release
    obtain ⟨g, released⟩ := State.safeReleaseNow_released (s := u) safe calm
    exact runs_devWrite (u := s.modSup (fun u => { u with ctrlHot := hot })) ready rfl (by decide) (write.trans released) ready.2.1
      ⟨rfl, u.reg_setReg_same devPage 0x19 0#16, sameRegsBut_setReg u devPage 0x19 0#16 (by decide), rfl⟩
  · intro s hot ready unlocked safe active
    let u := (s.modSup (fun u => { u with ctrlHot := hot })).setUnlock devPage false
    have write : u.offsetWrite devPage 0x1B 0x0001#16 (s.unlocked devPage) = u.safeReleaseNow := by
      rw [unlocked]
      exact u.offsetWrite_release
    exact runs_devWrite (u := s.modSup (fun u => { u with ctrlHot := hot })) ready rfl (by decide)
      (write.trans (State.safeReleaseNow_rejected (s := u) safe active)) ready.2.1
      ⟨rfl, hasEvent_event u devPage 5 (by decide), sameRegsBut_event u devPage 5, rfl⟩
  · intro s ready
    let u := s.setUnlock devPage false
    exact runs_devWrite ready rfl (by decide) (u.offsetWrite_ackWakeFail _) ready.2.1
      ⟨u.wakeFail_cleared, sameRegsBut_setReg u devPage 0x10 _ (by decide), rfl⟩
  · intro s ready
    let u := s.setUnlock devPage false
    exact runs_devWrite ready rfl (by decide) (u.offsetWrite_clrAbsentWr _) ready.2.1
      ⟨u.reg_setReg_same devPage 0x17 0#16, sameRegsBut_setReg u devPage 0x17 0#16 (by decide), rfl⟩

end Sys2Proof
end
section
/-! SUPPORT. What the consumers of a fabric pulse leave alone (R121): each its own fields and the registers of its own page apart. -/

set_option Elab.async false

namespace Sys2Proof.Machine

/-! ### Beside the consumers -/

/-- The registers of FABRIC, and those of DMA but its EVENT. -/
def State.routing (s : State) : Fin 256 → Word × Word := fun o => (s.reg fabricPage o.val, if o = 3 then 0#16 else s.reg dmaPage o.val)

/-- The state beside the consumers of a pulse, and the registers that route it. -/
def State.aloof (s : State) : State × (Fin 256 → Word × Word) :=
  ({ s with regs := [], dma := {}, chand := {}, tmr := {}, cnvs := Vector.replicate 3 {}, ledgers := Vector.replicate 10 {} }, s.routing)

/-- The same with the DMA channels, which the other consumers leave alone. -/
def State.aside (s : State) : (State × (Fin 256 → Word × Word)) × Dma := (s.aloof, s.dma)

/-- A page whose registers route no pulse. -/
def Unrouted (p : Nat) : Prop := p ≠ fabricPage ∧ p ≠ dmaPage

@[simp] theorem unrouted_chandPage : Unrouted chandPage := by unfold Unrouted; decide
@[simp] theorem unrouted_tmrPage : Unrouted tmrPage := by unfold Unrouted; decide
@[simp] theorem unrouted_cnvPage (i : Fin 3) : Unrouted (cnvPage i) := by
  unfold Unrouted cnvPage fabricPage dmaPage
  omega

section
variable {s t : State} (h : t.aloof = s.aloof)
include h

theorem State.pend_of_aloof : t.fab.pend = s.fab.pend := (congrArg (fun x => x.1.fab.pend) h :)
theorem State.mem_of_aloof : t.mem = s.mem := (congrArg (fun x => x.1.mem) h :)
theorem State.nvs_of_aloof : t.nvs = s.nvs := (congrArg (fun x => x.1.nvs) h :)
theorem State.pins_of_aloof : t.pins = s.pins := (congrArg (fun x => x.1.pins) h :)

theorem State.fabricReg_of_aloof {o : Nat} (ho : o < 256) : t.reg fabricPage o = s.reg fabricPage o :=
  congrArg Prod.fst (congrFun (congrArg Prod.snd h) ⟨o, ho⟩)

theorem State.dmaReg_of_aloof {o : Nat} (ho : o < 256) (ne : o ≠ 3) : t.reg dmaPage o = s.reg dmaPage o := by
  let r : Fin 256 := ⟨o, ho⟩
  have same : (if r = 3 then 0#16 else t.reg dmaPage o) = if r = 3 then 0#16 else s.reg dmaPage o :=
    congrArg Prod.snd (congrFun (congrArg Prod.snd h) r)
  have off : r ≠ 3 := fun e => ne (congrArg Fin.val e)
  rwa [if_neg off, if_neg off] at same

end

/-! ### Shared updates -/

section
variable (s : State)

theorem State.routing_setReg (p o : Nat) (v : Word) (ho : o < 256) (hp : p ≠ fabricPage) (hd : p = dmaPage → o = 3) :
    (s.setReg p o v).routing = s.routing := by
  funext r
  have fabric : (s.setReg p o v).reg fabricPage r.val = s.reg fabricPage r.val :=
    s.reg_setReg_other _ _ _ _ _ (fun e => hp (key_inj ho r.isLt e).1)
  rw [State.routing, State.routing, fabric]
  split
  · rfl
  · next ne =>
    rw [s.reg_setReg_other]
    intro e
    obtain ⟨rfl, rfl⟩ := key_inj ho r.isLt e
    exact ne (Fin.ext (hd rfl))

@[simp] theorem State.aside_modChand (f : Chand → Chand) : (s.modChand f).aside = s.aside := (rfl)
@[simp] theorem State.aside_modStr (n : Fin 4) (f : Str → Str) : (s.modStr n f).aside = s.aside := (rfl)
@[simp] theorem State.aside_modLamp (n : Fin 4) (k : Fin 8) (f : Lamp → Lamp) : (s.modLamp n k f).aside = s.aside := (rfl)
@[simp] theorem State.aside_modTmr (n : Fin 8) (f : Timer → Timer) : (s.modTmr n f).aside = s.aside := (rfl)
@[simp] theorem State.aside_modCnv (i : Fin 3) (f : Cnv → Cnv) : (s.modCnv i f).aside = s.aside := (rfl)
@[simp] theorem State.aside_modLedger (n : Ax) (f : Ledger → Ledger) : (s.modLedger n f).aside = s.aside := (rfl)

@[simp] theorem State.aside_setReg (p o : Nat) (v : Word) (hp : Unrouted p) (ho : o < 256) : (s.setReg p o v).aside = s.aside :=
  Prod.ext (Prod.ext rfl (s.routing_setReg p o v ho hp.1 (fun e => absurd e hp.2))) rfl

@[simp] theorem State.aside_setFld (p o l w v : Nat) (hp : Unrouted p) (ho : o < 256) : (s.setFld p o l w v).aside = s.aside :=
  s.aside_setReg p o _ hp ho

@[simp] theorem State.aside_setWide (p o : Nat) (v : Wide) (hp : Unrouted p) (ho : o + 1 < 256) : (s.setWide p o v).aside = s.aside :=
  (State.aside_setReg _ p (o + 1) _ hp ho).trans (s.aside_setReg p o _ hp (by omega))

@[simp] theorem State.aside_event (p k : Nat) (hp : Unrouted p) : (s.event p k).aside = s.aside := s.aside_setReg p 3 _ hp (by decide)

@[simp] theorem State.aside_eventIf (c : Bool) (p k : Nat) (hp : Unrouted p) : (s.eventIf c p k).aside = s.aside := by
  cases c
  · rfl
  · exact s.aside_event p k hp

@[simp] theorem State.aside_ite (c : Prop) {_ : Decidable c} (t : State) :
    (if c then t else s).aside = if c then t.aside else s.aside := apply_ite State.aside c t s

/-! ### The consumers, the DMA channels apart -/

@[simp] theorem State.aside_flashRefuse (c : Nat) : (s.flashRefuse c).aside = s.aside := by
  simp [State.flashRefuse, State.chandEvent]

@[simp] theorem State.aside_flashOpen (n : Fin 4) : (s.flashOpen n).aside = s.aside :=
  foldl_keeps State.aside _ _ s (fun u k _ hu => by simpa using hu)

theorem State.aside_flashStart (strs : List (Fin 4)) : (s.flashStart strs).aside = s.aside := by
  unfold State.flashStart
  extract_lets lit groups lowered cleared
  have hlit : lit.aside = s.aside := by
    refine foldl_keeps State.aside _ _ s (fun u n _ hu => ?_)
    split <;> simpa using hu
  have hlowered : lowered.aside = s.aside := by simpa [lowered] using hlit
  have hcleared : cleared.aside = s.aside := by
    rw [← hlowered]
    refine foldl_keeps State.aside _ _ lowered (fun u g mem hu => ?_)
    have small : g < 3 := by simp at mem; omega
    split
    · exact hu
    · rw [State.aside_setReg _ _ _ _ unrouted_chandPage (by omega), State.aside_setReg _ _ _ _ unrouted_chandPage (by omega), hu]
  split
  · exact hlit
  · rwa [State.aside_modChand]

@[simp] theorem State.aside_flashPulse (codes : List Nat) (own : List (Fin 4)) : (s.flashPulse codes own).aside = s.aside := by
  simp [State.flashPulse, State.aside_flashStart]

theorem tOff_lt (n : Fin 8) {k : Nat} (hk : k < 16) : tOff n.val k < 256 := by unfold tOff; omega

@[simp] theorem State.aside_tmrFlag (n : Fin 8) (k : Nat) : (s.tmrFlag n k).aside = s.aside := by
  simp [State.tmrFlag, tOff_lt n]

@[simp] theorem State.aside_tmrCapture (n : Fin 8) : (s.tmrCapture n).aside = s.aside := by
  have off : tOff n.val 0xA + 1 < 256 := by unfold tOff; omega
  simp [State.tmrCapture, off]

@[simp] theorem State.aside_tmrPulse (n : Fin 8) (codes : List Nat) : (s.tmrPulse n codes).aside = s.aside := by
  simp [State.tmrPulse, State.tmrStop, State.tmrStart]

@[simp] theorem State.aside_beginWork (i : Fin 3) (w : CWork) (a b : Word) : (s.beginWork i w a b).aside = s.aside := (rfl)

@[simp] theorem State.aside_kick (i : Fin 3) : (s.kick i).aside = s.aside := by
  simp [State.kick, State.nextWork]

@[simp] theorem State.aside_cnvGo (i : Fin 3) : (s.cnvGo i).aside = s.aside := by
  simp [State.cnvGo, State.cnvEvent]

@[simp] theorem State.aside_cnvInject (i : Fin 3) : (s.cnvInject i).aside = s.aside := by
  unfold State.cnvInject
  dsimp only
  split
  · rfl
  · split
    · simp [State.cnvEvent]
    · split
      · simp [State.cnvEvent]
      · split <;> simp [State.injStart, State.cnvEvent]

@[simp] theorem State.aside_cnvPulse (i : Fin 3) (codes : List Nat) : (s.cnvPulse i codes).aside = s.aside := by
  simp [State.cnvPulse]

@[simp] theorem State.aside_ledgerPulse (n : Ax) (codes : List Nat) : (s.ledgerPulse n codes).aside = s.aside := by
  unfold State.ledgerPulse
  dsimp only
  split
  · simp [State.markSeen]
  · rfl

end

end Sys2Proof.Machine
end
section
/-! SUPPORT. A pulse that reaches every consumer in one cycle, and the request it is to a DMA channel (R121, R127, R130). -/

set_option Elab.async false

namespace Sys2Proof.Machine

/-! ### DMA channels -/

theorem mem_allChans : ∀ c : Fin 8, c ∈ allChans := by decide

theorem dOff_lt (c : Fin 8) {k : Nat} (hk : k < 8) : dOff c.val k < 256 := by unfold dOff; omega
theorem dOff_ne_event (c : Fin 8) (k : Nat) : dOff c.val k ≠ 3 := by unfold dOff; omega

theorem State.dmaCh_modDma_same (s : State) (c : Fin 8) (f : DmaCh → DmaCh) : (s.modDma c f).dmaCh c = f (s.dmaCh c) := by
  simp [State.dmaCh, State.modDma]

theorem State.dmaCh_modDma_other (s : State) {c d : Fin 8} (f : DmaCh → DmaCh) (h : d ≠ c) : (s.modDma d f).dmaCh c = s.dmaCh c := by
  simp [State.dmaCh, State.modDma, Fin.val_ne_of_ne h]

@[simp] theorem State.dmaCh_event (s : State) (p k : Nat) (c : Fin 8) : (s.event p k).dmaCh c = s.dmaCh c := (rfl)

@[simp] theorem State.aloof_modDma (s : State) (c : Fin 8) (f : DmaCh → DmaCh) : (s.modDma c f).aloof = s.aloof := (rfl)

@[simp] theorem State.aloof_event_dma (s : State) (k : Nat) : (s.event dmaPage k).aloof = s.aloof :=
  Prod.ext rfl (s.routing_setReg dmaPage 3 _ (by decide) (by decide) (fun _ => rfl))

/-- A request does nothing but to its own channel, with the channel's ERROR event. -/
theorem State.dmaRequest_cases (s : State) (c : Fin 8) :
    s.dmaRequest c = s ∨ ∃ f, s.dmaRequest c = s.modDma c f ∨ s.dmaRequest c = (s.modDma c f).event dmaPage (8 + c.val) := by
  unfold State.dmaRequest
  dsimp only
  split
  · exact .inl rfl
  · split
    · exact .inr ⟨_, .inl rfl⟩
    · split
      · exact .inr ⟨_, .inl rfl⟩
      · exact .inr ⟨_, .inr rfl⟩
    · exact .inl rfl

theorem State.aloof_dmaRequest (s : State) (c : Fin 8) : (s.dmaRequest c).aloof = s.aloof := by
  obtain h | ⟨f, h | h⟩ := s.dmaRequest_cases c <;> simp [h]

theorem State.dmaCh_dmaRequest_other (s : State) {c d : Fin 8} (ne : d ≠ c) : (s.dmaRequest d).dmaCh c = s.dmaCh c := by
  obtain h | ⟨f, h | h⟩ := s.dmaRequest_cases d <;> simp [h, s.dmaCh_modDma_other _ ne]

theorem State.aloof_dmaPulse (s : State) (c : Fin 8) (codes : List Nat) : (s.dmaPulse c codes).aloof = s.aloof := by
  unfold State.dmaPulse
  split
  · exact s.aloof_dmaRequest c
  · rfl

theorem State.dmaCh_dmaPulse_other (s : State) {c d : Fin 8} (ne : d ≠ c) (codes : List Nat) :
    (s.dmaPulse d codes).dmaCh c = s.dmaCh c := by
  unfold State.dmaPulse
  split
  · exact s.dmaCh_dmaRequest_other ne
  · rfl

/-- The channel is ARMED for the fabric output of this code: DMA enabled and not frozen, its trigger enabled and selecting it. -/
structure State.ArmedFor (s : State) (c : Fin 8) (code : Nat) : Prop where
  enabled : s.regBit dmaPage 0x01 0 = true
  thawed : s.pins.frz = false
  triggered : s.regBit dmaPage (dOff c.val 0) 5 = true
  selects : s.regFld dmaPage (dOff c.val 0) 0 5 = code
  armed : (s.dmaCh c).st = .armed

theorem State.ArmedFor.congr {s t : State} {c : Fin 8} {code : Nat} (h : s.ArmedFor c code)
    (regs : ∀ o < 256, o ≠ 3 → t.reg dmaPage o = s.reg dmaPage o) (pins : t.pins = s.pins) (ch : t.dmaCh c = s.dmaCh c) :
    t.ArmedFor c code := by
  have ctrl := regs 0x01 (by decide) (by decide)
  have cfg := regs (dOff c.val 0) (dOff_lt c (by decide)) (dOff_ne_event c 0)
  obtain ⟨enabled, thawed, triggered, selects, armed⟩ := h
  exact ⟨by rwa [State.regBit, ctrl], by rwa [pins], by rwa [State.regBit, cfg], by rwa [State.regFld, cfg], by rwa [ch]⟩

theorem State.ArmedFor.of_aloof {s t : State} {c : Fin 8} {code : Nat} (h : s.ArmedFor c code) (aloof : t.aloof = s.aloof)
    (ch : t.dmaCh c = s.dmaCh c) : t.ArmedFor c code :=
  h.congr (fun _ ho ne => State.dmaReg_of_aloof aloof ho ne) (State.pins_of_aloof aloof) ch

/-- The request makes an ARMED channel ACTIVE (R127). -/
theorem State.ArmedFor.dmaPulse {s : State} {c : Fin 8} {code : Nat} (h : s.ArmedFor c code) {codes : List Nat} (mem : code ∈ codes) :
    (s.dmaPulse c codes).dmaCh c = { s.dmaCh c with st := .active } := by
  obtain ⟨enabled, thawed, triggered, selects, armed⟩ := h
  have pulse : s.dmaPulse c codes = s.modDma c (fun c => { c with st := .active }) := by
    simp [State.dmaPulse, State.dmaRequest, enabled, thawed, triggered, selects, armed, mem]
  rw [pulse, s.dmaCh_modDma_same]

/-! ### Every consumer together -/

/-- Where the other steps of a fold leave an observation, one step alone shows. -/
theorem foldl_at {α β : Type} (get : State → α) (f : State → β → State) {l : List β} {x : β} (nodup : l.Nodup) (mem : x ∈ l)
    (s : State) (others : ∀ u y, y ≠ x → get (f u y) = get u) : ∃ u, get u = get s ∧ get (l.foldl f s) = get (f u x) := by
  obtain ⟨before, after, rfl⟩ := List.append_of_mem mem
  obtain ⟨-, tail, apart⟩ := List.nodup_append.mp nodup
  refine ⟨before.foldl f s, foldl_keeps get f before s fun u y hy hu => ?_, ?_⟩
  · rw [others u y (apart y hy x List.mem_cons_self), hu]
  · rw [List.foldl_append, List.foldl_cons]
    refine foldl_keeps get f after _ fun u y hy hu => ?_
    rw [others u y (fun e => (List.nodup_cons.mp tail).1 (e ▸ hy)), hu]

/-- The consumers that take the pulse before the DMA channels do. -/
def State.deliverFirst (s : State) (codes : List Nat) (own : List (Fin 4)) : State :=
  allConvs.foldl (fun s i => s.cnvPulse i codes) (allTimers.foldl (fun s n => s.tmrPulse n codes) (s.flashPulse codes own))

theorem State.aside_deliverFirst (s : State) (codes : List Nat) (own : List (Fin 4)) : (s.deliverFirst codes own).aside = s.aside := by
  have timers := foldl_keeps State.aside (fun s n => s.tmrPulse n codes) allTimers (s.flashPulse codes own)
    (fun u n _ hu => by simpa using hu)
  have convs := foldl_keeps State.aside (fun s i => s.cnvPulse i codes) allConvs
    (allTimers.foldl (fun s n => s.tmrPulse n codes) (s.flashPulse codes own)) (fun u i _ hu => by simpa using hu)
  exact (convs.trans timers).trans (s.aside_flashPulse codes own)

/-- After the other consumers each DMA channel takes its request, and after them each ledger. -/
theorem State.aside_deliver (s : State) (codes : List Nat) (own : List (Fin 4)) :
    (s.deliver codes own).aside = (allChans.foldl (fun s n => s.dmaPulse n codes) (s.deliverFirst codes own)).aside :=
  State.forAxes_keeps _ State.aside (fun n s => s.ledgerPulse n codes) _ (fun u n _ hu => by simpa using hu)

theorem State.aloof_deliver (s : State) (codes : List Nat) (own : List (Fin 4)) : (s.deliver codes own).aloof = s.aloof := by
  have chans := foldl_keeps State.aloof (fun s n => s.dmaPulse n codes) allChans (s.deliverFirst codes own)
    (fun u n _ hu => (u.aloof_dmaPulse n codes).trans hu)
  exact (congrArg Prod.fst (s.aside_deliver codes own)).trans (chans.trans (congrArg Prod.fst (s.aside_deliverFirst codes own)))

theorem State.dmaCh_of_aside {s t : State} (h : t.aside = s.aside) (c : Fin 8) : t.dmaCh c = s.dmaCh c :=
  congrArg (fun d : Dma => d.ch[c]) (congrArg Prod.snd h)

/-- A pulse on the output that an ARMED channel selects makes the channel ACTIVE and changes nothing else in it. -/
theorem State.ArmedFor.deliver {s : State} {c : Fin 8} {code : Nat} (h : s.ArmedFor c code) {codes : List Nat} (mem : code ∈ codes)
    (own : List (Fin 4)) : (s.deliver codes own).dmaCh c = { s.dmaCh c with st := .active } := by
  have first := s.aside_deliverFirst codes own
  obtain ⟨u, hu, last⟩ := foldl_at (fun s => (s.aloof, s.dmaCh c)) (fun s n => s.dmaPulse n codes) (l := allChans) (x := c)
    (by decide) (mem_allChans c) (s.deliverFirst codes own)
    (fun u d ne => Prod.ext (u.aloof_dmaPulse d codes) (u.dmaCh_dmaPulse_other ne codes))
  have aloof : u.aloof = s.aloof := (congrArg Prod.fst hu).trans (congrArg Prod.fst first)
  have ch : u.dmaCh c = s.dmaCh c := (congrArg Prod.snd hu).trans (State.dmaCh_of_aside first c)
  calc (s.deliver codes own).dmaCh c = (u.dmaPulse c codes).dmaCh c :=
        (State.dmaCh_of_aside (s.aside_deliver codes own) c).trans (congrArg Prod.snd last)
    _ = { s.dmaCh c with st := .active } := by rw [(h.of_aloof aloof ch).dmaPulse mem, ch]

end Sys2Proof.Machine
end
section
/-! SUPPORT. The lines of one FBUS cycle and their delay elements (R117, R119, R120). -/

set_option Elab.async false

namespace Sys2Proof.Machine

open Sys2Proof.Safety

/-- The lines of `w` have pulsed: LINE_SEEN shows them, those with a pulse pending set DLY_OVR, and those whose DELAY is not 0 have one
pending now. Nothing else differs. -/
structure State.LinesOut (s : State) (w : Word) (t : State) : Prop where
  only : t = { s with regs := t.regs, fab := t.fab }
  regs : SameRegsBut [(fabricPage, 0x29), (fabricPage, 0x03)] s t
  seen : t.reg fabricPage 0x29 = s.reg fabricPage 0x29 ||| w
  ovr : t.reg fabricPage 0x03 = s.reg fabricPage 0x03 ||| (w &&& s.fab.pend)
  pend : ∀ k : Fin 16, t.fab.pend.getLsbD k.val =
    (s.fab.pend.getLsbD k.val || (w.getLsbD k.val && decide (s.reg fabricPage (0x18 + k.val) ≠ 0#16)))

namespace State.LinesOut

variable {s t u : State} {v w : Word}

theorem refl (s : State) : s.LinesOut 0#16 s where
  only := rfl
  regs := fun _ _ _ _ => rfl
  seen := (BitVec.or_zero).symm
  ovr := by simp
  pend := by simp

theorem fabricReg (h : s.LinesOut w t) {o : Nat} (ho : o < 256) (seen : o ≠ 0x29) (ovr : o ≠ 0x03) :
    t.reg fabricPage o = s.reg fabricPage o := h.regs fabricPage o ho (by simp [seen, ovr])

theorem dmaReg (h : s.LinesOut w t) {o : Nat} (ho : o < 256) : t.reg dmaPage o = s.reg dmaPage o :=
  h.regs dmaPage o ho (by simp [dmaPage, fabricPage])

/-- Other lines that pulse after them find the delay elements of their own as they were. -/
theorem trans (h : s.LinesOut v t) (h' : t.LinesOut w u) (apart : v &&& w = 0#16) : s.LinesOut (v ||| w) u where
  only := by rw [h'.only, h.only]
  regs := fun p o ho ne => (h'.regs p o ho ne).trans (h.regs p o ho ne)
  seen := by rw [h'.seen, h.seen, BitVec.or_assoc]
  ovr := by
    have own : w &&& t.fab.pend = w &&& s.fab.pend := by
      refine BitVec.eq_of_getLsbD_eq fun i hi => ?_
      have one : (v.getLsbD i && w.getLsbD i) = false := by rw [← BitVec.getLsbD_and, apart, BitVec.getLsbD_zero]
      have pend := h.pend ⟨i, hi⟩
      dsimp only at pend
      rw [BitVec.getLsbD_and, BitVec.getLsbD_and, pend]
      cases hw : w.getLsbD i
      · rfl
      · have hv : v.getLsbD i = false := by simpa [hw] using one
        simp [hv]
    rw [h'.ovr, h.ovr, own, BitVec.or_assoc, BitVec.and_comm (v ||| w), BitVec.and_or_distrib_left, BitVec.and_comm v, BitVec.and_comm w]
  pend := fun k => by
    rw [h'.pend k, h.pend k, h.fabricReg (by omega) (by omega) (by omega), BitVec.getLsbD_or, Bool.and_or_distrib_right, Bool.or_assoc]

end State.LinesOut

/-- One line pulses: its own delay element alone can take a pulse. -/
theorem State.LinesOut.of_line {s t : State} {l : Fin 16} (only : t = { s with regs := t.regs, fab := t.fab })
    (regs : SameRegsBut [(fabricPage, 0x29), (fabricPage, 0x03)] s t)
    (seen : t.reg fabricPage 0x29 = s.reg fabricPage 0x29 ||| bitWord l.val)
    (ovr : t.reg fabricPage 0x03 = s.reg fabricPage 0x03 ||| if s.fab.pend.getLsbD l.val then bitWord l.val else 0#16)
    (own : t.fab.pend.getLsbD l.val = (s.fab.pend.getLsbD l.val || decide (s.reg fabricPage (0x18 + l.val) ≠ 0#16)))
    (others : ∀ k ≠ l, t.fab.pend.getLsbD k.val = s.fab.pend.getLsbD k.val) : s.LinesOut (bitWord l.val) t := by
  refine ⟨only, regs, seen, by rw [ovr, bitWord_and], fun k => ?_⟩
  rw [getLsbD_bitWord]
  by_cases same : k = l
  · rw [same, own, decide_eq_true rfl, decide_eq_true l.isLt, Bool.true_and, Bool.true_and]
  · rw [others k same, decide_eq_false (fun e => same (Fin.ext e)), Bool.false_and, Bool.false_and, Bool.or_false]

theorem State.lineOut_linesOut (s : State) (l : Fin 16) : s.LinesOut (bitWord l.val) (s.lineOut l).2 := by
  let u := s.setReg fabricPage 0x29 (s.reg fabricPage 0x29 ||| bitWord l.val)
  have seen : u.reg fabricPage 0x29 = s.reg fabricPage 0x29 ||| bitWord l.val := s.reg_setReg_same fabricPage 0x29 _
  have ovr : u.reg fabricPage 0x03 = s.reg fabricPage 0x03 := s.reg_setReg_other _ _ _ _ _ (by decide)
  have delay : u.reg fabricPage (0x18 + l.val) = s.reg fabricPage (0x18 + l.val) := s.reg_setReg_other _ _ _ _ _ (by omega)
  have regs : SameRegsBut [(fabricPage, 0x29), (fabricPage, 0x03)] s u := fun p o ho ne =>
    sameRegsBut_setReg s fabricPage 0x29 _ (by decide) p o ho (fun mem => ne (List.mem_append_left _ mem))
  have run : (s.lineOut l).2 = if s.fab.pend.getLsbD l.val then u.event fabricPage l.val
      else if u.reg fabricPage (0x18 + l.val) = 0#16 then u else u.modFab (fun f => { f with pend := f.pend ||| bitWord l.val }) := by
    simp only [State.lineOut, apply_ite Prod.snd]
    rfl
  rw [run, delay]
  split
  · next waits =>
    have more : SameRegsBut [(fabricPage, 0x29), (fabricPage, 0x03)] s (u.event fabricPage l.val) := fun p o ho ne =>
      (sameRegsBut_event u fabricPage l.val p o ho (fun mem => ne (List.mem_cons_of_mem _ mem))).trans (regs p o ho ne)
    refine .of_line rfl more ((u.reg_setReg_other _ _ _ _ _ (by decide)).trans seen) ?_ ?_ (fun _ _ => rfl)
    · rw [if_pos waits, ← ovr]
      exact u.reg_setReg_same fabricPage 0x03 _
    · rw [waits, Bool.true_or]
      exact waits
  · next free =>
    split
    · next zero =>
      refine .of_line rfl regs seen ?_ ?_ (fun _ _ => rfl)
      · rw [if_neg free, ovr, BitVec.or_zero]
      · rw [decide_eq_false (not_not_intro zero), Bool.or_false]
        rfl
    · next nonzero =>
      have pend (k : Fin 16) : (s.fab.pend ||| bitWord l.val).getLsbD k.val = (s.fab.pend.getLsbD k.val || decide (k = l)) := by
        rw [BitVec.getLsbD_or, getLsbD_bitWord, decide_eq_true k.isLt, Bool.and_true]
        simp only [Fin.ext_iff]
      refine .of_line rfl regs seen ?_ ?_ (fun k ne => ?_)
      · rw [if_neg free, BitVec.or_zero]
        exact ovr
      · rw [decide_eq_true nonzero]
        exact (pend l).trans (by rw [decide_eq_true rfl])
      · exact (pend k).trans (by rw [decide_eq_false ne, Bool.or_false])

theorem State.mem_lineOut (s : State) (l : Fin 16) : l.val ∈ (s.lineOut l).1 := by
  unfold State.lineOut
  dsimp only
  split
  · simp
  · split <;> simp

/-! ### Lines one after the other -/

/-- One more line of the FBUS cycle, with the outputs that pulse so far. -/
def lineStep (p : List Nat × State) (l : Fin 16) : List Nat × State := (p.1 ++ (p.2.lineOut l).1, (p.2.lineOut l).2)

/-- The word of these lines. -/
def lineWord (ls : List (Fin 16)) : Word := ls.foldr (fun l w => bitWord l.val ||| w) 0#16

theorem getLsbD_lineWord (ls : List (Fin 16)) (k : Fin 16) : (lineWord ls).getLsbD k.val = decide (k ∈ ls) := by
  induction ls with
  | nil => simp [lineWord]
  | cons l ls ih =>
    rw [lineWord, List.foldr_cons, BitVec.getLsbD_or, getLsbD_bitWord, ← lineWord, ih]
    simp [Fin.ext_iff]

/-- The lines that a word names. -/
def linesNamed (w : Word) : List (Fin 16) := (List.finRange 16).filter (fun l => w.getLsbD l.val)

theorem mem_linesNamed {w : Word} {l : Fin 16} : l ∈ linesNamed w ↔ w.getLsbD l.val = true := by simp [linesNamed]

theorem lineWord_linesNamed (w : Word) : lineWord (linesNamed w) = w :=
  BitVec.eq_of_getLsbD_eq fun i hi => by
    rw [getLsbD_lineWord _ ⟨i, hi⟩, Bool.eq_iff_iff, decide_eq_true_eq, mem_linesNamed]

theorem foldl_lineStep_linesOut {ls : List (Fin 16)} (nodup : ls.Nodup) (p : List Nat × State) :
    p.2.LinesOut (lineWord ls) (ls.foldl lineStep p).2 := by
  induction ls generalizing p with
  | nil => exact .refl _
  | cons l ls ih =>
    obtain ⟨new, nodup⟩ := List.nodup_cons.mp nodup
    refine (p.2.lineOut_linesOut l).trans (ih nodup (lineStep p l)) ?_
    rw [bitWord_and, ← lineWord, getLsbD_lineWord, if_neg (by simpa using new)]

theorem mem_foldl_lineStep (ls : List (Fin 16)) (p : List Nat × State) {code : Nat}
    (h : code ∈ p.1 ∨ ∃ l ∈ ls, l.val = code) : code ∈ (ls.foldl lineStep p).1 := by
  induction ls generalizing p with
  | nil => simpa using h
  | cons l ls ih =>
    refine ih (lineStep p l) ?_
    obtain h | ⟨k, hk, rfl⟩ := h
    · exact .inl (List.mem_append_left _ h)
    · obtain rfl | hk := List.mem_cons.mp hk
      · exact .inl (List.mem_append_right _ (p.2.mem_lineOut k))
      · exact .inr ⟨k, hk, rfl⟩

/-- The lines of `w` pulse, and every consumer receives their direct outputs among the codes. -/
theorem State.linesPulse_delivers (s : State) (w : Word) (codes : List Nat) (own : List (Fin 4)) : ∃ t all, s.LinesOut w t ∧
    s.linesPulse w codes own = t.deliver all own ∧ ∀ k : Fin 16, w.getLsbD k.val = true → k.val ∈ all := by
  refine ⟨_, _, ?_, rfl, fun k hk => ?_⟩
  · have out := foldl_lineStep_linesOut (ls := linesNamed w) ((List.nodup_finRange 16).filter _) (codes, s)
    rw [lineWord_linesNamed] at out
    exact out
  · exact mem_foldl_lineStep (linesNamed w) (codes, s) (.inr ⟨k, mem_linesNamed.mpr hk, rfl⟩)

end Sys2Proof.Machine
end
section
/-! SUPPORT. A line that owes a pulse, and delayed outputs (R117, R119 to R121). -/

set_option Elab.async false

namespace Sys2Proof.Machine

open Sys2Proof.Safety

theorem and_not_and_self (p w : Word) : p &&& ~~~(w &&& p) = p &&& ~~~w := by
  refine BitVec.eq_of_getLsbD_eq fun i _ => ?_
  simp only [BitVec.getLsbD_and, BitVec.getLsbD_not]
  cases p.getLsbD i <;> simp

@[simp] theorem State.flashPulse_nothing (s : State) : s.flashPulse [] [] = s := by simp [State.flashPulse]

theorem mem_linesIn {w : Word} {k : Fin 16} (h : w.getLsbD k.val = true) : k.val ∈ linesIn w := by simp [linesIn, h]

section
variable {s : State} {l : Fin 16} {also delayed w : Word}

/-! ### A line that owes a pulse -/

/-- A line that owes none presents nothing. -/
theorem State.lineDue_none (owes : s.fab.due.find? (fun w => w.getLsbD l.val) = none) : s.lineDue l also delayed = s := by
  rw [State.lineDue, owes]
  exact s.flashPulse_nothing

/-- The lines that pulse with the oldest word `w` of a line, and the words that stay due. -/
def State.taken (s : State) (also w : Word) : Word × List Word := dueTake (linesIn also) (w, s.fab.due.erase w)

/-- The delayed outputs of the FBUS cycle have left their delay elements before the direct pulses reach them (R120). -/
def State.released (s : State) (also delayed w : Word) : State :=
  s.modFab (fun f => { f with due := (s.taken also w).2, pend := f.pend &&& ~~~delayed })

/-- The lines of the FBUS cycle pulse, and every consumer receives the pulse of each. -/
theorem State.lineDue_delivers (on : s.fabricOn = true) (owes : s.fab.due.find? (fun w => w.getLsbD l.val) = some w) :
    ∃ u all, (s.released also delayed w).LinesOut (s.taken also w).1 u ∧ s.lineDue l also delayed = u.deliver all [] ∧
      ∀ k : Fin 16, (s.taken also w).1.getLsbD k.val = true → k.val ∈ all := by
  have run : s.lineDue l also delayed
      = (s.released also delayed w).linesPulse (s.taken also w).1 ((linesIn (delayed &&& s.fab.pend)).map (16 + ·)) := by
    rw [State.lineDue, owes, State.released, State.modFab, ← and_not_and_self]
    exact if_pos on
  rw [run]
  exact (s.released also delayed w).linesPulse_delivers _ _ _

theorem State.lineDue_shows (on : s.fabricOn = true) (owes : s.fab.due.find? (fun w => w.getLsbD l.val) = some w) :
    ∃ u, (s.released also delayed w).LinesOut (s.taken also w).1 u ∧ (s.lineDue l also delayed).aloof = u.aloof := by
  obtain ⟨u, all, out, run, -⟩ := State.lineDue_delivers (also := also) (delayed := delayed) on owes
  exact ⟨u, out, by rw [run, State.aloof_deliver]⟩

/-- An ARMED channel that selects one of the lines becomes ACTIVE. -/
theorem State.ArmedFor.lineDue {c : Fin 8} {k : Fin 16} (h : s.ArmedFor c k.val) (on : s.fabricOn = true)
    (owes : s.fab.due.find? (fun w => w.getLsbD l.val) = some w) (pulses : (s.taken also w).1.getLsbD k.val = true) :
    (s.lineDue l also delayed).dmaCh c = { s.dmaCh c with st := .active } := by
  obtain ⟨u, all, out, run, mem⟩ := State.lineDue_delivers (also := also) (delayed := delayed) on owes
  have pins : u.pins = s.pins := by rw [out.only]; rfl
  have ch : u.dmaCh c = s.dmaCh c := by rw [out.only]; rfl
  rw [run, (h.congr (fun _ ho _ => out.dmaReg ho) pins ch).deliver (mem k pulses), ch]

/-! ### Delayed outputs -/

/-- The delayed outputs of the word that have a pulse pending pulse. -/
theorem State.lineDelayed_some (on : s.fabricOn = true) (waits : w &&& s.fab.pend ≠ 0#16) :
    s.lineDelayed w = (s.modFab (fun f => { f with pend := f.pend &&& ~~~w })).deliver ((linesIn (w &&& s.fab.pend)).map (16 + ·)) := by
  rw [State.lineDelayed]
  refine (if_pos (And.intro on waits)).trans ?_
  rw [State.modFab, and_not_and_self]
  rfl

theorem State.lineDelayed_none (free : w &&& s.fab.pend = 0#16) : s.lineDelayed w = s := by
  rw [State.lineDelayed, free]
  exact (if_neg (by simp)).trans s.flashPulse_nothing

theorem State.lineDelayed_shows (on : s.fabricOn = true) :
    (s.lineDelayed w).aloof = (s.modFab (fun f => { f with pend := f.pend &&& ~~~w })).aloof := by
  by_cases free : w &&& s.fab.pend = 0#16
  · rw [State.lineDelayed_none free, State.modFab, ← and_not_and_self, free, BitVec.not_zero, BitVec.and_allOnes]
  · rw [State.lineDelayed_some on free, State.aloof_deliver]

/-- An ARMED channel that selects one of them becomes ACTIVE. -/
theorem State.ArmedFor.lineDelayed {c : Fin 8} {k : Fin 16} (h : s.ArmedFor c (16 + k.val)) (on : s.fabricOn = true)
    (pulses : (w &&& s.fab.pend).getLsbD k.val = true) : (s.lineDelayed w).dmaCh c = { s.dmaCh c with st := .active } := by
  have waits : w &&& s.fab.pend ≠ 0#16 := fun free => by simp [free] at pulses
  rw [State.lineDelayed_some on waits]
  exact State.ArmedFor.deliver (s := s.modFab _) (h.congr (fun _ _ _ => rfl) rfl rfl) (List.mem_map_of_mem (mem_linesIn pulses)) []

end

/-! ### SWPULSE -/

/-- A ready page takes SWPULSE: the lines named owe a pulse in an FBUS cycle of their own, until the next one is joined to it. -/
theorem State.access_swPulse {s : State} {v : Word} (ready : PortReady s fabricPage) (on : s.fabricOn = true) (names : v ≠ 0#16) :
    s.access fabricPage 0x28 v = (s.setUnlock fabricPage false).modFab (fun f => { f with due := f.due ++ [v] }) := by
  have write : (s.setUnlock fabricPage false).offsetWrite fabricPage 0x28 v (s.unlocked fabricPage)
      = (s.setUnlock fabricPage false).modFab (fun f => { f with due := f.due ++ [v] }) :=
    (if_pos on).trans (if_neg names)
  rw [State.access_unit ready (by decide) (by decide) (by decide) (by rw [write]; exact ready.2.1), write]

theorem State.locked_setUnlock (s : State) {p : Nat} (hp : p < 64) : (s.setUnlock p false).unlocked p = false := by
  rw [s.unlocked_setUnlock p p false hp, if_pos rfl]

end Sys2Proof.Machine

namespace Sys2Proof
open Machine Safety

/-- Settles O16: the lines of one FBUS cycle go through their delay elements one by one, what the consumers then do leaves FABRIC alone,
and the selecting DMA channel is one of them. -/
theorem fabricLinesPulse : Obligations.FabricLinesPulse := by
  refine ⟨?_, ?_, ?_, ?_, ?_, ?_, ?_⟩
  · intro s v ready enabled awake names
    have write := State.access_swPulse ready (Bool.and_eq_true_iff.mpr ⟨awake, enabled⟩) names
    refine ⟨_, rfl, ?_⟩
    rw [if_neg (by simp), write]
    exact ⟨rfl, rfl, rfl, s.locked_setUnlock (by decide)⟩
  · intro s v ready enabled awake names one
    have write := State.access_swPulse ready (Bool.and_eq_true_iff.mpr ⟨awake, enabled⟩) names
    obtain ⟨w, due⟩ := List.length_eq_one_iff.mp one
    refine ⟨_, rfl, ?_⟩
    rw [write, if_pos (by simp [State.modFab])]
    exact ⟨rfl, rfl, by simp [State.modFab, due, mergeDue], s.locked_setUnlock (by decide)⟩
  · intro s l also delayed cy on owes
    obtain ⟨w, owes⟩ := Option.isSome_iff_exists.mp owes
    rw [owes]
    let u : State := { s with time := (s.timeAt cy).time }
    obtain ⟨t, out, aloof⟩ := State.lineDue_shows (s := u) (also := also) (delayed := delayed) on owes
    refine runs_timeAt (State.lineDue · l also delayed) rfl rfl ⟨?_, ?_, fun k => ?_, ?_, ?_⟩
    · exact (State.fabricReg_of_aloof aloof (by decide)).trans out.seen
    · rw [State.fabricReg_of_aloof aloof (by decide), out.ovr, BitVec.and_assoc]
      rfl
    · rw [State.pend_of_aloof aloof]
      exact out.pend k
    · rw [State.mem_of_aloof aloof, out.only]
      rfl
    · rw [State.nvs_of_aloof aloof, out.only]
      rfl
  · intro s l also delayed cy owes
    exact runs_timeAt (State.lineDue · l also delayed) rfl (State.lineDue_none owes) (s.timeAt_eq cy).symm
  · intro s l also cy on
    let u : State := { s with time := (s.timeAt cy).time }
    have shows := State.lineDelayed_shows (s := u) (w := bitWord l.val ||| also) on
    exact runs_timeAt (State.lineDelayed · (bitWord l.val ||| also)) rfl rfl
      ⟨State.pend_of_aloof shows, State.fabricReg_of_aloof shows (by decide), State.fabricReg_of_aloof shows (by decide),
        (State.mem_of_aloof shows :), (State.nvs_of_aloof shows :)⟩
  · intro s l k also delayed cy c on owes pulses enabled thawed triggered selects armed
    obtain ⟨w, owes⟩ := Option.isSome_iff_exists.mp owes
    rw [owes] at pulses
    let u : State := { s with time := (s.timeAt cy).time }
    have waits : u.ArmedFor c k.val := ⟨enabled, thawed, triggered, selects, armed⟩
    exact runs_timeAt (State.lineDue · l also delayed) rfl rfl (waits.lineDue on owes pulses)
  · intro s l k also cy c on pulses enabled thawed triggered selects armed
    let u : State := { s with time := (s.timeAt cy).time }
    have waits : u.ArmedFor c (16 + k.val) := ⟨enabled, thawed, triggered, selects, armed⟩
    exact runs_timeAt (State.lineDelayed · (bitWord l.val ||| also)) rfl rfl (waits.lineDelayed on pulses)

end Sys2Proof
end
section
/-! SUPPORT and PROOF. A word that DMA moves into the source of a host WRITE (R124, R128, R150). -/

set_option Elab.async false

namespace Sys2Proof.Machine

variable {s : State}

/-- The idle engine takes up the request of the lowest ACTIVE channel, of `b` words (R126, R128). -/
theorem State.dmaGrant_takes {k b : Nat} {n : Fin 8} (live : s.dmaLive = true) (idle : s.dma.granted = none)
    (lowest : allChans.find? (fun n => decide ((s.dmaCh n).st = .active) && !(s.dmaCh n).loading) = some n)
    (words : burstLen (s.dmaCh n).d0 (s.dmaCh n).remain = b) :
    s.dmaGrant k = State.dmaWords n (min k b)
      (({ s with dma := { s.dma with granted := some n } } : State).modDma n (fun c => { c with left := b, secRead := false })) := by
  subst words
  simp only [State.dmaGrant, live, idle, lowest]
  simp [State.dmaCh, State.modDma]

/-- A word of the source of a WRITE in progress changes, at or past what the engine has surely read: how far it has read is drawn, and
the WRITE takes note of the word (R150, log entry 97). -/
theorem State.nvsCatch_draws {a slot src len got : Nat} {head ws : List Word} {w : Word}
    (job : s.nvs.job = .write slot head src len (w :: ws) none got []) (lo : src ≤ a) (hi : a < src + len)
    (unread : got ≤ (a - src) / 2) :
    ∃ noted, s.nvsCatch a = { s with free := s.free + 1, nvs := { s.nvs with job := noted } } := by
  simp only [State.nvsCatch, job, if_pos (And.intro lo (And.intro hi unread)), State.draw, State.nvsReadTo, List.filter_nil,
    State.rereadAt]
  split <;> exact ⟨_, rfl⟩

end Sys2Proof.Machine

namespace Sys2Proof

open Machine Safety

/-- Refutes O17: its clause for a granted request asks that nothing differs but the time, the DMA channel and the bytes of the SRAM. Here
the word lands in the source of a host WRITE in progress, so that the model draws how far that WRITE has read (R150). -/
theorem not_dmaChannelsLoadAndMove : ¬ Obligations.DmaChannelsLoadAndMove := by
  rintro ⟨-, -, -, -, -, -, -, grant, -⟩
  let c : DmaCh := { st := .active, remain := 1, dst := 0x100#32 }
  let s : State := {
    pwr := { pstate := .run }, mem := { init := false }, regs := [(0x0501, 1#16)]
    nvs := { job := .write 0 [] 0x100 4 [0#16, 0#16] none }, dma := { ch := (Vector.replicate 8 {}).set 0 c } }
  have live : s.dmaLive = true := by decide +kernel
  obtain ⟨t, ht, -, -, -, -, -, -, -, only, -⟩ := grant s 0 1 0 le_rfl live rfl rfl rfl rfl (by simp) rfl rfl rfl rfl
    (by decide) (by decide) le_rfl (by decide) (by decide)
  obtain rfl : ((s.timeAt 0).dmaGrant 1).imageRun = t := Host.Outcome.next.inj ht
  obtain ⟨m, told⟩ := s.timeAt_only_time 0
  let u : State := { s with time := m, dma := { ch := s.dma.ch.set 0 { c with left := 1 }, granted := some 0 } }
  let v : State := u.modDma 0 (fun c => { c with remain := 0, left := 0 })
  obtain ⟨noted, caught⟩ := State.nvsCatch_draws (s := v) (a := 0x100) rfl le_rfl (by decide) le_rfl
  have word : u.dmaWord 0 = (.moved, (v.nvsCatch 0x100).sramWrite 0x100 0#16) := by with_unfolding_all rfl
  have run : (s.timeAt 0).dmaGrant 1 = State.dmaWords 0 1 u := by
    rw [told]
    exact State.dmaGrant_takes (s := { s with time := m }) live rfl rfl (by decide : burstLen 0#16 1 = 1)
  have drawn : ((s.timeAt 0).dmaGrant 1).imageRun.free = 1 := by
    rw [run, State.dmaWords, word, caught]
    rfl
  rw [only, told] at drawn
  exact zero_ne_one drawn

end Sys2Proof
end
section
/-! SUPPORT and PROOF. The check bits of the SRAM, its scrub, and what the window does outside the SRAM (R134, R137 to R143, R157). -/

set_option Elab.async false

namespace Sys2Proof.Machine

open Sys2Proof.Safety

theorem sameRegsBut_append {s t u : State} {l k : List (Nat × Nat)} (h : SameRegsBut l s t) (g : SameRegsBut k t u) :
    SameRegsBut (l ++ k) s u := fun p o ho out =>
  (g p o ho (fun m => out (List.mem_append_right l m))).trans (h p o ho (fun m => out (List.mem_append_left k m)))

theorem sameRegsBut_mono {s t : State} {l k : List (Nat × Nat)} (h : SameRegsBut l s t) (sub : l ⊆ k) : SameRegsBut k s t :=
  fun p o ho out => h p o ho (fun m => out (sub m))

theorem hasEvent_of_sameRegsBut {s t : State} {l : List (Nat × Nat)} {p k : Nat} (h : SameRegsBut l s t)
    (out : (p, 0x03) ∉ l) (hs : HasEvent s p k) : HasEvent t p k := by
  rwa [HasEvent, h p 0x03 (by decide) out]

/-! ### Flipped bits (R134) -/

theorem popcount22_one_flip (k : Fin 22) : popcount22 (1#22 <<< k.val) = 1 := by revert k; decide +kernel

theorem popcount22_two_flips {j k : Fin 22} (h : j ≠ k) : popcount22 (1#22 <<< j.val ||| 1#22 <<< k.val) = 2 := by
  revert j k; decide +kernel

theorem popcount22_zero : popcount22 0#22 = 0 := by decide +kernel

theorem ne_zero_of_popcount22 {m : BitVec 22} {n : Nat} (h : popcount22 m = n + 1) : m ≠ 0#22 := by
  rintro rfl
  simp [popcount22_zero] at h

/-- A first upset of an even address stands as it came. -/
theorem disturb_nil_one {a : Nat} {m : BitVec 22} (even : a % 2 = 0) (flipped : m ≠ 0#22) : disturb [] [(a, m)] = [(a, m)] := by
  have whole : a / 2 * 2 = a := by omega
  simp [disturb, errMask, clearErr, whole, flipped]

theorem errMask_single (a : Nat) (m : BitVec 22) : errMask [(a, m)] a = m := by simp [errMask]

theorem clearErr_single (a : Nat) (m : BitVec 22) : clearErr [(a, m)] a = [] := by simp [clearErr]

theorem disturb_none (e : List (Nat × BitVec 22)) : disturb e [] = e := rfl

/-- An upset of one word of the SRAM that no WRITE is reading. -/
theorem State.upset_sram {s : State} {a : Nat} {m : BitVec 22} (inside : a < 0x80000) (even : a % 2 = 0) (flipped : m ≠ 0#22)
    (clean : s.mem.sramErr = []) (out : notSource s a = true) :
    s.upset [(a, m)] = { s with mem := { s.mem with sramErr := [(a, m)] } } := by
  have whole : a / 2 * 2 = a := by omega
  have beyond : ¬ 0x100000 ≤ a := by omega
  simp [State.upset, State.modMem, State.modNvs, inside, beyond, whole, State.nvsCatch_notSource out, clean,
    disturb_nil_one even flipped, disturb_none]

/-- An upset of one word of the store. -/
theorem State.upset_store {s : State} {a : Nat} {m : BitVec 22} (inside : 0x100000 ≤ a) (even : a % 2 = 0) (flipped : m ≠ 0#22)
    (clean : s.nvs.mramErr = []) : s.upset [(a, m)] = { s with nvs := { s.nvs with mramErr := [(a, m)] } } := by
  have beyond : ¬ a < 0x80000 := by omega
  simp [State.upset, State.modMem, State.modNvs, inside, beyond, clean, disturb_nil_one even flipped, disturb_none]

/-! ### Writes of registers alone -/

/-- Nothing but the register file differs. -/
def State.RegsOnly (s t : State) : Prop := ∃ regs, t = { s with regs := regs }

theorem State.regsOnly_setReg (s : State) (p o : Nat) (v : Word) : s.RegsOnly (s.setReg p o v) := ⟨_, rfl⟩

theorem State.regsOnly_event (s : State) (p k : Nat) : s.RegsOnly (s.event p k) := s.regsOnly_setReg _ _ _

theorem State.RegsOnly.trans {s t u : State} (h : s.RegsOnly t) (g : t.RegsOnly u) : s.RegsOnly u := by
  obtain ⟨_, rfl⟩ := h
  obtain ⟨_, rfl⟩ := g
  exact ⟨_, rfl⟩

theorem State.regsOnly_setWide (s : State) (p o : Nat) (v : Wide) : s.RegsOnly (s.setWide p o v) :=
  (s.regsOnly_setReg _ _ _).trans (State.regsOnly_setReg _ _ _ _)

/-! ### What an error leaves (R139, R140) -/

/-- A correctable error is counted, its address shown and CE set; no other register and nothing else changes. -/
structure State.ShowsCe (s t : State) (a : Nat) : Prop where
  only : s.RegsOnly t
  counted : t.reg memPage 0x0E = satInc (s.reg memPage 0x0E)
  address : t.wide memPage 0x12 = BitVec.ofNat 32 a
  event : HasEvent t memPage 0
  same : SameRegsBut [(memPage, 0x03), (memPage, 0x0E), (memPage, 0x12), (memPage, 0x13)] s t

theorem State.recordCe_shows (s : State) (a : Nat) : s.ShowsCe (s.recordCe a) a := by
  let u := s.count memPage 0x0E
  let v := u.setWide memPage 0x12 (BitVec.ofNat 32 a)
  have count := sameRegsBut_setReg s memPage 0x0E (satInc (s.reg memPage 0x0E)) (by decide)
  have addr := sameRegsBut_setWide u memPage 0x12 (BitVec.ofNat 32 a) (by decide)
  have event := sameRegsBut_event v memPage 0
  have only : s.RegsOnly (s.recordCe a) :=
    ((s.regsOnly_setReg _ _ _).trans (u.regsOnly_setWide _ _ _)).trans (v.regsOnly_event _ _)
  refine ⟨only, ?_, ?_, hasEvent_event v _ _ (by decide), ?_⟩
  · exact (sameRegsBut_append addr event memPage 0x0E (by decide) (by decide)).trans (s.reg_setReg_same _ _ _)
  · refine Eq.trans ?_ (u.wide_setWide_same memPage 0x12 _)
    exact congrArg₂ Word.wide (event memPage 0x12 (by decide) (by decide)) (event memPage 0x13 (by decide) (by decide))
  · exact sameRegsBut_mono (sameRegsBut_append (sameRegsBut_append count addr) event) (by decide)

/-- The first uncorrectable error is counted and UE set, its address and its reader are shown, and the SRAM cause becomes active; no
other register and nothing else changes. -/
structure State.ShowsFirstUe (s t : State) (a : Nat) (m : Master) : Prop where
  only : ∃ regs, t = { s with regs := regs, mem := { s.mem with ueArmed := false, safeUe := true } }
  counted : t.reg memPage 0x0F = satInc (s.reg memPage 0x0F)
  address : t.wide memPage 0x10 = BitVec.ofNat 32 a
  reader : t.reg memPage 0x14 = place m.code 0
  event : HasEvent t memPage 1
  same : SameRegsBut [(memPage, 0x03), (memPage, 0x0F), (memPage, 0x10), (memPage, 0x11), (memPage, 0x14)] s t

theorem State.recordUe_shows {s : State} (a : Nat) (m : Master) (armed : s.mem.ueArmed = true) :
    s.ShowsFirstUe (s.recordUe a m) a m := by
  let u := s.count memPage 0x0F
  let v := u.event memPage 1
  let w := v.setWide memPage 0x10 (BitVec.ofNat 32 a)
  let x := w.setReg memPage 0x14 (place m.code 0)
  let f (y : State) : State := y.modMem (fun g => { g with ueArmed := false, safeUe := true })
  have run : s.recordUe a m = f x := congrArg f (if_pos armed : (if s.mem.ueArmed then x else v) = x)
  obtain ⟨regs, only⟩ : s.RegsOnly x :=
    ((s.regsOnly_setReg _ _ _).trans (u.regsOnly_event _ _)).trans ((v.regsOnly_setWide _ _ _).trans (w.regsOnly_setReg _ _ _))
  have count := sameRegsBut_setReg s memPage 0x0F (satInc (s.reg memPage 0x0F)) (by decide)
  have event := sameRegsBut_event u memPage 1
  have addr := sameRegsBut_setWide v memPage 0x10 (BitVec.ofNat 32 a) (by decide)
  have reader := sameRegsBut_setReg w memPage 0x14 (place m.code 0) (by decide)
  have seen : SameRegsBut [] x (s.recordUe a m) := sameRegsBut_of_regs _ (show _ = (f x).regs by rw [run])
  have shown := sameRegsBut_append reader seen
  have after := sameRegsBut_append addr shown
  refine ⟨⟨regs, run.trans (congrArg f only)⟩, ?_, ?_, ?_, ?_, ?_⟩
  · exact (sameRegsBut_append event after memPage 0x0F (by decide) (by decide)).trans (s.reg_setReg_same _ _ _)
  · refine Eq.trans ?_ (v.wide_setWide_same memPage 0x10 _)
    exact congrArg₂ Word.wide (shown memPage 0x10 (by decide) (by decide)) (shown memPage 0x11 (by decide) (by decide))
  · exact (seen memPage 0x14 (by decide) (by decide)).trans (w.reg_setReg_same _ _ _)
  · exact hasEvent_of_sameRegsBut after (by decide) (hasEvent_event u _ 1 (by decide))
  · exact sameRegsBut_mono (sameRegsBut_append (sameRegsBut_append count event) after) (by decide)

section
variable {s : State} {a : Nat} (m : Master) (empty : s.mem.winBuf = [])
include empty

/-- A word with one flipped bit is read corrected, and its write-back queued (R139). -/
theorem State.sramRead_one_flip (flip : popcount22 (errMask s.mem.sramErr a) = 1) : s.sramRead a m
    = (readWord sramDefault s.mem.sram a, false, (s.recordCe a).modMem (fun g => { g with
        ecq := s.mem.ecq ++ [(a, readWord sramDefault s.mem.sram a)] })) := by
  have few : ¬ 3 ≤ 1 := by decide
  simp only [State.sramRead, empty, eccOutcome, flip, if_neg (ne_zero_of_popcount22 flip), few, decide_false, Bool.false_eq_true,
    if_false]
  rfl

/-- A word with two flipped bits is read as it stands, and reported (R140). -/
theorem State.sramRead_two_flips (flips : popcount22 (errMask s.mem.sramErr a) = 2) : s.sramRead a m
    = (readWord sramDefault s.mem.sram a ^^^ (errMask s.mem.sramErr a).extractLsb' 0 16, true, s.recordUe a m) := by
  have few : ¬ 3 ≤ 2 := by decide
  simp only [State.sramRead, empty, eccOutcome, flips, if_neg (ne_zero_of_popcount22 flips), few, decide_false, Bool.false_eq_true,
    if_false]
  rfl

end

/-! ### The scrub (R137) -/

/-- The scrub moves on; after the last word it starts again and sets SCRUB_PASS. -/
def State.scrubNext (s : State) : State :=
  if 0x80000 ≤ s.mem.scrub + 2 then (s.modMem (fun m => { m with scrub := 0 })).memEvent 4
  else s.modMem (fun m => { m with scrub := s.mem.scrub + 2 })

theorem State.scrubNext_below {s : State} (below : s.mem.scrub + 2 < 0x80000) :
    s.scrubNext = { s with mem := { s.mem with scrub := s.mem.scrub + 2 } } := by
  rw [State.scrubNext, if_neg (by omega)]
  rfl

theorem State.modMem_ecq_self {s : State} {q : List (Nat × Word)} (h : s.mem.ecq = q) :
    s.modMem (fun m => { m with ecq := q }) = s := by
  subst h
  rfl

/-- A queue put back. -/
theorem State.modMem_ecq_back {s : State} {p q : List (Nat × Word)} (h : s.mem.ecq = q) :
    (s.modMem (fun m => { m with ecq := p })).modMem (fun m => { m with ecq := q }) = s := by
  subst h
  rfl

section
variable {s : State} (empty : s.mem.winBuf = [])
include empty

theorem State.scrubAccess_clean (clean : s.mem.sramErr = []) : s.scrubAccess = s.scrubNext := by
  simp only [State.scrubAccess, s.sramRead_plain _ _ clean empty, lt_irrefl, decide_false, Bool.false_and]
  rfl

/-- The scrub writes a corrected word back at once. -/
theorem State.scrubAccess_one_flip (flip : popcount22 (errMask s.mem.sramErr s.mem.scrub) = 1) : s.scrubAccess
    = ((s.recordCe s.mem.scrub).sramPut s.mem.scrub (readWord sramDefault s.mem.sram s.mem.scrub)).scrubNext := by
  have queue : (s.recordCe s.mem.scrub).mem.ecq = s.mem.ecq := rfl
  simp only [State.scrubAccess, State.sramRead_one_flip _ empty flip, State.modMem_mem, State.modMem_ecq_back queue,
    List.length_append, List.length_singleton, Nat.lt_succ_self, decide_true, Bool.not_false, Bool.and_self, if_true]
  rfl

theorem State.scrubAccess_two_flips (flips : popcount22 (errMask s.mem.sramErr s.mem.scrub) = 2) :
    s.scrubAccess = (s.recordUe s.mem.scrub .scrub).scrubNext := by
  have kept : (s.recordUe s.mem.scrub .scrub).mem.ecq = s.mem.ecq ∧ (s.recordUe s.mem.scrub .scrub).mem.scrub = s.mem.scrub := by
    unfold State.recordUe
    dsimp only
    split <;> exact ⟨rfl, rfl⟩
  obtain ⟨queue, place⟩ := kept
  simp only [State.scrubAccess, State.sramRead_two_flips _ empty flips, queue, lt_irrefl, decide_false, Bool.false_and,
    Bool.false_eq_true, if_false, State.modMem_ecq_self queue, State.scrubNext, place]

end

/-- A visit works in the state `u` that has met the upsets. -/
theorem runs_scrubVisit {s u t : State} {ups : List (Nat × BitVec 22)} {P : State → Prop} (upset : s.upset ups = u)
    (on : u.scrubOn = true) (visit : u.scrubAccess = t) (hP : P t) : Runs (.scrubVisit ups) s P := by
  subst visit upset
  exact ⟨_, congrArg Host.Outcome.next (if_pos on), hP⟩

/-! ### CLR_COUNTS (R157) -/

/-- Registers of one page cleared in turn. -/
theorem clearRegs_shows (p : Nat) (l : List Nat) (hl : ∀ o ∈ l, o < 256) (s : State) :
    s.RegsOnly (l.foldl (fun s o => s.setReg p o 0#16) s) ∧
    (∀ o ∈ l, (l.foldl (fun s o => s.setReg p o 0#16) s).reg p o = 0#16) ∧
    SameRegsBut (l.map (fun o => (p, o))) s (l.foldl (fun s o => s.setReg p o 0#16) s) := by
  induction l generalizing s with
  | nil => exact ⟨⟨_, rfl⟩, by simp, fun _ _ _ _ => rfl⟩
  | cons a l ih =>
    have set := sameRegsBut_setReg s p a 0#16 (hl a List.mem_cons_self)
    obtain ⟨only, cleared, same⟩ := ih (fun o ho => hl o (List.mem_cons_of_mem a ho)) (s.setReg p a 0#16)
    refine ⟨(s.regsOnly_setReg p a _).trans only, fun o ho => ?_, sameRegsBut_append set same⟩
    by_cases listed : o ∈ l
    · exact cleared o listed
    · obtain rfl : o = a := (List.mem_cons.mp ho).resolve_right listed
      refine (same p o (hl o ho) ?_).trans (s.reg_setReg_same p o 0#16)
      simpa using listed

/-! ### The window outside the SRAM (R141, R143) -/

theorem State.mramRead_plain (s : State) (a : Nat) (clean : s.nvs.mramErr = []) :
    s.mramRead a = (readWord mramDefault s.nvs.mram a, false, s) := by
  simp [State.mramRead, clean, errMask]

theorem not_inSram_of_inStore {a : Nat} (h : inStore a = true) : inSram a = false := by
  simp only [inStore, inSram, Bool.and_eq_true, decide_eq_true_eq, decide_eq_false_iff_not] at h ⊢
  omega

section
variable {s : State}

theorem State.winRead_store (inside : inStore s.winAddr = true) (clean : s.nvs.mramErr = []) :
    s.winRead = (readWord mramDefault s.nvs.mram s.winAddr, s.winAdvance) := by
  simp only [State.winRead, not_inSram_of_inStore inside, inside, s.mramRead_plain _ clean, Bool.false_eq_true, if_false, if_true]

theorem State.winRead_outside (out : inSram s.winAddr = false) (beyond : inStore s.winAddr = false) :
    s.winRead = (0#16, (s.event memPage 2).winAdvance) := by
  simp only [State.winRead, out, beyond, Bool.false_eq_true, if_false]
  rfl

theorem State.winWrite_outside (out : inSram s.winAddr = false) (v : Word) : s.winWrite v = (s.event memPage 2).winAdvance := by
  simp only [State.winWrite, out, Bool.false_eq_true, if_false]
  rfl

end

/-- WIN_ERR is set, and the window's address advances; no other register and nothing else changes. -/
theorem State.winErr_shows (s : State) :
    (s.event memPage 2).winAdvance = { s with regs := (s.event memPage 2).winAdvance.regs } ∧
    HasEvent (s.event memPage 2).winAdvance memPage 2 ∧
    SameRegsBut [(memPage, 0x03), (memPage, 0x08), (memPage, 0x09)] s (s.event memPage 2).winAdvance := by
  have advance := (s.event memPage 2).sameRegsBut_winAdvance
  exact ⟨(s.event memPage 2).winAdvance_only_regs, hasEvent_of_sameRegsBut advance (by decide) (hasEvent_event s _ 2 (by decide)),
    sameRegsBut_append (sameRegsBut_event s memPage 2) advance⟩

end Sys2Proof.Machine

namespace Sys2Proof

open Machine Safety

/-- Settles O21: a word of the store is read as it stands; any other access outside the SRAM sets WIN_ERR. -/
theorem windowOnlyReadsTheStore : Obligations.WindowOnlyReadsTheStore := by
  refine ⟨fun s ready inside clean => ?_, fun s v ready out room => ?_, fun s ready out beyond => ?_⟩
  · refine ⟨_, congrArg Host.Outcome.next (State.accessRead_winData ready), ?_⟩
    rw [State.winRead_store inside clean]
    refine ⟨rfl, ?_, ?_, s.sameRegsBut_winAdvance memPage 0x03 (by decide) (by decide)⟩ <;> rw [s.winAdvance_only_regs]
  · let u := s.setUnlock memPage false
    have image : u.nvs.image = none := ready.2.1
    have out' : inSram u.winAddr = false := out
    obtain ⟨only, event, same⟩ := u.winErr_shows
    refine ⟨_, congrArg Host.Outcome.next (State.access_winData ready v room), ?_⟩
    rw [State.winWrite_outside out', State.imageRun_none _ (by rw [only]; exact image)]
    exact ⟨only.trans (by rw [only]; rfl), event, same⟩
  · obtain ⟨only, event, same⟩ := s.winErr_shows
    refine ⟨_, congrArg Host.Outcome.next (State.accessRead_winData ready), ?_⟩
    rw [State.winRead_outside out beyond]
    exact ⟨by rw [only], event, same⟩

/-- Settles O19: a word with one flipped bit is read as stored; its write-back stores it so again. -/
theorem correctableErrorIsReturnedCorrected : Obligations.CorrectableErrorIsReturnedCorrected := by
  refine ⟨fun s a m flip empty below => ?_, fun s ready empty inside flip => ?_, fun s a w q e _ others => ?_⟩
  · obtain ⟨⟨regs, only⟩, counted, address, event, same⟩ := s.recordCe_shows a
    rw [State.sramRead_one_flip m empty flip]
    rw [only] at counted address event same ⊢
    exact ⟨rfl, rfl, rfl, counted.trans (if_neg below), address, event, same⟩
  · obtain ⟨⟨regs, only⟩, counted, address, event, -⟩ := s.recordCe_shows s.winAddr
    let w := readWord sramDefault s.mem.sram s.winAddr
    let u : State := { s with regs := regs, mem := { s.mem with ecq := s.mem.ecq ++ [(s.winAddr, w)] } }
    have advance := u.sameRegsBut_winAdvance
    have read : s.winRead = (w, u.winAdvance) := by
      simp only [State.winRead, if_pos ((inSram_iff _).mpr inside), State.sramRead_one_flip _ empty flip, only]
      rfl
    rw [only] at counted address event
    refine ⟨_, congrArg Host.Outcome.next (State.accessRead_winData ready), ?_⟩
    rw [read]
    refine ⟨rfl, hasEvent_of_sameRegsBut advance (by decide) event, ?_, ?_, ?_⟩
    · rw [u.winAdvance_only_regs]
    · exact (advance memPage 0x0E (by decide) (by decide)).trans counted
    · refine Eq.trans ?_ address
      exact congrArg₂ Word.wide (advance memPage 0x12 (by decide) (by decide)) (advance memPage 0x13 (by decide) (by decide))
  · have kept : q.filter (fun p => p.1 != a) = q := List.filter_eq_self.mpr (fun p hp => bne_iff_ne.mpr (others p hp))
    let t : State := { s with mem := { s.mem with ecq := q, sramErr := [], sram := writeWord sramDefault s.mem.sram a w } }
    have run : exec .eccWriteback { s with mem := { s.mem with ecq := (a, w) :: q, sramErr := [(a, e)] } } = .next t := by
      show Host.Outcome.next ({ s with mem := { s.mem with ecq := q, sramErr := [(a, e)] } }.sramPut a w) = _
      simp only [State.sramPut, kept, clearErr_single]
      rfl
    exact ⟨t, run, rfl, readWord_writeWord _ _ _ _, fun b hb => get_writeWord_other _ _ _ _ _ (by omega) (by omega)⟩

/-- Settles O18: a scrub visit reads the word at its address, and corrects and reports what the check finds. -/
theorem sramIsClearedScrubbedAndCounted : Obligations.SramIsClearedScrubbedAndCounted := by
  refine ⟨fun s => ⟨_, rfl, rfl⟩, ?_, ?_, ?_, ?_, ?_, ?_⟩
  · intro s on clean empty
    refine runs_scrubVisit (u := s) rfl on (State.scrubAccess_clean empty clean) ?_
    rw [State.scrubNext]
    split
    · next last =>
      rw [if_neg (by omega)]
      exact ⟨rfl, rfl, hasEvent_event _ _ 4 (by decide), sameRegsBut_event _ _ 4⟩
    · next inner =>
      rw [if_pos (by omega)]
      exact ⟨rfl, rfl, rfl⟩
  · intro s k out on even below clean empty
    have pops := popcount22_one_flip k
    let m := 1#22 <<< k.val
    let a := s.mem.scrub
    let u : State := { s with mem := { s.mem with sramErr := [(a, m)] } }
    have flip : popcount22 (errMask u.mem.sramErr u.mem.scrub) = 1 := (congrArg popcount22 (errMask_single a m)).trans pops
    have upset : s.upset [(a, m)] = u := State.upset_sram (by omega) even (ne_zero_of_popcount22 pops) clean out
    obtain ⟨⟨regs, only⟩, counted, address, event, same⟩ := u.recordCe_shows a
    let v : State := State.sramPut { u with regs := regs } a (readWord sramDefault s.mem.sram a)
    have visit : u.scrubAccess = { v with mem := { v.mem with scrub := v.mem.scrub + 2 } } := by
      rw [State.scrubAccess_one_flip (s := u) empty flip, only]
      exact State.scrubNext_below (s := v) below
    have corrected : v.mem.sramErr = s.mem.sramErr := (clearErr_single a m).trans clean.symm
    rw [only] at counted address event same
    refine runs_scrubVisit upset on visit ⟨?_, counted, address, event, same, readWord_writeWord _ _ _ _,
      fun b hb => get_writeWord_other _ _ _ _ _ (by omega) (by omega)⟩
    dsimp only
    rw [corrected]
    rfl
  · intro s j k distinct out on even below armed clean empty
    have pops := popcount22_two_flips distinct
    let m := 1#22 <<< j.val ||| 1#22 <<< k.val
    let a := s.mem.scrub
    let u : State := { s with mem := { s.mem with sramErr := [(a, m)] } }
    have flips : popcount22 (errMask u.mem.sramErr u.mem.scrub) = 2 := (congrArg popcount22 (errMask_single a m)).trans pops
    have upset : s.upset [(a, m)] = u := State.upset_sram (by omega) even (ne_zero_of_popcount22 pops) clean out
    obtain ⟨⟨regs, only⟩, counted, address, reader, event, same⟩ := State.recordUe_shows (s := u) a .scrub armed
    let v : State := { u with regs := regs, mem := { u.mem with ueArmed := false, safeUe := true } }
    have visit : u.scrubAccess = { v with mem := { v.mem with scrub := v.mem.scrub + 2 } } := by
      rw [State.scrubAccess_two_flips (s := u) empty flips, only]
      exact State.scrubNext_below (s := v) below
    rw [only] at counted address reader event same
    exact runs_scrubVisit upset on visit ⟨rfl, counted, address, reader, event, same⟩
  · intro s k e on below clean flipped cleanSram empty
    let u : State := { s with nvs := { s.nvs with mramErr := [(0x100000 + 2 * k.val, e)] } }
    exact runs_scrubVisit (u := u) (State.upset_store (by omega) (by omega) flipped clean) on
      ((State.scrubAccess_clean (s := u) empty cleanSram).trans (State.scrubNext_below (s := u) below)) rfl
  · intro s on below clean empty
    let u := s.event memPage 3
    have run : (if s.scrubOn then u.scrubAccess else s) = { u with mem := { u.mem with scrub := u.mem.scrub + 2 } } := by
      rw [if_pos on, State.scrubAccess_clean (s := u) empty clean]
      exact State.scrubNext_below (s := u) below
    exact ⟨_, congrArg Host.Outcome.next run, rfl, hasEvent_event s _ 3 (by decide), sameRegsBut_event s _ 3⟩
  · intro s ready
    have run : s.access memPage 0x15 0x0001#16 = (s.setUnlock memPage false).clearCounts := by
      rw [s.access_ready _ _ _ ready (.inr (by decide)), s.writeReg_unit _ _ _ (by decide) (.inl (by decide)), State.imageRun_none]
      · rfl
      · exact ready.2.1
    obtain ⟨⟨regs, only⟩, cleared, same⟩ := clearRegs_shows memPage [0x0E, 0x0F, 0x10, 0x11, 0x12, 0x13, 0x14] (by decide)
      (s.setUnlock memPage false)
    refine ⟨_, congrArg Host.Outcome.next run, ?_⟩
    rw [State.clearCounts]
    rw [only] at cleared same ⊢
    have wide {o : Nat} (hi : o ∈ [0x0E, 0x0F, 0x10, 0x11, 0x12, 0x13, 0x14])
        (lo : o + 1 ∈ [0x0E, 0x0F, 0x10, 0x11, 0x12, 0x13, 0x14]) :
        State.wide { s.setUnlock memPage false with regs := regs } memPage o = 0#32 := by
      rw [State.wide, cleared o hi, cleared (o + 1) lo]
      rfl
    exact ⟨rfl, cleared _ (by decide), cleared _ (by decide), wide (by decide) (by decide), wide (by decide) (by decide),
      cleared _ (by decide), same⟩

end Sys2Proof
end
section
/-! PROOF. What an image's entry leaves in LINE_MASK (R154, R155). -/

namespace Sys2Proof

open Machine Safety

/-- Refutes O22: its clause for an image that waits has the entry's word read back from LINE_MASK as the four bits written alone. A
write leaves the reserved bits as they stand (`writeReg_lineMask`), and the clause does not ask that they be 0: here bit 4 is set. No
reset and no write sets it, so the clause fails in a state that the device does not reach. -/
theorem not_storeCommandsAndImagesAreJudged : ¬ Obligations.StoreCommandsAndImagesAreJudged := by
  rintro ⟨-, -, -, -, -, -, -, -, -, waitEnds, -⟩
  let s : State := { regs := [(evtPage * 256 + 0x10, 0x0010#16)], pwr := { pstate := .run } }
  let u : State := { s with nvs := { s.nvs with image := some [0x0110#16, 0x0000#16], imgWait := true } }
  have unit : s.target evtPage = .unit := by decide
  obtain ⟨t, ht, -, reads, -⟩ := waitEnds s 0x0000#16 unit
  obtain rfl : u.imageWaitOver = t := Host.Outcome.next.inj ht
  have kept : u.imageWaitOver.reg evtPage 0x10 = 0x0010#16 := by decide
  rw [kept] at reads
  exact absurd reads (by decide)

end Sys2Proof
end
section
/-! SUPPORT. The store: its words, its records and the jobs that write them (R144 to R151). -/

set_option Elab.async false

namespace Sys2Proof.Machine

open Sys2Proof.Safety

/-! ### Successive words of a memory -/

section
variable (d : Nat → Byte)

theorem readWord_congr {m m' : List Host.Cell} {a : Nat} (h : ∀ b, a ≤ b → b < a + 2 → Cells.get d m' b = Cells.get d m b) :
    readWord d m' a = readWord d m a := by
  rw [readWord, readWord, h a le_rfl (by omega), h (a + 1) (by omega) (by omega)]

/-- Successive writes leave every byte outside the words alone. -/
theorem sameBytesOutside_writeWords (m : List Host.Cell) (a : Nat) (ws : List Word) :
    SameBytesOutside d a (2 * ws.length) m (writeWords d m a ws) := by
  induction ws generalizing m a with
  | nil => exact fun _ _ => rfl
  | cons w ws ih =>
    intro b out
    rw [List.length_cons] at out
    exact (ih _ (a + 2) b (by omega)).trans (get_writeWord_other d m a b w (by omega) (by omega))

theorem readWords_writeWords (m : List Host.Cell) (a : Nat) (ws : List Word) : readWords d (writeWords d m a ws) a ws.length = ws := by
  induction ws generalizing m a with
  | nil => rfl
  | cons w ws ih =>
    have first : readWord d (writeWords d m a (w :: ws)) a = w :=
      (readWord_congr d (fun b _ _ => sameBytesOutside_writeWords d _ (a + 2) ws b (by omega))).trans (readWord_writeWord d m a w)
    rw [List.length_cons, readWords, first]
    exact congrArg (w :: ·) (ih _ _)

/-- A zero written leaves a zero byte zero, and zeroes its own. -/
theorem get_writeWord_zero {m : List Host.Cell} {a b : Nat} (h : b = a ∨ b = a + 1 ∨ Cells.get d m b = 0#8) :
    Cells.get d (writeWord d m a 0#16) b = 0#8 := by
  by_cases low : a + 1 = b
  · subst low
    exact Cells.get_set_same _ _ _ _
  · rw [writeWord, Cells.get_set_other d _ _ _ _ low]
    by_cases high : a = b
    · subst high
      exact Cells.get_set_same _ _ _ _
    · rw [Cells.get_set_other d _ _ _ _ high]
      exact (h.resolve_left (Ne.symm high)).resolve_left (Ne.symm low)

/-- Both words of a COMMIT field are zero where its four bytes are. -/
theorem readWords_cleared {m : List Host.Cell} {a : Nat} (h : ∀ b, a ≤ b → b < a + 4 → Cells.get d m b = 0#8) :
    readWords d m a 2 = [0#16, 0#16] := by
  rw [readWords, readWords, readWords, readWord, readWord, h a (by omega) (by omega), h (a + 1) (by omega) (by omega),
    h (a + 2) (by omega) (by omega), h (a + 2 + 1) (by omega) (by omega)]
  rfl

end

/-! ### Reading the SRAM and the store without errors -/

theorem State.sramReads_plain (s : State) (m : Master) (a n : Nat) (clean : s.mem.sramErr = []) (empty : s.mem.winBuf = []) :
    s.sramReads m a n = (readWords sramDefault s.mem.sram a n, false, s) := by
  induction n generalizing a with
  | zero => rfl
  | succ n ih => simp only [State.sramReads, s.sramRead_plain _ _ clean empty, ih, readWords, Bool.or_self]

theorem State.mramReads_plain (s : State) (a n : Nat) (clean : s.nvs.mramErr = []) :
    s.mramReads a n = (readWords mramDefault s.nvs.mram a n, false, s) := by
  induction n generalizing a with
  | zero => rfl
  | succ n ih => simp only [State.mramReads, s.mramRead_plain _ clean, ih, readWords, Bool.or_self]

section
variable {s t : State} (clean : s.nvs.mramErr = []) (err : t.nvs.mramErr = s.nvs.mramErr) (mram : t.nvs.mram = s.nvs.mram)
include clean err mram

/-- What a check finds hangs on the store alone, and it changes nothing. -/
theorem State.slotCheck_plain (ty i a m : Nat) : t.slotCheck ty i a m = ((s.slotCheck ty i a m).1, t) := by
  have clean' := err.trans clean
  simp only [State.slotCheck, s.mramReads_plain _ _ clean, t.mramReads_plain _ _ clean', mram]
  split
  · rfl
  · split <;> rfl

theorem State.currentRec_plain (ty i : Nat) :
    t.currentRec ty i = ((s.currentRec ty i).1, (s.currentRec ty i).2.1, t) := by
  unfold State.currentRec
  cases slotMap ty i with
  | none => rfl
  | some m =>
    obtain ⟨ra, checkA⟩ : ∃ r, s.slotCheck ty i m.a m.max = (r, s) := ⟨_, State.slotCheck_plain clean rfl rfl _ _ _ _⟩
    obtain ⟨rb, checkB⟩ : ∃ r, s.slotCheck ty i m.b m.max = (r, s) := ⟨_, State.slotCheck_plain clean rfl rfl _ _ _ _⟩
    simp only [State.slotCheck_plain clean err mram, checkA, checkB]
    split
    · split <;> rfl
    all_goals rfl

theorem State.writeJob_plain (ty i : Nat) (flags : Word) (p : List Word) : t.writeJob ty i flags p
    = ((s.currentRec ty i).2.1, recordWords ty i (nextSeq (s.currentRec ty i).1) flags t.mtUs p, t) := by
  simp only [State.writeJob, State.currentRec_plain clean err mram]

theorem storedAs_congr (ty i len : Nat) : storedAs t ty i len = storedAs s ty i len := by
  simp only [storedAs, State.currentRec_plain clean err mram]

theorem storedV1_congr (ty i len : Nat) : storedV1 t ty i len = storedV1 s ty i len := by
  simp only [storedV1, storedAs_congr clean err mram]

end

/-! ### Records (R146) -/

theorem fld_place_type (ty inst : Fin 16) : fld (place ty.val 0 ||| place inst.val 4) 0 4 = ty.val := by
  revert ty inst
  decide +kernel

theorem fld_place_inst (ty inst : Fin 16) : fld (place ty.val 0 ||| place inst.val 4) 4 4 = inst.val := by
  revert ty inst
  decide +kernel

/-- A record with one word of its payload replaced is the record of that payload. -/
theorem recordSet_recordWords (ty inst : Fin 16) (seq us : Wide) (flags : Word) (p : List Word) (k : Nat) (v : Word) :
    recordSet (recordWords ty.val inst.val seq flags us p) k v = recordWords ty.val inst.val seq flags us (p.set k v) := by
  have payload : ((recordWords ty.val inst.val seq flags us p).drop 8).take
      ((recordWords ty.val inst.val seq flags us p).length - 12) = p := by
    simp [recordWords]
  rw [recordSet, payload]
  simp only [wordAt, recordWords, List.cons_append, List.nil_append, List.getElem?_cons_succ, List.getElem?_cons_zero,
    Option.getD_some, fld_place_type, fld_place_inst, Wide.wide_hi_lo]

/-- Entries replaced one after the other. -/
theorem foldl_set_eq_mapIdx {α : Type} (f : Nat → α) (l : List Nat) (p : List α) :
    l.foldl (fun p k => p.set k (f k)) p = p.mapIdx (fun k w => if k ∈ l then f k else w) := by
  induction l generalizing p with
  | nil => exact List.ext_getElem (by simp) (by simp)
  | cons a l ih =>
    rw [List.foldl_cons, ih]
    refine List.ext_getElem (by simp) (fun k _ _ => ?_)
    simp only [List.getElem_mapIdx, List.getElem_set, List.mem_cons]
    by_cases here : k ∈ l
    · simp [here]
    · by_cases first : a = k
      · simp [first]
      · simp [here, first, Ne.symm first]

/-- Only entries that exist are replaced. -/
theorem mapIdx_mem_filter {α : Type} (f : Nat → α) (l : List Nat) (p : List α) :
    p.mapIdx (fun k w => if k ∈ l.filter (fun i => decide (i < p.length)) then f k else w)
      = p.mapIdx (fun k w => if k ∈ l then f k else w) := by
  refine List.ext_getElem (by simp) (fun k hk _ => ?_)
  have inside : k < p.length := by simpa using hk
  simp [inside]

/-- The state with the engine at this job. -/
def State.setJob (s : State) (job : NvsJob) : State := s.modNvs (fun n => { n with job := job })

theorem State.setJob_self (s : State) {job : NvsJob} (h : s.nvs.job = job) : s.setJob job = s := by
  subst h
  rfl

/-! ### The source of a WRITE, read again (R150) -/

/-- The payload with the words at these indices as the SRAM has them now. -/
def State.reread (s : State) (src : Nat) (again : List Nat) (p : List Word) : List Word :=
  p.mapIdx (fun k w => if k ∈ again then readWord sramDefault s.mem.sram (src + 2 * k) else w)

section
variable {s : State} (clean : s.mem.sramErr = []) (empty : s.mem.winBuf = [])
include clean empty

theorem State.rereadAt_plain (ty inst : Fin 16) (seq us : Wide) (flags : Word) (src : Nat) (l : List Nat) (p : List Word) :
    s.rereadAt src l (recordWords ty.val inst.val seq flags us p)
      = (recordWords ty.val inst.val seq flags us
          (l.foldl (fun p k => p.set k (readWord sramDefault s.mem.sram (src + 2 * k))) p), s) := by
  induction l generalizing p with
  | nil => rfl
  | cons k l ih => simp only [State.rereadAt, s.sramRead_plain _ _ clean empty, recordSet_recordWords, ih, List.foldl_cons]

/-- At the end of a WRITE the words still to be read are in its record as they are now. -/
theorem State.nvsReread_plain {slot src got : Nat} {head : List Word} {again : List Nat} {ty inst : Fin 16} {seq us : Wide}
    {flags : Word} {p : List Word} (job : s.nvs.job
      = .write slot head src (2 * p.length) (recordWords ty.val inst.val seq flags us p) none got again) :
    ∃ got' again', s.nvsReread = s.setJob (.write slot head src (2 * p.length)
      (recordWords ty.val inst.val seq flags us (s.reread src again p)) none got' again') := by
  cases again with
  | nil =>
    refine ⟨got, [], ?_⟩
    have same : s.reread src [] p = p := List.ext_getElem (by simp [State.reread]) (by simp [State.reread])
    rw [same, s.setJob_self job]
    simp only [State.nvsReread, job]
    rfl
  | cons k l =>
    obtain ⟨w, ws, cons⟩ : ∃ w ws, recordWords ty.val inst.val seq flags us p = w :: ws := ⟨_, _, rfl⟩
    have upto : 2 * p.length / 2 = p.length := by omega
    have job' := job
    rw [cons] at job'
    simp only [State.nvsReread, job', State.nvsReadTo, upto]
    rw [← cons, State.rereadAt_plain clean empty, foldl_set_eq_mapIdx, mapIdx_mem_filter]
    exact ⟨_, _, rfl⟩

end

/-! ### Jobs that end (R148, R149) -/

theorem State.engineGo_rest {s : State} (auto : s.nvs.autoWait = false) (image : s.nvs.image = none) : s.engineGo = s := by
  simp [State.engineGo, State.autoImage, auto, image]

theorem State.mramWrites_shows (s : State) (a : Nat) (ws : List Word) : ∃ err, s.mramWrites a ws
    = { s with nvs := { s.nvs with mram := writeWords mramDefault s.nvs.mram a ws, mramErr := err } } := by
  induction ws generalizing s a with
  | nil => exact ⟨_, rfl⟩
  | cons w ws ih =>
    obtain ⟨err, written⟩ := ih (s.mramWrite a w) (a + 2)
    exact ⟨err, written⟩

/-- The job that ends with its event: a record is in its slot. -/
def State.recordEnd (s : State) (slot : Nat) (ws : List Word) (k : Nat) : State :=
  ((s.mramWrites slot ws).modNvs (fun n => { n with job := .idle })).nvsEvent k

/-- The words are in the store, the engine is idle and the event set; no other register, and nothing else, differs. -/
structure State.Stored (s t : State) (slot : Nat) (ws : List Word) (k : Nat) : Prop where
  only : ∃ regs mram err, t = { s with regs := regs, nvs := { s.nvs with job := .idle, mram := mram, mramErr := err } }
  store : t.nvs.mram = writeWords mramDefault s.nvs.mram slot ws
  event : HasEvent t nvsPage k
  same : SameRegsBut [(nvsPage, 0x03)] s t

section
variable {s t : State} {slot k : Nat} {ws : List Word} (h : s.Stored t slot ws k)
include h

theorem State.Stored.words : readWords mramDefault t.nvs.mram slot ws.length = ws := by
  rw [h.store]
  exact readWords_writeWords _ _ _ _

theorem State.Stored.others : SameBytesOutside mramDefault slot (2 * ws.length) s.nvs.mram t.nvs.mram := by
  rw [h.store]
  exact sameBytesOutside_writeWords _ _ _ _

end

theorem State.recordEnd_stored (s : State) (slot : Nat) (ws : List Word) {k : Nat} (hk : k < 16) :
    s.Stored (s.recordEnd slot ws k) slot ws k := by
  obtain ⟨err, written⟩ := s.mramWrites_shows slot ws
  rw [State.recordEnd, written]
  exact ⟨⟨_, _, _, rfl⟩, rfl, hasEvent_event _ _ k hk, sameRegsBut_event _ _ k⟩

/-- A command that ends a job in the state `u`, where neither an AUTO image nor one being applied goes on. -/
theorem runs_recordEnd {c : Instr} {s u e : State} {slot k : Nat} {ws : List Word} {P : State → Prop}
    (ends : exec c s = .next e.engineGo) (written : e = u.recordEnd slot ws k) (auto : u.nvs.autoWait = false)
    (image : u.nvs.image = none) (hk : k < 16) (hP : ∀ t, u.Stored t slot ws k → P t) : Runs c s P := by
  have stored := u.recordEnd_stored slot ws hk
  obtain ⟨regs, mram, err, only⟩ := stored.only
  have rest : e.engineGo = u.recordEnd slot ws k := by
    rw [written]
    apply State.engineGo_rest <;> rw [only]
    · exact auto
    · exact image
  exact ⟨_, ends.trans (congrArg Host.Outcome.next rest), hP _ stored⟩

section
variable {s : State} {slot src len got : Nat} {head ws : List Word} {again : List Nat} {w : Word}

/-- The words of an axis's record are the axis's own. -/
theorem State.nvsReread_owned {n : Ax} (job : s.nvs.job = .write slot head src len ws (some n) got again) : s.nvsReread = s := by
  simp only [State.nvsReread, job]

/-- No word of the source has changed. -/
theorem State.nvsReread_none (job : s.nvs.job = .write slot head src len ws none got []) : s.nvsReread = s := by
  simp only [State.nvsReread, job]

theorem State.nvsWriteEnd_host (job : s.nvsReread.nvs.job = .write slot head src len (w :: ws) none got again) :
    s.nvsWriteEnd = s.nvsReread.recordEnd slot (w :: ws) 0 := by
  simp only [State.nvsWriteEnd, job]
  rfl

theorem State.nvsWriteEnd_axis {n : Ax} (job : s.nvs.job = .write slot head src len (w :: ws) (some n) got again) : s.nvsWriteEnd
    = ((s.recordEnd slot (w :: ws) 0).modAxis n (fun a => { a with char := { a.char with saving := false } })).event (axPage n)
      15 := by
  simp only [State.nvsWriteEnd, State.nvsReread_owned job, job]
  rfl

theorem State.orphanEnd_job (job : s.nvs.job = .orphan slot ws) : s.orphanEnd = s.recordEnd slot ws 4 := by
  simp only [State.orphanEnd, job]
  rfl

theorem State.nvsInvalidateEnd_two {a b : Nat} (job : s.nvs.job = .invalidate [a, b]) :
    s.nvsInvalidateEnd = (s.mramWrites a [0#16, 0#16]).recordEnd b [0#16, 0#16] 0 := by
  simp only [State.nvsInvalidateEnd, job]
  rfl

end

/-- Two COMMIT fields cleared read 0 both, wherever they lie. -/
theorem readWords_cleared_twice (m : List Host.Cell) (a b : Nat) :
    let m' := writeWords mramDefault (writeWords mramDefault m a [0#16, 0#16]) b [0#16, 0#16]
    readWords mramDefault m' a 2 = [0#16, 0#16] := by
  refine readWords_cleared _ (fun x lo hi => get_writeWord_zero _ (.inr (.inr (get_writeWord_zero _ (.inr (.inr ?_))))))
  by_cases second : x < a + 2
  · refine get_writeWord_zero _ (.inr (.inr (get_writeWord_zero _ ?_)))
    omega
  · refine get_writeWord_zero _ ?_
    omega

/-- A WRITE that waited reads its source and forms its record (R150). -/
theorem State.nvsReadSource_plain {s : State} {slot src len got ty inst : Nat} {again : List Nat} {head : List Word} {o : Option Ax}
    (job : s.nvs.job = .write slot head src len [] o got again) (hty : fld (wordAt head 0) 0 4 = ty)
    (hinst : fld (wordAt head 0) 4 4 = inst) (store : s.nvs.mramErr = []) (clean : s.mem.sramErr = []) (empty : s.mem.winBuf = []) :
    s.nvsReadSource = s.setJob (.write (s.currentRec ty inst).2.1 head src len
      (recordWords ty inst (nextSeq (s.currentRec ty inst).1) (wordAt head 1) s.mtUs (readWords sramDefault s.mem.sram src (len / 2)))
      o) := by
  simp only [State.nvsReadSource, job, s.sramReads_plain _ _ _ clean empty, State.writeJob_plain store rfl rfl, hty, hinst]
  rfl

/-- An orphan that waits is written once the engine is free (R151). -/
theorem State.orphanStart_plain {s : State} (waits : s.nvs.orphanReq = true) (free : s.nvsFree = true) (store : s.nvs.mramErr = [])
    (held : s.twin.orphan ≠ []) : s.orphanStart = s.modNvs (fun n => { n with
      orphanReq := false
      job := .orphan (s.currentRec 5 0).2.1 (recordWords 5 0 (nextSeq (s.currentRec 5 0).1) 0#16 s.mtUs s.twin.orphan) }) := by
  rw [State.orphanStart, if_pos ⟨waits, free⟩, if_neg held]
  simp only [State.writeJob_plain store rfl rfl]

end Sys2Proof.Machine
end
section
/-! SUPPORT. The load of bring-up: what one record's load leaves alone, and what it loads (R21, R153, R263, R363, R423). -/

set_option Elab.async false

namespace Sys2Proof.Machine

open Sys2Proof.Safety

/-! ### What a load changes -/

/-- Every bank whose shape is known is VALID. -/
def State.ShapesValid (s : State) : Prop := ∀ k : Fin 5, s.table.shape[k].isSome = true → s.bankValid k.val = true

/-- A load changes the registers `P` and the events of NVS, the tables and the list of loaded values; it clears no LOAD_DEFAULT, and
leaves every bank VALID that was. -/
structure State.Loads (P : Nat → Nat → Prop) (s t : State) : Prop where
  only : ∃ regs table cal, t = { s with regs := regs, table := table, nvs := { s.nvs with cal := cal } }
  regs : ∀ p o, o < 256 → p ≠ nvsPage → ¬ P p o → t.reg p o = s.reg p o
  note : HasEvent s nvsPage 8 → HasEvent t nvsPage 8
  valid : ∀ k, s.bankValid k = true → t.bankValid k = true
  shapes : s.ShapesValid → t.ShapesValid

namespace State.Loads

variable {s t u : State} {P Q : Nat → Nat → Prop}

theorem refl (P : Nat → Nat → Prop) (s : State) : s.Loads P s :=
  ⟨⟨_, _, _, rfl⟩, fun _ _ _ _ _ => rfl, id, fun _ => id, id⟩

theorem trans (h : s.Loads P t) (g : t.Loads P u) : s.Loads P u := by
  refine ⟨?_, fun p o ho hp out => (g.regs p o ho hp out).trans (h.regs p o ho hp out), fun e => g.note (h.note e),
    fun k hk => g.valid k (h.valid k hk), fun hs => g.shapes (h.shapes hs)⟩
  obtain ⟨_, _, _, rfl⟩ := h.only
  obtain ⟨_, _, _, rfl⟩ := g.only
  exact ⟨_, _, _, rfl⟩

theorem mono (h : s.Loads P t) (sub : ∀ p o, P p o → Q p o) : s.Loads Q t :=
  ⟨h.only, fun p o ho hp out => h.regs p o ho hp (fun m => out (sub p o m)), h.note, h.valid, h.shapes⟩

theorem mram (h : s.Loads P t) : t.nvs.mram = s.nvs.mram := by
  obtain ⟨_, _, _, rfl⟩ := h.only
  rfl

theorem mramErr (h : s.Loads P t) : t.nvs.mramErr = s.nvs.mramErr := by
  obtain ⟨_, _, _, rfl⟩ := h.only
  rfl

theorem part (h : s.Loads P t) : t.part = s.part := by
  obtain ⟨_, _, _, rfl⟩ := h.only
  rfl

theorem twin (h : s.Loads P t) : t.twin = s.twin := by
  obtain ⟨_, _, _, rfl⟩ := h.only
  rfl

/-- Loads one after the other, each from a store without errors. -/
theorem foldl {β : Type} {f : State → β → State} {l : List β} (h : ∀ u : State, ∀ b ∈ l, u.nvs.mramErr = [] → u.Loads P (f u b))
    (clean : s.nvs.mramErr = []) : s.Loads P (l.foldl f s) := by
  induction l generalizing s with
  | nil => exact .refl P s
  | cons b l ih =>
    have first := h s b List.mem_cons_self clean
    exact first.trans (ih (fun u c hc => h u c (List.mem_cons_of_mem b hc)) (first.mramErr.trans clean))

/-- One of the loads, with the others before and after it. -/
theorem foldl_at {β : Type} {f : State → β → State} {l : List β} {b : β} (hb : b ∈ l) (nodup : l.Nodup)
    (h : ∀ (u : State) (c : β), c ≠ b → u.nvs.mramErr = [] → u.Loads P (f u c)) (clean : s.nvs.mramErr = [])
    (here : ∀ u : State, u.nvs.mramErr = [] → u.Loads Q (f u b)) :
    ∃ u, s.Loads P u ∧ (f u b).Loads P (l.foldl f s) := by
  obtain ⟨before, after, rfl⟩ := List.append_of_mem hb
  have apart := List.nodup_append.mp nodup
  have pre : s.Loads P (before.foldl f s) :=
    foldl (fun u c hc => h u c (apart.2.2 c hc b List.mem_cons_self)) clean
  refine ⟨_, pre, ?_⟩
  rw [List.foldl_append, List.foldl_cons]
  have clean' := (here _ (pre.mramErr.trans clean)).mramErr.trans (pre.mramErr.trans clean)
  exact foldl (fun u c hc => h u c (fun e => (List.nodup_cons.mp apart.2.1).1 (e ▸ hc))) clean'

end State.Loads

/-! ### The operations of a load -/

section
variable (s : State)

theorem State.reg_loadCal (p o : Nat) (v : Word) (q r : Nat) :
    (s.loadCal p o v).reg q r = if p * 256 + o = q * 256 + r then v else s.reg q r := s.reg_setReg p o q r v

theorem State.loads_loadCal {p o : Nat} (v : Word) (hp : p ≠ nvsPage) (ho : o < 256) :
    s.Loads (fun q r => q = p ∧ r = o) (s.loadCal p o v) where
  only := ⟨_, _, _, rfl⟩
  regs q r hr _ out := by
    rw [s.reg_loadCal, if_neg]
    intro at_
    obtain ⟨rfl, rfl⟩ := key_inj ho hr at_
    exact out ⟨rfl, rfl⟩
  note := by
    have other : (s.loadCal p o v).reg nvsPage 0x03 = s.reg nvsPage 0x03 := by
      rw [s.reg_loadCal, if_neg]
      exact fun at_ => hp (key_inj ho (by decide) at_).1
    rw [HasEvent, HasEvent, other]
    exact id
  valid _ := id
  shapes := id

theorem State.loads_loadDefault (P : Nat → Nat → Prop) : s.Loads P s.loadDefault where
  only := ⟨_, _, _, rfl⟩
  regs q r hr hq _ := sameRegsBut_event s nvsPage 8 q r hr (by simp [hq])
  note _ := hasEvent_event s nvsPage 8 (by decide)
  valid _ := id
  shapes := id

theorem State.hasEvent_loadDefault : HasEvent s.loadDefault nvsPage 8 := hasEvent_event s nvsPage 8 (by decide)

/-- A bank is filled with a shape, and VALID. -/
def State.fillBank (k : Fin 5) (l : List Int) (c : Int × Int) : State :=
  (s.putBank k.val l).modTable (fun t => { t with shape := t.shape.set k (some c) })

theorem State.bankValid_iff (k : Nat) : s.bankValid k = true ↔ k = 0 ∨ k < 5 ∧ s.table.valid.getLsbD k = true := by
  simp [State.bankValid]

theorem State.getLsbD_valid_fillBank (k : Fin 5) (l : List Int) (c : Int × Int) (j : Nat) :
    (s.fillBank k l c).table.valid.getLsbD j = (s.table.valid.getLsbD j || decide (j = k.val)) := by
  show (s.table.valid ||| 1#5 <<< k.val).getLsbD j = _
  have bound := k.isLt
  rw [BitVec.getLsbD_or, BitVec.getLsbD_shiftLeft, BitVec.getLsbD_one]
  congr 1
  rw [Bool.eq_iff_iff]
  simp
  omega

theorem State.bankValid_fillBank (k : Fin 5) (l : List Int) (c : Int × Int) (j : Nat) :
    (s.fillBank k l c).bankValid j = true ↔ j = k.val ∨ s.bankValid j = true := by
  rw [State.bankValid_iff, State.bankValid_iff, State.getLsbD_valid_fillBank]
  simp only [Bool.or_eq_true, decide_eq_true_eq]
  constructor
  · rintro (zero | ⟨lt, valid | same⟩)
    · exact .inr (.inl zero)
    · exact .inr (.inr ⟨lt, valid⟩)
    · exact .inl same
  · rintro (rfl | zero | ⟨lt, valid⟩)
    · exact .inr ⟨k.isLt, .inr rfl⟩
    · exact .inl zero
    · exact .inr ⟨lt, .inl valid⟩

theorem State.loads_fillBank (P : Nat → Nat → Prop) (k : Fin 5) (l : List Int) (c : Int × Int) :
    s.Loads P (s.fillBank k l c) where
  only := ⟨_, _, _, rfl⟩
  regs _ _ _ _ _ := rfl
  note := id
  valid j was := (s.bankValid_fillBank k l c j).mpr (.inr was)
  shapes known j shape := by
    rw [State.bankValid_fillBank]
    by_cases same : j.val = k.val
    · exact .inl same
    · have kept : (s.fillBank k l c).table.shape[j] = s.table.shape[j] := Vector.getElem_set_ne k.isLt j.isLt (Ne.symm same)
      rw [kept] at shape
      exact .inr (known j shape)

/-! ### One record -/

/-- A shape's coefficients are loaded into A3 and A5 of the axis (R263). -/
def State.loadCoefs (n : Ax) (a3 a5 : Word) : State := (s.loadCal (axPage n) 0x49 a3).loadCal (axPage n) 0x4A a5

theorem axPage_ne_nvs (n : Ax) : axPage n ≠ nvsPage := by revert n; decide
theorem brPage_ne_nvs (n : Ax) : brPage n ≠ nvsPage := by revert n; decide
theorem cnvPage_ne_nvs (i : Fin 3) : cnvPage i ≠ nvsPage := by revert i; decide

/-- The registers of an axis that its shape goes to. -/
def CoefRegs (n : Ax) (p o : Nat) : Prop := p = axPage n ∧ (o = 0x49 ∨ o = 0x4A)

theorem State.loads_loadCoefs (n : Ax) (a3 a5 : Word) : s.Loads (CoefRegs n) (s.loadCoefs n a3 a5) :=
  ((s.loads_loadCal a3 (axPage_ne_nvs n) (by decide)).mono (fun _ _ h => ⟨h.1, .inl h.2⟩)).trans
    ((State.loads_loadCal _ a5 (axPage_ne_nvs n) (by decide)).mono (fun _ _ h => ⟨h.1, .inr h.2⟩))

theorem State.loadCoefs_shows (n : Ax) (a3 a5 : Word) :
    (s.loadCoefs n a3 a5).reg (axPage n) 0x49 = a3 ∧ (s.loadCoefs n a3 a5).reg (axPage n) 0x4A = a5 := by
  simp [State.loadCoefs, State.reg_loadCal]

/-- What a shape comes down to: its bank has another one or does not exist, has the same one, or takes it. -/
theorem State.loadShape_cases (n : Ax) (a3 a5 : Word) (bank : Nat) :
    (bank ≠ 0 ∧ s.loadShape n a3 a5 bank = s.loadDefault ∧ ∃ k : Fin 5, k.val = bank ∧ s.table.shape[k].isSome = true) ∨
    (5 ≤ bank ∧ s.loadShape n a3 a5 bank = (s.loadCoefs n a3 a5).loadDefault) ∨
    (s.loadShape n a3 a5 bank = s.loadCoefs n a3 a5 ∧ (bank ≠ 0 → ∃ k : Fin 5, k.val = bank ∧ s.table.shape[k].isSome = true)) ∨
    ∃ k : Fin 5, k.val = bank ∧ ∃ l c, s.loadShape n a3 a5 bank = (s.loadCoefs n a3 a5).fillBank k l c := by
  unfold State.loadShape
  dsimp only
  split
  · next within =>
    obtain ⟨low, high⟩ := within
    split
    · next c shape =>
      have known : ∃ k : Fin 5, k.val = bank ∧ s.table.shape[k].isSome = true := ⟨⟨bank, high⟩, rfl, by rw [shape]; rfl⟩
      split
      · exact .inr (.inr (.inl ⟨rfl, fun _ => known⟩))
      · exact .inl ⟨by omega, rfl, known⟩
    · exact .inr (.inr (.inr ⟨⟨bank, high⟩, rfl, _, _, rfl⟩))
  · next beyond =>
    split
    · next zero => exact .inr (.inr (.inl ⟨rfl, fun h => absurd zero h⟩))
    · exact .inr (.inl ⟨by omega, rfl⟩)

theorem State.loads_loadShape (n : Ax) (a3 a5 : Word) (bank : Nat) : s.Loads (CoefRegs n) (s.loadShape n a3 a5 bank) := by
  obtain ⟨-, run, -⟩ | ⟨-, run⟩ | ⟨run, -⟩ | ⟨k, -, l, c, run⟩ := s.loadShape_cases n a3 a5 bank <;> rw [run]
  · exact s.loads_loadDefault _
  · exact (s.loads_loadCoefs n a3 a5).trans (State.loads_loadDefault _ _)
  · exact s.loads_loadCoefs n a3 a5
  · exact (s.loads_loadCoefs n a3 a5).trans (State.loads_fillBank _ _ k l c)


/-- A bank from 1 to 4 is VALID at the end, where every bank of a known shape was. -/
theorem State.bankValid_loadShape (n : Ax) (a3 a5 : Word) {bank : Nat} (low : 1 ≤ bank) (high : bank ≤ 4) (shapes : s.ShapesValid) :
    (s.loadShape n a3 a5 bank).bankValid bank = true := by
  obtain ⟨-, -, known⟩ | ⟨beyond, -⟩ | ⟨-, known⟩ | ⟨k, rfl, l, c, run⟩ := s.loadShape_cases n a3 a5 bank
  · obtain ⟨k, rfl, shape⟩ := known
    exact (s.loads_loadShape n a3 a5 _).valid _ (shapes k shape)
  · omega
  · obtain ⟨k, rfl, shape⟩ := known (by omega)
    exact (s.loads_loadShape n a3 a5 _).valid _ (shapes k shape)
  · rw [run, State.bankValid_fillBank]
    exact .inl rfl

/-- The registers of a converter's slots, loaded one after the other. -/
theorem State.reg_loadSlots (page : Nat) (f : Nat → Word) (m : Nat) (hm : m ≤ 32) (q r : Nat) (hr : r < 256) :
    ((List.range m).foldl (fun s k => s.loadCal page (0x80 + k) (f k)) s).reg q r
      = if q = page ∧ 0x80 ≤ r ∧ r < 0x80 + m then f (r - 0x80) else s.reg q r := by
  induction m with
  | zero => rw [if_neg (by omega)]; rfl
  | succ m ih =>
    rw [List.range_succ, List.foldl_append, List.foldl_cons, List.foldl_nil, State.reg_loadCal, ih (by omega)]
    by_cases last : page * 256 + (0x80 + m) = q * 256 + r
    · obtain ⟨rfl, rfl⟩ := key_inj (by omega) hr last
      rw [if_pos rfl, if_pos (by omega), Nat.add_sub_cancel_left]
    · rw [if_neg last]
      exact if_congr (by constructor <;> rintro ⟨rfl, _, _⟩ <;> omega) rfl rfl

end

end Sys2Proof.Machine
end
section
/-! SUPPORT. The load of bring-up as a whole (R153): converters, axes, and the orphan. -/

set_option Elab.async false

namespace Sys2Proof.Machine

open Sys2Proof.Safety

/-! ### The records asked for -/

theorem storedV1_none {s : State} {ty i len : Nat} (h : (s.currentRec ty i).1 = none) : storedV1 s ty i len = none := by
  simp [storedV1, storedAs, h]

theorem storedV1_some {s : State} {ty i len : Nat} {r : SlotRec} (h : (s.currentRec ty i).1 = some r) :
    storedV1 s ty i len = if r.len = len ∧ wordAt r.payload 0 = 0x0001#16 then some r.payload else none := by
  simp only [storedV1, storedAs, h, Option.bind_some, ite_and]
  split
  · rw [Option.filter_some]
    exact if_congr beq_iff_eq rfl rfl
  · rfl

/-- What an axis's record loads. -/
def State.axisLoaded (s : State) (n : Ax) (p : List Word) : State :=
  ((s.loadCal (brPage n) 0x18 (wordAt p 1)).loadCal (axPage n) 0x48 (wordAt p 3)).loadShape n (wordAt p 4) (wordAt p 5)
    (wordAt p 6).toNat

/-- The orphan to offer after the load, where the part has the link. -/
def State.orphanLoaded (s : State) : Twin :=
  if s.part.hasTwin then (storedAs s 5 0 156).elim s.twin (fun p => { s.twin with orphan := p, held := true }) else s.twin

section
variable {s : State} (clean : s.nvs.mramErr = [])
include clean

theorem State.currentRec_clean (ty i : Nat) : ∃ r slot, s.currentRec ty i = (r, slot, s) :=
  ⟨_, _, State.currentRec_plain clean rfl rfl ty i⟩

theorem State.loadAxis_eq (n : Ax) : s.loadAxis n = (storedV1 s 2 n.val 16).elim s.loadDefault (s.axisLoaded n) := by
  obtain ⟨r, slot, current⟩ := State.currentRec_clean clean 2 n.val
  cases r with
  | none => simp only [State.loadAxis, current, storedV1_none (congrArg Prod.fst current), Option.elim_none]
  | some r =>
    simp only [State.loadAxis, current, storedV1_some (congrArg Prod.fst current)]
    split
    · rw [Option.elim_some, State.axisLoaded]
    · rw [Option.elim_none]

theorem State.loadCnv_eq (i : Fin 3) : s.loadCnv i = (storedV1 s 3 i.val 66).elim s.loadDefault (s.loadSlots i) := by
  obtain ⟨r, slot, current⟩ := State.currentRec_clean clean 3 i.val
  cases r with
  | none => simp only [State.loadCnv, current, storedV1_none (congrArg Prod.fst current), Option.elim_none]
  | some r =>
    simp only [State.loadCnv, current, storedV1_some (congrArg Prod.fst current)]
    split
    · rw [Option.elim_some]
    · rw [Option.elim_none]

theorem State.loadOrphan_eq : s.loadOrphan = { s with twin := s.orphanLoaded } := by
  obtain ⟨r, slot, current⟩ := State.currentRec_clean clean 5 0
  simp only [State.loadOrphan, State.orphanLoaded, storedAs, current]
  split
  · cases r with
    | none => rfl
    | some r =>
      simp only [Option.bind_some]
      split <;> rfl
  · rfl

end

/-! ### One record's registers -/

/-- The pages of an axis. -/
def AxisPages (n : Ax) (p _o : Nat) : Prop := p = axPage n ∨ p = brPage n

/-- The page of a converter. -/
def CnvPage (i : Fin 3) (p _o : Nat) : Prop := p = cnvPage i

theorem AxisPages.apart {m n : Ax} (ne : m ≠ n) {p o : Nat} (h : AxisPages m p o) : ¬ AxisPages n p o := by
  have distinct : m.val ≠ n.val := fun e => ne (Fin.ext e)
  have := m.isLt
  have := n.isLt
  unfold AxisPages axPage brPage at *
  omega

theorem CnvPage.apart {i j : Fin 3} (ne : i ≠ j) {p o : Nat} (h : CnvPage i p o) : ¬ CnvPage j p o := by
  have distinct : i.val ≠ j.val := fun e => ne (Fin.ext e)
  unfold CnvPage cnvPage at *
  omega

theorem CnvPage.not_axis {i : Fin 3} {n : Ax} {p o : Nat} (h : CnvPage i p o) : ¬ AxisPages n p o := by
  have := i.isLt
  unfold CnvPage AxisPages cnvPage axPage brPage at *
  omega

section
variable (s : State)

theorem State.loads_axisLoaded (n : Ax) (p : List Word) : s.Loads (AxisPages n) (s.axisLoaded n p) :=
  (((s.loads_loadCal (wordAt p 1) (brPage_ne_nvs n) (by decide)).mono (fun _ _ h => .inr h.1)).trans
    ((State.loads_loadCal _ (wordAt p 3) (axPage_ne_nvs n) (by decide)).mono (fun _ _ h => .inl h.1))).trans
    ((State.loads_loadShape _ n _ _ _).mono (fun _ _ h => .inl h.1))

theorem State.loads_loadSlots (i : Fin 3) (p : List Word) (clean : s.nvs.mramErr = []) : s.Loads (CnvPage i) (s.loadSlots i p) :=
  State.Loads.foldl (fun u k hk _ => (u.loads_loadCal _ (cnvPage_ne_nvs i) (by have := List.mem_range.mp hk; omega)).mono
    (fun _ _ h => h.1)) clean

/-- An AXISPARAM record's values are in the registers of its axis. -/
theorem State.axisLoaded_shows (n : Ax) (p : List Word) :
    (s.axisLoaded n p).reg (brPage n) 0x18 = wordAt p 1 ∧ (s.axisLoaded n p).reg (axPage n) 0x48 = wordAt p 3 ∧
    (wordAt p 6 = 0#16 →
      (s.axisLoaded n p).reg (axPage n) 0x49 = wordAt p 4 ∧ (s.axisLoaded n p).reg (axPage n) 0x4A = wordAt p 5) ∧
    (1 ≤ (wordAt p 6).toNat → (wordAt p 6).toNat ≤ 4 → s.ShapesValid → (s.axisLoaded n p).bankValid (wordAt p 6).toNat = true) := by
  let u := (s.loadCal (brPage n) 0x18 (wordAt p 1)).loadCal (axPage n) 0x48 (wordAt p 3)
  have apart : axPage n ≠ brPage n := by unfold axPage brPage; omega
  have shape := u.loads_loadShape n (wordAt p 4) (wordAt p 5) (wordAt p 6).toNat
  have loop : u.reg (brPage n) 0x18 = wordAt p 1 := by
    rw [State.reg_loadCal, if_neg (fun at_ => apart (key_inj (by decide) (by decide) at_).1), State.reg_loadCal, if_pos rfl]
  have ke : u.reg (axPage n) 0x48 = wordAt p 3 := by rw [State.reg_loadCal, if_pos rfl]
  refine ⟨?_, ?_, fun zero => ?_, fun low high known => ?_⟩
  · exact (shape.regs _ _ (by decide) (brPage_ne_nvs n) (fun h => apart h.1.symm)).trans loop
  · exact (shape.regs _ _ (by decide) (axPage_ne_nvs n) (fun h => by simp [CoefRegs] at h)).trans ke
  · rw [State.axisLoaded, zero]
    exact u.loadCoefs_shows n _ _
  · exact u.bankValid_loadShape n _ _ low high known

end

section
variable {s : State} (clean : s.nvs.mramErr = [])
include clean

theorem State.loads_loadAxis (n : Ax) : s.Loads (AxisPages n) (s.loadAxis n) := by
  rw [State.loadAxis_eq clean]
  cases storedV1 s 2 n.val 16 with
  | none => exact s.loads_loadDefault _
  | some p => exact s.loads_axisLoaded n p

theorem State.loads_loadCnv (i : Fin 3) : s.Loads (CnvPage i) (s.loadCnv i) := by
  rw [State.loadCnv_eq clean]
  cases storedV1 s 3 i.val 66 with
  | none => exact s.loads_loadDefault _
  | some p =>
    rw [Option.elim_some]
    exact s.loads_loadSlots i p clean

end

/-! ### All records -/

/-- A converter that the part has is loaded. -/
def State.loadCnvIf (s : State) (i : Fin 3) : State := if i ≠ 1 || s.part.hasCnvB then s.loadCnv i else s

/-- The records of the converters, and then those of the axes, are loaded. -/
def State.loadCnvs (s : State) : State := [0, 1, 2].foldl State.loadCnvIf s
def State.loadAxes (s : State) : State := s.present.foldl State.loadAxis s

section
variable {s : State} (clean : s.nvs.mramErr = [])
include clean

theorem State.loads_loadCnvIf (i : Fin 3) : s.Loads (CnvPage i) (s.loadCnvIf i) := by
  unfold State.loadCnvIf
  split
  · exact State.loads_loadCnv clean i
  · exact .refl _ s

theorem State.loads_loadCnvs {P : Nat → Nat → Prop} (sub : ∀ i p o, CnvPage i p o → P p o) : s.Loads P s.loadCnvs :=
  State.Loads.foldl (f := State.loadCnvIf) (l := [0, 1, 2]) (fun _ i _ hu => (State.loads_loadCnvIf hu i).mono (sub i)) clean

theorem State.loads_loadAxes {P : Nat → Nat → Prop} (sub : ∀ n p o, AxisPages n p o → P p o) : s.Loads P s.loadAxes :=
  State.Loads.foldl (f := State.loadAxis) (l := s.present) (fun _ n _ hu => (State.loads_loadAxis hu n).mono (sub n)) clean

/-- The load of one axis, among all others. -/
theorem State.loadAxis_within {n : Ax} (has : s.hasAxis n = true) : ∃ u, s.Loads (fun p o => ¬ AxisPages n p o) u ∧
    (u.loadAxis n).Loads (fun p o => ¬ AxisPages n p o) s.loadCnvs.loadAxes := by
  have cnvs : s.Loads (fun p o => ¬ AxisPages n p o) s.loadCnvs := State.loads_loadCnvs clean (fun _ _ _ h => h.not_axis)
  have listed : n ∈ s.loadCnvs.present := State.mem_present (by rwa [State.hasAxis, cnvs.part])
  obtain ⟨u, before, after⟩ := State.Loads.foldl_at (f := State.loadAxis) listed (State.present_nodup _)
    (fun u m ne hu => (State.loads_loadAxis hu m).mono (fun _ _ h => h.apart ne)) (cnvs.mramErr.trans clean)
    (fun u hu => State.loads_loadAxis hu n)
  exact ⟨u, cnvs.trans before, after⟩

/-- The load of one converter, among all others. -/
theorem State.loadCnv_within {i : Fin 3} (has : i ≠ 1 ∨ s.part.hasCnvB = true) : ∃ u, s.Loads (fun p o => ¬ CnvPage i p o) u ∧
    (u.loadCnv i).Loads (fun p o => ¬ CnvPage i p o) s.loadCnvs.loadAxes := by
  have listed : ∀ i : Fin 3, i ∈ [0, 1, 2] := by decide
  obtain ⟨u, before, after⟩ := State.Loads.foldl_at (f := State.loadCnvIf) (listed i) (by decide)
    (fun u j ne hu => (State.loads_loadCnvIf hu j).mono (fun _ _ h => h.apart ne)) clean
    (fun u hu => State.loads_loadCnvIf hu i)
  have here : u.loadCnvIf i = u.loadCnv i := by
    rw [State.loadCnvIf, before.part, if_pos]
    simpa using has
  have cnvs := State.loads_loadCnvs clean (P := fun _ _ => True) (fun _ _ _ _ => trivial)
  have clean' := cnvs.mramErr.trans clean
  rw [here] at after
  exact ⟨u, before, after.trans (State.loads_loadAxes clean' (fun _ _ _ h g => g.not_axis h))⟩

/-- NV_LOAD_DONE, made for the first time while the block is awake. -/
theorem State.loadNow_eq (awake : s.awake = true) (first : s.nvs.loaded = false) : s.loadNow = { s with
    regs := s.loadCnvs.loadAxes.regs, table := s.loadCnvs.loadAxes.table, twin := s.orphanLoaded
    nvs := { s.nvs with cal := s.loadCnvs.loadAxes.nvs.cal, loadDone := true, loaded := true } } := by
  have cnvs : s.Loads (fun _ _ => True) s.loadCnvs := State.loads_loadCnvs clean (fun _ _ _ _ => trivial)
  have clean' := cnvs.mramErr.trans clean
  have axes : s.loadCnvs.Loads (fun _ _ => True) s.loadCnvs.loadAxes := State.loads_loadAxes clean' (fun _ _ _ _ => trivial)
  have clean'' := axes.mramErr.trans clean'
  have all := cnvs.trans axes
  have orphan : s.loadCnvs.loadAxes.orphanLoaded = s.orphanLoaded := by
    simp only [State.orphanLoaded, storedAs_congr clean all.mramErr all.mram, all.part, all.twin]
  have run : s.loadNow
      = s.loadCnvs.loadAxes.loadOrphan.modNvs (fun n => { n with loadDone := true, loaded := true }) := if_pos ⟨awake, first⟩
  rw [run, State.loadOrphan_eq clean'', orphan]
  obtain ⟨regs, table, cal, only⟩ := all.only
  rw [only]
  rfl

end

/-! ### An empty store -/

theorem filter_insertPair_self {α : Type} (e : Nat × α) (m : List (Nat × α)) :
    (insertPair e m).filter (fun x => x.1 != e.1) = m.filter (fun x => x.1 != e.1) := by
  induction m with
  | nil => simp [insertPair]
  | cons x m ih =>
    unfold insertPair
    split
    · simp
    · rw [List.filter_cons, List.filter_cons, ih]

/-- A write repeated changes nothing more. -/
theorem Store.set_set_same (d : Nat → Word) (m : Store) (a : Nat) (v : Word) :
    Store.set d (Store.set d m a v) a v = Store.set d m a v := by
  have others : (Store.set d m a v).filter (fun e => e.1 != a) = m.filter (fun e => e.1 != a) := by
    unfold Store.set
    split
    · simp
    · rw [Store.insert_eq]
      exact (filter_insertPair_self (a, v) _).trans (by simp)
  rw [Store.set, others, Store.set]

theorem State.event_twice (s : State) (p k : Nat) : (s.event p k).event p k = s.event p k := by
  have still : (s.event p k).reg p 0x03 ||| bitWord k = s.reg p 0x03 ||| bitWord k := by
    rw [State.event, State.reg_setReg_same, BitVec.or_assoc, BitVec.or_self]
  show (s.event p k).setReg p 0x03 ((s.event p k).reg p 0x03 ||| bitWord k) = _
  rw [still]
  exact congrArg (fun regs => { s with regs := regs }) (Store.set_set_same _ _ _ _)

theorem slotMap_below {ty i : Nat} {m : SlotMap} (h : slotMap ty i = some m) : m.a < 0x10FFFF ∧ m.b < 0x10FFFF := by
  unfold slotMap at h
  split at h
  case h_7 => cases h
  all_goals
    obtain ⟨bound, same⟩ := Option.ite_none_right_eq_some.mp h
    cases same
    dsimp only
    omega

section
variable {s : State} (clean : s.nvs.mramErr = []) (blank : s.nvs.mram = [])
include clean blank

/-- No slot of an empty store holds a record: its first word is not the mark of one (R146, R147). -/
theorem State.slotCheck_blank (ty i m : Nat) {a : Nat} (below : a < 0x10FFFF) : (s.slotCheck ty i a m).1 = none := by
  have low : ¬ (0x110000 ≤ a ∧ a < 0x120000) := by omega
  have high : ¬ (0x110000 ≤ a + 1 ∧ a + 1 < 0x120000) := by omega
  have mark : readWord mramDefault [] a = 0#16 := by
    simp only [readWord, Cells.get, List.find?_nil, mramDefault, if_neg low, if_neg high]
    rfl
  have first : wordAt (readWords mramDefault [] a 8) 0 = 0#16 := mark
  simp only [State.slotCheck, s.mramReads_plain _ _ clean, blank, first]
  rw [if_pos (.inr (.inl (by decide)))]

theorem State.currentRec_blank (ty i : Nat) : (s.currentRec ty i).1 = none := by
  unfold State.currentRec
  cases found : slotMap ty i with
  | none => rfl
  | some m =>
    obtain ⟨a, b⟩ := slotMap_below found
    obtain ⟨ra, checkA⟩ : ∃ r, s.slotCheck ty i m.a m.max = (r, s) := ⟨_, State.slotCheck_plain clean rfl rfl _ _ _ _⟩
    obtain ⟨rb, checkB⟩ : ∃ r, s.slotCheck ty i m.b m.max = (r, s) := ⟨_, State.slotCheck_plain clean rfl rfl _ _ _ _⟩
    obtain rfl : ra = none := (congrArg Prod.fst checkA).symm.trans (State.slotCheck_blank clean blank ty i m.max a)
    obtain rfl : rb = none := (congrArg Prod.fst checkB).symm.trans (State.slotCheck_blank clean blank ty i m.max b)
    simp only [checkA, checkB]

theorem State.loadAxis_blank (n : Ax) : s.loadAxis n = s.loadDefault := by
  rw [State.loadAxis_eq clean, storedV1_none (State.currentRec_blank clean blank _ _), Option.elim_none]

theorem State.loadCnv_blank (i : Fin 3) : s.loadCnv i = s.loadDefault := by
  rw [State.loadCnv_eq clean, storedV1_none (State.currentRec_blank clean blank _ _), Option.elim_none]

/-- The load of an empty store sets LOAD_DEFAULT alone. -/
theorem State.loadAll_blank : s.loadCnvs.loadAxes = s.loadDefault := by
  have again : s.loadDefault.loadDefault = s.loadDefault := s.event_twice _ _
  have cnvs : s.loadCnvs = s.loadDefault := by
    have first : s.loadCnvIf 0 = s.loadDefault := (if_pos rfl).trans (State.loadCnv_blank clean blank 0)
    rw [State.loadCnvs, List.foldl_cons, first]
    refine List.foldl_fixed' (fun i => ?_) _
    rw [State.loadCnvIf]
    split
    · exact (State.loadCnv_blank (s := s.loadDefault) clean blank i).trans again
    · rfl
  rw [cnvs]
  exact List.foldl_fixed' (fun n => (State.loadAxis_blank (s := s.loadDefault) clean blank n).trans again) _

theorem State.orphanLoaded_blank : s.orphanLoaded = s.twin := by
  simp only [State.orphanLoaded, storedAs, State.currentRec_blank clean blank, Option.bind_none, Option.elim_none, ite_self]

end

end Sys2Proof.Machine
end
section
/-! PROOF. The jobs of the store and the load of bring-up (R148 to R153). -/

namespace Sys2Proof.Machine

open Sys2Proof.Safety

section
variable {s u : State} (clean : s.nvs.mramErr = []) {P : Nat → Nat → Prop} (before : s.Loads P u)
include clean before

/-- An axis's record is loaded as it stands before the load (R262, R263). -/
theorem State.loadAxis_after (n : Ax) : u.loadAxis n = (storedV1 s 2 n.val 16).elim u.loadDefault (u.axisLoaded n) := by
  rw [State.loadAxis_eq (before.mramErr.trans clean), storedV1_congr clean before.mramErr before.mram]

theorem State.loadCnv_after (i : Fin 3) : u.loadCnv i = (storedV1 s 3 i.val 66).elim u.loadDefault (u.loadSlots i) := by
  rw [State.loadCnv_eq (before.mramErr.trans clean), storedV1_congr clean before.mramErr before.mram]

end

/-- A CAL record's values are in the slots of its converter (R363). -/
theorem State.loadSlots_shows (s : State) (i : Fin 3) (p : List Word) (k : Fin 32) :
    (s.loadSlots i p).reg (cnvPage i) (0x80 + k.val) = wordAt p (k.val + 1) := by
  have slots := s.reg_loadSlots (cnvPage i) (fun k => wordAt p (k + 1)) 32 le_rfl (cnvPage i) (0x80 + k.val) (by omega)
  rwa [if_pos (by omega), Nat.add_sub_cancel_left] at slots

theorem State.shapesValid_of_unknown {s : State} (unknown : s.table.shape = Vector.replicate 5 none) : s.ShapesValid := by
  intro k shape
  simp [unknown] at shape

section
variable {s : State} (clean : s.nvs.mramErr = [])
include clean

section
variable {n : Ax} (has : s.hasAxis n = true)
include has

/-- After the load of all records a valid one of an axis is in its registers, and its bank is VALID. -/
theorem State.loadAll_axis {p : List Word} (record : storedV1 s 2 n.val 16 = some p) :
    s.loadCnvs.loadAxes.reg (brPage n) 0x18 = wordAt p 1 ∧ s.loadCnvs.loadAxes.reg (axPage n) 0x48 = wordAt p 3 ∧
    (wordAt p 6 = 0#16 → s.loadCnvs.loadAxes.reg (axPage n) 0x49 = wordAt p 4 ∧
      s.loadCnvs.loadAxes.reg (axPage n) 0x4A = wordAt p 5) ∧
    (1 ≤ (wordAt p 6).toNat → (wordAt p 6).toNat ≤ 4 → s.ShapesValid →
      s.loadCnvs.loadAxes.bankValid (wordAt p 6).toNat = true) := by
  obtain ⟨u, before, after⟩ := State.loadAxis_within clean has
  rw [State.loadAxis_after clean before, record, Option.elim_some] at after
  obtain ⟨rLoop, ke, zero, bank⟩ := u.axisLoaded_shows n p
  have loop := after.regs (brPage n) 0x18 (by decide) (brPage_ne_nvs n) (fun h => h (.inr rfl))
  have coef (o : Nat) (ho : o < 256) := after.regs (axPage n) o ho (axPage_ne_nvs n) (fun h => h (.inl rfl))
  refine ⟨loop.trans rLoop, (coef _ (by decide)).trans ke, fun h => ?_, fun low high known => ?_⟩
  · exact ⟨(coef _ (by decide)).trans (zero h).1, (coef _ (by decide)).trans (zero h).2⟩
  · exact after.valid _ (bank low high (before.shapes known))

/-- Without a valid record an axis keeps its registers, and LOAD_DEFAULT is set. -/
theorem State.loadAll_axis_default (record : storedV1 s 2 n.val 16 = none) : HasEvent s.loadCnvs.loadAxes nvsPage 8 ∧
    s.loadCnvs.loadAxes.reg (brPage n) 0x18 = s.reg (brPage n) 0x18 ∧
    s.loadCnvs.loadAxes.reg (axPage n) 0x48 = s.reg (axPage n) 0x48 := by
  obtain ⟨u, before, after⟩ := State.loadAxis_within clean has
  rw [State.loadAxis_after clean before, record, Option.elim_none] at after
  have same := (before.trans (u.loads_loadDefault _)).trans after
  exact ⟨after.note u.hasEvent_loadDefault, same.regs _ _ (by decide) (brPage_ne_nvs n) (fun h => h (.inr rfl)),
    same.regs _ _ (by decide) (axPage_ne_nvs n) (fun h => h (.inl rfl))⟩

end

section
variable {i : Fin 3} (has : i ≠ 1 ∨ s.part.hasCnvB = true)
include has

/-- After the load of all records a valid one of a converter is in its slots. -/
theorem State.loadAll_cnv {p : List Word} (record : storedV1 s 3 i.val 66 = some p) (k : Fin 32) :
    s.loadCnvs.loadAxes.reg (cnvPage i) (0x80 + k.val) = wordAt p (k.val + 1) := by
  obtain ⟨u, before, after⟩ := State.loadCnv_within clean has
  rw [State.loadCnv_after clean before, record, Option.elim_some] at after
  exact (after.regs (cnvPage i) (0x80 + k.val) (by omega) (cnvPage_ne_nvs i) (fun h => h rfl)).trans (u.loadSlots_shows i p k)

/-- Without a valid record a converter keeps its slots, and LOAD_DEFAULT is set. -/
theorem State.loadAll_cnv_default (record : storedV1 s 3 i.val 66 = none) : HasEvent s.loadCnvs.loadAxes nvsPage 8 ∧
    ∀ k : Fin 32, s.loadCnvs.loadAxes.reg (cnvPage i) (0x80 + k.val) = s.reg (cnvPage i) (0x80 + k.val) := by
  obtain ⟨u, before, after⟩ := State.loadCnv_within clean has
  rw [State.loadCnv_after clean before, record, Option.elim_none] at after
  have same := (before.trans (u.loads_loadDefault _)).trans after
  exact ⟨after.note u.hasEvent_loadDefault, fun k => same.regs _ _ (by omega) (cnvPage_ne_nvs i) (fun h => h rfl)⟩

end

end

end Sys2Proof.Machine

namespace Sys2Proof

open Machine Safety

/-- Settles O23: a job writes its record's words and nothing else, and each record of the load writes its own registers. -/
theorem storeJobsWriteTheirRecords : Obligations.StoreJobsWriteTheirRecords := by
  refine ⟨?_, ?_, ?_, ?_, ?_, ?_, ?_, ?_, ?_, ?_, ?_, ?_⟩
  · intro s ty inst len src ready store clean empty
    let head := [place ty.val 0 ||| place inst.val 4, 1#16]
    let u := s.setJob (.write 0 head src (2 * len.val) [] none)
    have half : 2 * len.val / 2 = len.val := by omega
    have hty : fld (wordAt head 0) 0 4 = ty.val := fld_place_type ty inst
    have hinst : fld (wordAt head 0) 4 4 = inst.val := fld_place_inst ty inst
    have run := State.nvsReadSource_plain (s := u) rfl hty hinst store clean empty
    rw [half, State.currentRec_plain (s := s) (t := u) store rfl rfl] at run
    exact ⟨_, congrArg Host.Outcome.next ((if_neg (by simp [ready])).trans run), rfl⟩
  · intro s slot src len got head w l auto image
    let u := s.setJob (.write slot head src len (w :: l) none got [])
    have reread : u.nvsReread = u := State.nvsReread_none rfl
    have ends : u.nvsWriteEnd = u.recordEnd slot (w :: l) 0 := by
      rw [State.nvsWriteEnd_host (congrArg (fun t : State => t.nvs.job) reread), reread]
    refine runs_recordEnd rfl ends auto image (by decide) (fun t stored => ?_)
    obtain ⟨regs, mram, err, rfl⟩ := stored.only
    exact ⟨rfl, stored.words, stored.others, stored.event, stored.same⟩
  · intro s slot src got head again ty inst seq us flags p auto image clean empty
    let u := s.setJob (.write slot head src (2 * p.length) (recordWords ty.val inst.val seq flags us p) none got again)
    obtain ⟨got', again', reread⟩ := State.nvsReread_plain (s := u) clean empty rfl
    have ends : u.nvsWriteEnd = u.nvsReread.recordEnd slot (recordWords ty.val inst.val seq flags us (u.reread src again p)) 0 :=
      State.nvsWriteEnd_host (congrArg (fun t : State => t.nvs.job) reread)
    rw [reread] at ends
    refine runs_recordEnd rfl ends auto image (by decide) (fun t stored => ?_)
    obtain ⟨regs, mram, err, rfl⟩ := stored.only
    exact ⟨stored.words, stored.others, rfl, stored.event⟩
  · intro s slot src len got head again w l n auto image
    let u := s.setJob (.write slot head src len (w :: l) (some n) got again)
    have stored := u.recordEnd_stored slot (w :: l) (k := 0) (by decide)
    obtain ⟨regs, mram, err, only⟩ := stored.only
    rw [only] at stored
    let v : State := { u with regs := regs, nvs := { u.nvs with job := .idle, mram := mram, mramErr := err } }
    let f (a : Axis) : Axis := { a with char := { a.char with saving := false } }
    have ends : u.nvsWriteEnd = (v.modAxis n f).event (axPage n) 15 := by
      rw [State.nvsWriteEnd_axis (s := u) rfl, only]
    have run : u.nvsWriteEnd.engineGo = (v.modAxis n f).event (axPage n) 15 := by
      rw [ends]
      exact State.engineGo_rest (s := (v.modAxis n f).event (axPage n) 15) auto image
    have saved := sameRegsBut_event (v.modAxis n f) (axPage n) 15
    have apart : (nvsPage, 0x03) ∉ [(axPage n, 0x03)] := by
      simpa using (axPage_ne_nvs n).symm
    refine ⟨_, congrArg Host.Outcome.next run, stored.words, hasEvent_of_sameRegsBut saved apart stored.event,
      hasEvent_event _ _ 15 (by decide), ?_, sameRegsBut_append stored.same saved⟩
    rw [State.axis_event, v.axis_modAxis_same]
    rfl
  · intro s a b auto image
    let u := s.setJob (.invalidate [a, b])
    obtain ⟨err, first⟩ := u.mramWrites_shows a [0#16, 0#16]
    have ends := State.nvsInvalidateEnd_two (s := u) rfl
    rw [first] at ends
    refine runs_recordEnd rfl ends auto image (by decide) (fun t stored => ?_)
    have cleared := readWords_cleared_twice u.nvs.mram a b
    obtain ⟨regs, mram, err, rfl⟩ := stored.only
    refine ⟨rfl, ?_, stored.words, stored.event, stored.same⟩
    rw [stored.store]
    exact cleared
  · intro s waits free lost
    exact ⟨_, congrArg Host.Outcome.next ((if_pos ⟨waits, free⟩).trans (if_pos lost)), rfl⟩
  · intro s waits free store held
    exact ⟨_, congrArg Host.Outcome.next (State.orphanStart_plain waits free store held), rfl⟩
  · intro s slot l auto image
    let u := s.setJob (.orphan slot l)
    refine runs_recordEnd rfl (State.orphanEnd_job (s := u) rfl) auto image (by decide) (fun t stored => ?_)
    obtain ⟨regs, mram, err, rfl⟩ := stored.only
    exact ⟨rfl, stored.words, stored.others, stored.event, stored.same⟩
  · intro s awake first clean blank
    have run := State.loadNow_eq clean awake first
    rw [State.loadAll_blank clean blank, State.orphanLoaded_blank clean blank] at run
    exact ⟨_, congrArg Host.Outcome.next run, rfl, s.hasEvent_loadDefault, sameRegsBut_event s nvsPage 8⟩
  · intro s n awake first clean has
    have run := State.loadNow_eq clean awake first
    have loaded (p : List Word) := State.loadAll_axis clean has (p := p)
    have kept := State.loadAll_axis_default clean has
    generalize s.loadCnvs.loadAxes = v at run loaded kept
    refine ⟨_, congrArg Host.Outcome.next run, rfl, rfl, rfl, ?_⟩
    cases record : storedV1 s 2 n.val 16 with
    | none => exact kept record
    | some p =>
      obtain ⟨loop, ke, zero, bank⟩ := loaded p record
      exact ⟨loop, ke, zero, fun ⟨low, high, unknown⟩ => bank low high (State.shapesValid_of_unknown unknown)⟩
  · intro s i awake first clean has
    have run := State.loadNow_eq clean awake first
    have loaded (p : List Word) := State.loadAll_cnv clean has (p := p)
    have kept := State.loadAll_cnv_default clean has
    generalize s.loadCnvs.loadAxes = v at run loaded kept
    refine ⟨_, congrArg Host.Outcome.next run, ?_⟩
    cases record : storedV1 s 3 i.val 66 with
    | none => exact kept record
    | some p => exact loaded p record
  · intro s awake first clean has
    have run := State.loadNow_eq clean awake first
    refine ⟨_, congrArg Host.Outcome.next run, ?_⟩
    show s.orphanLoaded = _
    rw [State.orphanLoaded, if_pos has]
    cases storedAs s 5 0 156 <;> rfl

end Sys2Proof
end
section
/-! SUPPORT. What the operations of machine time leave alone, and how time passes up to a tick (R160, R169 to R173). -/

set_option Elab.async false

namespace Sys2Proof.Machine

open Sys2Proof.Safety

/-! ### Machine time with the registers of its page -/

/-- Machine time is now `m`; beside it only the registers listed read differently. -/
structure State.Tells (l : List (Nat × Nat)) (s : State) (m : MTime) (t : State) : Prop where
  only : ∃ regs, t = { s with regs := regs, time := m }
  regs : SameRegsBut l s t

section
variable {s t : State} {m : MTime} {l : List (Nat × Nat)}

theorem State.tells_modTime (s : State) (f : MTime → MTime) : State.Tells l s (f s.time) (s.modTime f) :=
  ⟨⟨_, rfl⟩, sameRegsBut_of_regs _ rfl⟩

namespace State.Tells

theorem time (h : State.Tells l s m t) : t.time = m := by
  obtain ⟨⟨_, rfl⟩, -⟩ := h
  rfl

theorem modTime (h : State.Tells l s m t) (f : MTime → MTime) : State.Tells l s (f m) (t.modTime f) := by
  obtain ⟨⟨regs, rfl⟩, same⟩ := h
  exact ⟨⟨regs, rfl⟩, same⟩

theorem mono (h : State.Tells l s m t) {k : List (Nat × Nat)} (sub : l ⊆ k) : State.Tells k s m t :=
  ⟨h.only, sameRegsBut_mono h.regs sub⟩

theorem setReg (h : State.Tells l s m t) {p o : Nat} (v : Word) (ho : o < 256) (mem : (p, o) ∈ l) :
    State.Tells l s m (t.setReg p o v) := by
  refine ⟨?_, sameRegsBut_mono (sameRegsBut_append h.regs (sameRegsBut_setReg t p o v ho)) (by simpa using mem)⟩
  obtain ⟨⟨regs, rfl⟩, -⟩ := h
  exact ⟨_, rfl⟩

theorem setFld (h : State.Tells l s m t) {p o : Nat} (k w v : Nat) (ho : o < 256) (mem : (p, o) ∈ l) :
    State.Tells l s m (t.setFld p o k w v) := h.setReg _ ho mem

theorem event (h : State.Tells l s m t) (mem : (timePage, 0x03) ∈ l) (k : Nat) : State.Tells l s m (t.timeEvent k) :=
  h.setReg _ (by decide) mem

theorem eventIf (h : State.Tells l s m t) (mem : (timePage, 0x03) ∈ l) (c : Bool) (k : Nat) :
    State.Tells l s m (t.eventIf c timePage k) := by
  cases c
  · exact h
  · exact h.event mem k

end State.Tells

/-- UNDISCIPLINED, with the lock count at 0 (R169). -/
def MTime.undisciplined (t : MTime) : MTime := { t with undisc := true, lock := 0 }

theorem State.Tells.undiscipline (h : State.Tells l s m t) (mem : (timePage, 0x03) ∈ l) :
    State.Tells l s m.undisciplined t.undiscipline :=
  (h.eventIf mem _ 8).modTime MTime.undisciplined

end

/-! ### Single bits of a register -/

theorem State.regBit_event (s : State) (p k : Nat) {o : Nat} (ho : o < 256) (ne : o ≠ 0x03) (j : Nat) :
    (s.event p k).regBit p o j = s.regBit p o j := by
  rw [State.regBit, sameRegsBut_event s p k p o ho (by simpa using ne)]
  rfl

/-- A field of one bit reads back as written. -/
theorem State.regBit_setFld_bit (s : State) (p o : Nat) {k : Nat} (hk : k < 16) (b : Bool) :
    (s.setFld p o k 1 b.toNat).regBit p o k = b := by
  rw [State.regBit, State.setFld, State.reg_setReg_same]
  cases b <;> simp [place, hk, BitVec.getLsbD_ofNat]

/-! ### Up to the tick -/

/-- With no correction in force and no realignment due, the tick ends the microsecond (R173). -/
theorem MTime.advance_plain {t : MTime} (free : t.corr = .none) (aligned : t.realign = false) : t.advance = { t with
    cur := (t.cur + (usUnit - t.run)) % timeSpan, run := 0, base := 0, baseCyc := 0
    total := t.total + (usUnit - t.run), high := t.high - (usUnit - t.run) } := by
  simp only [MTime.advance, MTime.elapse, MTime.toTick, free, aligned, Bool.false_eq_true, if_false]

theorem moveTime_within {t : Nat} {d : Int} (low : 0 ≤ t + d) (high : t + d < timeSpan) : (moveTime t d : Int) = t + d := by
  rw [moveTime, Int.emod_eq_of_lt low high, Int.toNat_of_nonneg low]

/-- A step at a tick boundary (R170, R172). -/
def MTime.stepped (e : Int) (t : MTime) : MTime :=
  { t.advance with
    cur := moveTime t.advance.cur e, corr := .none, due := .none, step := none, applied := false, realign := true, ticked := true }

theorem State.tells_stepTime (s : State) (e : Int) :
    State.Tells [(timePage, 0x03)] s (s.time.undisciplined.stepped e) (s.stepTime e) :=
  ((State.tells_modTime s id).undiscipline (List.mem_singleton_self _)).modTime (MTime.stepped e)

/-- A step from a tick of a free course lands where that course and the step come to. -/
theorem MTime.stepped_plain {t : MTime} {e : Int} {c : Nat} (free : t.corr = .none) (aligned : t.realign = false)
    (span : t.cur + (usUnit - t.run) < timeSpan) (lands : (c : Int) = t.cur + (usUnit - t.run : Nat) + e) (inside : c < timeSpan) :
    t.stepped e = { t with
      cur := c, run := 0, base := 0, baseCyc := 0, total := t.total + (usUnit - t.run), high := t.high - (usUnit - t.run)
      due := .none, step := none, applied := false, realign := true, ticked := true } := by
  have cur : t.advance.cur = t.cur + (usUnit - t.run) := by
    rw [MTime.advance_plain free aligned]
    exact Nat.mod_eq_of_lt span
  have landed : moveTime (t.cur + (usUnit - t.run)) e = c := by
    have := moveTime_within (t := t.cur + (usUnit - t.run)) (d := e) (by omega) (by omega)
    omega
  rw [MTime.stepped, cur, landed, MTime.advance_plain free aligned]
  simp only [free]

/-- So does the step of a block whose machine time runs free, whichever step waits. -/
theorem State.tells_stepTime_plain {s : State} (x : Option Int) {e : Int} {c : Nat} (free : s.time.corr = .none) (aligned : s.time.realign = false)
    (span : s.time.cur + (usUnit - s.time.run) < timeSpan) (lands : (c : Int) = s.time.cur + (usUnit - s.time.run : Nat) + e)
    (inside : c < timeSpan) :
    State.Tells [(timePage, 0x03)] { s with time := { s.time with step := x } } { s.time with
      cur := c, run := 0, base := 0, baseCyc := 0, total := s.time.total + (usUnit - s.time.run)
      high := s.time.high - (usUnit - s.time.run), due := .none
      step := none, applied := false, realign := true, ticked := true, undisc := true, lock := 0 }
      (State.stepTime { s with time := { s.time with step := x } } e) := by
  have told := State.tells_stepTime { s with time := { s.time with step := x } } e
  rwa [MTime.stepped_plain (t := MTime.undisciplined { s.time with step := x }) free aligned span lands inside] at told

/-! ### A correction that ends -/

theorem MTime.toTick_corr {t : MTime} (h : t.corr ≠ .none) : t.toTick = usUnit - t.run := by
  unfold MTime.toTick
  split
  · next free => exact absurd free h
  · rfl

/-- 8 times the rest of a slew brings machine time forward by 7 times it (R171). -/
theorem MTime.elapse_slew (t : MTime) {l : Nat} (slews : t.corr = .slew l) (inside : t.cur + 7 * l < timeSpan) :
    (t.elapse (8 * l)).endCorr = { t with
      corr := .none, realign := true, cur := t.cur + 7 * l, run := t.run + 8 * l, total := t.total + 8 * l
      high := t.high - 8 * l } := by
  have rest : min (8 * l / 8) l = l := by omega
  have seven : t.cur + (8 * l - l) = t.cur + 7 * l := by omega
  simp only [MTime.elapse, slews, rest, seven, Nat.mod_eq_of_lt inside, MTime.endCorr]

/-- The rest of a hold leaves machine time where it stands. -/
theorem MTime.elapse_hold (t : MTime) {l : Nat} (holds : t.corr = .hold l) (inside : t.cur < timeSpan) :
    (t.elapse l).endCorr = { t with
      corr := .none, realign := true, run := t.run + l, total := t.total + l, high := t.high - l } := by
  simp only [MTime.elapse, holds, Nat.min_self, Nat.sub_self, Nat.add_zero, Nat.mod_eq_of_lt inside, MTime.endCorr]

theorem State.slewEndNow_corr (s : State) {l : Nat} (slews : s.time.corr = .slew l) :
    s.slewEndNow = if 8 * l ≤ usUnit - s.time.run then s.modTime (fun t => (t.elapse (8 * l)).endCorr) else s := by
  simp only [State.slewEndNow, slews, MTime.toTick_corr (t := s.time) (by simp [slews])]

theorem State.holdEndNow_corr (s : State) {l : Nat} (holds : s.time.corr = .hold l) :
    s.holdEndNow = if l ≤ usUnit - s.time.run then s.modTime (fun t => (t.elapse l).endCorr) else s := by
  simp only [State.holdEndNow, holds, MTime.toTick_corr (t := s.time) (by simp [holds])]

end Sys2Proof.Machine
end

section
/-! PROOF. How the corrections of machine time end (R170 to R173). -/

set_option Elab.async false

namespace Sys2Proof
open Machine Safety

theorem runs_forwardStep {s : State} {e : Nat} (free : s.time.corr = .none) (aligned : s.time.realign = false)
    (span : s.time.cur + usUnit + e + 1 < timeSpan) :
    Runs .forwardStep { s with time := { s.time with step := some (e + 1) } } (fun t =>
      t = { s with regs := t.regs, time := { s.time with
        cur := s.time.cur + (usUnit - s.time.run) + e + 1, run := 0, base := 0, baseCyc := 0
        total := s.time.total + (usUnit - s.time.run), high := s.time.high - (usUnit - s.time.run), due := .none
        step := none, applied := false, realign := true, ticked := true, undisc := true, lock := 0 } } ∧
      HasEvent t timePage 2 ∧ SameRegsBut [(timePage, 0x03)] s t) := by
  let u : State := { s with time := { s.time with step := some (e + 1) } }
  have run : u.forwardNow = (u.stepTime (e + 1)).timeEvent 2 := if_pos (by omega)
  obtain ⟨⟨regs, only⟩, same⟩ := (State.tells_stepTime_plain (s := s) (some (e + 1)) (e := e + 1)
    (c := s.time.cur + (usUnit - s.time.run) + e + 1) free aligned (by omega) (by omega) (by omega)).event
      (List.mem_singleton_self _) 2
  exact ⟨_, congrArg Host.Outcome.next run, by rw [only], hasEvent_event _ _ 2 (by decide), same⟩

theorem runs_backwardStep {s : State} {e : Nat} (free : s.time.corr = .none) (aligned : s.time.realign = false)
    (back : e ≤ s.time.cur) (span : s.time.cur + usUnit < timeSpan) :
    Runs .backwardStep { s with time := { s.time with step := some (-(e : Int)) } } (fun t =>
      t = { s with regs := t.regs, time := { s.time with
        cur := s.time.cur + (usUnit - s.time.run) - e, run := 0, base := 0, baseCyc := 0
        total := s.time.total + (usUnit - s.time.run), high := s.time.high - (usUnit - s.time.run), due := .none
        step := none, applied := false, realign := true, ticked := true, undisc := true, lock := 0 } } ∧
      HasEvent t timePage 3 ∧ t.regBit timePage 0x01 3 = false ∧ SameRegsBut [(timePage, 0x01), (timePage, 0x03)] s t) := by
  let u : State := { s with time := { s.time with step := some (-(e : Int)) } }
  have run : u.backwardNow = ((u.stepTime (-e)).setFld timePage 0x01 3 1 0).timeEvent 3 := if_pos (by omega)
  obtain ⟨⟨regs, only⟩, same⟩ := (((State.tells_stepTime_plain (s := s) (some (-e)) (e := -e)
    (c := s.time.cur + (usUnit - s.time.run) - e) free aligned (by omega) (by omega) (by omega)).mono
      (k := [(timePage, 0x01), (timePage, 0x03)]) (by simp)).setFld (p := timePage) (o := 0x01) 3 1 0 (by decide) (by simp)).event
      (by simp) 3
  refine ⟨_, congrArg Host.Outcome.next run, by rw [only], hasEvent_event _ _ 3 (by decide), ?_, same⟩
  exact (State.regBit_event _ _ 3 (by decide) (by decide) 3).trans (State.regBit_setFld_bit _ _ _ (by decide) false)

/-- Settles O26: a step, like a correction that ends, is machine time's own change with its events. -/
theorem correctionsOfTimeEnd : Obligations.CorrectionsOfTimeEnd := by
  refine ⟨?_, ?_, ?_, ?_, ?_, ?_, ?_⟩
  · exact fun s e free aligned span => runs_forwardStep free aligned span
  · exact fun s e free aligned back span => runs_backwardStep free aligned back span
  · intro s l ends inside
    have run := State.slewEndNow_corr { s with time := { s.time with corr := .slew l } } rfl
    rw [if_pos ends] at run
    exact ⟨_, congrArg Host.Outcome.next run, congrArg (fun m => { s with time := m })
      (MTime.elapse_slew { s.time with corr := .slew l } rfl inside)⟩
  · intro s l ends inside
    have run := State.holdEndNow_corr { s with time := { s.time with corr := .hold l } } rfl
    rw [if_pos ends] at run
    exact ⟨_, congrArg Host.Outcome.next run, congrArg (fun m => { s with time := m })
      (MTime.elapse_hold { s.time with corr := .hold l } rfl inside)⟩
  · intro s l beyond
    have run := State.slewEndNow_corr { s with time := { s.time with corr := .slew l } } rfl
    exact ⟨_, congrArg Host.Outcome.next run, if_neg (Nat.not_le.mpr beyond)⟩
  · intro s l beyond
    have run := State.holdEndNow_corr { s with time := { s.time with corr := .hold l } } rfl
    exact ⟨_, congrArg Host.Outcome.next run, if_neg (Nat.not_le.mpr beyond)⟩
  · intro s l long fresh
    let u : State := { s with time := { s.time with corr := .hold l } }
    have run : u.timebaseFaultNow = (u.modTime (fun t => { t with tbDone := true })).timeEvent 6 := if_pos ⟨long, fresh⟩
    obtain ⟨⟨regs, only⟩, same⟩ := (u.tells_modTime (fun t => { t with tbDone := true })).event (List.mem_singleton_self _) 6
    exact ⟨_, congrArg Host.Outcome.next run, by rw [only], hasEvent_event _ _ 6 (by decide), same⟩

end Sys2Proof
end
section
/-! SUPPORT. Machine time read, and set by APPLY (R162 to R164, R172). -/

set_option Elab.async false

namespace Sys2Proof.Machine

open Sys2Proof.Safety

/-! ### Time told by a command -/

/-- As time passes machine time and the remaining error alone go on, with the counts of running time. -/
theorem MTime.elapse_only_course (t : MTime) (d : Nat) : t.elapse d = { t with
    cur := (t.elapse d).cur, run := (t.elapse d).run, total := (t.elapse d).total, high := (t.elapse d).high
    corr := (t.elapse d).corr } := by
  unfold MTime.elapse
  dsimp only
  split <;> rfl

theorem State.timeAt_only_course (s : State) (cy : Nat) : (s.timeAt cy).time = { s.time with
    cur := (s.timeAt cy).time.cur, run := (s.timeAt cy).time.run, total := (s.timeAt cy).time.total
    high := (s.timeAt cy).time.high, corr := (s.timeAt cy).time.corr } := by
  unfold State.timeAt
  split
  · exact MTime.elapse_only_course _ _
  · rfl

/-! ### Reading -/

section
variable {s : State} {o : Nat} {b : Bool}

/-- A register command that reads a ready page is the read. -/
theorem State.accessRead_ready {p : Nat} (ready : PortReady s p) :
    s.accessRead p o b = { (s.readReg false b p o).2 with rdata := (s.readReg false b p o).1 } := by
  obtain ⟨waiting, -, unit⟩ := ready
  simp only [State.accessRead, State.busRead, unit, waiting]
  rfl

end

/-! ### CTRL.APPLY -/

/-- The staged time, in the units of the time counters. -/
def State.staged (s : State) : Nat := timeOf (s.wide timePage 0x10) (s.wide timePage 0x12) * nsUnit

/-- Every correction in force, decided or waiting ends. -/
def MTime.uncorrected (t : MTime) : MTime := { t.endCorr with due := .none, step := none, applied := false }

theorem MTime.uncorrected_eq (t : MTime) : t.uncorrected = { t with
    corr := .none, due := .none, step := none, applied := false, realign := t.uncorrected.realign } := by
  unfold MTime.uncorrected MTime.endCorr
  split
  · next free => simp only [free]
  · rfl

/-- APPLY has made `c` the machine time (R164). -/
def MTime.setTo (t : MTime) (c : Nat) : MTime := { t.undisciplined.uncorrected with cur := c, realign := true }

theorem MTime.setTo_shows (t : MTime) (c : Nat) : (t.setTo c).cur = c ∧ (t.setTo c).corr = .none ∧ (t.setTo c).due = .none ∧
    (t.setTo c).step = none ∧ (t.setTo c).undisc = true ∧ (t.setTo c).lock = 0 ∧ (t.setTo c).armed = t.armed ∧
    (t.setTo c).rate = t.rate ∧ (t.setTo c).seen = t.seen := by
  rw [MTime.setTo, MTime.uncorrected_eq]
  exact ⟨rfl, rfl, rfl, rfl, rfl, rfl, rfl, rfl, rfl⟩

section
variable {s : State}

theorem State.applyTime_invalid (large : 1000000000 ≤ (s.wide timePage 0x12).toNat) : s.applyTime = s.timeEvent 0 := if_pos large

section
variable (valid : (s.wide timePage 0x12).toNat < 1000000000)
include valid

theorem State.applyTime_refused (earlier : s.staged < s.time.cur) (off : s.regBit timePage 0x01 3 = false) :
    s.applyTime = s.timeEvent 1 := by
  have back : timeOf (s.wide timePage 0x10) (s.wide timePage 0x12) * nsUnit < s.time.cur := earlier
  simp only [State.applyTime, if_neg (Nat.not_le.mpr valid), off, back, and_self, if_true]

/-- A time not earlier than now is the machine time at once (R164). -/
theorem State.tells_applyTime_sets (later : s.time.cur ≤ s.staged) : State.Tells [(timePage, 0x03)] s
    (s.time.setTo s.staged) s.applyTime := by
  have ahead : ¬ timeOf (s.wide timePage 0x10) (s.wide timePage 0x12) * nsUnit < s.time.cur := Nat.not_lt.mpr later
  have run : s.applyTime
      = (s.undiscipline.modTime MTime.uncorrected).modTime (fun t => { t with cur := s.staged, realign := true }) := by
    simp only [State.applyTime, if_neg (Nat.not_le.mpr valid), ahead, false_and, if_false]
    rfl
  rw [run]
  exact (((State.tells_modTime s id).undiscipline (List.mem_singleton_self _)).modTime MTime.uncorrected).modTime
    (fun t => { t with cur := s.staged, realign := true })

/-- With ALLOW_STEP an earlier time waits as a backward step (R172). -/
theorem State.tells_applyTime_steps (earlier : s.staged < s.time.cur) (on : s.regBit timePage 0x01 3 = true) :
    State.Tells [(timePage, 0x03)] s
      { s.time.undisciplined.uncorrected with step := some ((s.staged : Int) - s.time.cur), applied := true } s.applyTime := by
  have back : timeOf (s.wide timePage 0x10) (s.wide timePage 0x12) * nsUnit < s.time.cur := earlier
  have run : s.applyTime = (s.undiscipline.modTime MTime.uncorrected).modTime
      (fun t => { t with step := some ((s.staged : Int) - s.time.cur), applied := true }) := by
    simp only [State.applyTime, if_neg (Nat.not_le.mpr valid), back, on, true_and, Bool.true_eq_false, if_false, if_true]
    rfl
  rw [run]
  exact (((State.tells_modTime s id).undiscipline (List.mem_singleton_self _)).modTime MTime.uncorrected).modTime
    (fun t => { t with step := some ((s.staged : Int) - s.time.cur), applied := true })

end

/-! ### The command that applies -/

/-- A field of one bit written as it stands changes no register. -/
theorem sameRegsBut_setFld_bit (s : State) (p o : Nat) {k : Nat} (hk : k < 16) (ho : o < 256) :
    SameRegsBut [] s (s.setFld p o k 1 (s.regBit p o k).toNat) := by
  have word : (s.setFld p o k 1 (s.regBit p o k).toNat).reg p o = s.reg p o := by
    rw [State.setFld, State.reg_setReg_same]
    apply BitVec.eq_of_getLsbD_eq
    intro i hi
    have bit (n : Nat) : (BitVec.ofNat 16 (n <<< k)).getLsbD i = (decide (k ≤ i) && n.testBit (i - k)) := by
      rw [BitVec.getLsbD_ofNat, Nat.testBit_shiftLeft, decide_eq_true hi, Bool.true_and]
    have own : Nat.testBit (2 ^ 1 - 1) (i - k) = decide (i - k < 1) := Nat.testBit_two_pow_sub_one 1 _
    simp only [BitVec.getLsbD_or, BitVec.getLsbD_and, BitVec.getLsbD_not, place, bit, own, decide_eq_true hi, Bool.true_and]
    by_cases there : i = k
    · subst there
      show _ = s.regBit p o i
      cases s.regBit p o i <;> simp
    · rw [show (decide (k ≤ i) && decide (i - k < 1)) = false by simp; omega]
      simp
  intro q r hr _
  by_cases here : p * 256 + o = q * 256 + r
  · obtain ⟨rfl, rfl⟩ := key_inj ho hr here
    exact word
  · exact s.reg_setReg_other _ _ _ _ _ here

theorem State.offsetWrite_timeApply (s : State) (allow unl : Bool) :
    s.offsetWrite timePage 0x01 (flag allow 3 ||| 0x0004#16) unl = (s.setFld timePage 0x01 3 1 allow.toNat).applyTime := by
  cases allow <;> rfl

theorem State.nvs_applyTime (s : State) : s.applyTime.nvs = s.nvs := by
  unfold State.applyTime
  extract_lets ns staged now allow ended
  have ended_nvs : ended.nvs = s.nvs := State.eventIf_nvs s _ timePage 8
  split
  · rfl
  split
  · rfl
  split
  · exact ended_nvs
  · exact ended_nvs

/-- The state in which APPLY is judged: the time is told, and the write has consumed the unlock. -/
structure State.AppliesIn (s : State) (ph : Nat) (u : State) : Prop where
  only : ∃ regs unlock, u = { s with regs := regs, unlock := unlock, time := (s.timeAt ph).time }
  regs : SameRegsBut [] s u

theorem runs_timeApply {ph : Nat} {P : State → Prop} (ready : PortReady s timePage)
    (applies : ∀ u, s.AppliesIn ph u → P u.applyTime) : Runs (.timeApply ph) s P := by
  let told : State := { s with time := (s.timeAt ph).time }
  let spent := told.setUnlock timePage false
  let u := spent.setFld timePage 0x01 3 1 (s.regBit timePage 0x01 3).toNat
  have same : SameRegsBut [] spent u := sameRegsBut_setFld_bit spent timePage 0x01 (by decide) (by decide)
  have write := spent.offsetWrite_timeApply (s.regBit timePage 0x01 3) (told.unlocked timePage)
  have image : u.applyTime.nvs.image = none := (congrArg Nvs.image u.nvs_applyTime).trans ready.2.1
  refine runs_timeAt (fun u => u.access timePage 0x01 (flag (u.regBit timePage 0x01 3) 3 ||| 0x0004#16)) rfl
    ((State.access_unit (s := told) ready (by decide) (by decide) (by decide) ?_).trans write) (applies u ⟨⟨_, _, rfl⟩, same⟩)
  exact (congrArg (fun t : State => t.nvs.image) write).trans image

/-- What APPLY makes of machine time shows in `s` itself. -/
theorem State.AppliesIn.told {ph : Nat} {u t : State} {m : MTime} {l : List (Nat × Nat)} (h : s.AppliesIn ph u)
    (tells : State.Tells l u m t) :
    t = { s with regs := t.regs, unlock := t.unlock, time := m } ∧ SameRegsBut l s t := by
  have same := sameRegsBut_append h.regs tells.regs
  obtain ⟨⟨_, _, rfl⟩, -⟩ := h
  obtain ⟨⟨_, rfl⟩, -⟩ := tells
  exact ⟨rfl, same⟩

section
variable {ph : Nat} {u : State} (h : s.AppliesIn ph u)
include h

theorem State.AppliesIn.time : u.time = (s.timeAt ph).time := by
  obtain ⟨⟨_, _, rfl⟩, -⟩ := h
  rfl

theorem State.AppliesIn.reg {o : Nat} (ho : o < 256) : u.reg timePage o = s.reg timePage o := h.regs _ _ ho (List.not_mem_nil)

theorem State.AppliesIn.wide {o : Nat} (ho : o + 1 < 256) : u.wide timePage o = s.wide timePage o := by
  rw [State.wide, h.reg (by omega), h.reg ho]
  rfl

theorem State.AppliesIn.staged : u.staged = s.staged := by
  rw [State.staged, h.wide (by decide), h.wide (by decide)]
  rfl

theorem State.AppliesIn.allowStep : u.regBit timePage 0x01 3 = s.regBit timePage 0x01 3 := by
  rw [State.regBit, h.reg (by decide)]
  rfl

end

end

end Sys2Proof.Machine

namespace Sys2Proof
open Machine Safety

section
variable {s : State} {ph : Nat} (ready : PortReady s timePage)
include ready

theorem runs_secHRead : Runs (.secHRead ph) s (fun t =>
    let now := (s.timeAt ph).time.now
    t = { s with rdata := t.rdata, time := { (s.timeAt ph).time with snap := t.time.snap } } ∧
    t.time.snap.sec = BitVec.ofNat 32 (now / 1000000000) ∧ t.time.snap.ns = BitVec.ofNat 32 (now % 1000000000 / 5 * 5) ∧
    t.time.snap.us = BitVec.ofNat 32 (now / 1000) ∧ t.rdata = t.time.snap.sec.hi) := by
  refine runs_timeAt (fun u => u.accessRead timePage 0x08 false) rfl
    (State.accessRead_ready (s := { s with time := (s.timeAt ph).time }) ready) ?_
  exact ⟨rfl, rfl, rfl, rfl, rfl⟩

theorem runs_mtUsHRead : Runs (.mtUsHRead false ph) s (fun t =>
    t = { s with rdata := t.rdata, time := { (s.timeAt ph).time with snap := t.time.snap } } ∧
    t.time.snap = { s.time.snap with us := BitVec.ofNat 32 ((s.timeAt ph).time.now / 1000) } ∧ t.rdata = t.time.snap.us.hi) := by
  refine runs_timeAt (fun u => u.accessRead timePage 0x0C false) rfl
    (State.accessRead_ready (s := { s with time := (s.timeAt ph).time }) ready) ⟨rfl, ?_, rfl⟩
  show ({ (s.timeAt ph).time.snap with us := _ } : TimeSnap) = _
  rw [s.timeAt_only_course ph]
  rfl

/-- Within a burst that has read SEC_H nothing is taken. -/
theorem runs_mtUsHRead_burst : Runs (.mtUsHRead true ph) s (fun t =>
    t = { s with rdata := s.time.snap.us.hi, time := (s.timeAt ph).time }) := by
  refine runs_timeAt (fun u => u.accessRead timePage 0x0C true) rfl
    (State.accessRead_ready (s := { s with time := (s.timeAt ph).time }) ready) ?_
  have snap : (s.timeAt ph).time.snap = s.time.snap := by rw [s.timeAt_only_course ph]
  rw [← snap]
  rfl

/-- APPLY of a time not earlier than now (R164). -/
theorem runs_timeApply_sets (valid : (s.wide timePage 0x12).toNat < 1000000000) (later : (s.timeAt ph).time.cur ≤ s.staged) :
    Runs (.timeApply ph) s (fun t =>
      t = { s with regs := t.regs, unlock := t.unlock, time := t.time } ∧ SameRegsBut [(timePage, 0x03)] s t ∧
      t.time.cur = s.staged ∧ t.time.corr = .none ∧ t.time.due = .none ∧ t.time.step = none ∧ t.time.undisc = true ∧
      t.time.lock = 0 ∧ t.time.armed = s.time.armed ∧ t.time.rate = s.time.rate) := by
  refine runs_timeApply ready (fun u h => ?_)
  obtain ⟨only, same⟩ := h.told (State.tells_applyTime_sets (by rwa [h.wide (by decide)]) (by rwa [h.time, h.staged]))
  rw [h.staged, h.time] at only
  obtain ⟨cur, corr, due, step, undisc, lock, armed, rate, -⟩ := (s.timeAt ph).time.setTo_shows s.staged
  have time : u.applyTime.time = (s.timeAt ph).time.setTo s.staged := congrArg State.time only
  rw [← time] at cur corr due step undisc lock armed rate
  exact ⟨by rw [time]; exact only, same, cur, corr, due, step, undisc, lock, armed.trans (by rw [s.timeAt_only_course ph]),
    rate.trans (s.timeAt_rate ph)⟩

theorem runs_timeApply_invalid (large : 1000000000 ≤ (s.wide timePage 0x12).toNat) : Runs (.timeApply ph) s (fun t =>
    t = { s with regs := t.regs, unlock := t.unlock, time := (s.timeAt ph).time } ∧ HasEvent t timePage 0 ∧
    SameRegsBut [(timePage, 0x03)] s t) := by
  refine runs_timeApply ready (fun u h => ?_)
  obtain ⟨only, same⟩ := h.told ((u.tells_modTime id).event (List.mem_singleton_self _) 0)
  rw [State.applyTime_invalid (by rwa [h.wide (by decide)]), ← h.time]
  exact ⟨only, hasEvent_event u _ 0 (by decide), same⟩

theorem runs_timeApply_refused (valid : (s.wide timePage 0x12).toNat < 1000000000) (off : s.regBit timePage 0x01 3 = false)
    (earlier : s.staged < (s.timeAt ph).time.cur) : Runs (.timeApply ph) s (fun t =>
    t = { s with regs := t.regs, unlock := t.unlock, time := (s.timeAt ph).time } ∧ HasEvent t timePage 1 ∧
    SameRegsBut [(timePage, 0x03)] s t) := by
  refine runs_timeApply ready (fun u h => ?_)
  obtain ⟨only, same⟩ := h.told ((u.tells_modTime id).event (List.mem_singleton_self _) 1)
  rw [State.applyTime_refused (by rwa [h.wide (by decide)]) (by rwa [h.time, h.staged]) (h.allowStep.trans off), ← h.time]
  exact ⟨only, hasEvent_event u _ 1 (by decide), same⟩

/-- APPLY of an earlier time with ALLOW_STEP (R172). -/
theorem runs_timeApply_steps (valid : (s.wide timePage 0x12).toNat < 1000000000) (on : s.regBit timePage 0x01 3 = true)
    (earlier : s.staged < (s.timeAt ph).time.cur) : Runs (.timeApply ph) s (fun t =>
    t.time.undisc = true ∧ t.time.lock = 0 ∧ t.time.corr = .none ∧ t.time.due = .none ∧ t.time.cur = (s.timeAt ph).time.cur ∧
    t.time.step = some ((s.staged : Int) - (s.timeAt ph).time.cur)) := by
  refine runs_timeApply ready (fun u h => ?_)
  obtain ⟨only, -⟩ := h.told (State.tells_applyTime_steps (by rwa [h.wide (by decide)]) (by rwa [h.time, h.staged])
    (h.allowStep.trans on))
  rw [h.staged, h.time, MTime.uncorrected_eq] at only
  rw [only]
  exact ⟨rfl, rfl, rfl, rfl, rfl, rfl⟩

/-- A register command of ready TIME that writes runs the write in the state that has consumed the unlock. -/
theorem runs_timeWrite {c : Instr} {o : Nat} {v : Word} {t : State} {P : State → Prop}
    (writes : exec c s = .next (s.access timePage o v)) (ho : o ≠ 0x07)
    (write : (s.setUnlock timePage false).offsetWrite timePage o v (s.unlocked timePage) = t) (nvs : t.nvs = s.nvs) (hP : P t) :
    Runs c s P := by
  subst write
  have image := (congrArg Nvs.image nvs).trans ready.2.1
  exact ⟨_, writes.trans (congrArg Host.Outcome.next (State.access_unit ready (by decide) (by decide) ho image)), hP⟩

theorem runs_nextSecHWrite (v : Word) : Runs (.nextSecHWrite v) s (fun t => t.reg timePage 0x14 = v ∧
    (if (s.wide timePage 0x16).toNat < 1000000000 then
       t.time = { s.time with armed := some (timeOf (v.wide (s.reg timePage 0x15)) (s.wide timePage 0x16)) } ∧
       SameRegsBut [(timePage, 0x14)] s t
     else t.time = s.time ∧ HasEvent t timePage 0 ∧ SameRegsBut [(timePage, 0x03), (timePage, 0x14)] s t)) := by
  let u := (s.setUnlock timePage false).setReg timePage 0x14 v
  have same : SameRegsBut [(timePage, 0x14)] s u := sameRegsBut_setReg (s.setUnlock timePage false) timePage 0x14 v (by decide)
  have high : u.reg timePage 0x14 = v := State.reg_setReg_same _ _ _ _
  have sec : u.wide timePage 0x14 = v.wide (s.reg timePage 0x15) := by
    rw [State.wide, high, same timePage 0x15 (by decide) (by decide)]
  have ns : u.wide timePage 0x16 = s.wide timePage 0x16 := by
    rw [State.wide, same timePage 0x16 (by decide) (by decide), same timePage 0x17 (by decide) (by decide)]
    rfl
  by_cases valid : (s.wide timePage 0x16).toNat < 1000000000
  · have run : u.armNext = u.modTime (fun t =>
        { t with armed := some (timeOf (v.wide (s.reg timePage 0x15)) (s.wide timePage 0x16)) }) := by
      simp only [State.armNext, ns, sec, if_neg (Nat.not_le.mpr valid)]
    refine runs_timeWrite ready rfl (by decide) run rfl ⟨high, ?_⟩
    rw [if_pos valid]
    exact ⟨rfl, same⟩
  · have run : u.armNext = u.timeEvent 0 := by simp only [State.armNext, ns, if_pos (Nat.not_lt.mp valid)]
    have event := sameRegsBut_event u timePage 0
    refine runs_timeWrite ready rfl (by decide) run rfl ⟨(event timePage 0x14 (by decide) (by decide)).trans high, ?_⟩
    rw [if_neg valid]
    exact ⟨rfl, hasEvent_event u _ 0 (by decide), sameRegsBut_mono (sameRegsBut_append same event) (by simp)⟩

theorem runs_tsyncEnWrite_off : Runs (.tsyncEnWrite false) s (fun t =>
    t.regBit timePage 0x18 0 = false ∧ t.time = { s.time with undisc := true, lock := 0 } ∧
    SameRegsBut [(timePage, 0x03), (timePage, 0x18)] s t) := by
  let spent := s.setUnlock timePage false
  let u := spent.setReg timePage 0x18 (flag false 0)
  have same : SameRegsBut [(timePage, 0x18)] spent u := sameRegsBut_setReg _ _ _ _ (by decide)
  have told : State.Tells [(timePage, 0x03)] u u.time.undisciplined u.undiscipline :=
    (State.tells_modTime u id).undiscipline (List.mem_singleton_self _)
  have bit : u.undiscipline.reg timePage 0x18 = flag false 0 :=
    (told.regs _ _ (by decide) (by decide)).trans (State.reg_setReg_same _ _ _ _)
  refine runs_timeWrite ready rfl (by decide) (t := u.undiscipline) rfl (State.eventIf_nvs u _ timePage 8)
    ⟨?_, told.time, sameRegsBut_mono (sameRegsBut_append same told.regs) (by simp)⟩
  rw [State.regBit, bit]
  rfl

theorem runs_tsyncEnWrite_on (was : s.regBit timePage 0x18 0 = false) : Runs (.tsyncEnWrite true) s (fun t =>
    t.regBit timePage 0x18 0 = true ∧ t.time = { s.time with seen := false, missed := 0 } ∧ SameRegsBut [(timePage, 0x18)] s t) := by
  let spent := s.setUnlock timePage false
  let u := spent.setReg timePage 0x18 (flag true 0)
  have run : spent.tsyncEnable true = u.modTime (fun t => { t with seen := false, missed := 0 }) :=
    if_neg (by simp [show spent.regBit timePage 0x18 0 = false from was])
  have same : SameRegsBut [(timePage, 0x18)] spent u := sameRegsBut_setReg _ _ _ _ (by decide)
  have bit : u.reg timePage 0x18 = flag true 0 := State.reg_setReg_same _ _ _ _
  refine runs_timeWrite ready rfl (by decide) run rfl ⟨?_, rfl, same⟩
  show (u.reg timePage 0x18).getLsbD 0 = true
  rw [bit]
  rfl

end

/-- Settles O24: a read shows the time told, and each write is machine time's own change with its events. -/
theorem timeIsReadSetAndArmed : Obligations.TimeIsReadSetAndArmed :=
  ⟨fun _ _ ready => runs_secHRead ready, fun _ _ ready => runs_mtUsHRead ready, fun _ _ ready => runs_mtUsHRead_burst ready,
    fun _ _ ready valid later => runs_timeApply_sets ready valid later, fun _ _ ready large => runs_timeApply_invalid ready large,
    fun _ _ ready valid off earlier => runs_timeApply_refused ready valid off earlier,
    fun _ _ ready valid on earlier => runs_timeApply_steps ready valid on earlier,
    fun _ v ready => runs_nextSecHWrite ready v, fun _ ready => runs_tsyncEnWrite_off ready,
    fun _ ready was => runs_tsyncEnWrite_on ready was⟩

end Sys2Proof
end
section
/-! SUPPORT. Pulses on TSYNC: which count, what an accepted one consumes, and the correction that it decides (R165 to R171, R174). -/

set_option Elab.async false

namespace Sys2Proof.Machine

open Sys2Proof.Safety

/-! ### Reading through the changes of machine time -/

theorem State.tells_self {l : List (Nat × Nat)} (s : State) : State.Tells l s s.time s := s.tells_modTime id

theorem State.wide_of_sameRegsBut {s t : State} {l : List (Nat × Nat)} (h : SameRegsBut l s t) {p o : Nat} (ho : o + 1 < 256)
    (hi : (p, o) ∉ l) (lo : (p, o + 1) ∉ l) : t.wide p o = s.wide p o := by
  rw [State.wide, h p o (by omega) hi, h p (o + 1) ho lo]
  rfl

theorem State.regBit_of_sameRegsBut {s t : State} {l : List (Nat × Nat)} (h : SameRegsBut l s t) {p o : Nat} (ho : o < 256)
    (out : (p, o) ∉ l) (k : Nat) : t.regBit p o k = s.regBit p o k := by
  rw [State.regBit, h p o ho out]
  rfl

/-- A producer's event reaches the fabric alone. -/
theorem State.produce_only_fab (s : State) (code : Nat) : s.produce code = { s with fab := (s.produce code).fab } := by
  unfold State.produce State.duePulse
  split
  · split <;> rfl
  · rfl

/-- What is armed has no part in how time passes. -/
theorem MTime.elapse_arm (t : MTime) (x : Option Nat) (d : Nat) : ({ t with armed := x } : MTime).elapse d
    = { t.elapse d with armed := x } := by
  unfold MTime.elapse
  dsimp only
  split <;> rfl

theorem State.timeAt_arm (s : State) (x : Option Nat) (cy : Nat) :
    State.timeAt { s with time := { s.time with armed := x } } cy
      = { s.timeAt cy with time := { (s.timeAt cy).time with armed := x } } := by
  have awake : State.awake { s with time := { s.time with armed := x } } = s.awake := rfl
  unfold State.timeAt
  rw [awake]
  split
  · exact congrArg (fun m => { s with time := m }) (MTime.elapse_arm s.time x _)
  · rfl

theorem MTime.elapse_free (t : MTime) (d : Nat) : (t.elapse d).corr = .none ↔ t.corr = .none := by
  unfold MTime.elapse
  dsimp only
  split
  · next free => simp [free]
  · next slews => simp [slews]
  · next holds => simp [holds]

/-- A correction in force stays so while time passes, and none begins. -/
theorem State.timeAt_free (s : State) (cy : Nat) : (s.timeAt cy).time.corr = .none ↔ s.time.corr = .none := by
  unfold State.timeAt
  split
  · exact MTime.elapse_free _ _
  · rfl

theorem hasEvent_undiscipline {s : State} {k : Nat} (h : HasEvent s timePage k) : HasEvent s.undiscipline timePage k := by
  show HasEvent (s.eventIf (!s.time.undisc) timePage 8) timePage k
  cases s.time.undisc
  · show ((s.timeEvent 8).reg timePage 0x03).getLsbD k = true
    rw [State.timeEvent, State.event, State.reg_setReg_same, BitVec.getLsbD_or, show (s.reg timePage 0x03).getLsbD k = true from h,
      Bool.true_or]
  · exact h

/-! ### Which pulses are accepted (R165) -/

/-- The time of a rising edge is told, and how long the pin stays high. -/
def State.edgeTold (s : State) (ph hi : Nat) : State := { s with time := { (s.timeAt ph).time with high := hi * nsUnit } }

section
variable {s : State} {hi ph iv : Nat} {b : Bool}

theorem State.tsyncRise_taken (awake : s.awake = true) (vio : s.sup.vio = true) :
    s.tsyncRise hi ph iv false = (s.edgeTold ph hi).pulseEdge hi iv false := by
  have told : (s.timeAt ph).modTime (fun t => { t with high := hi * nsUnit }) = s.edgeTold ph hi := by
    rw [s.timeAt_eq ph]
    rfl
  simp only [State.tsyncRise, awake, vio, Bool.true_eq_false, or_self, if_false, told, Bool.false_eq_true]

/-- An APPLY in the cycle of a pulse that is valid and not refused is known to the pulse, and follows it (R174). -/
theorem State.tsyncRise_apply (awake : s.awake = true) (vio : s.sup.vio = true) :
    s.tsyncRise hi ph iv true = ((s.edgeTold ph hi).pulseEdge hi iv (decide (((s.edgeTold ph hi).wide timePage 0x12).toNat < 1000000000)
      && ((s.edgeTold ph hi).regBit timePage 0x01 3 || decide ((s.edgeTold ph hi).time.cur ≤ (s.edgeTold ph hi).staged)))).applyTime := by
  have told : (s.timeAt ph).modTime (fun t => { t with high := hi * nsUnit }) = s.edgeTold ph hi := by
    rw [s.timeAt_eq ph]
    rfl
  simp only [State.tsyncRise, awake, vio, Bool.true_eq_false, or_self, if_false, told, if_true]
  rfl

theorem State.pulseEdge_short (short : hi < 10) : s.pulseEdge hi iv b = s := if_pos (.inr short)

section
variable (on : s.regBit timePage 0x18 0 = true) (long : 20 ≤ hi)
include on long

theorem State.pulseEdge_long : s.pulseEdge hi iv b = s.candidate iv b := by
  have some10 : ¬ hi < 10 := by omega
  have some20 : ¬ hi < 20 := by omega
  simp only [State.pulseEdge, on, Bool.true_eq_false, some10, or_self, some20, if_false]

/-- An edge too early after the last accepted one is counted as spurious. -/
theorem State.pulseEdge_early (seen : s.time.seen = true) (early : iv < (s.reg timePage 0x19).toNat * 500000) :
    s.pulseEdge hi iv b = (s.count timePage 0x23).timeEvent 10 := by
  rw [State.pulseEdge_long on long, State.candidate, if_pos ⟨seen, early⟩]

/-- Any other is accepted. -/
theorem State.pulseEdge_accepted (due : s.time.seen = false ∨ (s.reg timePage 0x19).toNat * 500000 ≤ iv) :
    s.pulseEdge hi iv b = s.acceptPulse iv b := by
  rw [State.pulseEdge_long on long, State.candidate, if_neg]
  rintro ⟨seen, early⟩
  obtain first | late := due
  · simp [first] at seen
  · omega

end

/-! ### What an accepted pulse consumes (R166, R174) -/

/-- A pulse is accepted, and what is armed is `x` from then on. -/
def State.pulseSeen (s : State) (x : Option Nat) : State :=
  (s.produce 0x1C).modTime (fun t => { t with seen := true, missed := 0, armed := x })

theorem State.pulseSeen_eq (s : State) (x : Option Nat) : s.pulseSeen x = { s with
    fab := (s.produce 0x1C).fab, time := { s.time with seen := true, missed := 0, armed := x } } := by
  unfold State.pulseSeen
  rw [s.produce_only_fab 0x1C]
  rfl

theorem State.acceptPulse_unarmed (unarmed : s.time.armed = none) :
    s.acceptPulse iv b = ((s.pulseSeen none).undiscipline).timeEvent 11 := by
  have same : (s.produce 0x1C).modTime (fun t => { t with seen := true, missed := 0 }) = s.pulseSeen none := by
    rw [State.pulseSeen, s.produce_only_fab 0x1C, State.modTime, State.modTime]
    simp only [unarmed]
  rw [← same]
  have none_left : ((s.produce 0x1C).modTime (fun t => { t with seen := true, missed := 0 })).time.armed = none :=
    (congrArg MTime.armed (s.produce_time 0x1C)).trans unarmed
  simp only [State.acceptPulse, none_left]

theorem State.acceptPulse_armed {nx : Nat} (armed : s.time.armed = some nx) : s.acceptPulse iv b
    = if b = true ∨ s.time.applied = true then s.pulseSeen none
      else (s.pulseSeen none).correct ((nx : Int) - s.capture) iv (!s.time.seen) := by
  have clk : (s.pulseSeen none).capture = s.capture := by rw [s.pulseSeen_eq]; rfl
  have applied : (s.pulseSeen none).time.applied = s.time.applied := by rw [s.pulseSeen_eq]
  have shown : ((s.produce 0x1C).modTime (fun t => { t with seen := true, missed := 0 })).time.armed = some nx :=
    (congrArg MTime.armed (s.produce_time 0x1C)).trans armed
  rw [← clk, ← applied]
  simp only [State.acceptPulse, shown]
  rfl

end

/-! ### The correction that E asks for (R167, R168, R171) -/

/-- From `t` to `m` the rate and the lock are set anew: the course of machine time and what waits stay. -/
def MTime.Steers (t m : MTime) : Prop := m = { t with
  freq := m.freq, rate := m.rate, clamped := m.clamped, base := m.base, baseCyc := m.baseCyc, lock := m.lock, undisc := m.undisc }

theorem MTime.Steers.keeps {t m : MTime} (h : t.Steers m) :
    m.corr = t.corr ∧ m.due = t.due ∧ m.step = t.step ∧ m.armed = t.armed ∧ m.realign = t.realign := by
  rw [show m = _ from h]
  exact ⟨rfl, rfl, rfl, rfl, rfl⟩

theorem MTime.endCorr_eq (t : MTime) : t.endCorr = { t with corr := .none, realign := t.endCorr.realign } := by
  unfold MTime.endCorr
  split
  · next free => rw [← free]
  · rfl

/-- A correction in force that ends has machine time realigned. -/
theorem MTime.endCorr_realign {t : MTime} (h : t.corr ≠ .none) : t.endCorr.realign = true := by
  unfold MTime.endCorr
  split
  · next free => exact absurd free h
  · rfl

theorem clamped_within (k r : Int) (hk : 0 ≤ k) : (max (-k) (min k r)).natAbs ≤ k.natAbs := by omega

theorem rateLimit_nonneg (wide : Bool) : 0 ≤ rateLimit wide := by cases wide <;> decide

section
variable {s : State} {e : Int} {iv : Nat} {first : Bool}

/-- At a pulse within PHASE_WIN a correction in force ends, and the loop sets its rate within the limits and the lock. -/
theorem State.tells_rateLoop (s : State) (e : Int) (iv : Nat) (first : Bool) : ∃ m,
    State.Tells [(timePage, 0x03)] s m (s.rateLoop e iv first) ∧ s.time.endCorr.Steers m ∧ (100 < e.natAbs → m.undisc = true) ∧
    (first = false → 0 < iv → m.rate.natAbs ≤ (rateLimit s.wideRange).natAbs) := by
  unfold State.rateLoop
  extract_lets ended q f r lim c rated near k gained locked
  have start : State.Tells [(timePage, 0x03)] s s.time.endCorr ended := State.tells_modTime s MTime.endCorr
  obtain ⟨m, tells, steers, bound⟩ : ∃ m, State.Tells [(timePage, 0x03)] s m rated ∧ s.time.endCorr.Steers m ∧
      (first = false → 0 < iv → m.rate.natAbs ≤ (rateLimit s.wideRange).natAbs) := by
    unfold rated
    split
    · next none_yet => exact ⟨_, start, rfl, by rintro rfl pos; simp at none_yet; omega⟩
    · exact ⟨_, (start.modTime (MTime.rebase ended.coreCycle)).modTime
          (fun t => { t with freq := f, rate := c, clamped := decide (c ≠ r) }), rfl, fun _ _ => clamped_within _ _ (rateLimit_nonneg _)⟩
  have relock (n : Nat) (u : Bool) : s.time.endCorr.Steers { m with lock := n, undisc := u } := by
    unfold MTime.Steers
    rw [show m = _ from steers]
  split
  · exact ⟨_, tells.undiscipline (List.mem_singleton_self _), relock _ _, fun _ => rfl, bound⟩
  · next small =>
    split
    · exact ⟨_, (tells.modTime (fun t => { t with lock := k, undisc := t.undisc && !gained })).eventIf
          (List.mem_singleton_self _) gained 7, relock _ _, fun large => absurd large small, bound⟩
    · exact ⟨_, tells.modTime (fun t => { t with lock := 0 }), relock _ m.undisc, fun large => absurd large small, bound⟩

/-- E is shown in ERR, and nothing is decided yet (R167). -/
def State.errShown (s : State) (e : Int) : State :=
  (s.setWide timePage 0x1C (satInt32 e)).modTime (fun t => { t with due := .none, step := none })

/-- E lies within PHASE_WIN. -/
abbrev State.InWindow (s : State) (e : Int) : Prop :=
  -((s.reg timePage 0x1A).toNat * 10 : Int) ≤ e ∧ e ≤ (s.reg timePage 0x1A).toNat * 10

/-- An error outside PHASE_WIN is met by a step. -/
abbrev State.StepsFor (s : State) (e : Int) : Prop := 0 < e ∨ s.regBit timePage 0x01 3 = true

/-- Any other is met by a slew down to -1 ms and by a hold below. -/
def remedyFor (e : Int) : Corr := if -1000000 ≤ e then .slew (e.natAbs * nsUnit) else .hold (e.natAbs * nsUnit)

theorem State.errShown_same (s : State) (e : Int) : SameRegsBut [(timePage, 0x1C), (timePage, 0x1D)] s (s.errShown e) :=
  sameRegsBut_setWide s timePage 0x1C (satInt32 e) (by decide)

theorem State.errShown_wide (s : State) (e : Int) : (s.errShown e).wide timePage 0x1C = satInt32 e := s.wide_setWide_same _ _ _

/-- What a pulse tells beside ERR shows in the state that it met. -/
theorem State.Tells.erred {m : MTime} {t : State} (h : State.Tells [(timePage, 0x03)] (s.errShown e) m t) :
    t.wide timePage 0x1C = satInt32 e ∧ SameRegsBut [(timePage, 0x03), (timePage, 0x1C), (timePage, 0x1D)] s t :=
  ⟨(State.wide_of_sameRegsBut h.regs (by decide) (by decide) (by decide)).trans (s.errShown_wide e),
    sameRegsBut_mono (sameRegsBut_append (s.errShown_same e) h.regs) (by simp)⟩

theorem State.correct_eq (s : State) (e : Int) (iv : Nat) (first : Bool) :
    s.correct e iv first
      = if s.InWindow e then (s.errShown e).rateLoop e iv first
        else if s.StepsFor e then (s.errShown e).undiscipline.modTime (fun t => { t with corr := .none, step := some (e * nsUnit) })
        else
          let u := (s.errShown e).modTime (fun t => { t with lock := 0, due := remedyFor e })
          if s.time.corr = .none then u else u.beginCorr := by
  have window : (s.setWide timePage 0x1C (satInt32 e)).reg timePage 0x1A = s.reg timePage 0x1A :=
    sameRegsBut_setWide s timePage 0x1C (satInt32 e) (by decide) timePage 0x1A (by decide) (by decide)
  have allow : ((s.setWide timePage 0x1C (satInt32 e)).modTime (fun t => { t with due := .none, step := none })).regBit timePage 0x01 3
      = s.regBit timePage 0x01 3 := State.regBit_of_sameRegsBut (s.errShown_same e) (by decide) (by decide) 3
  simp only [State.correct, window, allow, State.errShown, State.InWindow, State.StepsFor, remedyFor]
  rfl

/-- Within PHASE_WIN a correction in force ends, and none is decided. -/
theorem State.tells_correct_within (near : s.InWindow e) : ∃ m, State.Tells [(timePage, 0x03)] (s.errShown e) m (s.correct e iv first) ∧
    m.armed = s.time.armed ∧ m.corr = .none ∧ m.due = .none ∧ m.step = none ∧ (s.time.corr ≠ .none → m.realign = true) ∧
    (100 < e.natAbs → m.undisc = true) ∧ (first = false → 0 < iv → m.rate.natAbs ≤ (rateLimit s.wideRange).natAbs) := by
  obtain ⟨m, tells, steers, undisc, rate⟩ := (s.errShown e).tells_rateLoop e iv first
  obtain ⟨corr, due, step, armed, realign⟩ := steers.keeps
  rw [MTime.endCorr_eq] at corr due step armed
  rw [s.correct_eq, if_pos near]
  exact ⟨m, tells, armed, corr, due, step, fun forced => realign.trans (MTime.endCorr_realign (t := (s.errShown e).time) forced),
    undisc, rate⟩

section
variable (far : ¬ s.InWindow e)
include far

theorem State.tells_correct_steps (steps : s.StepsFor e) : State.Tells [(timePage, 0x03)] (s.errShown e)
    { s.time with due := .none, corr := .none, step := some (e * nsUnit), undisc := true, lock := 0 } (s.correct e iv first) := by
  rw [s.correct_eq, if_neg far, if_pos steps]
  exact ((State.tells_modTime (s.errShown e) id).undiscipline (List.mem_singleton_self _)).modTime
    (fun t => { t with corr := .none, step := some (e * nsUnit) })

section
variable (shifts : ¬ s.StepsFor e)
include shifts

/-- With none in force a slew or a hold waits for the tick. -/
theorem State.tells_correct_waits (free : s.time.corr = .none) : State.Tells [(timePage, 0x03)] (s.errShown e)
    { s.time with step := none, lock := 0, due := remedyFor e } (s.correct e iv first) := by
  rw [s.correct_eq, if_neg far, if_neg shifts]
  dsimp only
  rw [if_pos free]
  exact State.tells_modTime (s.errShown e) (fun t => { t with lock := 0, due := remedyFor e })

end

end

/-- A slew or hold that waits begins: the error replaces what is left of one in force. -/
theorem State.tells_beginCorr (e : Int) (due : s.time.due = remedyFor e) : ∃ m, State.Tells [(timePage, 0x03)] s m s.beginCorr ∧
    m.armed = s.time.armed ∧ m.due = .none ∧ m.step = s.time.step ∧ m.undisc = true ∧ m.corr = remedyFor e ∧
    HasEvent s.beginCorr timePage (if -1000000 ≤ e then 4 else 5) := by
  have begins := (State.tells_modTime (l := [(timePage, 0x03)]) s id).undiscipline (List.mem_singleton_self _)
  by_cases slight : -1000000 ≤ e
  · simp only [State.beginCorr, due, remedyFor, slight, if_true]
    exact ⟨_, (begins.modTime (fun t => { t with corr := .slew (e.natAbs * nsUnit), due := .none })).event (List.mem_singleton_self _) 4,
      rfl, rfl, rfl, rfl, rfl, hasEvent_event _ _ 4 (by decide)⟩
  · simp only [State.beginCorr, due, remedyFor, slight, if_false]
    exact ⟨_, (begins.modTime (fun t => { t with
      corr := .hold (e.natAbs * nsUnit), due := .none, holdTicks := _, tbDone := _ })).event (List.mem_singleton_self _) 5,
      rfl, rfl, rfl, rfl, rfl, hasEvent_event _ _ 5 (by decide)⟩

/-- Within a slew or a hold, E replaces the remaining error at once (R171). -/
theorem State.tells_correct_replaces (far : ¬ s.InWindow e) (shifts : ¬ s.StepsFor e) (forced : s.time.corr ≠ .none) :
    ∃ m, State.Tells [(timePage, 0x03)] (s.errShown e) m (s.correct e iv first) ∧
      m.armed = s.time.armed ∧ m.due = .none ∧ m.step = none ∧ m.undisc = true ∧ m.corr = remedyFor e ∧
      HasEvent (s.correct e iv first) timePage (if -1000000 ≤ e then 4 else 5) := by
  rw [s.correct_eq, if_neg far, if_neg shifts]
  simp only [forced, if_false]
  obtain ⟨m, ⟨⟨regs, only⟩, same⟩, shows⟩ := State.tells_beginCorr
    (s := (s.errShown e).modTime (fun t => { t with lock := 0, due := remedyFor e })) e rfl
  exact ⟨m, ⟨⟨regs, only⟩, same⟩, shows⟩

end

/-! ### The commands -/

/-- A pulse has been accepted with the fabric's `fab`, and has consumed what was armed. -/
def State.accepted (s : State) (ph hi : Nat) (fab : Fabric) : State := { s with
  fab := fab, time := { (s.timeAt ph).time with high := hi * nsUnit, seen := true, missed := 0, armed := none } }

theorem State.edgeTold_arm (s : State) (ph hi : Nat) (x : Option Nat) :
    State.edgeTold { s with time := { s.time with armed := x } } ph hi
      = { s.edgeTold ph hi with time := { (s.edgeTold ph hi).time with armed := x } } := by
  unfold State.edgeTold
  rw [s.timeAt_arm x ph]

theorem State.edgeTold_accepts (s : State) (ph hi : Nat) (x : Option Nat) : ∃ fab,
    (State.edgeTold { s with time := { s.time with armed := x } } ph hi).pulseSeen none = s.accepted ph hi fab := by
  rw [State.edgeTold, s.timeAt_arm, State.pulseSeen_eq]
  exact ⟨_, rfl⟩

/-- A pulse with NEXT armed consumes it; where no APPLY waits it is judged by E. -/
theorem State.acceptPulse_told (s : State) (ph hi iv nx : Nat) (b : Bool) : ∃ fab,
    (State.edgeTold { s with time := { s.time with armed := some nx } } ph hi).acceptPulse iv b
      = if b = true ∨ s.time.applied = true then s.accepted ph hi fab
        else (s.accepted ph hi fab).correct ((nx : Int) - (s.timeAt ph).capture) iv (!s.time.seen) := by
  obtain ⟨fab, seen⟩ := s.edgeTold_accepts ph hi (some nx)
  have armed : (State.edgeTold { s with time := { s.time with armed := some nx } } ph hi).time.armed = some nx := by
    rw [State.edgeTold, s.timeAt_arm]
  have applied : (State.edgeTold { s with time := { s.time with armed := some nx } } ph hi).time.applied = s.time.applied := by
    rw [State.edgeTold, s.timeAt_arm, s.timeAt_only_course ph]
  have first : (State.edgeTold { s with time := { s.time with armed := some nx } } ph hi).time.seen = s.time.seen := by
    rw [State.edgeTold, s.timeAt_arm, s.timeAt_only_course ph]
  have now : (State.edgeTold { s with time := { s.time with armed := some nx } } ph hi).capture = (s.timeAt ph).capture := by
    rw [State.edgeTold, s.timeAt_arm, State.capture, State.capture, s.timeAt_eq ph]
    rfl
  refine ⟨fab, ?_⟩
  rw [State.acceptPulse_armed armed, seen, applied, first, now]

end Sys2Proof.Machine

namespace Sys2Proof
open Machine Safety

section
variable {s : State} {hi ph iv : Nat} (awake : s.awake = true)
include awake

section
variable (vio : s.sup.vio = true)
include vio

theorem runs_tsyncEdge_short (short : hi < 10) :
    Runs (.tsyncEdge hi ph iv false) s (fun t => t = { s with time := { (s.timeAt ph).time with high := hi * nsUnit } }) :=
  ⟨_, rfl, (State.tsyncRise_taken awake vio).trans (State.pulseEdge_short short)⟩

section
variable (on : s.regBit timePage 0x18 0 = true) (long : 20 ≤ hi)
include on long

theorem runs_tsyncEdge_early (seen : s.time.seen = true) (early : iv < (s.reg timePage 0x19).toNat * 500000) :
    Runs (.tsyncEdge hi ph iv false) s (fun t =>
      t = { s with regs := t.regs, time := { (s.timeAt ph).time with high := hi * nsUnit } } ∧ HasEvent t timePage 10 ∧
      t.reg timePage 0x23 = satInc (s.reg timePage 0x23) ∧ SameRegsBut [(timePage, 0x03), (timePage, 0x23)] s t) := by
  have before : (s.edgeTold ph hi).time.seen = true := by rw [State.edgeTold, s.timeAt_only_course ph]; exact seen
  have run := (State.tsyncRise_taken awake vio).trans
    (State.pulseEdge_early (s := s.edgeTold ph hi) (hi := hi) (iv := iv) (b := false) on long before early)
  let u := (s.edgeTold ph hi).count timePage 0x23
  have counted : SameRegsBut [(timePage, 0x23)] (s.edgeTold ph hi) u := sameRegsBut_setReg _ _ _ _ (by decide)
  have event := sameRegsBut_event u timePage 10
  refine ⟨u.timeEvent 10, congrArg Host.Outcome.next run, rfl, hasEvent_event u _ 10 (by decide), ?_,
    sameRegsBut_mono (sameRegsBut_append counted event) (by simp)⟩
  exact (event timePage 0x23 (by decide) (by decide)).trans (State.reg_setReg_same _ _ _ _)

section
variable (due : s.time.seen = false ∨ (s.reg timePage 0x19).toNat * 500000 ≤ iv)
include due

theorem State.tsyncRise_accepted : s.tsyncRise hi ph iv false = (s.edgeTold ph hi).acceptPulse iv false := by
  have before : (s.edgeTold ph hi).time.seen = s.time.seen := by rw [State.edgeTold, s.timeAt_only_course ph]
  exact (State.tsyncRise_taken awake vio).trans
    (State.pulseEdge_accepted (s := s.edgeTold ph hi) on long (due.imp before.trans id))

theorem runs_tsyncEdge_unarmed (unarmed : s.time.armed = none) : Runs (.tsyncEdge hi ph iv false) s (fun t =>
    t = { s with regs := t.regs, fab := t.fab, time := { (s.timeAt ph).time with
      high := hi * nsUnit, seen := true, missed := 0, undisc := true, lock := 0 } } ∧
    HasEvent t timePage 11 ∧ SameRegsBut [(timePage, 0x03)] s t) := by
  have still : (s.timeAt ph).time.armed = none := by rw [s.timeAt_only_course ph]; exact unarmed
  obtain ⟨fab, seen⟩ : ∃ fab, (s.edgeTold ph hi).pulseSeen none
      = { s with fab := fab, time := { (s.timeAt ph).time with high := hi * nsUnit, seen := true, missed := 0 } } := by
    rw [State.pulseSeen_eq, ← still]
    exact ⟨_, rfl⟩
  have run := (State.tsyncRise_accepted awake vio on long due).trans (State.acceptPulse_unarmed still)
  rw [seen] at run
  have tells := ((State.tells_self { s with
    fab := fab, time := { (s.timeAt ph).time with high := hi * nsUnit, seen := true, missed := 0 } }).undiscipline
      (List.mem_singleton_self _)).event (List.mem_singleton_self _) 11
  refine ⟨_, congrArg Host.Outcome.next run, ?_, hasEvent_event _ _ 11 (by decide), tells.regs⟩
  obtain ⟨⟨regs, only⟩, -⟩ := tells
  rw [only]
  rfl

section
variable {P : State → Prop} {nx : Nat}

/-- A pulse with NEXT armed consumes it, and where no APPLY waits it is judged by E. -/
theorem runs_tsyncEdge_judged (judged : ∀ fab, P (if s.time.applied = true then s.accepted ph hi fab
      else (s.accepted ph hi fab).correct ((nx : Int) - (s.timeAt ph).capture) iv (!s.time.seen))) :
    Runs (.tsyncEdge hi ph iv false) { s with time := { s.time with armed := some nx } } P := by
  obtain ⟨fab, run⟩ := s.acceptPulse_told ph hi iv nx false
  simp only [Bool.false_eq_true, false_or] at run
  exact ⟨_, congrArg Host.Outcome.next ((State.tsyncRise_accepted (s := { s with time := { s.time with armed := some nx } })
    awake vio on long due).trans run), judged fab⟩

section
variable (idle : s.time.applied = false)
include idle

theorem runs_tsyncEdge_corrected
    (judged : ∀ fab, P ((s.accepted ph hi fab).correct ((nx : Int) - (s.timeAt ph).capture) iv (!s.time.seen))) :
    Runs (.tsyncEdge hi ph iv false) { s with time := { s.time with armed := some nx } } P := by
  refine runs_tsyncEdge_judged awake vio on long due (fun fab => ?_)
  rw [if_neg (by simp [idle])]
  exact judged fab

theorem runs_tsyncEdge_free (free : s.time.corr = .none) :
    Runs (.tsyncEdge hi ph iv false) { s with time := { s.time with armed := some nx } } (fun t =>
      let e : Int := nx - (s.timeAt ph).capture
      let win : Int := (s.reg timePage 0x1A).toNat * 10
      t.time.armed = none ∧ t.wide timePage 0x1C = satInt32 e ∧ SameRegsBut [(timePage, 0x03), (timePage, 0x1C), (timePage, 0x1D)] s t ∧
      (if -win ≤ e ∧ e ≤ win then t.time.corr = .none ∧ t.time.due = .none ∧ t.time.step = none ∧ (100 < e.natAbs → t.time.undisc = true)
       else if 0 < e ∨ s.regBit timePage 0x01 3 then t.time.step = some (e * nsUnit) ∧ t.time.due = .none ∧ t.time.undisc = true
       else t.time.step = none ∧ t.time.due = if -1000000 ≤ e then .slew (e.natAbs * nsUnit) else .hold (e.natAbs * nsUnit))) := by
  refine runs_tsyncEdge_corrected awake vio on long due idle (fun fab => ?_)
  intro e win
  have still : (s.accepted ph hi fab).time.corr = .none := (s.timeAt_free ph).mpr free
  by_cases near : s.InWindow e
  · obtain ⟨m, tells, armed, corr, decided, step, -, undisc, -⟩ :=
      State.tells_correct_within (s := s.accepted ph hi fab) (iv := iv) (first := !s.time.seen) near
    obtain ⟨err, same⟩ := tells.erred
    rw [tells.time, if_pos near]
    exact ⟨armed, err, same, corr, decided, step, undisc⟩
  rw [if_neg near]
  by_cases steps : s.StepsFor e
  · have tells := State.tells_correct_steps (s := s.accepted ph hi fab) (iv := iv) (first := !s.time.seen) near steps
    obtain ⟨err, same⟩ := tells.erred
    rw [tells.time, if_pos steps]
    exact ⟨rfl, err, same, rfl, rfl, rfl⟩
  · have tells := State.tells_correct_waits (s := s.accepted ph hi fab) (iv := iv) (first := !s.time.seen) near steps still
    obtain ⟨err, same⟩ := tells.erred
    rw [tells.time, if_neg steps]
    exact ⟨rfl, err, same, rfl, rfl⟩

theorem runs_tsyncEdge_forced (forced : s.time.corr ≠ .none) :
    Runs (.tsyncEdge hi ph iv false) { s with time := { s.time with armed := some nx } } (fun t =>
      let e : Int := nx - (s.timeAt ph).capture
      let win : Int := (s.reg timePage 0x1A).toNat * 10
      t.time.armed = none ∧ t.wide timePage 0x1C = satInt32 e ∧ SameRegsBut [(timePage, 0x03), (timePage, 0x1C), (timePage, 0x1D)] s t ∧
      t.time.due = .none ∧
      (if -win ≤ e ∧ e ≤ win then t.time.corr = .none ∧ t.time.step = none ∧ t.time.realign = true
       else if 0 < e ∨ s.regBit timePage 0x01 3 then t.time.step = some (e * nsUnit) ∧ t.time.corr = .none ∧ t.time.undisc = true
       else t.time.step = none ∧ t.time.undisc = true ∧ HasEvent t timePage (if -1000000 ≤ e then 4 else 5) ∧
         t.time.corr = if -1000000 ≤ e then .slew (e.natAbs * nsUnit) else .hold (e.natAbs * nsUnit))) := by
  refine runs_tsyncEdge_corrected awake vio on long due idle (fun fab => ?_)
  intro e win
  have still : (s.accepted ph hi fab).time.corr ≠ .none := fun h => forced ((s.timeAt_free ph).mp h)
  by_cases near : s.InWindow e
  · obtain ⟨m, tells, armed, corr, decided, step, realign, -, -⟩ :=
      State.tells_correct_within (s := s.accepted ph hi fab) (iv := iv) (first := !s.time.seen) near
    obtain ⟨err, same⟩ := tells.erred
    rw [tells.time, if_pos near]
    exact ⟨armed, err, same, decided, corr, step, realign still⟩
  rw [if_neg near]
  by_cases steps : s.StepsFor e
  · have tells := State.tells_correct_steps (s := s.accepted ph hi fab) (iv := iv) (first := !s.time.seen) near steps
    obtain ⟨err, same⟩ := tells.erred
    rw [tells.time, if_pos steps]
    exact ⟨rfl, err, same, rfl, rfl, rfl, rfl⟩
  · obtain ⟨m, tells, armed, decided, step, undisc, corr, event⟩ :=
      State.tells_correct_replaces (s := s.accepted ph hi fab) (iv := iv) (first := !s.time.seen) near steps still
    obtain ⟨err, same⟩ := tells.erred
    rw [tells.time, if_neg steps]
    exact ⟨armed, err, same, decided, step, undisc, event, corr⟩

end

theorem runs_tsyncEdge_applied (waits : s.time.applied = true) :
    Runs (.tsyncEdge hi ph iv false) { s with time := { s.time with armed := some nx } } (fun t => t = { s with
      fab := t.fab, time := { (s.timeAt ph).time with high := hi * nsUnit, seen := true, missed := 0, armed := none } }) := by
  refine runs_tsyncEdge_judged awake vio on long due (fun fab => ?_)
  rw [if_pos waits]
  rfl

end

end

theorem runs_tsyncEdge_rate {nx : Nat} (seen : s.time.seen = true) (idle : s.time.applied = false)
    (late : (s.reg timePage 0x19).toNat * 500000 ≤ iv) (pos : 0 < iv)
    (near : ((nx : Int) - (s.timeAt ph).capture).natAbs ≤ (s.reg timePage 0x1A).toNat * 10) :
    Runs (.tsyncEdge hi ph iv false) { s with time := { s.time with armed := some nx } } (fun t =>
      t.time.rate.natAbs ≤ (if s.wideRange then 128849018 else 2147483)) := by
  refine runs_tsyncEdge_corrected awake vio on long (.inr late) idle (fun fab => ?_)
  have inside : s.InWindow ((nx : Int) - (s.timeAt ph).capture) := ⟨by omega, by omega⟩
  obtain ⟨m, tells, -, -, -, -, -, -, rate⟩ := State.tells_correct_within (s := s.accepted ph hi fab) (iv := iv)
    (first := !s.time.seen) inside
  have bound := rate (by simp [seen]) pos
  rw [tells.time]
  refine bound.trans ?_
  show (rateLimit s.wideRange).natAbs ≤ _
  cases s.wideRange <;> decide

/-- With APPLY in its cycle a pulse only consumes what is armed, and the staged time is the machine time (R174). -/
theorem runs_tsyncEdge_sets {nx : Nat} (due : s.time.seen = false ∨ (s.reg timePage 0x19).toNat * 500000 ≤ iv)
    (valid : (s.wide timePage 0x12).toNat < 1000000000) (later : (s.timeAt ph).time.cur ≤ s.staged) :
    Runs (.tsyncEdge hi ph iv true) { s with time := { s.time with armed := some nx } } (fun t => t.time.armed = none ∧
      t.time.cur = s.staged ∧ t.time.step = none ∧ t.time.due = .none ∧ t.time.seen = true ∧ SameRegsBut [(timePage, 0x03)] s t) := by
  let told := State.edgeTold { s with time := { s.time with armed := some nx } } ph hi
  obtain ⟨fab, judged⟩ := s.acceptPulse_told ph hi iv nx true
  rw [if_pos (.inl rfl)] at judged
  have course : told = { s.edgeTold ph hi with time := { (s.edgeTold ph hi).time with armed := some nx } } := s.edgeTold_arm ph hi _
  have cur : told.time.cur = (s.timeAt ph).time.cur := by
    rw [course]
    rfl
  have seen : told.time.seen = s.time.seen := by
    rw [course, State.edgeTold, s.timeAt_only_course ph]
  have edge := (State.pulseEdge_accepted (s := told) on long (due.imp seen.trans id)).trans judged
  have may : (decide ((told.wide timePage 0x12).toNat < 1000000000)
      && (told.regBit timePage 0x01 3 || decide (told.time.cur ≤ told.staged))) = true := by
    rw [decide_eq_true (show (told.wide timePage 0x12).toNat < 1000000000 from valid),
      decide_eq_true (show told.time.cur ≤ told.staged by rw [cur]; exact later), Bool.or_true]
    rfl
  have run : State.tsyncRise { s with time := { s.time with armed := some nx } } hi ph iv true = (s.accepted ph hi fab).applyTime := by
    rw [← edge, State.tsyncRise_apply (s := { s with time := { s.time with armed := some nx } }) awake vio, may]
  have tells := State.tells_applyTime_sets (s := s.accepted ph hi fab) valid later
  obtain ⟨cur, -, due, step, -, -, armed, -, seen⟩ := (s.accepted ph hi fab).time.setTo_shows s.staged
  refine ⟨_, congrArg Host.Outcome.next run, ?_⟩
  dsimp only
  rw [tells.time]
  exact ⟨armed, cur, step, due, seen, tells.regs⟩

end

end

theorem runs_tsyncMissing (on : s.regBit timePage 0x18 0 = true) : Runs .tsyncMissing s (fun t =>
    t.reg timePage 0x22 = satInc (s.reg timePage 0x22) ∧ HasEvent t timePage 9 ∧
    SameRegsBut [(timePage, 0x03), (timePage, 0x22)] s t ∧ t = { s with regs := t.regs, time := t.time } ∧
    t.time.missed = s.time.missed + 1 ∧ (1 ≤ s.time.missed → t.time.undisc = true ∧ t.time.lock = 0) ∧ t.time.rate = s.time.rate) := by
  let told := ((s.count timePage 0x22).timeEvent 9).modTime (fun t => { t with missed := t.missed + 1 })
  have known : (timePage, 0x03) ∈ [(timePage, 0x03), (timePage, 0x22)] := by simp
  have tells : State.Tells [(timePage, 0x03), (timePage, 0x22)] s { s.time with missed := s.time.missed + 1 } told :=
    ((s.tells_self.setReg _ (by decide) (by simp)).event known 9).modTime (fun t => { t with missed := t.missed + 1 })
  have counted : told.reg timePage 0x22 = satInc (s.reg timePage 0x22) :=
    (sameRegsBut_event (s.count timePage 0x22) timePage 9 timePage 0x22 (by decide) (by decide)).trans (State.reg_setReg_same _ _ _ _)
  have missed : HasEvent told timePage 9 := hasEvent_event (s.count timePage 0x22) timePage 9 (by decide)
  have run : s.pulseMissing = if 2 ≤ s.time.missed + 1 then told.undiscipline else told :=
    if_neg (by simp [awake, on])
  by_cases again : 1 ≤ s.time.missed
  · have undone := tells.undiscipline known
    have after := (told.tells_self (l := [(timePage, 0x03)])).undiscipline (List.mem_singleton_self _)
    rw [if_pos (by omega)] at run
    refine ⟨_, congrArg Host.Outcome.next run, (after.regs _ _ (by decide) (by decide)).trans counted, ?_, undone.regs, ?_, ?_⟩
    · exact hasEvent_undiscipline missed
    · obtain ⟨⟨regs, only⟩, -⟩ := undone
      rw [only]
    · rw [undone.time]
      exact ⟨rfl, fun _ => ⟨rfl, rfl⟩, rfl⟩
  · rw [if_neg (by omega)] at run
    exact ⟨_, congrArg Host.Outcome.next run, counted, missed, tells.regs, rfl, rfl, fun h => absurd h again, rfl⟩

end

/-- Settles O25: which pulses count, what an accepted one consumes, and the correction that its error asks for. -/
theorem tsyncPulseIsJudged : Obligations.TsyncPulseIsJudged :=
  ⟨fun _ _ _ _ awake vio short => runs_tsyncEdge_short awake vio short,
    fun _ _ _ _ awake vio on long seen early => runs_tsyncEdge_early awake vio on long seen early,
    fun _ _ _ _ awake vio on long due unarmed => runs_tsyncEdge_unarmed awake vio on long due unarmed,
    fun _ _ _ _ _ awake vio on long due free idle => runs_tsyncEdge_free awake vio on long due idle free,
    fun _ _ _ _ _ awake vio on long due forced idle => runs_tsyncEdge_forced awake vio on long due idle forced,
    fun _ _ _ _ _ awake vio on long due waits => runs_tsyncEdge_applied awake vio on long due waits,
    fun _ _ _ _ _ awake vio on long seen idle late pos near => runs_tsyncEdge_rate awake vio on long seen idle late pos near,
    fun _ _ _ _ _ awake vio on long due valid later => runs_tsyncEdge_sets awake vio on long due valid later,
    fun _ awake on => runs_tsyncMissing awake on⟩

end Sys2Proof
end
section
/-! SUPPORT. What the operations of a ramp tick leave of time, the store, the power state and the clocks, and of what an axis is asked
(R177, R186). -/

set_option Elab.async false

namespace Sys2Proof.Machine

open Sys2Proof.Safety

/-! ### What is observed -/

/-- What the operations of a tick after its time leave alone: machine time, the commands held, the store, the power state and the clocks,
and of each axis the mode that a freeze interrupted and its requests. -/
structure Core where
  time : MTime
  pending : List Sys2Proof.Instr
  nvs : Nvs
  pwr : Power
  clk : Clock
  asked : Ax → Option Mode × AxisReq

def State.core (s : State) : Core := ⟨s.time, s.pending, s.nvs, s.pwr, s.clk, fun n => ((s.axis n).frozen, (s.axis n).req)⟩

theorem State.core_congr {s t : State} (ht : t.time = s.time) (hp : t.pending = s.pending) (hn : t.nvs = s.nvs) (hw : t.pwr = s.pwr)
    (hc : t.clk = s.clk) (ha : t.axes = s.axes) : t.core = s.core := by
  simp only [State.core, State.axis, ht, hp, hn, hw, hc, ha]

section
variable (s : State) (n : Ax)

/-! ### Updates of the state -/

@[simp] theorem State.core_setReg (p o : Nat) (v : Word) : (s.setReg p o v).core = s.core := (rfl)
@[simp] theorem State.core_setFld (p o l w v : Nat) : (s.setFld p o l w v).core = s.core := (rfl)
@[simp] theorem State.core_setWide (p o : Nat) (v : Wide) : (s.setWide p o v).core = s.core := (rfl)
@[simp] theorem State.core_count (p o : Nat) : (s.count p o).core = s.core := (rfl)
@[simp] theorem State.core_event (p k : Nat) : (s.event p k).core = s.core := (rfl)
@[simp] theorem State.core_ledgFlag (k : Nat) : (s.ledgFlag n k).core = s.core := (rfl)
@[simp] theorem State.core_modBrg (f : Bridge → Bridge) : (s.modBrg n f).core = s.core := (rfl)
@[simp] theorem State.core_modPh (p : Phase) (f : ChopPh → ChopPh) : (s.modPh n p f).core = s.core := (rfl)
@[simp] theorem State.core_modLedger (f : Ledger → Ledger) : (s.modLedger n f).core = s.core := (rfl)
@[simp] theorem State.core_modGate (f : Gate → Gate) : (s.modGate f).core = s.core := (rfl)
@[simp] theorem State.core_modPins (f : Pins → Pins) : (s.modPins f).core = s.core := (rfl)
@[simp] theorem State.core_modTrig (p : Fin 4) (f : Trig → Trig) : (s.modTrig p f).core = s.core := (rfl)
@[simp] theorem State.core_modEmu (x : Fin 2) (f : Emu → Emu) : (s.modEmu x f).core = s.core := (rfl)
@[simp] theorem State.core_modEnc (c : Nat) (f : Enc → Enc) : (s.modEnc c f).core = s.core := by
  unfold State.modEnc
  split <;> rfl

@[simp] theorem State.core_eventIf (c : Bool) (p k : Nat) : (s.eventIf c p k).core = s.core := by cases c <;> rfl

@[simp] theorem State.core_produce (k : Nat) : (s.produce k).core = s.core :=
  State.core_congr (by simp) (by simp) (by simp) (by simp) (by simp) (by simp)

@[simp] theorem State.core_ite (c : Prop) {_ : Decidable c} (t : State) :
    (if c then s else t).core = if c then s.core else t.core := apply_ite State.core c s t

/-- An update of one axis that leaves its requests leaves the core. -/
@[simp] theorem State.core_modAxis (f : Axis → Axis) (hf : ∀ a, (f a).frozen = a.frozen ∧ (f a).req = a.req) :
    (s.modAxis n f).core = s.core := by
  have same : (fun m => (((s.modAxis n f).axis m).frozen, ((s.modAxis n f).axis m).req))
      = fun m => ((s.axis m).frozen, (s.axis m).req) := by
    funext m
    by_cases h : n = m
    · subst h
      rw [s.axis_modAxis_same, (hf _).1, (hf _).2]
    · rw [s.axis_modAxis_other n m f h]
  exact congrArg (Core.mk s.time s.pending s.nvs s.pwr s.clk) same

/-! ### Machine time, channels and the lamp chain -/

@[simp] theorem State.core_encTicks : s.encTicks.core = s.core := by
  unfold State.encTicks
  split
  · refine foldl_keeps State.core _ _ s (fun u c _ hu => ?_)
    split <;> simpa [State.encTick] using hu
  · rfl

@[simp] theorem State.core_chainTick : s.chainTick.core = s.core := by
  unfold State.chainTick
  split <;> rfl

/-! ### Switches of the bridge -/

@[simp] theorem State.core_interlocked (p : ProtPage) (b : Bool) : (s.interlocked p b).core = s.core := by
  unfold State.interlocked
  split <;> rfl

@[simp] theorem State.core_brgHalf (j : Fin 4) (ask : BitVec 8) (t : Nat) : (s.brgHalf n j ask t).core = s.core := by
  simp [State.brgHalf, State.phEdge]

@[simp] theorem State.core_swEdge (p : Phase) (t : Nat) (f : ChopPh → ChopPh) : (s.swEdge n p t f).core = s.core := by
  cases p <;> simp [State.swEdge]

@[simp] theorem State.core_phaseTime (p : Phase) (t : Nat) : (s.phaseTime n p t).core = s.core := by
  unfold State.phaseTime
  dsimp only
  split
  · simp
  · split <;> simp

@[simp] theorem State.core_dieTick (ns : Nat) : (s.dieTick ns n).core = s.core := by
  simp [State.dieTick, State.dieReach, State.dieTime]

@[simp] theorem State.core_brgFollow : (s.brgFollow n).core = s.core :=
  foldl_keeps State.core _ _ s (fun u j _ hu => by simpa [State.brgHalfFollow, State.phEdge] using hu)

/-! ### The gate port -/

@[simp] theorem State.core_gateHalf (j : Fin 3) (ask : BitVec 8) (t : Nat) : (s.gateHalf j ask t).core = s.core := by
  simp [State.gateHalf]

@[simp] theorem State.core_gateEdge (t : Nat) : (s.gateEdge t).core = s.core := by simp [State.gateEdge]

@[simp] theorem State.core_gateFollow : s.gateFollow.core = s.core :=
  foldl_keeps State.core _ _ s (fun u j _ hu => by simpa [State.gateHalfFollow] using hu)

@[simp] theorem State.core_gateEnter (st : GState) : (s.gateEnter st).core = s.core := by
  unfold State.gateEnter
  split <;> simp

@[simp] theorem State.core_commutate (t : Nat) : (s.commutate t).core = s.core := by
  unfold State.commutate
  split_ifs <;> simp

@[simp] theorem State.core_gateAt (t : Nat) : (s.gateAt t).core = s.core := by
  simp only [State.gateAt, State.gateEdges, State.core_modGate]
  split_ifs <;> simp [State.deadFollow]

@[simp] theorem State.core_gateClock (ns : Nat) : (s.gateClock ns).core = s.core := by
  simp only [State.gateClock, State.gateTime, State.core_modGate, State.core_gateAt, State.gateUpTo]
  split
  · rfl
  · exact foldl_keeps State.core _ _ s (fun u t _ hu => by simpa using hu)

@[simp] theorem State.core_gateStopDone : s.gateStopDone.core = s.core := by
  simp [State.gateStopDone, State.gateQuiet, State.gateEvent]

@[simp] theorem State.core_gateStop : s.gateStop.core = s.core := by
  unfold State.gateStop
  split
  · simp
  · split <;> simp
  · rfl

@[simp] theorem State.core_gateTick : s.gateTick.core = s.core := by
  unfold State.gateTick
  extract_lets told g stopped vm vc vt am moved v sg turned held
  have hstopped : stopped.core = s.core := by
    unfold stopped
    split <;> simp [State.gateQuiet, State.gateEvent, told]
  have hmoved : moved.core = s.core := by
    rw [← hstopped]
    unfold moved
    split
    · simp
    · dsimp only
      split <;> simp
    · rfl
  have hheld : held.core = s.core := by
    unfold held
    split <;> simp [turned, hmoved]
  split
  · exact hmoved
  · split <;> simp [hheld]

@[simp] theorem State.core_gatePolicyNow : s.gatePolicyNow.core = s.core := by
  unfold State.gatePolicyNow
  split
  · rfl
  · simp [State.gateFaultNow]

theorem State.core_gateLatch (m : BitVec 8) : (s.setLatch .gate .uv m).core = s.core := by
  unfold State.setLatch
  extract_lets pg fresh exhausted latched evented sw named timed spent
  have htimed : timed.core = s.core := by
    have hlatched : latched.core = s.core := by
      simp [latched, State.modProt, State.ovFollow, State.pageEdges, State.swForget, State.modSw]
    simp [timed, named, evented, FaultClass.eventBit, hlatched]
  have hspent : spent.core = s.core := by
    rw [← htimed]
    unfold spent
    split
    · simp [State.modProt]
    · rfl
  simp [State.gatePull, hspent]

@[simp] theorem State.core_bstWatch : s.bstWatch.core = s.core := by
  refine foldl_keeps State.core _ _ s (fun u k _ hu => ?_)
  dsimp only
  split
  · rw [State.core_gateLatch, hu]
  · exact hu

/-! ### Barriers, triggers and emulation -/

@[simp] theorem State.core_releaseBarriers : s.releaseBarriers.core = s.core := by
  refine foldl_keeps State.core _ _ s (fun u b _ hu => ?_)
  dsimp only
  split
  · rw [State.core_event, ← hu]
    exact u.forAxes_keeps State.core _ _ (fun v n _ hv => hv)
  · exact hu

@[simp] theorem State.core_trigFire (p : Fin 4) (r : Bool) (prev new : Wide) : (s.trigFire p r prev new).core = s.core := by
  simp only [State.trigFire]
  split <;> simp

@[simp] theorem State.core_trigEval (p : Fin 4) (new : Wide) : (s.trigEval p new).core = s.core := by
  simp only [State.trigEval]
  split
  · simp
  · split
    · simp
    · split <;> simp

@[simp] theorem State.core_emuMove (x : Fin 2) (v : Wide) : (s.emuMove x v).core = s.core := by
  simp only [State.emuMove]
  split <;> simp

@[simp] theorem State.core_sourceMoved (code : Nat) : (s.sourceMoved code).core = s.core := by
  have trigs (u : State) : (u.trigsOf code).core = u.core := by
    unfold State.trigsOf
    split
    · rfl
    · exact foldl_keeps State.core _ _ u (fun v p _ hv => by split <;> simpa using hv)
  have emus (u : State) : (u.emusOf code).core = u.core := by
    unfold State.emusOf
    split
    · rfl
    · split
      · rfl
      · exact foldl_keeps State.core _ _ u (fun v p _ hv => by split <;> simpa using hv)
  rw [State.sourceMoved, emus, trigs]

@[simp] theorem State.core_axisSources : s.axisSources.core = s.core :=
  s.forAxes_keeps State.core _ _ (fun u n _ hu => by simpa using hu)

@[simp] theorem State.core_stopClear (high : Bool) : (s.stopClear high).core = s.core := by
  unfold State.stopClear
  split <;> rfl

/-! ### Modes -/

@[simp] theorem State.core_bridgeOff : (s.bridgeOff n).core = s.core := by simp [State.bridgeOff]

@[simp] theorem State.core_enterMode (m : Mode) : (s.enterMode n m).core = s.core := by
  cases m <;> simp [State.enterMode, State.ledgerLeave, State.ledgerEnter, State.followEnter]

@[simp] theorem State.core_charFail (r : Nat) (m : Mode) : (s.charFail n r m).core = s.core := by
  simp [State.charFail, State.setCharResult]

@[simp] theorem State.core_charEndIn (m : Mode) : (s.charEndIn n m).core = s.core := by simp [State.charEndIn]

@[simp] theorem State.core_stopDone (m : Mode) : (s.stopDone n m).core = s.core := by simp [State.stopDone]

@[simp] theorem State.core_startStop (m : Mode) : (s.startStop n m).core = s.core := by
  unfold State.startStop
  dsimp only
  split
  · split <;> simp [State.ledgerPause]
  · rfl

@[simp] theorem State.core_haltAxis : (s.haltAxis n).core = s.core := by simp [State.haltAxis, State.charInterrupt]

@[simp] theorem State.core_stopTick (high : Bool) : (s.stopTick high).core = s.core := by
  have halts (u : State) : u.haltAll.core = u.core := by
    unfold State.haltAll
    extract_lets halted paused
    have hhalted : halted.core = u.core := u.forAxes_keeps State.core _ _ (fun v n _ hv => by simpa using hv)
    have hpaused : paused.core = halted.core := halted.forAxes_keeps State.core _ _ (fun v n _ hv => hv)
    rw [State.core_gateStop, hpaused, hhalted]
  unfold State.stopTick
  extract_lets shown
  split
  · exact halts shown
  · rfl

@[simp] theorem State.core_parkNow : (s.parkNow n).core = s.core := by
  unfold State.parkNow
  split <;> simp

@[simp] theorem State.core_axisRefuse (code : Nat) : (s.axisRefuse n code).core = s.core := by simp [State.axisRefuse]

/-! ### Profiles -/

@[simp] theorem State.core_profileStart : (s.profileStart n).core = s.core := by simp [State.profileStart]

@[simp] theorem State.core_planMove (t : Int) (l : Limits) : (s.planMove n t l).core = s.core := by simp [State.planMove]

@[simp] theorem State.core_targetReached : (s.targetReached n).core = s.core := by simp [State.targetReached]

@[simp] theorem State.core_planTravel (t : Int) (leg : Nat) : (s.planTravel n t leg).core = s.core := by simp [State.planTravel]

@[simp] theorem State.core_charBegin (step : Nat) : (s.charBegin n step).core = s.core := by
  unfold State.charBegin
  dsimp only
  split
  · split <;> simp
  · simp

@[simp] theorem State.core_charStart : (s.charStart n).core = s.core := by simp [State.charStart]

/-! ### Motion -/

@[simp] theorem State.core_setChan (c : Chan) : (s.setChan n c).core = s.core := s.core_modAxis n _ (fun _ => ⟨rfl, rfl⟩)

@[simp] theorem State.core_goalTick : (s.goalTick n).2.core = s.core := by
  unfold State.goalTick
  dsimp only
  split
  · simp [State.cruiseTick]
  · split <;> simp [State.reversalDone]
  · split <;> simp
  · split <;> simp

@[simp] theorem State.core_limitStop : (s.limitStop n).core = s.core := by simp [State.limitStop]

@[simp] theorem State.core_velocityTick : (s.velocityTick n).core = s.core := by
  unfold State.velocityTick
  extract_lets
  split <;> simp

@[simp] theorem State.core_stopAdvance (m : Mode) : (s.stopAdvance n m).core = s.core := by simp [State.stopAdvance]

@[simp] theorem State.core_followLag (d : Int) : (s.followLag n d).core = s.core := by simp [State.followLag]

@[simp] theorem State.core_followTrack : (s.followTrack n).core = s.core := by
  unfold State.followTrack
  dsimp only
  split <;> simp

@[simp] theorem State.core_followTick : (s.followTick n).core = s.core := by
  unfold State.followTick
  extract_lets src refused
  rw [State.core_ite, State.core_followTrack]
  refine ite_eq_left_iff.mpr (fun _ => ?_)
  split <;> simp [refused]

@[simp] theorem State.core_travelTick (t : Int) : (s.travelTick n t).core = s.core := by
  unfold State.travelTick
  dsimp only
  split <;> simp [State.cruiseSample]

@[simp] theorem State.core_charTick : (s.charTick n).core = s.core := by
  unfold State.charTick
  dsimp only
  split
  · simp
  · split <;> simp

/-! ### Load angle and limits -/

@[simp] theorem State.core_declareStall : (s.declareStall n).core = s.core := by
  simp only [State.declareStall]
  split
  · simp [State.markSeen]
  · split <;> simp

@[simp] theorem State.core_estimateNow : (s.estimateNow n).core = s.core := by simp [State.estimateNow]

@[simp] theorem State.core_stallTick (old : Int) : (s.stallTick n old).core = s.core := by simp [State.stallTick]

@[simp] theorem State.core_limitTick : (s.limitTick n).core = s.core := by
  simp only [State.limitTick]
  split <;> simp

/-! ### The ledger -/

@[simp] theorem State.core_ledgerFault (c : Nat) : (s.ledgerFault n c).core = s.core := by simp [State.ledgerFault]

@[simp] theorem State.core_lowWater (k : Nat) : (s.lowWater n k).core = s.core := by simp [State.lowWater]

@[simp] theorem State.core_completeRecord (r : LRec) : (s.completeRecord n r).core = s.core := by simp [State.completeRecord]

@[simp] theorem State.core_clampNote (b l : Nat) : (s.clampNote n b l).core = s.core := by simp [State.clampNote]

@[simp] theorem State.core_recordCurrent (o c : Nat) : (s.recordCurrent n o c).core = s.core := by
  simp [State.recordCurrent, State.clampFresh]

@[simp] theorem State.core_startEffect (r : LRec) (p : Option LRun) : (s.startEffect n r p).2.core = s.core := by
  unfold State.startEffect
  dsimp only
  split <;> simp [apply_ite Prod.snd]

@[simp] theorem State.core_startRecord (r : LRec) : (s.startRecord n r).2.core = s.core := by
  unfold State.startRecord
  extract_lets resume free fast resumed late lit produced
  split
  · exact s.core_ledgerFault n _
  · simp [produced, lit, late, resumed, fast, free]

@[simp] theorem State.core_runRecords (k : Nat) : (State.runRecords n k s).core = s.core := by
  induction k generalizing s with
  | zero => rfl
  | succ k ih =>
    unfold State.runRecords
    extract_lets a l
    split
    · rfl
    split
    · simp
    split
    · simp
    next r rest hl =>
    extract_lets arrived
    have harrived : arrived.core = s.core := by simp [arrived]
    split
    · simp [harrived]
    · have hstart := arrived.core_startRecord n r
      rw [harrived] at hstart
      split <;> simp_all

@[simp] theorem State.core_seekHit (r : LRec) : (s.seekHit n r).core = s.core := by simp [State.seekHit]

@[simp] theorem State.core_recordProgress (ev : MEv) : (s.recordProgress n ev).core = s.core := by
  unfold State.recordProgress
  dsimp only
  split
  · split <;> simp
  · rfl

@[simp] theorem State.core_ledgerTick (ev : MEv) : (s.ledgerTick n ev).core = s.core := by simp [State.ledgerTick]

/-! ### Currents -/

@[simp] theorem State.core_setpointsIn : (s.setpointsIn n).core = s.core := by
  unfold State.setpointsIn
  split
  · rfl
  · simp

@[simp] theorem State.core_currentTick : (s.currentTick n).core = s.core := by
  simp only [State.currentTick]
  split <;> simp

/-! ### Requests judged (R177) -/

/-- Only what axis `n` is asked changes. -/
def Core.ask (c : Core) (n : Ax) (m : Option Mode) (r : AxisReq) : Core := { c with asked := Function.update c.asked n (m, r) }

@[simp] theorem Core.ask_ask (c : Core) (m m' : Option Mode) (r r' : AxisReq) : (c.ask n m r).ask n m' r' = c.ask n m' r' := by
  simp [Core.ask]

theorem State.core_ask (f : Axis → Axis) : (s.modAxis n f).core = s.core.ask n (f (s.axis n)).frozen (f (s.axis n)).req := by
  refine congrArg (Core.mk s.time s.pending s.nvs s.pwr s.clk) (funext fun k => ?_)
  by_cases h : k = n
  · subst h
    rw [s.axis_modAxis_same]
    exact (Function.update_self k _ s.core.asked).symm
  · rw [s.axis_modAxis_other n k f (Ne.symm h)]
    exact (Function.update_of_ne h _ s.core.asked).symm

theorem State.ask_own : s.core.ask n (s.axis n).frozen (s.axis n).req = s.core :=
  congrArg (Core.mk s.time s.pending s.nvs s.pwr s.clk) (Function.update_eq_self n s.core.asked)

theorem State.asked_of_core {s t : State} (h : t.core = s.core) (n : Ax) :
    (t.axis n).frozen = (s.axis n).frozen ∧ (t.axis n).req = (s.axis n).req :=
  Prod.ext_iff.mp (congrFun (congrArg Core.asked h) n)

theorem State.asked_of_ask {t : State} {c : Core} {n : Ax} {m : Option Mode} {r : AxisReq} (h : t.core = c.ask n m r) :
    (t.axis n).frozen = m ∧ (t.axis n).req = r := by
  have own : t.core.asked n = (m, r) := by rw [h]; exact Function.update_self n _ _
  exact Prod.ext_iff.mp own

theorem State.core_dirInvNow : (s.dirInvNow n).core = s.core := by
  unfold State.dirInvNow
  split
  · rfl
  · simp

theorem State.core_judgeSetPos : (s.judgeSetPos n).core = s.core := by
  unfold State.judgeSetPos
  extract_lets a placed
  split
  · show placed.core = s.core
    simp [placed, State.loadPosition]
  · simp

theorem State.core_judgeRt : (s.judgeRt n).core = s.core := by simp [State.judgeRt]

/-- A mode granted or a stop replaced ends what a freeze interrupted; the requests of the axis stay. -/
theorem State.core_judgeMode (code : Nat) : (s.judgeMode n code).core = s.core ∨
    (s.judgeMode n code).core = s.core.ask n none (s.axis n).req := by
  have recorded (m : Mode) : (s.recordStop n m).core = s.core.ask n none (s.axis n).req := s.core_ask n _
  have granted (m : Mode) : (s.grantMode n m).core = s.core.ask n none (s.axis n).req := by
    unfold State.grantMode
    extract_lets thawed a
    rw [← s.core_ask n (fun a => { a with frozen := none, stall := { a.stall with stalled := false } })]
    split <;> simp [thawed]
  unfold State.judgeMode
  extract_lets a m
  clear_value m
  split
  · split
    · exact .inr (recorded _)
    · exact .inr (recorded _)
    · exact .inl (by simp)
  · split
    · exact .inl rfl
    · split
      · exact .inl (by simp)
      · split
        · exact .inr (granted _)
        · exact .inl rfl

/-- What a tick's judgement leaves an axis asked: of its requests only ENC_ALIGN, which the tick takes later. -/
theorem State.core_judgeRequests : ∃ m, (s.judgeRequests n).core = s.core.ask n m { align := (s.axis n).req.align } ∧
    ((s.axis n).frozen = none → m = none) := by
  unfold State.judgeRequests
  extract_lets u r taken placed judged
  have hu : u.core = s.core := s.core_dirInvNow n
  obtain ⟨frozen, req⟩ := State.asked_of_core hu n
  have htaken : taken.core = s.core.ask n (s.axis n).frozen { align := (s.axis n).req.align } := by
    rw [← hu, ← frozen, ← req]
    exact u.core_ask n _
  have hplaced : placed.core = taken.core := by
    unfold placed
    split
    · exact taken.core_judgeSetPos n
    · rfl
  rw [htaken] at hplaced
  have hjudged : judged.core = placed.core ∨ judged.core = placed.core.ask n none (placed.axis n).req := by
    unfold judged
    split
    · exact placed.core_judgeMode n _
    · exact .inl rfl
  rw [hplaced, (State.asked_of_ask hplaced).2, Core.ask_ask] at hjudged
  have last : (if r.rt = true then judged.judgeRt n else judged).core = judged.core := by
    split
    · exact judged.core_judgeRt n
    · rfl
  rw [last]
  obtain same | thawed := hjudged
  · exact ⟨_, same, id⟩
  · exact ⟨_, thawed, fun _ => rfl⟩

/-! ### The motion of one axis -/

/-- The core but for what the axes are asked. -/
def Core.unasked (c : Core) : Core := { c with asked := fun _ => (none, {}) }

@[simp] theorem Core.unasked_ask (c : Core) (m : Option Mode) (r : AxisReq) : (c.ask n m r).unasked = c.unasked := rfl

theorem State.unasked_resumeFrozen : (s.resumeFrozen n).core.unasked = s.core.unasked := by
  unfold State.resumeFrozen
  extract_lets a
  split
  · split
    · rw [s.core_ask n, Core.unasked_ask]
    · rfl
  · rfl

/-- Where no freeze is in force the motion asks nothing. -/
theorem State.core_axisMotion : (s.axisMotion n).2.core.unasked = s.core.unasked ∧
    ((s.axis n).frozen = none → (s.axisMotion n).2.core = s.core) := by
  unfold State.axisMotion
  split
  · exact ⟨rfl, fun _ => rfl⟩
  · extract_lets a
    split
    · next m _ =>
      have advanced := s.core_stopAdvance n m
      refine ⟨(State.unasked_resumeFrozen _ n).trans (congrArg Core.unasked advanced), fun free => ?_⟩
      have still : ((s.stopAdvance n m).axis n).frozen = none := (State.asked_of_core advanced n).1.trans free
      simp only [State.resumeFrozen, still, advanced]
    · have keeps {t : State} (h : t.core = s.core) : t.core.unasked = s.core.unasked ∧ ((s.axis n).frozen = none → t.core = s.core) :=
        ⟨congrArg Core.unasked h, fun _ => h⟩
      split
      · exact keeps rfl
      · exact keeps rfl
      · exact keeps (s.core_goalTick n)
      · exact keeps (s.core_velocityTick n)
      · exact keeps (s.core_followTick n)
      · exact keeps (s.core_charTick n)

/-- ENC_ALIGN is taken with the deviation. -/
theorem State.core_deviationTick : (s.deviationTick n).core
    = s.core.ask n (s.axis n).frozen { (s.axis n).req with align := false } := by
  unfold State.deviationTick
  extract_lets pg aligned shown lim beyond was judged noted
  have haligned : aligned.core = s.core.ask n (s.axis n).frozen { (s.axis n).req with align := false } := by
    unfold aligned
    split
    · rw [← s.core_ask n (fun a => { a with req := { a.req with align := false } })]
      simp [State.encAlignNow]
    · next none_asked =>
      have same : ({ (s.axis n).req with align := false } : AxisReq) = (s.axis n).req := by
        rw [← Bool.eq_false_of_not_eq_true none_asked]
      rw [same, s.ask_own n]
  have hjudged : judged.core = aligned.core := by simp [judged, shown]
  rw [← haligned, ← hjudged]
  split
  · split <;> simp [noted]
  · rfl

theorem State.axisTick_snd : (s.axisTick n).2
    = ((((s.settleTick n).axisMotion n).2.stallTick n (s.position n)).deviationTick n).limitTick n := rfl

theorem State.unasked_axisTick : (s.axisTick n).2.core.unasked = s.core.unasked := by
  rw [State.axisTick_snd, State.core_limitTick, State.core_deviationTick, Core.unasked_ask, State.core_stallTick]
  refine (State.core_axisMotion _ n).1.trans ?_
  simp [State.settleTick]

/-- An axis that no freeze interrupted is asked nothing once ENC_ALIGN is taken. -/
theorem State.core_axisTick (free : (s.axis n).frozen = none) :
    (s.axisTick n).2.core = s.core.ask n none { (s.axis n).req with align := false } := by
  have settled : (s.settleTick n).core = s.core := by simp [State.settleTick]
  have moved := ((s.settleTick n).core_axisMotion n).2 ((State.asked_of_core settled n).1.trans free)
  have stalled := ((s.settleTick n).axisMotion n).2.core_stallTick n (s.position n)
  have before := stalled.trans (moved.trans settled)
  obtain ⟨frozen, req⟩ := State.asked_of_core before n
  rw [State.axisTick_snd, State.core_limitTick, State.core_deviationTick, before, frozen, req, free]

end

end Sys2Proof.Machine
end
section
/-! SUPPORT. The ramp tick as a whole: machine time goes on, and every request has been judged (R173, R177, R186). -/

set_option Elab.async false

namespace Sys2Proof.Machine

open Sys2Proof.Safety

section
variable {s : State} {n : Ax} {b : Bool}

/-! ### The core through the stages -/

theorem State.core_tickOpen : s.tickOpen.core = s.timeTick.core := by
  unfold State.tickOpen
  extract_lets t ns u died gated
  have hu : u.core = t.core := by simp [u]
  have hdied : died.core = u.core := u.forAxes_keeps State.core _ _ (fun v m _ hv => (v.core_dieTick m ns).trans hv)
  have hgated : gated.core = died.core := by
    unfold gated
    split
    · exact died.core_gateClock ns
    · rfl
  have hin : (gated.forAxes gated.present (fun m s => s.setpointsIn m)).core = gated.core :=
    gated.forAxes_keeps State.core _ _ (fun v m _ hv => (v.core_setpointsIn m).trans hv)
  rw [hin, hgated, hdied, hu]

theorem State.core_ledgersTick (evs : List (Ax × MEv)) : (s.ledgersTick evs).core = s.core := by
  rw [← s.core_releaseBarriers]
  exact foldl_keeps State.core _ evs s.releaseBarriers (fun v e _ hv => (v.core_ledgerTick e.1 e.2).trans hv)

theorem State.core_tickClose : (s.tickClose b).core = s.core := by
  unfold State.tickClose
  extract_lets formed gated
  have hformed : formed.core = s.core := s.forAxes_keeps State.core _ _ (fun v m _ hv => (v.core_currentTick m).trans hv)
  have hgated : gated.core = formed.core := by
    unfold gated
    split <;> simp
  rw [State.core_stopClear, State.core_axisSources, hgated, hformed]

theorem State.unasked_tickMove : (s.tickMove b).core.unasked = s.core.unasked := by
  unfold State.tickMove
  extract_lets told judged
  have htold : told.core = s.core := s.core_stopTick b
  have hjudged : judged.core.unasked = told.core.unasked :=
    told.forAxes_keeps (fun v => v.core.unasked) _ _ (fun v m _ hv => by
      obtain ⟨k, asked, -⟩ := v.core_judgeRequests m
      rw [asked, Core.unasked_ask, hv])
  have hmoved : (judged.axesTick judged.present).2.core.unasked = judged.core.unasked := by
    rw [State.axesTick_snd]
    exact judged.forAxes_keeps (fun v => v.core.unasked) _ _ (fun v m _ hv => (v.unasked_axisTick m).trans hv)
  rw [State.core_ledgersTick, hmoved, hjudged, htold]

/-- Beside its time a tick changes of the core only what the axes are asked. -/
theorem State.unasked_rampTickNow (awake : s.awake = true) : (s.rampTickNow b).core.unasked = s.timeTick.core.unasked := by
  rw [State.rampTickNow_awake awake, State.core_tickClose, State.unasked_tickMove, State.core_tickOpen]

/-- A tick with no correction in force or decided advances machine time alone (R173). -/
theorem State.timeTick_plain (due : s.time.due = .none) (ticked : s.time.ticked = false) : s.timeTick = s.modTime MTime.advance := by
  have free (u : State) (h : u.time.due = .none) : u.beginCorr = u := by simp only [State.beginCorr, h]
  have keeps : s.time.advance.due = .none := by
    unfold MTime.advance
    split <;> rw [MTime.elapse_only_course] <;> exact due
  rw [State.timeTick, if_neg (by simp [ticked])]
  exact free _ keeps

/-! ### What an axis is asked after a tick -/

theorem State.asked_of_outside {s t : State} {m n : Ax} (h : t.outside m = s.outside m) (ne : m ≠ n) : t.axis n = s.axis n :=
  State.axis_of_drive (congrArg Prod.snd (State.about_of_outside h ne.symm))

theorem State.shared_stopTick (s : State) : (s.stopTick b).shared = s.shared := by
  unfold State.stopTick
  extract_lets shown
  split
  · exact shown.haltAll_keeps.1
  · rfl

theorem State.shared_judged (s : State) : (s.forAxes s.present (fun n s => s.judgeRequests n)).shared = s.shared :=
  (s.forAxes_tables s.present (fun m s => s.judgeRequests m) 0 (fun v m => v.outside_judgeRequests m)).1

/-- A tick judges every request of an axis that no freeze interrupts. -/
theorem State.asked_tickMove (present : s.hasAxis n = true) (free : (s.axis n).frozen = none) : ((s.tickMove b).axis n).req = {} := by
  unfold State.tickMove
  extract_lets told judged
  obtain ⟨u, hu, hjudged⟩ := told.forAxes_at (fun v => v.axis n) (fun m s => s.judgeRequests m) told.present_nodup
    (State.mem_present (State.hasAxis_of_shared s.shared_stopTick present))
    (fun v m ne => State.asked_of_outside (v.outside_judgeRequests m) ne)
  have before : (u.axis n).frozen = none := by
    rw [hu]
    exact (State.asked_of_core (s.core_stopTick b) n).1.trans free
  obtain ⟨k, asked, thawed⟩ := u.core_judgeRequests n
  obtain ⟨frozen, req⟩ := State.asked_of_ask asked
  rw [thawed before, ← hjudged] at frozen
  rw [← hjudged] at req
  obtain ⟨v, hv, hmoved⟩ := judged.forAxes_at (fun v => v.axis n) (fun m s => (s.axisTick m).2) judged.present_nodup
    (State.mem_present (State.hasAxis_of_shared ((State.shared_judged _).trans s.shared_stopTick) present))
    (fun v m ne => State.asked_of_outside (v.outside_axisTick m) ne)
  have still : (v.axis n).frozen = none := by rw [hv]; exact frozen
  rw [(State.asked_of_core (State.core_ledgersTick _) n).2, State.axesTick_snd, hmoved,
    (State.asked_of_ask (v.core_axisTick n still)).2, hv, req]

/-- So is every request of an axis judged by the whole tick. -/
theorem State.asked_rampTickNow (awake : s.awake = true) (present : s.hasAxis n = true) (free : (s.axis n).frozen = none) :
    ((s.rampTickNow b).axis n).req = {} := by
  have opened : (s.tickOpen.axis n).frozen = none := by
    have told : s.timeTick.axis n = s.axis n := State.axis_of_drive (State.drive_of_motors s.motors_timeTick n)
    rw [(State.asked_of_core s.core_tickOpen n).1, told, free]
  rw [State.rampTickNow_awake awake, (State.asked_of_core State.core_tickClose n).2]
  exact State.asked_tickMove (State.hasAxis_of_shared (s.tickOpen_keeps (n := n)).1 present) opened

end

/-! ### Requests stored -/

section
variable {s : State} {n : Ax} (ready : PortReady s (axPage n))
include ready

theorem State.access_modeCmd (v : Word) : s.access (axPage n) 0x09 v = (s.setUnlock (axPage n) false).modeRequest n v := by
  have write (u : State) (k : Bool) : u.offsetWrite (axPage n) 0x09 v k = u.modeRequest n v := by
    simp [State.offsetWrite, State.unitWrite, State.wordWrite, State.axisWrite, isHeldLow]
  rw [← write _ (s.unlocked (axPage n))]
  refine State.access_unit ready (by unfold axPage memPage; omega) (by unfold axPage tablePage; omega) (by decide) ?_
  rw [write]
  exact ready.2.1

theorem State.access_axisCmd (v : Word) (image : ((s.setUnlock (axPage n) false).axisCmd n v).nvs.image = none) :
    s.access (axPage n) 0x0A v = (s.setUnlock (axPage n) false).axisCmd n v := by
  have write (u : State) (k : Bool) : u.offsetWrite (axPage n) 0x0A v k = u.axisCmd n v := by
    simp [State.offsetWrite, State.unitWrite, State.wordWrite, State.axisWrite, isHeldLow]
  rw [← write _ (s.unlocked (axPage n))]
  refine State.access_unit ready (by unfold axPage memPage; omega) (by unfold axPage tablePage; omega) (by decide) ?_
  rw [write]
  exact image

end

end Sys2Proof.Machine

namespace Sys2Proof
open Machine Safety

section
variable {s : State} {n : Ax} (ready : PortReady s (axPage n))
include ready

theorem runs_modeCmd (v : Word) : Runs (.modeCmd n v) s (fun t =>
    t = { s.modAxis n (fun a => { a with req := { a.req with mode := some (v.toNat % 8) } }) with unlock := t.unlock } ∧
    t.unlocked (axPage n) = false) := by
  have code : fld v 0 3 = v.toNat % 8 := by simp [fld]
  refine ⟨_, congrArg Host.Outcome.next (State.access_modeCmd ready v), ?_, ?_⟩
  · rw [State.modeRequest, code]
    rfl
  · exact (s.unlocked_setUnlock (axPage n) (axPage n) false (by unfold axPage; omega)).trans (if_pos rfl)

/-- A word of CMD whose STOP and CLR_OVERSHOOT are clear only leaves its requests. -/
theorem runs_axisCmd {c : Instr} {v : Word} {f : Axis → Axis} (asks : exec c s = .next (s.access (axPage n) 0x0A v))
    (request : ∀ u : State, u.axisCmd n v = u.modAxis n f) :
    Runs c s (fun t => t = { s.modAxis n f with unlock := t.unlock }) := by
  refine ⟨_, asks.trans (congrArg Host.Outcome.next (State.access_axisCmd ready v ?_)), ?_⟩
  · rw [request]
    exact ready.2.1
  · rw [request]
    rfl

theorem runs_applyRt : Runs (.applyRt n) s (fun t =>
    t = { s.modAxis n (fun a => { a with req := { a.req with rt := true } }) with unlock := t.unlock }) :=
  runs_axisCmd ready rfl (fun u => by simp [State.axisCmd])

theorem runs_setPos : Runs (.setPos n) s (fun t =>
    t = { s.modAxis n (fun a => { a with req := { a.req with setPos := true } }) with unlock := t.unlock }) :=
  runs_axisCmd ready rfl (fun u => by simp [State.axisCmd])

theorem runs_encAlign : Runs (.encAlign n) s (fun t =>
    t = { s.modAxis n (fun a => { a with req := { a.req with align := true } }) with unlock := t.unlock }) :=
  runs_axisCmd ready rfl (fun u => by simp [State.axisCmd])

end

section
variable {s : State} {b : Bool}

theorem runs_rampTick_asleep (asleep : s.awake = false) : Runs (.rampTick b) s (fun t => t = s) :=
  runs_rampTick (if_pos asleep)

theorem runs_rampTick_judged {n : Ax} (awake : s.awake = true) (present : s.hasAxis n = true) (free : (s.axis n).frozen = none) :
    Runs (.rampTick b) s (fun t => (t.axis n).req = {}) := runs_rampTick (State.asked_rampTickNow awake present free)

theorem runs_rampTick_time (awake : s.awake = true) (free : s.time.corr = .none) (due : s.time.due = .none)
    (ticked : s.time.ticked = false) (aligned : s.time.realign = false) : Runs (.rampTick b) s (fun t =>
      t.time = { s.time with
        cur := (s.time.cur + (usUnit - s.time.run)) % timeSpan, run := 0, base := 0, baseCyc := 0
        total := s.time.total + (usUnit - s.time.run), high := s.time.high - (usUnit - s.time.run) } ∧
      t.pending = s.pending ∧ t.nvs.mram = s.nvs.mram ∧ t.pwr = s.pwr ∧ t.clk = s.clk) := by
  have core := State.unasked_rampTickNow (b := b) awake
  rw [State.timeTick_plain due ticked] at core
  refine runs_rampTick ⟨?_, congrArg Core.pending core, congrArg (fun c : Core => c.nvs.mram) core, congrArg Core.pwr core,
    congrArg Core.clk core⟩
  exact (congrArg Core.time core).trans (MTime.advance_plain free aligned)

end

end Sys2Proof
end
section
/-! SUPPORT. What the parts of a tick that move no axis leave of one axis: its mode, its channel and its angle, and the registers that they
go by (R184, R186). -/

set_option Elab.async false

namespace Sys2Proof.Machine

open Sys2Proof.Safety

/-! ### What is observed -/

/-- An axis but for what a tick only shows of it: load angle, following error, limits and the settle time. -/
def Axis.calm (a : Axis) : Axis := { a with stall := {}, ferr := false, limitActive := false, limitHeld := false, settleLeft := none }

/-- EVENT, DEVIATION and the load angle's registers, which a tick writes. -/
def axShows (o : Nat) : Bool := o == 0x03 || o == 0x3A || o == 0x3B || (0x43 ≤ o && o < 0x46)

/-- One axis as its motion and the requests find it. -/
structure Stance where
  axis : Axis
  reg : Fin 256 → Word

def State.stance (s : State) (n : Ax) : Stance :=
  ⟨(s.axis n).calm, fun o => if axShows o then 0#16 else s.reg (axPage n) o⟩

section
variable {s t : State} {m n : Ax}

theorem State.stance_ext (ha : (t.axis n).calm = (s.axis n).calm)
    (hr : ∀ o < 256, axShows o = false → t.reg (axPage n) o = s.reg (axPage n) o) : t.stance n = s.stance n := by
  unfold State.stance
  rw [ha]
  congr 1
  funext o
  split
  · rfl
  · next h => exact hr o o.isLt (Bool.eq_false_of_not_eq_true h)

theorem State.stance_of_drive (h : t.drive n = s.drive n) : t.stance n = s.stance n :=
  State.stance_ext (by rw [State.axis_of_drive h]) (fun _ ho _ => State.reg_axPage_of_drive h ho)

theorem State.stance_of_motors (h : t.motors = s.motors) (n : Ax) : t.stance n = s.stance n :=
  State.stance_of_drive (State.drive_of_motors h n)

theorem State.stance_of_outside (h : t.outside m = s.outside m) (ne : m ≠ n) : t.stance n = s.stance n :=
  State.stance_of_drive (congrArg Prod.snd (State.about_of_outside h ne.symm))

section
variable (h : t.stance n = s.stance n)
include h

theorem State.reg_of_stance {o : Nat} (ho : o < 256) (kept : axShows o = false) : t.reg (axPage n) o = s.reg (axPage n) o := by
  have same := congrFun (congrArg Stance.reg h) ⟨o, ho⟩
  simpa [State.stance, kept] using same

theorem State.regBit_of_stance {o : Nat} (ho : o < 256) (kept : axShows o = false) (k : Nat) :
    t.regBit (axPage n) o k = s.regBit (axPage n) o k := by
  rw [State.regBit, State.reg_of_stance h ho kept]
  rfl

theorem State.wide_of_stance {o : Nat} (ho : o + 1 < 256) (high : axShows o = false) (low : axShows (o + 1) = false) :
    t.wide (axPage n) o = s.wide (axPage n) o := by
  rw [State.wide, State.reg_of_stance h (by omega) high, State.reg_of_stance h ho low]
  rfl

theorem State.mode_of_stance : (t.axis n).mode = (s.axis n).mode := congrArg (fun x => x.axis.mode) h
theorem State.stopping_of_stance : (t.axis n).stopping = (s.axis n).stopping := congrArg (fun x => x.axis.stopping) h
theorem State.chan_of_stance : (t.axis n).chan = (s.axis n).chan := congrArg (fun x => x.axis.chan) h
theorem State.ofs_of_stance : (t.axis n).ofs = (s.axis n).ofs := congrArg (fun x => x.axis.ofs) h
theorem State.req_of_stance : (t.axis n).req = (s.axis n).req := congrArg (fun x => x.axis.req) h
theorem State.invReq_of_stance : (t.axis n).invReq = (s.axis n).invReq := congrArg (fun x => x.axis.invReq) h
theorem State.uncertain_of_stance : (t.axis n).uncertain = (s.axis n).uncertain := congrArg (fun x => x.axis.uncertain) h

theorem State.position_of_stance : t.position n = s.position n := by rw [State.position, State.chan_of_stance h]; rfl

theorem State.dirInv_of_stance : t.dirInv n = s.dirInv n := State.regBit_of_stance h (by decide) rfl 8

theorem State.angle_of_stance : t.angle n = s.angle n := by
  rw [State.angle, State.dirInv_of_stance h, State.ofs_of_stance h, State.position_of_stance h]
  rfl

end

end

section
variable (s : State) (n : Ax)

/-! ### Updates of the state -/

theorem State.stance_modAxis_at (f : Axis → Axis) (hf : (f (s.axis n)).calm = (s.axis n).calm) :
    (s.modAxis n f).stance n = s.stance n :=
  State.stance_ext (by rw [s.axis_modAxis_same, hf]) (fun _ _ _ => rfl)

theorem State.stance_modAxis (f : Axis → Axis) (hf : ∀ a, (f a).calm = a.calm := by intro _; rfl) :
    (s.modAxis n f).stance n = s.stance n := s.stance_modAxis_at n f (hf _)

@[simp] theorem State.stance_modBrg (f : Bridge → Bridge) : (s.modBrg n f).stance n = s.stance n := (rfl)
@[simp] theorem State.stance_modPh (p : Phase) (f : ChopPh → ChopPh) : (s.modPh n p f).stance n = s.stance n := (rfl)

@[simp] theorem State.stance_ite (c : Prop) {_ : Decidable c} (t : State) :
    (if c then s else t).stance n = if c then s.stance n else t.stance n := apply_ite (fun u : State => u.stance n) c s t

/-- A register of another page, or one that a tick only shows. -/
theorem State.stance_setReg (p o : Nat) (v : Word) (ho : o < 256) (out : p ≠ axPage n ∨ axShows o = true) :
    (s.setReg p o v).stance n = s.stance n := by
  refine State.stance_ext rfl (fun r hr kept => s.reg_setReg_other _ _ _ _ _ (fun h => ?_))
  obtain ⟨rfl, rfl⟩ := key_inj ho hr h
  simp [kept] at out

@[simp] theorem State.stance_setReg_br (o : Nat) (v : Word) (ho : o < 256) : (s.setReg (brPage n) o v).stance n = s.stance n :=
  s.stance_setReg n _ o v ho (.inl (by unfold brPage axPage; omega))

theorem State.stance_shown (o : Nat) (v : Word) (ho : o < 256 := by decide) (shown : axShows o = true := by decide) :
    (s.setReg (axPage n) o v).stance n = s.stance n := s.stance_setReg n _ o v ho (.inr shown)

/-! ### Switches of the bridge -/

@[simp] theorem State.stance_interlocked (b : Bool) : (s.interlocked (.brg n) b).stance n = s.stance n := by
  unfold State.interlocked
  split
  · exact (State.stance_setReg_br _ n 0x03 _ (by decide)).trans (s.stance_setReg_br n 0x54 _ (by decide))
  · rfl

@[simp] theorem State.stance_brgHalf (j : Fin 4) (ask : BitVec 8) (t : Nat) : (s.brgHalf n j ask t).stance n = s.stance n := by
  simp [State.brgHalf, State.phEdge]

@[simp] theorem State.stance_swEdge (p : Phase) (t : Nat) (f : ChopPh → ChopPh) : (s.swEdge n p t f).stance n = s.stance n := by
  cases p <;> simp [State.swEdge]

@[simp] theorem State.stance_phaseTime (p : Phase) (t : Nat) : (s.phaseTime n p t).stance n = s.stance n := by
  unfold State.phaseTime
  dsimp only
  split
  · simp
  · split <;> simp

theorem State.stance_dieTick (ns : Nat) : (s.dieTick ns n).stance n = s.stance n := by
  simp [State.dieTick, State.dieReach, State.dieTime]

@[simp] theorem State.stance_brgFollow : (s.brgFollow n).stance n = s.stance n := by
  have beside := s.offBridges_brgFollow n
  exact State.stance_ext (by rw [State.axis_congr (State.axes_of_offBridges beside)])
    (fun _ _ _ => State.reg_congr (State.regs_of_offBridges beside) _ _)

theorem State.stance_setpointsIn : (s.setpointsIn n).stance n = s.stance n := by
  unfold State.setpointsIn
  split
  · rfl
  · dsimp only
    rw [State.stance_ite, State.stance_brgFollow, ite_self, State.stance_modAxis _ n _, State.stance_setReg_br _ n _ _ (by decide),
      State.stance_setReg_br _ n _ _ (by decide), State.stance_modBrg]

theorem State.stance_currentTick : (s.currentTick n).stance n = s.stance n :=
  State.stance_ext (by rw [s.axis_currentTick n])
    (fun _ _ _ => s.reg_currentTick n _ _ (by unfold axPage brPage; omega))

/-! ### What follows the motion -/

theorem State.stance_settleTick : (s.settleTick n).stance n = s.stance n := s.stance_modAxis n _

/-- Where no stall is watched for, an estimate only shows itself. -/
theorem State.stance_estimateNow (off : s.regBit (axPage n) 0x40 0 = false) : (s.estimateNow n).stance n = s.stance n := by
  unfold State.estimateNow
  split
  next la amp exp _ =>
  extract_lets pg shown ke met c
  have hshown : shown.stance n = s.stance n :=
    (State.stance_shown _ n 0x45 _).trans ((State.stance_shown _ n 0x44 _).trans (s.stance_shown n 0x43 _))
  have bit : shown.regBit pg 0x40 0 = false := (State.regBit_of_stance hshown (by decide) rfl 0).trans off
  have hmet : met = false := by simp only [met, bit, Bool.false_and]
  rw [hmet, if_neg (by simp), State.stance_modAxis _ n _, hshown]

/-- No estimate is made in PARKED, nor of an axis that stands, nor does one stop an axis without stall detection. -/
theorem State.stance_stallTick (old : Int)
    (unwatched : s.stallBlind n = true ∨ old = s.position n ∨ s.regBit (axPage n) 0x40 0 = false) :
    (s.stallTick n old).stance n = s.stance n := by
  unfold State.stallTick
  extract_lets a st counts begun
  have hbegun : begun.stance n = s.stance n := s.stance_modAxis n _
  split
  · exact s.stance_modAxis n _
  next sees =>
  split
  · next crossed =>
    have off : s.regBit (axPage n) 0x40 0 = false := by
      obtain blind | rfl | off := unwatched
      · exact absurd blind sees
      · exact absurd crossed (by simp [fullStep])
      · exact off
    split
    · exact (begun.stance_estimateNow n ((State.regBit_of_stance hbegun (by decide) rfl 0).trans off)).trans hbegun
    · exact hbegun
  · rfl

/-- Without a limit DEVIATION only shows itself. -/
theorem State.stance_deviationTick (idle : (s.axis n).req.align = false) (unlimited : s.reg (axPage n) 0x3C = 0#16) :
    (s.deviationTick n).stance n = s.stance n := by
  unfold State.deviationTick
  extract_lets pg aligned shown lim beyond was judged noted
  have haligned : aligned = s := if_neg (by simp [idle])
  have hshown : shown.stance n = s.stance n := by
    rw [← haligned]
    exact (State.stance_shown _ n 0x3B _).trans (State.stance_shown _ n 0x3A _)
  have hbeyond : beyond = false := by
    have : lim = 0 := by
      simp only [lim, pg, State.reg_of_stance hshown (show 0x3C < 256 by decide) rfl, unlimited]
      rfl
    simp [beyond, this]
  rw [hbeyond, Bool.false_and, if_neg (by simp)]
  exact (shown.stance_modAxis n _).trans hshown

theorem State.stance_limitTick : (s.limitTick n).stance n = s.stance n := by
  unfold State.limitTick
  extract_lets free
  have hfree : free.stance n = s.stance n := by
    unfold free
    split
    · exact s.stance_modAxis n _
    · rfl
  split
  · exact (free.stance_modAxis n _).trans hfree
  · split
    · exact (free.stance_modAxis n _).trans hfree
    · exact hfree

end

end Sys2Proof.Machine
end
section
/-! SUPPORT. A ramp tick of an axis that rests, of one that cruises in VELOCITY, and of a PARKED one that is asked (R177, R184, R186). -/

set_option Elab.async false

namespace Sys2Proof.Machine

open Sys2Proof.Safety

section
variable {s t : State} {n : Ax} {b : Bool}

/-- Where axis `n`'s own operation leaves its stance, so do the operations of all axes. -/
theorem State.stance_forAxes (f : Ax → State → State) (l : List Ax) (others : ∀ (v : State) (m : Ax), (f m v).outside m = v.outside m)
    (own : ∀ v : State, v.stance n = s.stance n → (f n v).stance n = v.stance n) : (s.forAxes l f).stance n = s.stance n :=
  s.forAxes_keeps (fun w => w.stance n) f l (fun w m _ hw => by
    by_cases h : m = n
    · subst h
      exact (own w hw).trans hw
    · exact (State.stance_of_outside (others w m) h).trans hw)

/-! ### Before the requests -/

theorem State.stance_tickOpen : s.tickOpen.stance n = s.stance n := by
  unfold State.tickOpen
  extract_lets t ns u died gated
  have hu : u.stance n = s.stance n := State.stance_of_motors (by simp [u, t]) n
  have hdied : died.stance n = u.stance n :=
    State.stance_forAxes (fun m v => v.dieTick ns m) _ (fun v m => v.outside_dieTick m ns) (fun v _ => v.stance_dieTick n ns)
  have hgated : gated.stance n = died.stance n := by
    refine State.stance_of_motors ?_ n
    unfold gated
    split <;> simp
  have hin : (gated.forAxes gated.present (fun m v => v.setpointsIn m)).stance n = gated.stance n :=
    State.stance_forAxes _ _ (fun v m => v.outside_setpointsIn m) (fun v _ => v.stance_setpointsIn n)
  rw [hin, hgated, hdied, hu]

/-- An axis in PARKED or HOLD. -/
def Mode.Still (m : Mode) : Prop := m = .parked ∨ m = .hold

theorem State.haltAxis_still (still : (s.axis n).mode.Still) : s.haltAxis n = s := by
  obtain parked | held := still
  · simp [State.haltAxis, State.startStop, State.charInterrupt, State.charEndIn, parked, Mode.moving]
  · simp [State.haltAxis, State.startStop, State.charInterrupt, State.charEndIn, held, Mode.moving]

/-- A halt leaves an axis in PARKED or HOLD as it is. -/
theorem State.stance_stopTick (still : (s.axis n).mode.Still) : (s.stopTick b).stance n = s.stance n := by
  unfold State.stopTick
  extract_lets shown
  split
  · unfold State.haltAll
    extract_lets halted paused
    have hhalted : halted.stance n = shown.stance n := State.stance_forAxes _ _ (fun w m => w.outside_haltAxis m)
      (fun w hw => by rw [State.haltAxis_still (by rw [State.mode_of_stance hw]; exact still)])
    have hpaused : paused.stance n = halted.stance n := halted.forAxes_keeps (fun w => w.stance n) _ _ (fun w m _ hw => hw)
    rw [State.stance_of_motors paused.motors_gateStop, hpaused, hhalted]
    rfl
  · rfl

/-! ### From the motion on -/

theorem State.stance_ledgersTick (evs : List (Ax × MEv)) (out : (s.axis n).mode ≠ .ledger) :
    (s.ledgersTick evs).stance n = s.stance n := by
  have released := State.stance_of_motors s.motors_releaseBarriers n
  rw [← released]
  refine foldl_keeps (fun v => v.stance n) _ evs s.releaseBarriers (fun v e _ hv => ?_)
  by_cases own : e.1 = n
  · have mode : (v.axis e.1).mode ≠ .ledger := by rw [own, State.mode_of_stance (hv.trans released)]; exact out
    rw [State.ledgerTick, if_pos (.inl mode), hv]
  · exact (State.stance_of_outside (v.outside_ledgerTick e.1 e.2) own).trans hv

theorem State.stance_tickClose : (s.tickClose b).stance n = s.stance n := by
  unfold State.tickClose
  extract_lets formed gated
  have hformed : formed.stance n = s.stance n :=
    State.stance_forAxes _ _ (fun w m => w.outside_currentTick m) (fun w _ => w.stance_currentTick n)
  have hgated : gated.stance n = formed.stance n := by
    refine State.stance_of_motors ?_ n
    unfold gated
    split <;> simp
  rw [State.stance_of_drive (State.drive_stopClear _ b n), State.stance_of_motors gated.motors_axisSources, hgated, hformed]

/-- Nothing watches the axis that could stop it, and it is asked nothing. -/
structure State.Unwatched (s : State) (n : Ax) : Prop where
  idle : (s.axis n).req = {}
  unlimited : s.reg (axPage n) 0x3C = 0#16

theorem State.Unwatched.of_stance (h : s.Unwatched n) (same : t.stance n = s.stance n) : t.Unwatched n :=
  ⟨(State.req_of_stance same).trans h.idle, (State.reg_of_stance same (by decide) rfl).trans h.unlimited⟩

/-- What a tick makes of an axis that nothing watches is its motion. -/
theorem State.stance_axisTick (calm : ((s.settleTick n).axisMotion n).2.Unwatched n)
    (unstalled : ((s.settleTick n).axisMotion n).2.stallBlind n = true ∨ s.position n = ((s.settleTick n).axisMotion n).2.position n ∨
      ((s.settleTick n).axisMotion n).2.regBit (axPage n) 0x40 0 = false) :
    (s.axisTick n).2.stance n = ((s.settleTick n).axisMotion n).2.stance n := by
  have stalled := ((s.settleTick n).axisMotion n).2.stance_stallTick n (s.position n) unstalled
  have after := calm.of_stance stalled
  rw [s.axisTick_snd n, State.stance_limitTick, State.stance_deviationTick _ n (by rw [after.idle]) after.unlimited, stalled]

theorem State.axisMotion_still (still : (s.axis n).mode.Still) (free : (s.axis n).stopping = none) : (s.axisMotion n).2 = s := by
  unfold State.axisMotion
  split
  · rfl
  · obtain parked | held := still
    · simp only [free, parked]
    · simp only [free, held]

/-- An axis in PARKED or HOLD that is asked nothing. -/
structure State.Rests (s : State) (n : Ax) : Prop extends State.Unwatched s n where
  still : (s.axis n).mode.Still
  free : (s.axis n).stopping = none

theorem State.Rests.of_stance (h : s.Rests n) (same : t.stance n = s.stance n) : t.Rests n :=
  ⟨h.toUnwatched.of_stance same, by rw [State.mode_of_stance same]; exact h.still, (State.stopping_of_stance same).trans h.free⟩

theorem State.Rests.stance_axisTick (h : s.Rests n) : (s.axisTick n).2.stance n = s.stance n := by
  have settled := s.stance_settleTick n
  have rests := h.of_stance settled
  have moved : ((s.settleTick n).axisMotion n).2 = s.settleTick n := State.axisMotion_still rests.still rests.free
  have after := State.stance_axisTick (s := s) (n := n)
  rw [moved] at after
  exact (after rests.toUnwatched (.inr (.inl (State.position_of_stance settled).symm))).trans settled

/-! ### The tick of one axis -/

/-- The state in which a tick has judged every request. -/
def State.tickJudged (s : State) (b : Bool) : State :=
  let told := s.tickOpen.stopTick b
  told.forAxes told.present (fun n s => s.judgeRequests n)

theorem State.rampTickNow_judged (awake : s.awake = true) (b : Bool) : s.rampTickNow b
    = (((s.tickJudged b).axesTick (s.tickJudged b).present).2.ledgersTick ((s.tickJudged b).axesTick (s.tickJudged b).present).1).tickClose b :=
  s.rampTickNow_awake awake b

theorem State.present_tickJudged (present : s.hasAxis n = true) : n ∈ (s.tickOpen.stopTick b).present ∧ n ∈ (s.tickJudged b).present := by
  have told : (s.tickOpen.stopTick b).shared = s.shared := (State.shared_stopTick _).trans (s.tickOpen_keeps (n := n)).1
  exact ⟨State.mem_present (State.hasAxis_of_shared told present),
    State.mem_present (State.hasAxis_of_shared ((State.shared_judged _).trans told) present)⟩

/-- A present axis is judged on its own. -/
theorem State.stance_tickJudged (present : s.hasAxis n = true) : ∃ u : State, u.stance n = (s.tickOpen.stopTick b).stance n ∧
    (s.tickJudged b).stance n = (u.judgeRequests n).stance n :=
  State.forAxes_at (s.tickOpen.stopTick b) (fun v => v.stance n) (fun m v => v.judgeRequests m) (State.present_nodup _)
    (State.present_tickJudged present).1 (fun v m ne => State.stance_of_outside (v.outside_judgeRequests m) ne)

/-- An axis that rests once its requests have been judged rests through the tick. -/
theorem State.stance_rampTickNow_rests (awake : s.awake = true) (rests : (s.tickJudged b).Rests n) :
    (s.rampTickNow b).stance n = (s.tickJudged b).stance n := by
  have moved : ((s.tickJudged b).axesTick (s.tickJudged b).present).2.stance n = (s.tickJudged b).stance n := by
    rw [State.axesTick_snd]
    exact State.stance_forAxes _ _ (fun v m => v.outside_axisTick m) (fun v hv => (rests.of_stance hv).stance_axisTick)
  have out : (((s.tickJudged b).axesTick (s.tickJudged b).present).2.axis n).mode ≠ .ledger := by
    rw [State.mode_of_stance moved]
    obtain parked | held := rests.still
    · simp [parked]
    · simp [held]
  rw [State.rampTickNow_judged awake, State.stance_tickClose, State.stance_ledgersTick _ out, moved]

theorem State.stance_told (still : (s.axis n).mode.Still) : (s.tickOpen.stopTick b).stance n = s.stance n :=
  (State.stance_stopTick (by rw [State.mode_of_stance State.stance_tickOpen]; exact still)).trans State.stance_tickOpen

/-- A present axis in PARKED or HOLD rests on from what its own requests make of it. -/
theorem State.stance_rampTickNow_present (awake : s.awake = true) (present : s.hasAxis n = true) (still : (s.axis n).mode.Still) :
    ∃ u : State, u.stance n = s.stance n ∧
      ((u.judgeRequests n).Rests n → (s.rampTickNow b).stance n = (u.judgeRequests n).stance n) := by
  obtain ⟨u, hu, judged⟩ := s.stance_tickJudged (b := b) present
  refine ⟨u, hu.trans (State.stance_told still), fun rests => ?_⟩
  rw [State.stance_rampTickNow_rests awake (rests.of_stance judged), judged]

theorem State.dirInvNow_none (h : (s.axis n).invReq = none) : s.dirInvNow n = s := by simp only [State.dirInvNow, h]

/-- An axis at rest that is asked nothing keeps its stance. -/
theorem State.stance_rampTickNow (awake : s.awake = true) (rests : s.Rests n) (kept : (s.axis n).invReq = none) :
    (s.rampTickNow b).stance n = s.stance n := by
  have told := State.stance_told (b := b) rests.still
  have judged : (s.tickJudged b).stance n = s.stance n := by
    refine Eq.trans (State.stance_forAxes _ _ (fun v m => v.outside_judgeRequests m) (fun v hv => ?_)) told
    have same := hv.trans told
    have idle := (rests.of_stance same).idle
    rw [v.judgeRequests_none n idle, State.dirInvNow_none ((State.invReq_of_stance same).trans kept)]
    exact v.stance_modAxis_at n _ (by rw [← idle])
  rw [State.stance_rampTickNow_rests awake (rests.of_stance judged), judged]

/-! ### DIR_INV and SET_POS (R184) -/

/-- Position and angle go by the channel, the offset and DIR_INV. -/
theorem State.pose_modAxis (s : State) (n : Ax) (f : Axis → Axis)
    (hf : ∀ a, (f a).chan = a.chan ∧ (f a).ofs = a.ofs := by intro _; exact ⟨rfl, rfl⟩) :
    (s.modAxis n f).position n = s.position n ∧ (s.modAxis n f).angle n = s.angle n := by
  obtain ⟨chan, ofs⟩ := hf (s.axis n)
  have still : (s.modAxis n f).position n = s.position n := by
    rw [State.position, s.axis_modAxis_same, chan]
    rfl
  refine ⟨still, ?_⟩
  rw [State.angle, still, s.axis_modAxis_same, ofs]
  rfl

/-- A change of DIR_INV takes effect with the offset that keeps the axis's angle. -/
structure State.Inverts (s : State) (n : Ax) (inv : Bool) (t : State) : Prop where
  axis : t.axis n = { s.axis n with ofs := ofsFor inv (s.angle n) (s.position n), invReq := none }
  dirInv : t.dirInv n = inv
  regs : SameRegsBut [(axPage n, 0x0B)] s t

theorem State.inverts_dirInvNow {inv : Bool} (asked : (s.axis n).invReq = some inv) : s.Inverts n inv (s.dirInvNow n) := by
  have run : s.dirInvNow n = (s.setFld (axPage n) 0x0B 8 1 inv.toNat).modAxis n (fun a =>
      { a with ofs := ofsFor inv (s.angle n) (s.position n), invReq := none }) := by
    simp only [State.dirInvNow, asked]
    cases inv <;> rfl
  rw [run]
  exact ⟨State.axis_modAxis_same _ n _, s.regBit_setFld_bit _ _ (by decide) inv, sameRegsBut_setReg s _ _ _ (by decide)⟩

section
variable {inv : Bool} (h : s.Inverts n inv t)
include h

theorem State.Inverts.position : t.position n = s.position n := by
  rw [State.position, h.axis]
  rfl

theorem State.Inverts.angle : t.angle n = s.angle n := by
  rw [State.angle, h.dirInv, h.position, h.axis]
  exact angleOf_ofsFor inv (angleOf_lt _ _ _) _

end

/-- Whether DIR_INV changes or not, of the axis only its offset does. -/
theorem State.dirInvNow_keeps (s : State) (n : Ax) : (s.dirInvNow n).angle n = s.angle n ∧
    SameRegsBut [(axPage n, 0x0B)] s (s.dirInvNow n) ∧ ∃ ofs, (s.dirInvNow n).axis n = { s.axis n with ofs := ofs, invReq := none } := by
  cases asked : (s.axis n).invReq with
  | none =>
    rw [State.dirInvNow_none asked]
    exact ⟨rfl, fun _ _ _ _ => rfl, (s.axis n).ofs, by rw [← asked]⟩
  | some inv =>
    have inverts := State.inverts_dirInvNow asked
    exact ⟨inverts.angle, inverts.regs, _, inverts.axis⟩

/-- SET_POS in PARKED: the position is loaded, and the angle stays. -/
theorem State.judgeRequests_setPos (parked : (s.axis n).mode = .parked) (free : (s.axis n).stopping = none)
    (asked : (s.axis n).req = { setPos := true }) (unlimited : s.reg (axPage n) 0x3C = 0#16) :
    (s.judgeRequests n).Rests n ∧ (s.judgeRequests n).position n = (s.wide (axPage n) 0x12).toInt ∧
      (s.judgeRequests n).angle n = s.angle n ∧ ((s.judgeRequests n).axis n).mode = .parked ∧
      ((s.judgeRequests n).axis n).uncertain = false := by
  obtain ⟨angle, regs, ofs, axis⟩ := s.dirInvNow_keeps n
  let u := (s.dirInvNow n).modAxis n (fun a => { a with req := {} })
  let v := u.loadPosition n (u.wide (axPage n) 0x12).toInt
  have before : u.axis n = { s.axis n with ofs := ofs, invReq := none, req := {} } := by
    rw [State.axis_modAxis_same, axis]
  have loaded : (u.judgeSetPos n).stance n = (v.modAxis n (fun a => { a with uncertain := false })).stance n := by
    have may : ((u.axis n).mode = .parked ∨ (u.axis n).mode = .hold) ∧ (u.axis n).stopping = none := by
      rw [before]
      exact ⟨.inl parked, free⟩
    simp only [State.judgeSetPos, if_pos may]
    rfl
  have run : s.judgeRequests n = u.judgeSetPos n := by
    have request : ((s.dirInvNow n).axis n).req = { setPos := true } := by rw [axis]; exact asked
    simp only [State.judgeRequests, request]
    rfl
  have shown : (v.modAxis n (fun a => { a with uncertain := false })).axis n = { s.axis n with
      chan := { (s.axis n).chan with p := (u.wide (axPage n) 0x12).toInt * Ramp.microstep }
      ofs := ofsFor (u.dirInv n) (u.angle n) (u.wide (axPage n) 0x12).toInt, invReq := none, req := {}, uncertain := false } := by
    rw [State.axis_modAxis_same, State.loadPosition_axis, before]
  have target : u.wide (axPage n) 0x12 = s.wide (axPage n) 0x12 :=
    State.wide_of_sameRegsBut (t := s.dirInvNow n) regs (by decide) (by simp) (by simp)
  have rests : (v.modAxis n (fun a => { a with uncertain := false })).Rests n := by
    refine ⟨⟨by rw [shown], ?_⟩, by rw [shown]; exact .inl parked, by rw [shown]; exact free⟩
    exact (regs (axPage n) 0x3C (by decide) (by simp)).trans unlimited
  obtain ⟨still, aimed⟩ := v.pose_modAxis n (fun a => { a with uncertain := false })
  rw [run]
  refine ⟨rests.of_stance loaded, ?_, ?_, (State.mode_of_stance loaded).trans ?_, (State.uncertain_of_stance loaded).trans ?_⟩
  · rw [State.position_of_stance loaded, still, u.position_loadPosition n, target]
  · rw [State.angle_of_stance loaded, aimed, u.angle_loadPosition n, (State.pose_modAxis _ n _).2, angle]
  · rw [shown]
    exact parked
  · rw [shown]

/-- A change of DIR_INV in PARKED: the electrical angle and the position stay. -/
theorem State.judgeRequests_dirInv {inv : Bool} (parked : (s.axis n).mode = .parked) (free : (s.axis n).stopping = none)
    (idle : (s.axis n).req = {}) (asked : (s.axis n).invReq = some inv) (unlimited : s.reg (axPage n) 0x3C = 0#16) :
    (s.judgeRequests n).Rests n ∧ (s.judgeRequests n).dirInv n = inv ∧ (s.judgeRequests n).angle n = s.angle n ∧
      (s.judgeRequests n).position n = s.position n ∧ ((s.judgeRequests n).axis n).mode = .parked ∧
      ((s.judgeRequests n).axis n).invReq = none := by
  have inverts := State.inverts_dirInvNow asked
  obtain ⟨still, aimed⟩ := (s.dirInvNow n).pose_modAxis n (fun a => { a with req := {} })
  rw [s.judgeRequests_none n idle]
  have shown : ((s.dirInvNow n).modAxis n (fun a => { a with req := {} })).axis n = { s.axis n with
      ofs := ofsFor inv (s.angle n) (s.position n), invReq := none, req := {} } := by
    rw [State.axis_modAxis_same, inverts.axis]
  refine ⟨⟨⟨by rw [shown], ?_⟩, by rw [shown]; exact .inl parked, by rw [shown]; exact free⟩, inverts.dirInv, ?_, ?_, ?_, ?_⟩
  · exact (inverts.regs (axPage n) 0x3C (by decide) (by simp)).trans unlimited
  · rw [aimed, inverts.angle]
  · rw [still, inverts.position]
  · rw [shown]
    exact parked
  · rw [shown]

/-! ### VELOCITY (R192) -/

/-- An enabled axis in VELOCITY without soft limits that is asked nothing, does not stop and is not watched. -/
structure State.Jogs (s : State) (n : Ax) : Prop extends State.Unwatched s n where
  enabled : s.regBit (axPage n) 0x01 0 = true
  unstalled : s.regBit (axPage n) 0x40 0 = false
  unbounded : s.regBit (axPage n) 0x0B 1 = false
  mode : (s.axis n).mode = .velocity
  free : (s.axis n).stopping = none

theorem State.Jogs.of_stance (h : s.Jogs n) (same : t.stance n = s.stance n) : t.Jogs n :=
  ⟨h.toUnwatched.of_stance same, (State.regBit_of_stance same (by decide) rfl 0).trans h.enabled,
    (State.regBit_of_stance same (by decide) rfl 0).trans h.unstalled, (State.regBit_of_stance same (by decide) rfl 1).trans h.unbounded,
    (State.mode_of_stance same).trans h.mode, (State.stopping_of_stance same).trans h.free⟩

/-- Such an axis is not judged but for DIR_INV, which is no part of its channel. -/
theorem State.Jogs.judged (h : s.Jogs n) : (s.judgeRequests n).Jogs n ∧ ((s.judgeRequests n).axis n).chan = (s.axis n).chan := by
  obtain ⟨-, regs, ofs, axis⟩ := s.dirInvNow_keeps n
  have limited : (s.dirInvNow n).regBit (axPage n) 0x0B 1 = s.regBit (axPage n) 0x0B 1 := congrArg Gist.limited (s.gist_dirInvNow n)
  have shown : ((s.dirInvNow n).modAxis n (fun a => { a with req := {} })).axis n = { s.axis n with
      ofs := ofs, invReq := none, req := {} } := by rw [State.axis_modAxis_same, axis]
  have bit (o : Nat) (ho : o < 256) (ne : o ≠ 0x0B) (k : Nat) : (s.dirInvNow n).regBit (axPage n) o k = s.regBit (axPage n) o k :=
    State.regBit_of_sameRegsBut regs ho (by simpa using ne) k
  rw [s.judgeRequests_none n h.idle]
  refine ⟨⟨⟨by rw [shown], ?_⟩, ?_, ?_, limited.trans h.unbounded, by rw [shown]; exact h.mode, by rw [shown]; exact h.free⟩, by rw [shown]⟩
  · exact (regs (axPage n) 0x3C (by decide) (by simp)).trans h.unlimited
  · exact (bit 0x01 (by decide) (by decide) 0).trans h.enabled
  · exact (bit 0x40 (by decide) (by decide) 0).trans h.unstalled

/-- The new velocity moves the position, which wraps at 2^32 microsteps. -/
theorem State.Jogs.axisMotion (h : s.Jogs n) : ∃ c : Chan, (s.axisMotion n).2 = s.setChan n c ∧
    c.p = (BitVec.ofInt 64 ((s.axis n).chan.p + c.v / 65536)).toInt := by
  have run : (s.axisMotion n).2 = s.velocityTick n := by
    simp only [State.axisMotion, h.enabled, h.free, h.mode, Bool.true_eq_false, if_false]
  have unbounded : s.softLimits n = none := by simp only [State.softLimits, h.unbounded, Bool.false_eq_true, if_false]
  rw [run]
  unfold State.velocityTick
  extract_lets
  simp only [unbounded]
  exact ⟨_, rfl, rfl⟩

theorem State.Jogs.setChan (h : s.Jogs n) (c : Chan) : (s.setChan n c).Jogs n := by
  have shown : (s.setChan n c).axis n = { s.axis n with chan := c } := s.axis_modAxis_same n _
  exact ⟨⟨by rw [shown]; exact h.idle, h.unlimited⟩, h.enabled, h.unstalled, h.unbounded, by rw [shown]; exact h.mode,
    by rw [shown]; exact h.free⟩

/-- What a tick makes of such an axis. -/
theorem State.Jogs.axisTick (h : s.Jogs n) : (s.axisTick n).2.Jogs n ∧
    ((s.axisTick n).2.axis n).chan.p = (BitVec.ofInt 64 ((s.axis n).chan.p + ((s.axisTick n).2.axis n).chan.v / 65536)).toInt := by
  have settled := s.stance_settleTick n
  have jogs := h.of_stance settled
  obtain ⟨c, moved, lands⟩ := jogs.axisMotion
  have after := jogs.setChan c
  have same := State.stance_axisTick (s := s) (n := n)
  rw [moved] at same
  have shown := same after.toUnwatched (.inr (.inr after.unstalled))
  have chan : ((s.axisTick n).2.axis n).chan = c := by
    rw [State.chan_of_stance shown]
    exact congrArg Axis.chan (State.axis_modAxis_same _ n _)
  rw [State.chan_of_stance settled] at lands
  rw [chan]
  exact ⟨after.of_stance shown, lands⟩

theorem State.Jogs.rampTickNow (awake : s.awake = true) (present : s.hasAxis n = true) (unhalted : s.stopN = false) (h : s.Jogs n) :
    ((s.rampTickNow b).axis n).mode = .velocity ∧ ((s.rampTickNow b).axis n).chan.p
      = (BitVec.ofInt 64 ((s.axis n).chan.p + ((s.rampTickNow b).axis n).chan.v / 65536)).toInt := by
  have told : (s.tickOpen.stopTick b).stance n = s.stance n :=
    (State.stance_of_motors (State.motors_stopTick _ b (State.stopN_tickOpen unhalted)) n).trans State.stance_tickOpen
  obtain ⟨u, hu, hjudged⟩ := s.stance_tickJudged (b := b) present
  have same := hu.trans told
  obtain ⟨judged, chan⟩ := (h.of_stance same).judged
  obtain ⟨v, hv, hmoved⟩ := (s.tickJudged b).forAxes_at (fun w => w.stance n) (fun m w => (w.axisTick m).2) (State.present_nodup _)
    (State.present_tickJudged (b := b) present).2 (fun w m ne => State.stance_of_outside (w.outside_axisTick m) ne)
  rw [← State.axesTick_snd] at hmoved
  have before := hv.trans hjudged
  obtain ⟨jogs, lands⟩ := (judged.of_stance before).axisTick
  have moved := jogs.of_stance hmoved
  have out : (((s.tickJudged b).axesTick (s.tickJudged b).present).2.axis n).mode ≠ .ledger := by simp [moved.mode]
  have shown : (s.rampTickNow b).stance n = (v.axisTick n).2.stance n := by
    rw [State.rampTickNow_judged awake, State.stance_tickClose, State.stance_ledgersTick _ out, hmoved]
  rw [State.chan_of_stance before, chan, State.chan_of_stance same] at lands
  rw [State.mode_of_stance shown, State.chan_of_stance shown]
  exact ⟨jogs.mode, lands⟩

end

end Sys2Proof.Machine

namespace Sys2Proof
open Machine Safety

section
variable {s : State} {b : Bool} {n : Ax} (awake : s.awake = true)
include awake

theorem runs_rampTick_rests (still : (s.axis n).mode = .parked ∨ (s.axis n).mode = .hold) (free : (s.axis n).stopping = none)
    (idle : (s.axis n).req = {}) (kept : (s.axis n).invReq = none) (unlimited : s.reg (axPage n) 0x3C = 0#16) :
    Runs (.rampTick b) s (fun t =>
      (t.axis n).mode = (s.axis n).mode ∧ (t.axis n).chan = (s.axis n).chan ∧ (t.axis n).ofs = (s.axis n).ofs) := by
  have same := State.stance_rampTickNow (b := b) awake ⟨⟨idle, unlimited⟩, still, free⟩ kept
  exact runs_rampTick ⟨State.mode_of_stance same, State.chan_of_stance same, State.ofs_of_stance same⟩

section
variable (present : s.hasAxis n = true)
include present

theorem runs_rampTick_jogs (enabled : s.regBit (axPage n) 0x01 0 = true) (jogs : (s.axis n).mode = .velocity)
    (free : (s.axis n).stopping = none) (idle : (s.axis n).req = {}) (unhalted : s.stopN = false)
    (unlimited : s.reg (axPage n) 0x3C = 0#16) (unstalled : s.regBit (axPage n) 0x40 0 = false) (unbounded : s.softLimits n = none) :
    Runs (.rampTick b) s (fun t => (t.axis n).mode = .velocity ∧
      (t.axis n).chan.p = (BitVec.ofInt 64 ((s.axis n).chan.p + (t.axis n).chan.v / 65536)).toInt) := by
  have off : s.regBit (axPage n) 0x0B 1 = false := by
    by_contra on
    simp [State.softLimits, on] at unbounded
  exact runs_rampTick (State.Jogs.rampTickNow awake present unhalted ⟨⟨idle, unlimited⟩, enabled, unstalled, off, jogs, free⟩)

section
variable (parked : (s.axis n).mode = .parked) (unlimited : s.reg (axPage n) 0x3C = 0#16)
include parked unlimited

theorem runs_rampTick_setPos :
    Runs (.rampTick b) (s.modAxis n (fun a => { a with stopping := none, frozen := none, req := { setPos := true } })) (fun t =>
      t.position n = (s.wide (axPage n) 0x12).toInt ∧ t.angle n = s.angle n ∧ (t.axis n).mode = .parked ∧ (t.axis n).uncertain = false) := by
  let asks := s.modAxis n (fun a => { a with stopping := none, frozen := none, req := { setPos := true } })
  have shown : asks.axis n = { s.axis n with stopping := none, frozen := none, req := { setPos := true } } := s.axis_modAxis_same n _
  obtain ⟨u, same, judged⟩ := State.stance_rampTickNow_present (s := asks) (b := b) awake present (by rw [shown]; exact .inl parked)
  obtain ⟨rests, position, angle, mode, certain⟩ := u.judgeRequests_setPos (n := n)
    ((State.mode_of_stance same).trans (by rw [shown]; exact parked)) ((State.stopping_of_stance same).trans (by rw [shown]))
    ((State.req_of_stance same).trans (by rw [shown])) ((State.reg_of_stance same (by decide) rfl).trans unlimited)
  have after := judged rests
  refine runs_rampTick ⟨?_, ?_, (State.mode_of_stance after).trans mode, (State.uncertain_of_stance after).trans certain⟩
  · rw [State.position_of_stance after, position, State.wide_of_stance same (by decide) rfl rfl]
    rfl
  · rw [State.angle_of_stance after, angle, State.angle_of_stance same]
    exact (s.pose_modAxis n _).2

theorem runs_rampTick_dirInv (inv : Bool) :
    Runs (.rampTick b) (s.modAxis n (fun a =>
      { a with stopping := none, frozen := none, settleLeft := none, req := {}, invReq := some inv })) (fun t =>
      t.dirInv n = inv ∧ t.angle n = s.angle n ∧ t.position n = s.position n ∧ (t.axis n).mode = .parked ∧ (t.axis n).invReq = none) := by
  let asks := s.modAxis n (fun a =>
    { a with stopping := none, frozen := none, settleLeft := none, req := {}, invReq := some inv })
  have shown : asks.axis n = { s.axis n with
      stopping := none, frozen := none, settleLeft := none, req := {}, invReq := some inv } := s.axis_modAxis_same n _
  obtain ⟨u, same, judged⟩ := State.stance_rampTickNow_present (s := asks) (b := b) awake present (by rw [shown]; exact .inl parked)
  obtain ⟨rests, dirInv, angle, position, mode, taken⟩ := u.judgeRequests_dirInv (n := n) (inv := inv)
    ((State.mode_of_stance same).trans (by rw [shown]; exact parked)) ((State.stopping_of_stance same).trans (by rw [shown]))
    ((State.req_of_stance same).trans (by rw [shown])) ((State.invReq_of_stance same).trans (by rw [shown]))
    ((State.reg_of_stance same (by decide) rfl).trans unlimited)
  have after := judged rests
  obtain ⟨still, aimed⟩ := s.pose_modAxis n (fun a =>
    { a with stopping := none, frozen := none, settleLeft := none, req := {}, invReq := some inv })
  refine runs_rampTick ⟨(State.dirInv_of_stance after).trans dirInv, ?_, ?_, (State.mode_of_stance after).trans mode,
    (State.invReq_of_stance after).trans taken⟩
  · rw [State.angle_of_stance after, angle, State.angle_of_stance same]
    exact aimed
  · rw [State.position_of_stance after, position, State.position_of_stance same]
    exact still

end

end

end

/-- Settles O27: a request is stored by its command, and a tick is followed axis by axis: its requests are judged, and then it rests or
moves by its velocity. -/
theorem requestsAreJudgedOnTheTick : Obligations.RequestsAreJudgedOnTheTick :=
  ⟨fun _ _ v ready => runs_modeCmd ready v, fun _ _ ready => runs_applyRt ready, fun _ _ ready => runs_setPos ready,
    fun _ _ ready => runs_encAlign ready, fun _ _ asleep => runs_rampTick_asleep asleep,
    fun _ _ awake free due ticked aligned => runs_rampTick_time awake free due ticked aligned,
    fun _ _ _ awake present free => runs_rampTick_judged awake present free,
    fun _ _ _ awake still free _ idle kept unlimited _ => runs_rampTick_rests awake still free idle kept unlimited,
    fun _ _ _ awake present enabled mode free idle unhalted unlimited unstalled unbounded =>
      runs_rampTick_jogs awake present enabled mode free idle unhalted unlimited unstalled unbounded,
    fun _ _ _ awake present parked unlimited => runs_rampTick_setPos awake present parked unlimited,
    fun _ _ inv _ awake present parked unlimited => runs_rampTick_dirInv awake present parked unlimited inv⟩

end Sys2Proof
end
